-- ==== Sys2Proof/Word.lean ====
section
/-! DEFINITION. The word types of the manual and their plainest arithmetic (R2, R5): 32-bit host-view registers,
16-bit engine words, octets, and the saturating counters the manual uses throughout. -/

namespace Sys2Proof

/-- A host-view register word (R2). -/
abbrev Word := BitVec 32

/-- A word of the engine view and of the remote-space view (R2). -/
abbrev Half := BitVec 16

/-- An octet. -/
abbrev Octet := BitVec 8

/-- Increment that saturates at all-ones, as the saturating counters of the manual do. -/
def satInc {n : Nat} (x : BitVec n) : BitVec n :=
  if x = BitVec.allOnes n then x else x + 1

/-- Addition that saturates at all-ones. -/
def satAdd {n : Nat} (x : BitVec n) (k : Nat) : BitVec n :=
  if x.toNat + k < 2 ^ n then BitVec.ofNat n (x.toNat + k) else BitVec.allOnes n

/-- Nat restricted to a maximum: a field that saturates. -/
def capAt (m k : Nat) : Nat := if k ≤ m then k else m

/-- A Bool as a one-bit number. -/
def bitOf (b : Bool) : Nat := if b then 1 else 0

end Sys2Proof
end

