-- ==== Sys2Proof/Syntax.lean ====
section
/-! DEFINITION. The commands the block takes, one constructor of Instr per row of spec/opcode_table.json, and the
data they carry: frames, caravans, records, packages and the abstract manifest, in the manual's own field names. -/

namespace Sys2Proof

/-- A half of the die (R11). -/
inductive Wing where
  | east | west
deriving DecidableEq, Repr

/-- The other wing. -/
def Wing.other : Wing → Wing
  | .east => .west
  | .west => .east

/-- 0 for East, 1 for West: the order of the per-wing register blocks (R40). -/
def Wing.idx : Wing → Nat
  | .east => 0
  | .west => 1

/-- The two processors of an engine (R292). -/
inductive Proc where
  | fp | sp
deriving DecidableEq, Repr

/-- What a transfer block of the inter-wing link carries (R16): a heartbeat or a mirror message of the first class, a comparison
record of the second, a sample copy of the third. -/
inductive LinkKind where
  | beat | mirror | record | sample
deriving DecidableEq, Repr

/-- A transfer block of the inter-wing link (R16): the wing that sent it and what it carries. -/
structure LinkBlock where
  sender : Wing
  kind : LinkKind
deriving DecidableEq, Repr

/-- The four spaces an engine data access names (R294). -/
inductive Space where
  | loc | image | host | io
deriving DecidableEq, Repr

/-- A global decision of the steward (R20, R21): a name, the configuration words it writes when it takes effect, and
the mailbox channel of the host request that asked for it, if one did. -/
structure Decision where
  tag : Nat
  writes : List (Nat × Word)
  chan : Option Nat
deriving DecidableEq, Repr

/-- The redundancy tag of a frame (R83, R280, R281). -/
inductive RedTag where
  | none
  | prp (lan : BitVec 4) (seq : Half)
  | hsr (seq : Half)
deriving DecidableEq, Repr

/-- A MACsec frame as it arrives on an uplink (R427): SCI, AN, PN, and whether its ICV checks under the SA's key. -/
structure MacSec where
  sci : BitVec 64
  an : Nat
  pn : Nat
  icvOk : Bool
deriving DecidableEq, Repr

/-- One ASDU of a sampled-value frame (IEC 61850-9-2, as R78 reads it): each channel is a value and its quality. -/
structure SvAsdu where
  svid : List Octet
  smpCnt : Nat
  confRev : Word
  smpSynch : Nat
  smpRate : Option Nat
  chans : List (Word × Word)
deriving DecidableEq, Repr

/-- The IEC 62351-6 extension (R80, R429): the Boxwood slot its key identifier names, if any, its initialisation vector and its tag. -/
structure SvAuth where
  slot : Option Nat
  iv : BitVec 96
  tag : List Half
deriving DecidableEq, Repr

/-- The content of a sampled-value frame (R73, R74, R78): addresses, tags and the APDU as it decodes; `ber` says that it decodes. -/
structure SvFrame where
  dmac : BitVec 48
  appid : Half
  vid : Option Nat
  red : Option Half
  ber : Bool
  noAsdu : Nat
  asdus : List SvAsdu
  auth : Option SvAuth
  sim : Bool
deriving DecidableEq, Repr

/-- The content of a GOOSE frame of a trip publication (R172): APPID, the template's octets before the state fields, stNum, sqNum, t in
2^-16 ns, timeAllowedToLive in us, members, test and simulation fields, and the IEC 62351-6 extension. -/
structure Goose where
  appid : Half
  tmpl : List Octet
  stNum : Word
  sqNum : Word
  t : Nat
  tal : Nat
  mem : Octet
  test : Bool
  sim : Bool
  auth : Option SvAuth
deriving DecidableEq, Repr

/-- A frame at a MAC or inside the switch (R257, R259): its addresses, 802.1Q tag (PCP, VID), EtherType, length in
octets from destination address to FCS, redundancy tag, and what the MAC finds wrong with it. `queue` is the egress
queue that a transmit descriptor names, for a frame from an EC or H port (R260); `fn` the function for which an H port sends
it; `direct` the egress port of a direct descriptor; `stamp` the frame ID of an egress timestamp (R332). `pay` is what follows
the EtherType up to the FCS, without a PRP trailer; `cls` the engine of its cluster and the receive queue that the manifest's
classification gives it at an EC port (R331); `ts` the ingress timestamp that the MAC took, in 2^-16 ns (R50); `msec` the SecTAG of a MACsec
frame on an uplink (R427); `sv` the content of a frame of EtherType 0x88BA (R73), `goose` that of a trip publication (R172). -/
structure Frame where
  dst : BitVec 48
  src : BitVec 48
  vlan : Option (Nat × Nat)
  etype : Half
  len : Nat
  red : RedTag
  fcsBad : Bool
  oddOctet : Bool
  codeBad : Bool
  queue : Option Nat
  fn : Option Nat
  direct : Option Nat
  stamp : Option Half
  pay : List Octet
  cls : Nat × Nat
  ts : Nat
  msec : Option MacSec
  sv : Option SvFrame := none
  goose : Option Goose := none
deriving DecidableEq, Repr

/-- The PTP messages the transparent clock handles (R54). -/
inductive PtpKind where
  | syncOneStep | syncTwoStep | followUp | pdelay
deriving DecidableEq, Repr

/-- A PTP message as IEEE 1588 gives it, as far as the manual uses it (R52-R54): domainNumber, sourcePortIdentity, sequenceId,
correctionField and the origin time it carries, both in 2^-16 ns. -/
structure PtpMsg where
  domain : Octet
  port : BitVec 80
  seq : Half
  corr : Int
  origin : Nat
deriving DecidableEq, Repr

/-- The general PTP messages that go to the host (R53). -/
inductive PtpGeneral where
  | announce | signaling | management
deriving DecidableEq, Repr

/-- What names a Sync and its Follow_Up (IEEE 1588): domainNumber, sourcePortIdentity, sequenceId. -/
structure PtpHdr where
  domain : Octet
  port : BitVec 80
  seq : Half
deriving DecidableEq, Repr

/-- A general PTP message for the host (R52, R53): its kind and domain, the TIME_UTC content of an Announce, its body and its C37.238
TLV. -/
structure PtpNote where
  kind : PtpGeneral
  domain : Octet
  utc : Word
  body : List Word
  tlv : List Word
deriving DecidableEq, Repr

/-- A frame that arrives at a MAC (R50, R257): its timestamp point passed `age` ns ago, at a phase of 1/16 ns. -/
structure Arrival where
  frame : Frame
  age : Nat
  phase : Fin 16
deriving DecidableEq, Repr

/-- A rising edge of PPS_IN (R61): its high time in ns and its phase in 1/16 ns (R50). -/
structure PpsPulse where
  high : Nat
  phase : Fin 16
deriving DecidableEq, Repr

/-- An edge on a capture input (R65, R382): at its ball or from the Thicket output mapped to it, rising or falling. -/
structure CapEdge where
  ball : Bool
  rising : Bool
deriving DecidableEq, Repr

/-- A HEDGE_SET record (R151). -/
structure HedgeRec where
  wings : BitVec 2
  idx : Nat
  w1 : Word
  w2 : Word
  w3 : Word
  w4 : Word
deriving DecidableEq, Repr

/-- A comparison record of one Hedge row (R154): section, k, S, CRC, the eight digest words, the line states. -/
structure CmpRec where
  sec : Nat
  k : Nat
  sLow : Word
  crc : Word
  digest : List Word
  lines : Word
deriving DecidableEq, Repr

/-- What a GOOSE member carries besides its value (R162). -/
structure GooseQual where
  invalid : Bool
  test : Bool
  sim : Bool
deriving DecidableEq, Repr

/-- The header of a caravan (R186). -/
structure CHdr where
  ring : Nat
  ch : Nat
  auth : Bool
  cmdOnly : Bool
  dying : Bool
  version : Nat
  cycle : BitVec 48
  epoch : Half
  nextEpoch : Half
  swCnt : Nat
  session : Word
  eui : BitVec 64
  sec : BitVec 48
  ns : Word
  frac : Half
  lead : Half
  corr : Word
  total : Nat
  nslots : Nat
  hops : Nat
  hchk : Word
deriving DecidableEq, Repr

/-- One hop-mark entry (R194). -/
structure HopMark where
  nodeId : Nat
  present : Bool
  inOk : Bool
  authBad : Bool
  lateApply : Bool
  loop : Bool
  asleep : Bool
  badSlots : Octet
  cycRef : Octet
  hcrc : Word
deriving DecidableEq, Repr

/-- One slot of a caravan (R187). -/
structure Slot where
  owner : Nat
  typ : Nat
  dir : Bool
  bcast : Bool
  prio : Nat
  payload : List Half
  scrc : Word
deriving DecidableEq, Repr

/-- A 64b/66b block of C10 (R182, R183): the block type, the O codes O0 and O4, the data octets in order, the control characters in order. -/
structure Block where
  typ : Octet
  o0 : BitVec 4
  o4 : BitVec 4
  data : List Octet
  ctl : List Octet
deriving DecidableEq, Repr

/-- An ordered set or block as it stands on the line (R183): code groups of C3, each with its K flag, or a block of C10. -/
inductive LineSet where
  | c3 (l : List (Bool × Octet))
  | c10 (b : Block)
deriving DecidableEq, Repr

/-- A caravan as it stands on the wire (R185): header, hop marks, slots, tag; the 16-bit words between SOC and the set that ends it, that
set (R183), and whether the line showed a code violation or lost lock before it (R182). -/
structure Caravan where
  hdr : CHdr
  marks : List HopMark
  slots : List Slot
  tag : List Half
  words : Nat
  ending : LineSet
  lineBad : Bool
deriving DecidableEq, Repr

/-- One region of an engine package (R296, R314): base, limit, owner 0 FP, 1 SP, 2 COP, 3 QUEUE. -/
structure Region where
  base : Nat
  limit : Nat
  owner : Nat
deriving DecidableEq, Repr

/-- A firmware package (R314) as the loader reads it from flash, with the SVN of its trailer. `contexts` pairs a context with its manifest
key role. -/
structure Package where
  svn : Nat
  major : Nat
  pers : Octet
  version : BitVec 24
  compat : Word
  fpBase : Nat
  fpLen : Nat
  spBase : Nat
  spLen : Nat
  fpEntry : Half
  spEntry : Half
  dataBase : Nat
  data : List Half
  code : List Half
  autoRestart : Bool
  rsTrap : Bool
  wdtMs : Nat
  regions : List Region
  contexts : List (Nat × Nat)
  skInit : Half
deriving DecidableEq, Repr

/-- How a coprocessor operation is started: a move into COP.T (R336) or COPGO of the SP (R349). The value has the
layout of COP.T; the operation is the one the row names. -/
inductive FpSrc where
  | port (p : Nat)
  | imm (v : Half)
deriving DecidableEq, Repr

/-- The guard of a long move (R324). -/
inductive FpGuard where
  | always
  | ifOne (g : Nat)
  | ifZero (g : Nat)
deriving DecidableEq, Repr

/-- A move into a trigger port: its source, guard and form (R323, R324). -/
structure FpMv where
  src : FpSrc
  guard : FpGuard
  long : Bool
deriving DecidableEq, Repr

/-- The guard and form of a move whose source port the row itself names. -/
structure FpGd where
  guard : FpGuard
  long : Bool
deriving DecidableEq, Repr

inductive CopStart where
  | fp (m : FpMv)
  | sp (ds : Nat)
deriving DecidableEq, Repr

/-- A store into the engine I/O space, by the processor that makes it: a cursor write of the FP, a register-based or
an absolute store of the SP (R295, R329, R350). -/
inductive EngStore where
  | fp (cur : Nat) (m : FpMv)
  | spBased (am dn : Nat) (d16 : Half)
  | spAbs (dn : Nat) (a : Half)
deriving DecidableEq, Repr

/-- The source of an SP ALU instruction (R349, R350): a register, a 6-bit or a 16-bit immediate. -/
inductive SpSrc where
  | reg (d : Nat)
  | imm6 (u : BitVec 6)
  | imm16 (v : Half)
deriving DecidableEq, Repr

/-- A register of the data or address class (R343). -/
inductive SpReg where
  | d (n : Nat)
  | a (n : Nat)
deriving DecidableEq, Repr

/-- The stepping modes of R347; a step is -4 to +3. -/
inductive SpMode where
  | base
  | post (s : BitVec 3)
  | pre (s : BitVec 3)
  | indexed (dm : Nat)
deriving DecidableEq, Repr

/-- A branch displacement: short (9 bits) or far (16 bits). -/
inductive SpDisp where
  | short (s9 : BitVec 9)
  | far (s16 : Half)
deriving DecidableEq, Repr

/-- A repeat count: the short form holds n - 1, the long form is its second word (R349, R350). -/
inductive SpRep where
  | short (nMinus1 : Octet)
  | long (w1 : Half)
deriving DecidableEq, Repr

/-- A CAN frame in the layout of CAN_TXBUF (R385). -/
structure CanFrame where
  ide : Bool
  fdf : Bool
  brs : Bool
  id : BitVec 29
  rtr : Bool
  dlc : BitVec 4
  data : List Octet
deriving DecidableEq, Repr

/-- What a CAN controller sees at the end of a frame on the bus: a good frame, or a receive error that adds to REC. -/
inductive CanRx where
  | frame (f : CanFrame)
  | error (add : Nat)
deriving DecidableEq, Repr

/-- How a transmit attempt ended (R370, R372, R373). `ack` says whether a passive error flag saw a dominant bit. -/
inductive CanTxRes where
  | ok
  | arbLost
  | bit
  | stuff
  | form
  | ack (dominantSeen : Bool)
  | crc
deriving DecidableEq, Repr

/-- The resets of a host port (R415). -/
inductive PortReset where
  | hot | perst
deriving DecidableEq, Repr

/-- What a failed DMA carried (R412). -/
inductive DmaKind where
  | slice (g : Nat)
  | bridge
  | mailbox (ch : Nat)
deriving DecidableEq, Repr

/-- The outcome of self-test (R464, R468). -/
inductive SelfTest where
  | pass | bistMem | bistLogic | clock | tripPin
deriving DecidableEq, Repr

/-- Where an uncorrectable ECC error was found (R478); in MRAM, what it spoils there (R425, R450, R465): a ring's session counter or a slot's key
epoch that lose their majority, a sealed slot, the state record in both copies. -/
inductive EccSite where
  | wall (w : Wing) (n key col : Nat)
  | hedge (w : Wing)
  | serai
  | engine (n : Nat) (p : Proc)
  | image (a : Nat)
  | mram (sess epoch box : Option Nat) (both : Bool)
  | other
deriving DecidableEq, Repr

/-- A tenant of the manifest (R394, R395, R396, R403, R411, R246, R247, R236). `nodes` and `classes` give the READ and
WRITE rights to each node and each class. -/
structure Tenant where
  tid : Nat
  priv : BitVec 6
  secure : Bool
  secCh : Nat
  vectors : Nat
  rbuf : Nat
  hbRd : Word
  hbWr : Word
  weight : Octet
  cap : BitVec 20
  tags : Nat
  posted : Nat
  nodeRd : BitVec 64
  nodeWr : BitVec 64
  classRd : BitVec 16
  classWr : BitVec 16
deriving DecidableEq, Repr

/-- A phasor group (R132): channels A, B, C, an optional neutral, rotation ACB, SAME_STREAM. -/
structure Group where
  a : Nat
  b : Nat
  c : Nat
  n : Option Nat
  acb : Bool
  same : Bool
deriving DecidableEq, Repr

/-- A trip publication of the manifest (R172, R272, R429, R446): its resend intervals, the wing whose publisher builds
it, the egress ports its template goes to, its key, and the member that the dying gasp sets; then the template: the octets of the frame,
FCS included, addresses, tag, APPID and the octets before the state fields. -/
structure TripPubCfg where
  wing : Wing
  ports : List Nat
  t1us : Nat
  t0us : Nat
  keySlot : Option Nat
  limit : BitVec 64
  thr : Nat
  dying : Option Nat
  len : Nat
  dst : BitVec 48
  src : BitVec 48
  vid : Nat
  pcp : Nat
  appid : Half
  tmpl : List Octet
deriving DecidableEq, Repr

/-- A published stream of the manifest (R91, R384). `port` is its egress port, or a port of its pair; `ring` the host-bank
byte offset of its sample-set ring; `len` the octets of its frame, FCS included, as svID, confRev and the counts fix them. -/
structure PubCfg where
  engine : Nat
  host : Bool
  rate : Nat
  noAsdu : Nat
  nch : Nat
  delayUs : Nat
  port : Nat
  ring : Nat
  tks : List Nat
  trg : Nat
  dmac : BitVec 48
  smac : BitVec 48
  vid : Nat
  pcp : Nat
  len : Nat
  appid : Half
  svid : List Octet
  confRev : Word
  keySlot : Option Nat
deriving DecidableEq, Repr

/-- A register word that a node's commissioning profile defines (R234, R236): where a cyclic word lies in the logical
image, whether it is an output, and whether it is a FIFO word (R243). Acyclic words have no image offset. -/
structure NodeWord where
  addr : BitVec 32
  img : Option Nat
  out : Bool
  fifo : Bool
deriving DecidableEq, Repr

/-- The values a manifest fixes and that no host register shows (R458 and the chapters it names). `spRings` gives the bridge
rings of an SP: engine, host-bank byte offsets of its submission and completion rings, LOG2_ENTRIES (R245); `spTags` the tag quota of an
engine's pair (R246). `ilkMap` gives,
per ILK bit, its source number 64 to 95, the engine that feeds it and the bit of OUT words 0 and 1 (R358). `hops` gives,
per ring, the declared delay of each hop from the head and the residence of the node behind it, in 1/16 ns (R208). `slotSets` gives,
per NODE ID, the schedule entries of the node's slot set (R223). `forget`
gives, per redundancy pair, EntryForgetTime in ms and NodeForgetTime in s (R282). `codes` gives the personality code of each engine (R306), `packages` the entry of the
firmware slot's directory that holds its package (R307, R456), and `engineKeys` the Boxwood slots granted to a personality (R302).
`ptpDomain` is domainNumber (R52); `syncNs` the sync interval and
`annNs` the announceReceiptTimeout of the SLAVE port (R56, log entry 133). -/
structure ManCfg where
  hostBifur : Nat
  totalVfs : List Nat
  vfBase : List Nat
  tenants : List Tenant
  binds : List (Nat × Nat × Nat)
  routesLog : List Nat
  gsiFvE : BitVec 64
  gsiFvW : BitVec 64
  ilkFvE : Word
  ilkFvW : Word
  engBits : List (Nat × Nat)
  ilkMap : List (Nat × Nat × Nat)
  hcmdOwner : List (Nat × Nat)
  tripPubs : List (Nat × TripPubCfg)
  groupsE : List (Nat × Group)
  groupsW : List (Nat × Group)
  trE : List (Nat × Nat)
  trW : List (Nat × Nat)
  lockThr : Nat
  unlockThr : Nat
  holdLimitS : Nat
  stepThr : Nat
  oneStepPorts : List Nat
  ptpDomain : Octet
  syncNs : Nat
  annNs : Nat
  pairStreams : List Nat
  pubs : List (Nat × PubCfg)
  ringKey : List (Nat × Nat)
  nodeWords : List NodeWord
  spRings : List (Nat × Nat × Nat × Nat)
  spTags : List (Nat × Nat)
  tdMs : Nat
  packages : List (Nat × Nat)
  keyRoles : List (Nat × Nat × Nat)
  engineKeys : List (Nat × Nat)
  codes : List (Nat × Octet)
  canOwner : List (Nat × Nat × Nat)
  thicketOn : List Nat
  hops : List (Nat × List (Nat × Nat))
  slotSets : List (Nat × List (Word × Word))
  forget : List (Nat × Nat × Nat)
  vlans : List (Nat × BitVec 52 × BitVec 52)
  staticFdb : List (Nat × BitVec 48 × BitVec 52)
  linkLocal : Option Nat
  supervision : Option Nat
  drMax : List (Nat × Nat)
deriving DecidableEq, Repr

/-- What the sections of a manifest say, as the steward reads them (R458): the register words it loads and the values no register shows. -/
structure Manifest where
  regs : List (Nat × Word)
  cfg : ManCfg
deriving DecidableEq, Repr

/-- Full settings, as the steward reads them from an image or has them in force (R460): element records, deadlines by 8 x wing + section,
the wing values East and West, the interlock modes. -/
structure SettingsImage where
  recs : List HedgeRec
  dr : List (Nat × Nat)
  invBlock : Nat × Nat
  engHold : Nat × Nat
  readbackFilt : Nat × Nat
  ilkModes : List (Nat × Nat)
deriving DecidableEq, Repr

/-- What the sections of a staged manifest, or of a settings image, say (R458, R460, log entry 184). -/
structure ImageBody where
  man : Manifest
  set : SettingsImage
deriving DecidableEq, Repr

/-- The pins of the TAP at one rising edge of TCK (R502): TRST_N, TMS and TDI. -/
structure TapIn where
  trst : Bool
  tms : Bool
  tdi : Bool
deriving DecidableEq, Repr

/-- What a debugger asks over JTAG for an unlock (R431): a challenge; a response, that is a root key index, a public key, X then Y, and a
signature, r then s; nothing. -/
inductive DebugReq where
  | none
  | challenge
  | response (keyIdx : Nat) (pub sig : List Octet)
deriving DecidableEq, Repr

/-- What happens at the TAP (R431, R502): the edges of TCK, and the request that they have brought. -/
structure Jtag where
  tck : List TapIn
  req : DebugReq
deriving DecidableEq, Repr

/-- How a power-on reset ends (R436, R495): whether the VAON detector caused it, and STEWARD_SEL as sampled. -/
structure PowerUp where
  vaon : Bool
  sel : Bool
deriving DecidableEq, Repr

/-- The commands, in the table's order. Each docstring gives the row's own summary and the rule it stands for. -/
inductive Instr where
  /-- REGISTER_WRITE. Host write to any register that has no row of its own, including W1C, W1S and RW fields, with narrower or misaligned writes discarded. (R3) -/
  | registerWrite (fn off size : Nat) (val : BitVec 64) (hwSet : BitVec 32)
  /-- READ_CLEAR. Host read of an RC field returns its value and then clears it, with same-cycle increments kept under R7. (R5) -/
  | readClear (fn off size : Nat) (inc : BitVec 32)
  /-- IWL_LANE_UP. An inter-wing link lane finishes training and starts carrying traffic, setting its LANEn_UP bit. (R506) -/
  | iwlLaneUp (lane : Nat)
  /-- IWL_LANE_FAIL. An inter-wing link lane fails and starts retraining; in-flight transfers are lost if it was the last lane. (R506) -/
  | iwlLaneFail (lane : Nat)
  /-- IWL_TRAIN_DEADLINE. 1 ms after reset release, a lane that is not up counts as failed and as a change from two lanes. (R506) -/
  | iwlTrainDeadline
  /-- IWL_BLOCK_RECEIVE. A transfer block arrives over the inter-wing link and is checked by CRC-32C, retransmitted once or dropped. (R16) -/
  | iwlBlockReceive (b : LinkBlock) (ok : Bool × Bool)
  /-- GLOBAL_DECISION. The steward sends a global decision to the deputy as a mirror message and waits for its acknowledgement. (R21) -/
  | globalDecision (d : Decision)
  /-- DEPUTY_ACK. The deputy's acknowledgement of a mirror message arrives and the decision takes effect. (R21) -/
  | deputyAck (received : Bool)
  /-- MIRROR_ACK_TIMEOUT. No acknowledgement arrives within 200 µs, so the steward clears DEPUTY_OK, raises ARB_DEPUTY_CHANGE and goes on alone. (R21) -/
  | mirrorAckTimeout
  /-- HEARTBEAT_SEND. Every 1 ms a steward sends a heartbeat to the arbiter and over the link to the other wing. (R23) -/
  | heartbeatSend (w : Wing)
  /-- HEARTBEAT_ARBITER. A heartbeat reaches the arbiter; a stale epoch is ignored and counted, and a fenced steward learns of its fence. (R23) -/
  | heartbeatArbiter (w : Wing) (epoch : BitVec 32) (seq : BitVec 16) (health : BitVec 32)
  /-- HEARTBEAT_LINK_RECEIVE. A heartbeat from the other wing arrives over the inter-wing link and restarts the loss timer. (R24) -/
  | heartbeatLinkReceive (w : Wing) (epoch : BitVec 32)
  /-- HEARTBEAT_LOST. No heartbeat from the other wing has arrived for 3.5 ms, so the wing may claim the steward role. (R24) -/
  | heartbeatLost (w : Wing)
  /-- CLAIM. A wing's steward writes a claim to the arbiter, opening a 1,000-cycle window if none is open. (R25) -/
  | claim (w : Wing)
  /-- CLAIM_WINDOW_CLOSE. A claim window closes and the arbiter decides all its claims together. (R28) -/
  | claimWindowClose
  /-- STEWARD_CONFIG_WRITE. A steward writes a fenced-class register (switch, triple, schedules, ownership, manifest-apply). (R31) -/
  | stewardConfigWrite (w : Wing) (addr : Nat) (val : BitVec 32)
  /-- MIRROR_REQUEST. A wing's steward asks the steward for a full mirror of the current decisions. (R33) -/
  | mirrorRequest (w : Wing)
  /-- MIRROR_COMPLETE. The full mirror of current decisions has been delivered to the requesting wing. (R33) -/
  | mirrorComplete (w : Wing)
  /-- REJOIN_REQUEST. A wing writes a rejoin request; after 10 current-epoch heartbeats the fence lifts and DEPUTY_OK sets. (R33) -/
  | rejoinRequest (w : Wing)
  /-- DEPUTY_HEARTBEAT_TIMEOUT. No deputy heartbeat has reached the arbiter for 300,000 CD2 cycles, so DEPUTY_OK falls. (R35) -/
  | deputyHeartbeatTimeout
  /-- TIME_SHADOW_WRITE. The steward writes OFFSET, ANCHOR or RATE into a wing's shadow set. (R45) -/
  | timeShadowWrite (writer target : Wing) (word : Nat) (val : BitVec 32)
  /-- TIME_COMMIT. A write of TIME_CTRL.COMMIT copies the shadow set into the active triple in one cycle. (R45) -/
  | timeCommit (writer target : Wing)
  /-- TIME_NOW_READ. A host read of TIME_NOW_NS latches the seconds and fraction for the reading function. (R48) -/
  | timeNowRead (fn : Nat) (w : Wing) (lane size : Nat)
  /-- LTC_READ. A host read of LTC_LO latches LTC_HI for the reading function. (R48) -/
  | ltcRead (fn : Nat) (w : Wing) (lane size : Nat)
  /-- TIME_TRIPLE_READ. A host read of TIME_TRIPLE word 0 latches the other five words for the reading function. (R505) -/
  | timeTripleRead (fn : Nat) (w : Wing) (lane size : Nat)
  /-- WING_STROBE. Every 1 ms both LTCs capture a strobe, the steward computes TIME_WING_DIFF and commits the deputy's triple. (R49) -/
  | wingStrobe
  /-- SERVO_UPDATE. The steward servo takes a new source measurement, commits its triple and moves TIME_STATE. (R56) -/
  | servoUpdate (w : Wing)
  /-- SOURCE_LOST. The selected time source is lost by its timeout, raising TIME_SOURCE_LOST and changing TIME_STATE. (R56) -/
  | sourceLost
  /-- HOLD_LIMIT_EXPIRY. Time spent in HOLDOVER reaches HOLD_LIMIT and TIME_STATE becomes UNSYNC. (R56) -/
  | holdLimitExpiry
  /-- STEP. A host write of TIME_SERVO.STEP makes the steward step both wings' triples. (R47) -/
  | step (fn : Nat) (amount : Int)
  /-- GM_CHANGE. The host reports a new grandmaster through TIME_SERVO.GM_CHANGE, raising TIME_GM_CHANGE. (R53) -/
  | gmChange (fn : Nat) (clockClass : BitVec 8)
  /-- TIME_PORT_STATE_WRITE. The host writes a PTP port state; a second SLAVE is discarded with CFG_ERR. (R53) -/
  | timePortStateWrite (fn p : Nat) (val : BitVec 32)
  /-- SYNC_RECEIVE. A Sync arrives on the SLAVE port, is timestamped and its origin time goes to the servo. (R53) -/
  | syncReceive (p : Nat) (oneStep : Bool) (h : PtpHdr) (origin : Nat) (corr : Int) (phase : Nat)
  /-- FOLLOW_UP_RECEIVE. A Follow_Up is received and handled by personality 0x04. (R53) -/
  | followUpReceive (p : Nat) (h : PtpHdr) (origin : Nat) (corr : Int)
  /-- SYNC_TRANSMIT. At logSyncInterval personality 0x04 sends a Sync on a MASTER port, one-step or with a Follow_Up. (R53) -/
  | syncTransmit (p : Nat) (seq : BitVec 16) (phase : Nat)
  /-- PDELAY_EXCHANGE. A Pdelay message is sent or received and meanLinkDelay is updated. (R53) -/
  | pdelayExchange (p : Nat) (resp : Bool) (seq : BitVec 16) (out back : Nat × Fin 16)
  /-- ANNOUNCE_RECEIVE. An Announce is validated and passed to the host by a PTP_RX notice. (R53) -/
  | announceReceive (p : Nat) (valid : Bool) (m : PtpNote) (phase : Nat)
  /-- ANNOUNCE_TRANSMIT. Personality 0x04 sends an Announce with host-written content. (R53) -/
  | announceTransmit (p : Nat)
  /-- PTP_TRANSIT. A PTP event message crosses the switch and the transparent clock adds residence and link delay. (R54) -/
  | ptpTransit (pin pout : Nat) (kind : PtpKind) (m : PtpMsg) (age phaseIn phaseOut : Nat)
  /-- HELD_SYNC_EXPIRY. An unmatched held Sync is dropped from the transparent clock after 1 s. (R54) -/
  | heldSyncExpiry (p : Nat)
  /-- PTP_UNSUPPORTED. An unsupported PTP message on a PTP port is counted, discarded or forwarded without correction. (R55) -/
  | ptpUnsupported (p : Nat) (delayMsg : Bool) (x : Arrival)
  /-- IRIGB_FRAME. An IRIG-B frame is decoded, accepted as a source or rejected. (R60) -/
  | irigbFrame (widths : List Nat) (age phase : Nat)
  /-- PPS_IN_EDGE. A PPS_IN rising edge is checked, timestamped and used or reported as a fault. (R61) -/
  | ppsInEdge (x : PpsPulse)
  /-- PPS_OUT_RISE. PPS_OUT rises at a steward-wing second boundary unless held low. (R62) -/
  | ppsOutRise
  /-- PPS_OUT_FALL. PPS_OUT falls when PPS_WIDTH has elapsed. (R62) -/
  | ppsOutFall
  /-- TRIGGER_ARM. A write of TRGn_CTRL.EN arms a trigger, marking MISSED if START is too close. (R64) -/
  | triggerArm (fn m : Nat) (val : BitVec 32)
  /-- TRIGGER_FIRE. A trigger reaches a fire instant and drives its pin and internal targets. (R63) -/
  | triggerFire (m : Nat)
  /-- TRIGGER_PULSE_END. A trigger pulse ends after TRGn_WIDTH. (R63) -/
  | triggerPulseEnd (m : Nat)
  /-- CAPTURE_EDGE. A selected edge on a capture input is timestamped into its FIFO or dropped with OVF. (R65) -/
  | captureEdge (c : Nat) (e : CapEdge) (width phase : Nat)
  /-- CAPTURE_POP. A read of CAPn_FIFO word 3 pops the head capture entry. (R65) -/
  | capturePop (mid c lane size : Nat)
  /-- TSQ_ENTRY_POP. A host read of TSQ_ENTRY word 3 pops the head egress timestamp. (R66) -/
  | tsqEntryPop (fn p lane size : Nat)
  /-- SV_FRAME_RECEIVE. A sampled-value frame reaches an intake and runs through matching, forwarding and acceptance checks. (R78) -/
  | svFrameReceive (w : Wing) (port : Nat) (f : SvFrame) (ts : Nat)
  /-- SV_FORWARD_RECEIVE. A frame forwarded from the other wing reaches the intake and runs the acceptance checks. (R74) -/
  | svForwardReceive (w : Wing) (port : Nat) (f : SvFrame) (ts : Nat)
  /-- DISCARD_WINDOW_EXPIRY. After 400 ms with no accepted frame the stream's discard window is emptied. (R83) -/
  | discardWindowExpiry (w : Wing) (s : Nat)
  /-- POLICER_TOKEN. A stream policer gains a token every NOASDU / smpRate seconds. (R84) -/
  | policerToken (w : Wing) (s : Nat)
  /-- PAIRING_WINDOW_END. An 8 µs pairing window ends and the smpSynch 0 ASDU goes to the wall keyed on t_min − XFER_DLY. (R88) -/
  | pairingWindowEnd (w : Wing) (s : Nat)
  /-- STREAM_LOSS. No frame has been accepted for the loss time, so an ACTIVE stream becomes LOST. (R89) -/
  | streamLoss (w : Wing) (s : Nat)
  /-- CONFREV_CLEAR. The host clears STREAM_STAT.CONFREV_ERR and the stream returns to WAITING. (R81) -/
  | confrevClear (fn : Nat) (w : Wing) (s : Nat) (val : BitVec 32)
  /-- SIM_EN_WRITE. A write of INTAKE_CTRL.SIM_EN; clearing it returns SIMULATED streams to WAITING. (R82) -/
  | simEnWrite (fn : Nat) (w : Wing) (val : BitVec 32)
  /-- PUB_WR_ADVANCE. The host advances PUB_WR of a source-HOST published stream after writing a ring entry. (R92) -/
  | pubWrAdvance (fn p : Nat) (val : BitVec 32)
  /-- PUB_FRAME_SEND. At sample instant plus PUB_DELAY a published frame is built and sent, or counted as an underrun. (R93) -/
  | pubFrameSend (p : Nat)
  /-- THICKET_PUB_DMA. Once every listed Thicket engine has pushed its words the Thicket DMA writes the publication ring entry. (R384) -/
  | thicketPubDma (p : Nat)
  /-- WALL_ASDU_WRITE. An accepted ASDU is keyed to a row and its cells written, or counted as early, duplicate or late. (R107) -/
  | wallAsduWrite (w : Wing)
  /-- ROW_OPEN. Device time reaches a row's nominal instant minus 1 ms and the row opens. (R108) -/
  | rowOpen (w : Wing) (n : Nat)
  /-- ROW_DEADLINE. Device time reaches nominal instant plus Dr and the open row becomes READY by DEADLINE. (R108) -/
  | rowDeadline (w : Wing) (n : Nat)
  /-- ROW_RELEASE. A READY row is released in key order, with single gaps interpolated and the rest marked MISSING. (R110) -/
  | rowRelease (w : Wing) (n : Nat) (ecc : List Nat)
  /-- DERIVED_ROW_RELEASE. Once the source rows are released a derived row is computed by the resampling filter and released. (R115) -/
  | derivedRowRelease (w : Wing) (n : Nat)
  /-- WALL_DEGRADE_STEP. The wall write queue has stayed above 3,072 cells for 10 µs, so a degrade step is taken. (R124) -/
  | wallDegradeStep (w : Wing)
  /-- WALL_RESTORE_STEP. The wall write queue has stayed below 1,024 cells for 10 ms, so a restore step is taken. (R124) -/
  | wallRestoreStep (w : Wing)
  /-- SLICE_ENABLE. A 0-to-1 write of SLICE_CFG.EN resets PROD and CONS and starts delivery at the next released row. (R121) -/
  | sliceEnable (fn g : Nat) (val : BitVec 32)
  /-- SLICE_DISABLE. A 1-to-0 write of SLICE_CFG.EN stops delivery and abandons the partial block. (R121) -/
  | sliceDisable (fn g : Nat) (val : BitVec 32)
  /-- SLICE_CONS_WRITE. The host writes SLICE_CONS as the doorbell; an out-of-range value is discarded. (R119) -/
  | sliceConsWrite (fn g : Nat) (val : BitVec 32)
  /-- SLICE_BLOCK_WRITE. A complete block of B rows is written to the ring, then its write-back, then PROD advances. (R121) -/
  | sliceBlockWrite (g : Nat)
  /-- HEDGE_ROW_EVALUATE. A released row reaches the Hedge unit, which computes phasors, frequency and every element. (R131) -/
  | hedgeRowEvaluate (w : Wing) (chkDiff : Bool)
  /-- ELEMENT_OPERATE. A definite-time element's elapsed pickup time reaches DELAY and OPERATE sets. (R140) -/
  | elementOperate (w : Wing) (e : Nat)
  /-- ELEMENT_RESET_DELAY_EXPIRY. RESET_DELAY ends without pickup returning, so elapsed time and PICKUP clear. (R140) -/
  | elementResetDelayExpiry (w : Wing) (e : Nat)
  /-- INVERSE_TIME_OPERATE. A 51 element's integral reaches 1 with TMIN met and OPERATE sets. (R141) -/
  | inverseTimeOperate (w : Wing) (e : Nat)
  /-- INVERSE_RESET_EXPIRY. A DEFINITE-reset 51 element's RESET_DELAY ends and θ and PICKUP clear. (R142) -/
  | inverseResetExpiry (w : Wing) (e : Nat)
  /-- RETRIP. A 50BF timer reaches T1 and RETRIP sets. (R143) -/
  | retrip (w : Wing) (e : Nat)
  /-- BF_OPERATE. A 50BF timer reaches T2 and OPERATE sets. (R143) -/
  | bfOperate (w : Wing) (e : Nat)
  /-- INPUT_INVALID_BLOCK. An element's input stays invalid for INV_BLOCK, so the element resets and BLOCKED sets. (R144) -/
  | inputInvalidBlock (w : Wing) (e : Nat)
  /-- FREQ_HOLD_TIMEOUT. After 500 ms of HELD a tracking reference's frequency is set to F_NOM. (R135) -/
  | freqHoldTimeout (w : Wing) (t : Nat)
  /-- COMPARISON_RECORD_RECEIVE. The other wing's comparison record arrives and is compared with the wing's own. (R154) -/
  | comparisonRecordReceive (w : Wing) (r : CmpRec)
  /-- COMPARISON_RECORD_TIMEOUT. The other wing's record has not arrived within 100 µs, so the row mismatches. (R154) -/
  | comparisonRecordTimeout (w : Wing) (sec : Nat)
  /-- HEDGE_PH_READ. A host read of HEDGE_PH RE latches IM. (R157) -/
  | hedgePhRead (fn : Nat) (w : Wing) (c lane size : Nat)
  /-- ACQUIRE. A LEASE_CMD ACQUIRE takes the primacy lease if it is free and starts its timer. (R147) -/
  | acquire (fn : Nat) (seq : BitVec 16)
  /-- REFRESH. A LEASE_CMD REFRESH by the holder with the next SEQ restarts the lease timer. (R147) -/
  | refresh (fn : Nat) (seq : BitVec 16)
  /-- RELEASE. A LEASE_CMD RELEASE by the holder lapses the lease at once. (R147) -/
  | release (fn : Nat) (seq : BitVec 16)
  /-- LEASE_TIMEOUT. The lease timer expires and the lease lapses with cause TIMEOUT. (R148) -/
  | leaseTimeout
  /-- HEDGE_SET. A HEDGE_SET message is validated as a whole and answered before it takes effect. (R151) -/
  | hedgeSet (ch : Nat) (recs : List HedgeRec)
  /-- SETTINGS_T_APPLY. T_apply is reached and accepted element settings take effect on the next row in both wings. (R151) -/
  | settingsTApply
  /-- TP_MIN_EXPIRY. TP_MIN after a rise ends, and the target goes inactive if its source has fallen. (R165) -/
  | tpMinExpiry (t : Nat)
  /-- ENGINE_SOURCE_WRITE. An engine writes an ILK or GSI source bit, which becomes live. (R163) -/
  | engineSourceWrite (n bit : Nat) (v : Bool) (q : GooseQual)
  /-- GSI_TAL_EXPIRY. A GOOSE subscription's timeAllowedToLive expires and its GSI bit takes its fail value. (R162) -/
  | gsiTalExpiry (w : Wing) (n : Nat)
  /-- ENG_HOLD_EXPIRY. An engine source held since its engine stopped reaches ENG_HOLD and takes its fail value. (R163) -/
  | engHoldExpiry (w : Wing) (bit : Nat)
  /-- PULSE. A TRIP_CMD GO with OP PULSE passes the checks and holds each masked line active for WIDTH. (R167) -/
  | pulse (fn : Nat) (seq crc : BitVec 16)
  /-- CLEAR. A TRIP_CMD GO with OP CLEAR passes the checks and ends each masked line at once. (R167) -/
  | clear (fn : Nat) (seq crc : BitVec 16)
  /-- HCMD_PULSE_END. A host command line's timed pulse reaches its end and the line goes inactive. (R167) -/
  | hcmdPulseEnd (n : Nat)
  /-- READBACK_MISMATCH. A trip-pin readback mismatch lasts READBACK_FILT, setting MISMATCH and raising TRIP_x_READBACK. (R169) -/
  | readbackMismatch (pin : Wing × Fin 8) (low : Bool)
  /-- TRIP_PUB_CHANGE. A trip-publication member changes, so stNum advances and the frame is sent at once. (R172) -/
  | tripPubChange (g : Nat)
  /-- TRIP_PUB_RESEND. A trip publication's retransmission interval expires and the frame is resent. (R172) -/
  | tripPubResend (g : Nat)
  /-- CARAVAN_CUTOFF. 2 µs before departure the ring generator copies draft outputs and trip records into the caravan. (R240) -/
  | caravanCutoff (r : Nat)
  /-- CARAVAN_DEPART. At a cycle instant the ring generator sends one caravan on each channel of the ring. (R185) -/
  | caravanDepart (r : Nat)
  /-- CARAVAN_RECEIVE. A caravan reaches a device lane and is checked, its slots and hop marks read and the guard run. (R195) -/
  | caravanReceive (r : Nat) (tail : Bool) (c : Caravan)
  /-- CARAVAN_MISSING. An expected caravan has not arrived 1 µs after one Tc and counts as invalid. (R212) -/
  | caravanMissing (r : Nat) (tail : Bool)
  /-- LANE_SIGNAL_LOSS. A ring device lane loses signal and a break is detected. (R212) -/
  | laneSignalLoss (r : Nat) (tail : Bool)
  /-- NODE_LOST. No present entry from a node for three caravans, so the node is LOST and its requests retired. (R224) -/
  | nodeLost (r n : Nat)
  /-- JOIN_ANSWER. The device answers a JOIN with an ADMIT or REFUSE record in the CMD slot. (R223) -/
  | joinAnswer (r : Nat)
  /-- IMAGE_ROTATE. At the ring's image instant the input buffers rotate FILL, LATEST and AGING. (R238) -/
  | imageRotate (r : Nat)
  /-- ECHO_REQ_SEND. A port sends an ECHO_REQ between caravans at least every 1 ms. (R198) -/
  | echoReqSend (r : Nat) (tail : Bool)
  /-- ECHO_REQ_RECEIVE. An ECHO_REQ arrives and is answered within 10 µs with an ECHO_RSP. (R198) -/
  | echoReqReceive (r : Nat) (tail : Bool) (x : LineSet) (turn : BitVec 24)
  /-- ECHO_RSP_RECEIVE. An ECHO_RSP arrives and the link delay average is updated. (R198) -/
  | echoRspReceive (r : Nat) (tail : Bool) (x : LineSet) (ns : Nat) (sub : Fin 16)
  /-- ECHO_TIMEOUT. An ECHO_REQ gets no answer within 10 µs and is abandoned. (R198) -/
  | echoTimeout (r : Nat) (tail : Bool)
  /-- RING_START. The steward advances the session, loads bank 0 and sends the first caravan at least 200 µs ahead. (R205) -/
  | ringStart (r : Nat) (mramOk : Bool)
  /-- EPOCH_COMMIT. The steward commits the inactive schedule bank with EPOCH + 1 and the countdown begins. (R209) -/
  | epochCommit (r : Nat) (w : Wing) (sched : List (BitVec 32 × BitVec 32))
  /-- EPOCH_SWAP. The SW_CNT countdown ends and the banks swap at the cycle boundary. (R209) -/
  | epochSwap (r : Nat)
  /-- TRIGGER_SOURCE_STOP. A ring's trigger stops firing and the ring carries on at the last period, raising CQ_r_STATE. (R204) -/
  | triggerSourceStop (r : Nat)
  /-- UNWRAP. The UNWRAP ring command sends UNWRAP records to the looping nodes if REPAIR_OK is set. (R217) -/
  | unwrap (fn r : Nat)
  /-- RESTORE. The RESTORE ring command ends a guard bypass if GUARD is set. (R221) -/
  | restore (fn r : Nat)
  /-- SLEEP. The SLEEP ring command sends a SLEEP record with the group mask. (R226) -/
  | sleep (fn r : Nat)
  /-- WAKE. The WAKE ring command sends a WAKE slot in the next 4 caravans. (R227) -/
  | wake (fn r : Nat)
  /-- NODE_RESET. The NODE_RESET ring command sends a NODE_RESET record to a node. (R224) -/
  | nodeReset (fn r node : Nat)
  /-- CLEAR_FALSE_WAKE. The CLEAR_FALSE_WAKE ring command sends its record to a node. (R227) -/
  | clearFalseWake (fn r node : Nat)
  /-- BAR2_READ. A host read through BAR2 is answered from the image bank or with all-ones. (R239) -/
  | bar2Read (fn : Nat) (off : Nat) (size : Nat)
  /-- BAR2_WRITE. A host write through BAR2 enters a draft output image or a node's acyclic queue, or is discarded. (R240) -/
  | bar2Write (fn : Nat) (off : Nat) (size : Nat) (val : BitVec 64)
  /-- BR_SNAP_WRITE. A write of BR_SNAP latches a node's LATEST input buffer for the writing function. (R239) -/
  | brSnapWrite (fn : Nat) (val : BitVec 32)
  /-- OUT_HOLD_SET. A function sets BR_OUT_HOLD and starts staging its writes to a node. (R240) -/
  | outHoldSet (fn node : Nat)
  /-- OUT_HOLD_CLEAR. A function clears BR_OUT_HOLD and its staged writes enter the draft together. (R240) -/
  | outHoldClear (fn : Nat)
  /-- OUT_HOLD_EXPIRY. 4 × Tc after a hold was set its writes enter the draft and HOLD_EXP sets. (R240) -/
  | outHoldExpiry (fn : Nat)
  /-- SQ_DOORBELL. A write of BR_SQ_TAIL tells the bridge new submission entries exist. (R245) -/
  | sqDoorbell (fn : Nat) (tail : BitVec 32)
  /-- READ. The bridge fetches a READ submission entry, takes a tag and queues the request to the node. (R245) -/
  | read (who : Nat) (e : List (BitVec 32))
  /-- WRITE. The bridge fetches a WRITE submission entry once the node queue has room and queues it. (R245) -/
  | write (who : Nat) (e : List (BitVec 32)) (data : List (BitVec 16))
  /-- ACK. An ACK in a DIR = 1 ACYC slot acknowledges requests executed in order. (R244) -/
  | ack (node : Nat) (rseq : BitVec 11)
  /-- RDATA. An RDATA response arrives and is held in the response store. (R243) -/
  | rdata (node : Nat) (rseq tag : BitVec 11) (status : BitVec 4) (data : List (BitVec 16))
  /-- ACYC_RESEND. ACK has not advanced for 8 cycles, so unacknowledged requests are resent. (R244) -/
  | acycResend (node : Nat)
  /-- ACYC_TIMEOUT. No ACK for a request within 256 cycles, so it completes with TIMEOUT. (R245) -/
  | acycTimeout (node : Nat)
  /-- COMPLETION_WRITE. The bridge writes a READ's data and completion entry once the completion ring has room. (R248) -/
  | completionWrite (who : Nat)
  /-- RESPONSE_DISCARD. A response not written within Td is discarded and its tag freed. (R248) -/
  | responseDiscard (who : Nat)
  /-- FRAME_RECEIVE. A MAC receives a frame, checks it, classifies, polices, learns and admits it to egress queues. (R257) -/
  | frameReceive (s : Nat) (x : Arrival)
  /-- PAUSE_RECEIVE. A PAUSE frame is consumed and stops the transmitter for its quanta. (R276) -/
  | pauseReceive (p : Nat) (quanta : BitVec 16)
  /-- PFC_RECEIVE. A per-class pause frame stops the mapped egress queues. (R278) -/
  | pfcReceive (p : Nat) (vec : BitVec 8) (quanta : List (BitVec 16))
  /-- PAUSE_EXPIRY. A PAUSE or per-class pause time runs out and transmission resumes. (R276) -/
  | pauseExpiry (p : Nat) (cls : Option Nat)
  /-- PAUSE_SEND. Received-frame cells cross XOFF or XON, or the repeat interval expires, and a PAUSE or PFC frame is sent. (R277) -/
  | pauseSend (p : Nat) (pcp : Nat)
  /-- LEARN_REQUEST. The learning engine takes a learn request from its FIFO and adds, moves or blocks the entry. (R264) -/
  | learnRequest
  /-- MOVE_LOCK_END. 10 s after a lock began the entry unlocks and its move count clears. (R265) -/
  | moveLockEnd (vid : Nat) (mac : BitVec 48)
  /-- MAC_AGE_OUT. A learned entry idle for AGE_TIME is removed. (R263) -/
  | macAgeOut (vid : Nat) (mac : BitVec 48)
  /-- LINK_DOWN. A MAC's link goes down and its queued frames are flushed. (R258) -/
  | linkDown (p : Nat)
  /-- LINK_UP. A MAC's link comes up and it is admitted to forwarding again. (R258) -/
  | linkUp (p : Nat) (speed : BitVec 2) (anDone : Bool)
  /-- CROSSBAR_MATCH. Once per cell time the crossbar matches requesting outputs to inputs in three iterations. (R274) -/
  | crossbarMatch
  /-- FRAME_TRANSMIT. A staged frame is sent from an egress port, stamped if required. (R273) -/
  | frameTransmit (s : Nat) (ecc begun : Bool) (phase : Nat)
  /-- ENTRY_FORGET. A duplicate-discard entry reaches EntryForgetTime and is forgotten. (R282) -/
  | entryForget (k : Nat) (dir : Nat)
  /-- NODE_FORGET. A NodesTable or ProxyNodeTable entry reaches NodeForgetTime and is forgotten. (R282) -/
  | nodeForget (k : Nat) (mac : BitVec 48)
  /-- FDB_LOOKUP. A write of SW_FDB_KEY_HI runs a MAC-table lookup into SW_FDB_RESULT. (R288) -/
  | fdbLookup (fn : Nat) (val : BitVec 32)
  /-- MAC_COUNTER_READ. A read of a counter's low word latches its high word for the reader. (R283) -/
  | macCounterRead (fn p j lane size : Nat)
  /-- ENGINE_LOAD. The steward loads an engine's code, data and regions, binds contexts and releases both processors. (R307) -/
  | engineLoad (n : Nat) (flashOk : Bool)
  /-- ENGINE_RESTART. 1 ms after a trap with AUTO_RESTART the steward reloads that engine. (R312) -/
  | engineRestart (n : Nat)
  /-- WATCHDOG. No WDT_KICK arrives within the watchdog period and the engine traps. (R309) -/
  | watchdog (n : Nat)
  /-- WDT_KICK. A write to WDT_KICK restarts the engine watchdog. (R295) -/
  | wdtKick (n : Nat) (p : EngStore)
  /-- PERS_EVENT. A write to PERS_EVENT sets PE_PERS_CAUSE and raises PE_n_PERS. (R295) -/
  | persEvent (n : Nat) (p : EngStore)
  /-- PE_DBANK_ADDR_WRITE. The owner writes PE_DBANK_ADDR and the addressed data-bank word appears in PE_DBANK_DATA. (R316) -/
  | peDbankAddrWrite (fn n : Nat) (val : BitVec 32)
  /-- CRC. Coprocessor operation CRC over 1–256 words. (R301) -/
  | crc (n : Nat) (st : CopStart)
  /-- SHA_BLOCK. Coprocessor operation of one SHA-256 compression. (R301) -/
  | shaBlock (n : Nat) (st : CopStart)
  /-- GMAC_CHECK. Coprocessor operation verifying a GMAC tag. (R301) -/
  | gmacCheck (n : Nat) (st : CopStart)
  /-- GMAC_SIGN. Coprocessor operation tagging with the context counter as IV and advancing it. (R302) -/
  | gmacSign (n : Nat) (st : CopStart)
  /-- GCM_SEAL. Coprocessor operation encrypting and tagging, advancing the context counter. (R302) -/
  | gcmSeal (n : Nat) (st : CopStart)
  /-- GCM_OPEN. Coprocessor operation decrypting and verifying. (R301) -/
  | gcmOpen (n : Nat) (st : CopStart)
  /-- KEY_LOAD. Coprocessor operation binding a Boxwood slot and START to a context. (R302) -/
  | keyLoad (n : Nat) (st : CopStart)
  /-- RNG. Coprocessor operation returning 1–16 DRBG words. (R301) -/
  | rng (n : Nat) (st : CopStart)
  /-- COP_COMPLETE. A coprocessor operation finishes and writes its result words and status. (R300) -/
  | copComplete (n : Nat) (p : Proc)
  /-- FP_MOVE. A frame-processor move with no unit trigger reads its source port and writes its destination. (R319) -/
  | fpMove (n : Nat) (w0 w1 : BitVec 16)
  /-- ADD. FP ALU trigger computing O + T and the carry. (R327) -/
  | fpAdd (n alu : Nat) (m : FpMv)
  /-- SUB. FP ALU trigger computing O − T and the borrow. (R327) -/
  | fpSub (n alu : Nat) (m : FpMv)
  /-- AND. FP ALU trigger computing O AND T. (R327) -/
  | fpAnd (n alu : Nat) (m : FpMv)
  /-- OR. FP ALU trigger computing O OR T. (R327) -/
  | fpOr (n alu : Nat) (m : FpMv)
  /-- XOR. FP ALU trigger computing O XOR T. (R327) -/
  | fpXor (n alu : Nat) (m : FpMv)
  /-- ANDN. FP ALU trigger computing O AND NOT T. (R327) -/
  | fpAndn (n alu : Nat) (m : FpMv)
  /-- ADC. FP ALU trigger adding O, T and the carry. (R327) -/
  | fpAdc (n alu : Nat) (m : FpMv)
  /-- SBB. FP ALU trigger subtracting T and the borrow from O. (R327) -/
  | fpSbb (n alu : Nat) (m : FpMv)
  /-- SHL. FP shifter trigger shifting O left by T[3:0]. (R327) -/
  | fpShl (n : Nat) (m : FpMv)
  /-- SHR. FP shifter trigger shifting O right logically by T[3:0]. (R327) -/
  | fpShr (n : Nat) (m : FpMv)
  /-- SAR. FP shifter trigger shifting O right arithmetically by T[3:0]. (R327) -/
  | fpSar (n : Nat) (m : FpMv)
  /-- ROL. FP shifter trigger rotating O left by T[3:0]. (R327) -/
  | fpRol (n : Nat) (m : FpMv)
  /-- ROR. FP shifter trigger rotating O right by T[3:0]. (R327) -/
  | fpRor (n : Nat) (m : FpMv)
  /-- SWAP. FP shifter trigger exchanging the octets of T. (R327) -/
  | fpSwap (n : Nat) (m : FpMv)
  /-- EQ. FP compare trigger writing O = T into the selected guard. (R328) -/
  | fpEq (n : Nat) (m : FpMv)
  /-- NE. FP compare trigger writing O ≠ T into the selected guard. (R328) -/
  | fpNe (n : Nat) (m : FpMv)
  /-- LTU. FP compare trigger writing unsigned O < T. (R328) -/
  | fpLtu (n : Nat) (m : FpMv)
  /-- LEU. FP compare trigger writing unsigned O ≤ T. (R328) -/
  | fpLeu (n : Nat) (m : FpMv)
  /-- LT. FP compare trigger writing signed O < T. (R328) -/
  | fpLt (n : Nat) (m : FpMv)
  /-- LE. FP compare trigger writing signed O ≤ T. (R328) -/
  | fpLe (n : Nat) (m : FpMv)
  /-- BIT. FP compare trigger testing bit T[3:0] of O. (R328) -/
  | fpBit (n : Nat) (m : FpMv)
  /-- ANY. FP compare trigger testing O AND T ≠ 0. (R328) -/
  | fpAny (n : Nat) (m : FpMv)
  /-- GRD. A move writing CMP.GRD sets all eight guards. (R328) -/
  | fpGrd (n : Nat) (m : FpMv)
  /-- CA_RW. A cursor word read at POS, advancing POS by 2. (R329) -/
  | caRw (n cur dst : Nat) (m : FpGd)
  /-- CA_RB. A cursor octet read at POS, advancing POS by 1. (R329) -/
  | caRb (n cur dst : Nat) (m : FpGd)
  /-- CA_WW. A cursor word write at POS, advancing POS by 2. (R329) -/
  | caWw (n cur : Nat) (m : FpMv)
  /-- CA_WB. A cursor octet write at POS, advancing POS by 1. (R329) -/
  | caWb (n cur : Nat) (m : FpMv)
  /-- CA_PK. A cursor word peek at POS without advancing. (R329) -/
  | caPk (n cur dst : Nat) (m : FpGd)
  /-- CRC_CFG. A write of CRC.CFG selects the CRC and loads its initial value. (R330) -/
  | crcCfg (n : Nat) (m : FpMv)
  /-- CRC_T. A write of CRC.T feeds a word into the CRC. (R330) -/
  | crcT (n : Nat) (m : FpMv)
  /-- CRC_TB. A write of CRC.TB feeds an octet into the CRC. (R330) -/
  | crcTb (n : Nat) (m : FpMv)
  /-- SUM_SET. A write of SUM.SET loads the ones'-complement accumulator. (R330) -/
  | sumSet (n : Nat) (m : FpMv)
  /-- SUM_T. A write of SUM.T adds a word with end-around carry. (R330) -/
  | sumT (n : Nat) (m : FpMv)
  /-- QIN_POP. A write of a queue number to QIN.POP pops the head receive descriptor. (R331) -/
  | qinPop (n : Nat) (m : FpMv)
  /-- QIN_FREE. A write to QIN.FREE returns a receive buffer to the pool. (R331) -/
  | qinFree (n : Nat) (m : FpMv)
  /-- QOUT_PUSH. A write to QOUT.PUSH hands a transmit descriptor to port EC c. (R332) -/
  | qoutPush (n : Nat) (m : FpMv)
  /-- QOUT_DONE. A read of QOUT.DONE pops the base of a completed RELEASE = 0 buffer. (R332) -/
  | qoutDone (n dst : Nat) (m : FpGd)
  /-- JMP. A move into PC.JMP jumps to the code address moved. (R337) -/
  | jmp (n : Nat) (m : FpMv)
  /-- CALL. A move into PC.CALL pushes the return address and jumps. (R337) -/
  | call (n : Nat) (m : FpMv)
  /-- RET. A move into PC.RET pops the return stack and jumps. (R338) -/
  | ret (n : Nat) (m : FpMv)
  /-- ERET. A move into PC.ERET restores guards and repeat state and resumes at EPC. (R341) -/
  | eret (n : Nat) (m : FpMv)
  /-- IPEND_CLEAR. Writing 1 to an edge bit of PC.IPEND clears the pending event. (R340) -/
  | ipendClear (n : Nat) (m : FpMv)
  /-- RPT. A move into RPT.T repeats the following move n times. (R339) -/
  | rpt (n : Nat) (m : FpMv)
  /-- TAS. A write of an index to SEM.TAS test-and-sets a semaphore. (R333) -/
  | tas (n : Nat) (m : FpMv)
  /-- SEM_CLR. A write of an index to SEM.CLR clears a semaphore. (R333) -/
  | semClr (n : Nat) (m : FpMv)
  /-- TSQ_POP. A write to TSQ.POP pops the head of a MAC port's egress timestamp queue into TSQ.R. (R334) -/
  | tsqPop (n : Nat) (m : FpMv)
  /-- NOW. A write to TSQ.NOW records the wing's device time. (R334) -/
  | now (n : Nat) (m : FpMv)
  /-- RX. A write of a handle to TSQ.RX records that frame's ingress timestamp. (R334) -/
  | rx (n : Nat) (m : FpMv)
  /-- LUT_T. A write to LUT.T looks up the key in a LOCAL table. (R335) -/
  | lutT (n : Nat) (m : FpMv)
  /-- FP_EVENT_ENTRY. A pending enabled FP event is taken between moves and the handler vector entered. (R341) -/
  | fpEventEntry (n : Nat)
  /-- MOV. SP ALU operation copying the source into Dd. (R349) -/
  | mov (n d : Nat) (src : SpSrc)
  /-- SP_ADD. SP ALU ADD. (R349) -/
  | spAdd (n d : Nat) (src : SpSrc)
  /-- SP_ADC. SP ALU ADC. (R349) -/
  | spAdc (n d : Nat) (src : SpSrc)
  /-- SP_SUB. SP ALU SUB. (R349) -/
  | spSub (n d : Nat) (src : SpSrc)
  /-- SP_SBB. SP ALU SBB. (R349) -/
  | spSbb (n d : Nat) (src : SpSrc)
  /-- CMP. SP ALU compare setting flags only. (R349) -/
  | cmp (n d : Nat) (src : SpSrc)
  /-- SP_AND. SP ALU AND. (R349) -/
  | spAnd (n d : Nat) (src : SpSrc)
  /-- SP_OR. SP ALU OR. (R349) -/
  | spOr (n d : Nat) (src : SpSrc)
  /-- SP_XOR. SP ALU XOR. (R349) -/
  | spXor (n d : Nat) (src : SpSrc)
  /-- SP_ANDN. SP ALU ANDN. (R349) -/
  | spAndn (n d : Nat) (src : SpSrc)
  /-- TST. SP ALU AND setting flags only. (R349) -/
  | tst (n d : Nat) (src : SpSrc)
  /-- SP_SHL. SP ALU shift left. (R349) -/
  | spShl (n d : Nat) (src : SpSrc)
  /-- SP_SHR. SP ALU logical shift right. (R349) -/
  | spShr (n d : Nat) (src : SpSrc)
  /-- SP_SAR. SP ALU arithmetic shift right. (R349) -/
  | spSar (n d : Nat) (src : SpSrc)
  /-- SP_ROL. SP ALU rotate left. (R349) -/
  | spRol (n d : Nat) (src : SpSrc)
  /-- SP_BIT. SP ALU bit test setting Z. (R349) -/
  | spBit (n d : Nat) (src : SpSrc)
  /-- LOCAL_LOAD. Short-form SP load from LOCAL with a stepping or indexed mode. (R349) -/
  | localLoad (n : Nat) (x : SpReg) (am : Nat) (mode : SpMode)
  /-- LOCAL_STORE. Short-form SP store to LOCAL with a stepping or indexed mode. (R349) -/
  | localStore (n : Nat) (x : SpReg) (am : Nat) (mode : SpMode)
  /-- LD_D. Long-form load of Dn from [Am+d16] in any space. (R350) -/
  | ldD (n : Nat) (sp : Space) (am dn : Nat) (d16 : BitVec 16)
  /-- LD_A. Long-form load of An from [Am+d16] in any space. (R350) -/
  | ldA (n : Nat) (sp : Space) (am an : Nat) (d16 : BitVec 16)
  /-- ST_D. Long-form store of Dn to [Am+d16] in any space. (R350) -/
  | stD (n : Nat) (sp : Space) (am dn : Nat) (d16 : BitVec 16)
  /-- ST_A. Long-form store of An to [Am+d16] in any space. (R350) -/
  | stA (n : Nat) (sp : Space) (am an : Nat) (d16 : BitVec 16)
  /-- LDX. Long-form load with a stepping or indexed mode in any space. (R350) -/
  | ldx (n : Nat) (sp : Space) (am dn : Nat) (mode : SpMode)
  /-- STX. Long-form store with a stepping or indexed mode in any space. (R350) -/
  | stx (n : Nat) (sp : Space) (am dn : Nat) (mode : SpMode)
  /-- LDABS. Load of Dn from an absolute address in any space. (R350) -/
  | ldabs (n : Nat) (sp : Space) (dn : Nat) (a : BitVec 16)
  /-- STABS. Store of Dn to an absolute address in any space. (R350) -/
  | stabs (n : Nat) (sp : Space) (dn : Nat) (a : BitVec 16)
  /-- AADD_SHORT. Short-form add of a 9-bit signed immediate to An. (R349) -/
  | aaddShort (n an : Nat) (s9 : BitVec 9)
  /-- XMOV. Copy between any two data or address registers. (R349) -/
  | xmov (n : Nat) (dst src : SpReg)
  /-- AMOV. Load a 16-bit immediate into An. (R350) -/
  | amov (n an : Nat) (v : BitVec 16)
  /-- AADD. Add a 16-bit immediate to An. (R350) -/
  | aadd (n an : Nat) (v : BitVec 16)
  /-- ASUB. Subtract a 16-bit immediate from An. (R350) -/
  | asub (n an : Nat) (v : BitVec 16)
  /-- BCC. Conditional branch, short or far, predicted statically with misprediction squash. (R354) -/
  | bcc (n : Nat) (cond : BitVec 4) (disp : SpDisp)
  /-- CALL0. Unconditional call saving only the return address, an ACS word and MASK. (R351) -/
  | call0 (n : Nat) (disp : SpDisp)
  /-- SP_CALL. CALL [An] pushing the return address, selected registers, ACS word and MASK. (R351) -/
  | spCall (n an : Nat) (acs : Bool) (mask : BitVec 16)
  /-- SP_RET. RET pops MASK and ACS, restores registers and returns. (R351) -/
  | spRet (n : Nat)
  /-- SP_ERET. ERET restores SR from ESR and resumes at EPC. (R356) -/
  | spEret (n : Nat)
  /-- REP. REP repeats the next instruction n times without events. (R355) -/
  | rep (n : Nat) (cnt : SpRep)
  /-- REPI. REPI repeats the next instruction n times with events allowed between repetitions. (R355) -/
  | repi (n : Nat) (cnt : SpRep)
  /-- SEMTAS. SP test-and-set of a semaphore into Dd. (R353) -/
  | semtas (n d i : Nat)
  /-- SEMCLR. SP clear of a semaphore. (R353) -/
  | semclr (n i : Nat)
  /-- JMP_AN. SP jump to the address in An. (R349) -/
  | jmpAn (n an : Nat)
  /-- WAIT. SP stops issuing until an enabled event is pending. (R349) -/
  | wait (n : Nat)
  /-- DI. SP clears SR.IE. (R349) -/
  | di (n : Nat)
  /-- EI. SP sets SR.IE. (R349) -/
  | ei (n : Nat)
  /-- ENDCYC. ENDCYC publishes the interlock outputs and suspends the SP until the next snapshot. (R360) -/
  | endcyc (n : Nat)
  /-- PUSH. SP pushes one register through SK. (R343) -/
  | push (n : Nat) (x : SpReg)
  /-- POP. SP pops one register through SK. (R343) -/
  | pop (n : Nat) (x : SpReg)
  /-- MFC. SP reads a control register into Dd. (R344) -/
  | mfc (n d k : Nat)
  /-- MTC. SP writes a control register from Ds. (R344) -/
  | mtc (n k d : Nat)
  /-- COPR. SP reads a coprocessor result word into Dd. (R349) -/
  | copr (n d k : Nat)
  /-- COPW. SP writes a coprocessor operand word. (R349) -/
  | copw (n k d : Nat)
  /-- COPST. SP reads coprocessor status into Dd. (R349) -/
  | copst (n d : Nat)
  /-- NOP. SP no operation. (R349) -/
  | nop (n : Nat)
  /-- LDRES. Load with a reservation on a HOST or snapshot-area word. (R352) -/
  | ldres (n : Nat) (sp : Space) (am dn : Nat)
  /-- STCOND. Store only while the reservation holds, setting Z on success. (R352) -/
  | stcond (n : Nat) (sp : Space) (am dn : Nat)
  /-- RISE. Sets Dd when a CUR bit is 1 and its PREV bit is 0. (R365) -/
  | rise (n d k b : Nat)
  /-- FALL. Sets Dd when a CUR bit is 0 and its PREV bit is 1. (R365) -/
  | fall (n d k b : Nat)
  /-- MUL. Accumulator signed multiply. (R349) -/
  | mul (n ac da db : Nat)
  /-- MAC. Accumulator signed multiply-accumulate. (R349) -/
  | mac (n ac da db : Nat)
  /-- MSU. Accumulator signed multiply-subtract. (R349) -/
  | msu (n ac da db : Nat)
  /-- MULU. Accumulator unsigned multiply. (R349) -/
  | mulu (n ac da db : Nat)
  /-- MACU. Accumulator unsigned multiply-accumulate. (R349) -/
  | macu (n ac da db : Nat)
  /-- ACC_CLR. Accumulator CLR sets ACd to 0. (R349) -/
  | accClr (n ac : Nat)
  /-- SAT. Accumulator clipped to the 32-bit range. (R349) -/
  | sat (n ac : Nat)
  /-- NORM. Accumulator normalise with the shift into Da. (R349) -/
  | norm (n ac da : Nat)
  /-- RND. Accumulator rounding by adding 0x8000. (R349) -/
  | rnd (n ac : Nat)
  /-- MOVH. Moves ACd[31:16] into Da with saturation. (R349) -/
  | movh (n ac da : Nat)
  /-- MOVL. Moves ACd[15:0] into Da. (R349) -/
  | movl (n ac da : Nat)
  /-- LDH. Loads ACd with Da × 2^16. (R349) -/
  | ldh (n ac da : Nat)
  /-- ASR. Accumulator arithmetic shift right by Db[4:0]. (R349) -/
  | asr (n ac db : Nat)
  /-- ADDAC. Adds the other accumulator into ACd. (R349) -/
  | addac (n ac : Nat)
  /-- SP_EVENT_ENTRY. A pending enabled SP event is taken between instructions and its vector entered. (R356) -/
  | spEventEntry (n : Nat)
  /-- ILK_CYCLE_START. An interlock cycle starts by trigger or CYC_MIN and the sequencer takes the input snapshot. (R359) -/
  | ilkCycleStart (n : Nat)
  /-- ILK_OVERRUN. A cycle has not reached ENDCYC by TMAX; OVR_RUN counts and NTOL + 1 forces STOP. (R362) -/
  | ilkOverrun (n : Nat)
  /-- ILK_RUN. ILK_CMD RUN puts an interlock engine into RUN. (R363) -/
  | ilkRun (ch n : Nat)
  /-- ILK_STOP. ILK_CMD STOP puts an interlock engine into STOP and publishes stop values. (R363) -/
  | ilkStop (ch n : Nat)
  /-- HOLD. ILK_CMD HOLD halts the interlock SP in MAINTENANCE. (R363) -/
  | hold (ch n : Nat)
  /-- FORCE_SET. ILK_CMD FORCE_SET adds or replaces a force entry. (R363) -/
  | forceSet (ch n : Nat) (w1 w2 : BitVec 32)
  /-- FORCE_CLEAR. ILK_CMD FORCE_CLEAR removes one force entry. (R363) -/
  | forceClear (ch n : Nat) (w1 : BitVec 32)
  /-- FORCE_CLEAR_ALL. ILK_CMD FORCE_CLEAR_ALL removes every force entry of an engine. (R363) -/
  | forceClearAll (ch n : Nat)
  /-- CAN_MODE_WRITE. A write of CAN_CTRL.MODE takes effect at the next bus idle. (R369) -/
  | canModeWrite (fn x : Nat) (val : BitVec 32)
  /-- CAN_TIMING_WRITE. A bit-timing write is applied in INIT or discarded with TX_ERR. (R368) -/
  | canTimingWrite (fn x off : Nat) (val : BitVec 32)
  /-- CAN_TXREQ. A write of CAN_TXREQ requests a transmit buffer. (R370) -/
  | canTxreq (fn x : Nat) (bits : BitVec 64)
  /-- CAN_TXABORT. A write of CAN_TXABORT aborts a transmit buffer. (R370) -/
  | canTxabort (fn x : Nat) (bits : BitVec 64)
  /-- CAN_RXPOP. A write to CAN_RXPOP pops the RX FIFO head. (R385) -/
  | canRxpop (fn x : Nat)
  /-- RECOVER. A write of CAN_CTRL.RECOVER starts bus-off recovery. (R372) -/
  | recover (fn x : Nat)
  /-- CAN_FRAME_RECEIVE. A frame received on the bus is filtered into the RX FIFO or dropped. (R370) -/
  | canFrameReceive (x : Nat) (r : CanRx)
  /-- CAN_TX_ATTEMPT_END. A transmit attempt ends, updating TEC, REC, buffer state and ACK-error count. (R372) -/
  | canTxAttemptEnd (x : Nat) (res : CanTxRes)
  /-- CAN_RECOVERY_END. After 128 sequences of 11 recessive bits recovery ends and buffers return to PENDING. (R372) -/
  | canRecoveryEnd (x : Nat) (runs : Nat)
  /-- CAN_TX_RING_FETCH. An engine advances TX_PROD and the controller fetches the ring entry. (R371) -/
  | canTxRingFetch (x : Nat)
  /-- CAN_WAKE_MATCH. In STANDBY a wake decoder matches a frame and wakes the device. (R376) -/
  | canWakeMatch (x : Nat) (f : CanFrame) (crcOk : Bool)
  /-- CAN_WAKE_PIN. A falling edge on CANx_WAKE_N with PIN_EN wakes the device. (R376) -/
  | canWakePin (x : Nat)
  /-- CAN_WAKE_VALIDITY_EXPIRY. Tv ends without a valid frame, counting a false wake and possibly setting WAKE_DIS. (R377) -/
  | canWakeValidityExpiry (x : Nat)
  /-- WAKE_DIS_CLEAR. A host write of 1 to WAKE_DIS clears the flag and the false-wake count. (R377) -/
  | wakeDisClear (fn x : Nat) (val : BitVec 32)
  /-- TK_STEP. A Thicket engine takes a step, reading its LUT entry and applying shift, FIFO, count, output and state. (R380) -/
  | tkStep (n : Nat) (pins : BitVec 48)
  /-- TK_ENABLE. A 0-to-1 write of TK_CTRL.EN starts a Thicket engine at its next step. (R383) -/
  | tkEnable (fn n : Nat) (val : BitVec 32)
  /-- TK_DISABLE. A 1-to-0 write of TK_CTRL.EN stops a Thicket engine and sets its idle outputs. (R383) -/
  | tkDisable (fn n : Nat) (val : BitVec 32)
  /-- TK_LUT_WRITE. A host LUT write is applied, or discarded with LUT_BUSY while running. (R383) -/
  | tkLutWrite (fn n i : Nat) (val : BitVec 32)
  /-- TK_TXFIFO_WRITE. A host write to TK_TXFIFO pushes a word, or is discarded when full. (R381) -/
  | tkTxfifoWrite (fn n : Nat) (val : BitVec 32)
  /-- TK_RXFIFO_READ. A host read of TK_RXFIFO pops a word. (R381) -/
  | tkRxfifoRead (fn n lane size : Nat)
  /-- HOST_LINK_UP. A host port's link finishes training and HOST_Hn_LINK is raised. (R393) -/
  | hostLinkUp (port : Nat) (rate width : Nat)
  /-- HOST_PORT_RESET. A hot reset, PERST_N assertion or link loss resets every function of the port and retrains. (R415) -/
  | hostPortReset (port : Nat) (cause : PortReset)
  /-- DMA_PAUSE_START. A width or speed change, retrain or data-link loss pauses the port's DMA. (R413) -/
  | dmaPauseStart (port : Nat) (linkLoss : Bool)
  /-- DMA_PAUSE_END. The cause of a DMA pause ends and waiting DMA resumes. (R413) -/
  | dmaPauseEnd (port : Nat)
  /-- LINK_LOSS_TIMEOUT. A data-link loss lasts 100 ms and becomes a host-port reset. (R413) -/
  | linkLossTimeout (port : Nat)
  /-- FUNCTION_LEVEL_RESET. A function-level reset drains mailboxes, retires tags, resets slices, lapses the lease and restores F fields. (R414) -/
  | functionLevelReset (fn : Nat)
  /-- NUMVFS_WRITE. A write of VF Enable or NumVFs adds or removes VFs. (R416) -/
  | numvfsWrite (port : Nat) (enable : Bool) (num : Nat)
  /-- D3HOT_ENTRY. A function enters D3hot, pausing its DMA and making it a dead receiver. (R416) -/
  | d3hotEntry (fn : Nat)
  /-- D0_RETURN. A function returns to D0, with R414 applied when No_Soft_Reset = 0. (R416) -/
  | d0Return (fn : Nat) (noSoftReset : Bool)
  /-- HOST_BANK_ACCESS. A BAR4 request reads or writes host-bank bytes, checked per page against grants. (R396) -/
  | hostBankAccess (fn off : Nat) (wr : Bool) (be : List Bool) (data : List (BitVec 8))
  /-- DMA_FAULT. A DMA completes with UR or CA, losing its data and setting DMA_FAULT. (R412) -/
  | dmaFault (fn : Nat) (kind : DmaKind)
  /-- TD_CTL_WRITE. A sender writes TD_CTL, committing the TD slot and setting TD_FULL. (R401) -/
  | tdCtlWrite (mid ch : Nat) (val : BitVec 32)
  /-- TD_TAKE. The steward or bound SP takes a TD message, clearing TD_FULL and dispatching by TYPE. (R402) -/
  | tdTake (ch : Nat)
  /-- FD_POST. A reply or notice is placed in the FD slot once it is free and its receiver live. (R406) -/
  | fdPost (ch : Nat)
  /-- FD_PTR_LO_READ. A read of FD_PTR_LO takes the FD message and clears FD_FULL. (R401) -/
  | fdPtrLoRead (mid ch lane size : Nat)
  /-- PING. A PING request is answered with its payload unchanged. (R404) -/
  | ping (ch : Nat) (payload : List (BitVec 8))
  /-- PTP_TX_SET. A PTP_TX_SET request sets Announce content for a MASTER port. (R404) -/
  | ptpTxSet (ch : Nat) (p : Nat) (content : List (BitVec 32))
  /-- MSIX_POST. A vector with signalled events posts its MSI-X message in its port's turn. (R409) -/
  | msixPost (fn vec : Nat)
  /-- HOLDOFF_END. A function's holdoff ends by time or count and waiting vectors post. (R410) -/
  | holdoffEnd (fn : Nat)
  /-- VECTOR_UNMASK. Clearing a vector or function mask posts a pending message. (R409) -/
  | vectorUnmask (fn vec : Nat) (all : Bool)
  /-- KEY_INSTALL. KEY_INSTALL writes a key into a Boxwood slot, resetting its key epoch. (R426) -/
  | keyInstall (ch : Nat) (slot : BitVec 8) (attr : BitVec 24) (w1 : BitVec 32) (key : List (BitVec 8))
  /-- KEY_ERASE. KEY_ERASE clears a slot, unbinding references when FORCE = 1. (R426) -/
  | keyErase (ch : Nat) (w0 : BitVec 32)
  /-- KEY_INFO. KEY_INFO returns a slot's attributes and key check value. (R426) -/
  | keyInfo (ch : Nat) (w0 : BitVec 32)
  /-- SVN_COMMIT. SVN_COMMIT blows counter bits up to the active image's SVN. (R423) -/
  | svnCommit (ch : Nat) (w0 : BitVec 32)
  /-- FUSE_PROG. FUSE_PROG blows and verifies fuse bits in MAINTENANCE. (R423) -/
  | fuseProg (ch : Nat) (field : Nat) (bits : List (BitVec 8)) (stuck : Option Nat)
  /-- TX_AN_WRITE. A write of MSEC_TX_CTRL.TX_AN changes the transmit SA at the next frame boundary. (R428) -/
  | txAnWrite (fn u : Nat) (val : BitVec 32)
  /-- TRNG_HEALTH_FAIL. A TRNG health test fails, stopping DRBG output and asserting ALARM_N. (R430) -/
  | trngHealthFail
  /-- TRNG_RECOVER. After 1,024 healthy samples and a reseed DRBG output resumes. (R430) -/
  | trngRecover (healthy : Nat)
  /-- DEBUG_UNLOCK. A signed challenge response over JTAG unlocks debug in AUTH. (R431) -/
  | debugUnlock (x : Jtag)
  /-- SUPPLY_WARN. A supply leaves its operating range above brown-out and SYS_SUPPLY_WARN is raised. (R435) -/
  | supplyWarn (i : Nat)
  /-- BROWN_OUT. A supply falls below its brown-out threshold for 1 µs, causing a power-on reset. (R435) -/
  | brownOut (i : Nat)
  /-- POWER_ON. The power-on reset is released 2 ms after every supply is in range and the device enters BOOT. (R436) -/
  | powerOn (x : PowerUp)
  /-- RESET_PIN. A qualifying low pulse on RESET_N causes a system reset. (R440) -/
  | resetPin (lowNs : Nat)
  /-- STEWARD_WATCHDOG. A steward watchdog expires and causes a core reset of its wing. (R439) -/
  | stewardWatchdog (w : Wing)
  /-- DEBUG_RESET. A debug reset request while debug is unlocked causes a system reset. (R439) -/
  | debugReset
  /-- STORM_CLEAR. 60 s pass with no system reset and the storm condition clears. (R441) -/
  | stormClear
  /-- SET_MODE. SYS_CMD SET_MODE moves the device between IN-SERVICE, TEST, TEST-BLOCKED and MAINTENANCE. (R453) -/
  | setMode (fn : Nat) (val : BitVec 32)
  /-- CORE_RESET. SYS_CMD CORE_RESET resets the steward and clusters of the wings named. (R453) -/
  | coreReset (fn : Nat) (val : BitVec 32)
  /-- SYSTEM_RESET. SYS_CMD SYSTEM_RESET performs a system reset. (R453) -/
  | systemReset (fn : Nat) (val : BitVec 32)
  /-- STANDBY. SYS_CMD STANDBY releases outputs, sends FAIL_NOW, arms wake sources and drives PWR_REQ low. (R448) -/
  | standby (fn : Nat) (val : BitVec 32)
  /-- STANDBY_WAKE. An armed wake source fires, PWR_REQ goes high and a standby-exit reset follows. (R449) -/
  | standbyWake (bits : BitVec 32)
  /-- RTC_ALARM. The RTC reaches RTC_ALARM, waking from STANDBY or raising SYS_RTC_ALARM. (R449) -/
  | rtcAlarm
  /-- VIN_OK_LOW. VIN_OK is low for 2 µs and the device enters POWER-FAIL with every throttle step applied. (R444) -/
  | vinOkLow (lowNs : Nat)
  /-- HOLDUP_TASK_END. A hold-up task finishes and the next is run or skipped after a fresh energy sample. (R446) -/
  | holdupTaskEnd (uv : Nat)
  /-- POWER_RETURN. VIN_OK stays high 10 ms in POWER-FAIL and a system reset follows. (R447) -/
  | powerReturn
  /-- TOLL_MEASURE. Every 100 µs the Toll governor measures device power. (R445) -/
  | tollMeasure (mw : Nat)
  /-- TOLL_THROTTLE_STEP. Each 1 ms over CAP the governor takes the next throttle step. (R445) -/
  | tollThrottleStep
  /-- TOLL_RELEASE_STEP. Each 100 ms below CAP − HYST the governor releases the latest step. (R445) -/
  | tollReleaseStep
  /-- TOLL_CAP_UNMET. All steps are in force and power stays over CAP for 100 ms. (R445) -/
  | tollCapUnmet
  /-- HOLDUP_SAMPLE. The governor samples VHOLD_SENSE, computes E and sets HOLDUP_LOW if short. (R446) -/
  | holdupSample (uv : Nat)
  /-- MRAM_USER_WRITE. A host write to the MRAM window is stored in the user area or discarded elsewhere. (R450) -/
  | mramUserWrite (fn off : Nat) (data : List (BitVec 8))
  /-- BOOT_COMPLETE. Steward firmware is verified and VIN_OK has been high 10 ms, so the device leaves BOOT. (R444) -/
  | bootComplete (flashE flashW vinHeld : Bool)
  /-- SELF_TEST_COMPLETE. Self-test passes and the device enters CONFIGURING, or fails to SAFE TALK. (R464) -/
  | selfTestComplete (res : SelfTest)
  /-- CONFIGURING_COMPLETE. Manifest, settings, engines, time and rings are done, host functions enabled and START_MODE entered. (R463) -/
  | configuringComplete (flashOk mramOk : Bool)
  /-- STEP_TIMEOUT. A start-up step exceeds its bound and fails. (R463) -/
  | stepTimeout
  /-- TRIAL_CLEAR. 10 s in the START_MODE state or after a live activation, TRIAL and ATTEMPTS clear. (R466) -/
  | trialClear
  /-- DIAG_LINE. Once per second in SAFE TALK a status line is sent on DIAG_TX. (R467) -/
  | diagLine
  /-- STAGE_OPEN. STAGE_OPEN picks and erases an unselected slot or half. (R469) -/
  | stageOpen (ch : Nat) (target : Nat)
  /-- STAGE_WRITE. STAGE_WRITE writes data into the open stage. (R469) -/
  | stageWrite (ch off : Nat) (data : List (BitVec 8)) (flashOk : Bool)
  /-- STAGE_CLOSE. STAGE_CLOSE verifies the staged images and sets VERIFIED. (R469) -/
  | stageClose (ch : Nat) (body : ImageBody)
  /-- ACTIVATE_CLUSTER. ACTIVATE of scope CLUSTER reloads one cluster's packages. (R310) -/
  | activateCluster (ch c : Nat) (flashOk : Bool)
  /-- ACTIVATE_WING. ACTIVATE of scope WING reloads one wing's firmware, Thicket images and packages. (R470) -/
  | activateWing (ch : Nat) (w : Wing) (flashOk : Bool)
  /-- ACTIVATE_DEVICE. ACTIVATE of scope DEVICE replaces everything wing by wing with a handover. (R471) -/
  | activateDevice (ch : Nat) (arg : BitVec 30) (flashOk : Bool)
  /-- SETTINGS_LOAD. SETTINGS_LOAD applies the staged settings at T_apply and makes that half current. (R469) -/
  | settingsLoad (ch : Nat) (flashOk : Bool)
  /-- ABORT. ABORT abandons an open stage. (R469) -/
  | abort (ch : Nat)
  /-- JOURNAL_COMPACT. A settings half reaches 4,096 records and is compacted into the other half. (R461) -/
  | journalCompact
  /-- CLOCK_WINDOW. A clock-monitor window ends and a domain out of limits for three windows gets its reaction. (R480) -/
  | clockWindow (d : Nat) (outOfLimits pllLost : Bool)
  /-- TEMP_READ. Every 1 ms die temperatures are read and over-temperature throttling set or released. (R481) -/
  | tempRead (centre west east : BitVec 8)
  /-- TEMP_SHUTDOWN. A reading above Tmax + 10 °C for 10 ms causes a SYSTEM reaction. (R481) -/
  | tempShutdown
  /-- MANIFEST_CRC_RECHECK. The safety monitor re-checks section CRCs and a failure causes SYSTEM. (R478) -/
  | manifestCrcRecheck (ok : Bool)
  /-- LOCKSTEP_FAULT. A steward lockstep comparator flags a fault and the wing takes a core reset. (R478) -/
  | lockstepFault (w : Wing)
  /-- PARITY_ERROR. A datapath parity error is detected and its reaction applied. (R478) -/
  | parityError (w : Option Wing)
  /-- ECC_UE. An uncorrectable SRAM error is found and handled by its block's reaction. (R478) -/
  | eccUe (u : EccSite)
  /-- DIRECTED_CHECK_END. The 100 ms directed checker run after MISMATCH ends without identifying a faulty wing. (R479) -/
  | directedCheckEnd (eastDiff westDiff : Bool)
  /-- MSPI_READ. A board controller reads a status register over MSPI. (R496) -/
  | mspiRead (idx : BitVec 8)
  /-- MI2C_READ. A board controller reads a status register over MI2C. (R496) -/
  | mi2cRead (idx : BitVec 8)
  /-- CORE_RESET_END. A core reset of a wing ends: the boot ROM has verified the steward firmware again, and the steward runs and reloads that wing's engines from the applied manifest. (R438) -/
  | coreResetEnd (w : Wing)
  /-- RESET_RELEASE. A system or standby-exit reset is released, 10 µs after RESET_N rises or the source ends, or 2 ms after the supplies are back in range after a wake, and the device enters BOOT. (R440) -/
  | resetRelease
  /-- FUNCTION_RESET_COMPLETE. A function-level or host-port reset of a function completes within 1 ms, READY sets, HOST_FLR is raised, and the function stops discarding requests. (R414) -/
  | functionResetComplete (fn : Nat)
  /-- PERST_RELEASE. PERST_N[n] rises, the port starts link training within 20 ms and answers configuration requests with Configuration Request Retry Status for 50 ms. (R393) -/
  | perstRelease (port : Nat)
  /-- APPLY_INSTANT. The apply instant of a caravan that carried a NODE_RESET record is reached, and the device retires that node's outstanding reads and unacknowledged writes. (R249) -/
  | applyInstant (r : Nat)
  /-- LANE_SIGNAL_RETURN. A ring device lane regains lock and signal after a loss, so its next caravan is judged as the first since signal was lost. (R195) -/
  | laneSignalReturn (r : Nat) (tail : Bool)
  /-- ECC_CE. A correctable SECDED error is found on an access or by the 10 s scrub, corrected and counted in SAFE_CE_CNT or PE_ECC_CE. (R478) -/
  | eccCe (engine : Option Nat)
  /-- CQ_CYCLE_READ. A host read of CQ_CYCLE_LO latches CQ_CYCLE_HI for the reader. (R228) -/
  | cqCycleRead (fn r lane size : Nat)
  /-- PCIE_AER_ERROR. A PCIe AER correctable or uncorrectable error is logged on a host port, raising HOST_PCIE_CORR or HOST_PCIE_UNCORR. (R418) -/
  | pcieAerError (fn : Nat) (fatal : Bool)
deriving DecidableEq, Repr

end Sys2Proof
end

