-- ==== Sys2Proof/WellFormed.lean ====
section
/-! DEFINITION. Which commands can occur: a command is well formed when each operand names a unit, a register or a field
value that the device has, by the counts the manual gives (R11, R40, R41, R63, R77, R103, R122, R132, R161, R165, R172,
R228, R255, R292, R319, R343, R368, R378, R394). -/

namespace Sys2Proof

/-- An access is 1 to 4 or 8 bytes wide (R3). -/
def sizeOk (n : Nat) : Bool := n == 1 || n == 2 || n == 3 || n == 4 || n == 8

/-- A read of one register takes bytes of its four lanes, or its word and the next as a 64-bit access (R3). -/
def lanesOk (lane size : Nat) : Bool := sizeOk size && (decide (lane + size ≤ 4) || (lane == 0 && size == 8))

/-- A register of the class and number that a stepping mode names (R343, R347). -/
def SpReg.wf : SpReg → Bool
  | .d n => decide (n < 8)
  | .a n => decide (n < 8)

/-- A stepping mode names an index register A0 to A7 or D0 to D7 (R347). -/
def SpMode.wf : SpMode → Bool
  | .indexed dm => decide (dm < 8)
  | _ => true

/-- Bit 15 of the long repeat form tells REPI from REP (R350). -/
def SpRep.wf (repi : Bool) : SpRep → Bool
  | .short _ => true
  | .long w1 => w1.getLsbD 15 == repi

/-- A source register exists (R343). -/
def SpSrc.wf : SpSrc → Bool
  | .reg d => decide (d < 8)
  | _ => true

/-- A source of a move: the short form names ports 0 to 127 and immediates of 7 bits, the long form 256 ports and 16 bits
(R323, R324). -/
def FpSrc.wf (long : Bool) : FpSrc → Bool
  | .port p => decide (p < if long then 256 else 128)
  | .imm v => long || decide (v.toNat < 128)

/-- A guard is one of G0 to G7 (R324). -/
def FpGuard.wf : FpGuard → Bool
  | .always => true
  | .ifOne g => decide (g < 8)
  | .ifZero g => decide (g < 8)

/-- A short move carries no guard (R323, R324). -/
def FpMv.wf (m : FpMv) : Bool := m.src.wf m.long && m.guard.wf && (m.long || decide (m.guard = .always))

/-- As FpMv.wf, for a row that names its own source. -/
def FpGd.wf (m : FpGd) : Bool := m.guard.wf && (m.long || decide (m.guard = .always))

/-- A coprocessor start names a source that exists. -/
def CopStart.wf : CopStart → Bool
  | .fp m => m.wf
  | .sp ds => decide (ds < 8)

/-- A store into the engine I/O space names registers that exist. -/
def EngStore.wf : EngStore → Bool
  | .fp cur m => decide (cur < 2) && m.wf
  | .spBased am dn _ => decide (am < 8) && decide (dn < 8)
  | .spAbs dn _ => decide (dn < 8)


/-- Operands of REGISTER_WRITE. -/
def registerWriteOk (fn : Nat) (size : Nat) : Bool := decide (fn < 256) && sizeOk size

/-- Operands of READ_CLEAR. -/
def readClearOk (fn : Nat) (size : Nat) : Bool := decide (fn < 256) && sizeOk size

/-- Operands of IWL_LANE_UP. -/
def iwlLaneUpOk (lane : Nat) : Bool := decide (lane < 2)

/-- Operands of IWL_LANE_FAIL. -/
def iwlLaneFailOk (lane : Nat) : Bool := decide (lane < 2)

/-- Operands of TIME_SHADOW_WRITE. -/
def timeShadowWriteOk (word : Nat) : Bool := decide (word < 6)

/-- Operands of TIME_NOW_READ. -/
def timeNowReadOk (fn : Nat) (lane : Nat) (size : Nat) : Bool := decide (fn < 256) && lanesOk lane size

/-- Operands of LTC_READ. -/
def ltcReadOk (fn : Nat) (lane : Nat) (size : Nat) : Bool := decide (fn < 256) && lanesOk lane size

/-- Operands of TIME_TRIPLE_READ. -/
def timeTripleReadOk (fn : Nat) (lane : Nat) (size : Nat) : Bool := decide (fn < 256) && lanesOk lane size

/-- Operands of STEP. -/
def stepOk (fn : Nat) : Bool := decide (fn < 256)

/-- Operands of GM_CHANGE. -/
def gmChangeOk (fn : Nat) : Bool := decide (fn < 256)

/-- Operands of TIME_PORT_STATE_WRITE. -/
def timePortStateWriteOk (fn : Nat) (p : Nat) : Bool := decide (fn < 256) && decide (p < 40)

/-- Operands of SYNC_RECEIVE. -/
def syncReceiveOk (p : Nat) (phase : Nat) : Bool := decide (p < 40) && decide (phase < 16)

/-- Operands of FOLLOW_UP_RECEIVE. -/
def followUpReceiveOk (p : Nat) : Bool := decide (p < 40)

/-- Operands of SYNC_TRANSMIT. -/
def syncTransmitOk (p : Nat) (phase : Nat) : Bool := decide (p < 40) && decide (phase < 16)

/-- Operands of PDELAY_EXCHANGE. -/
def pdelayExchangeOk (p : Nat) : Bool := decide (p < 40)

/-- Operands of ANNOUNCE_RECEIVE. -/
def announceReceiveOk (p : Nat) (phase : Nat) : Bool := decide (p < 40) && decide (phase < 16)

/-- Operands of ANNOUNCE_TRANSMIT. -/
def announceTransmitOk (p : Nat) : Bool := decide (p < 40)

/-- Operands of PTP_TRANSIT. -/
def ptpTransitOk (pin : Nat) (pout : Nat) (phaseIn : Nat) (phaseOut : Nat) : Bool := decide (pin < 40) && decide (pout < 40) && decide (phaseIn < 16) && decide (phaseOut < 16)

/-- Operands of HELD_SYNC_EXPIRY. -/
def heldSyncExpiryOk (p : Nat) : Bool := decide (p < 40)

/-- Operands of PTP_UNSUPPORTED. -/
def ptpUnsupportedOk (p : Nat) : Bool := decide (p < 40)

/-- Operands of IRIGB_FRAME. -/
def irigbFrameOk (phase : Nat) : Bool := decide (phase < 16)

/-- Operands of TRIGGER_ARM. -/
def triggerArmOk (fn : Nat) (m : Nat) : Bool := decide (fn < 256) && decide (m < 16)

/-- Operands of TRIGGER_FIRE. -/
def triggerFireOk (m : Nat) : Bool := decide (m < 16)

/-- Operands of TRIGGER_PULSE_END. -/
def triggerPulseEndOk (m : Nat) : Bool := decide (m < 16)

/-- Operands of CAPTURE_EDGE. -/
def captureEdgeOk (c : Nat) (phase : Nat) : Bool := decide (c < 8) && decide (phase < 16)

/-- Operands of CAPTURE_POP. -/
def capturePopOk (mid : Nat) (c : Nat) (lane : Nat) (size : Nat) : Bool := decide (mid < 320) && decide (c < 8) && lanesOk lane size

/-- Operands of TSQ_ENTRY_POP. -/
def tsqEntryPopOk (fn : Nat) (p : Nat) (lane : Nat) (size : Nat) : Bool := decide (fn < 256) && decide (p < 40) && lanesOk lane size

/-- Operands of DISCARD_WINDOW_EXPIRY. -/
def discardWindowExpiryOk (s : Nat) : Bool := decide (s < 512)

/-- Operands of POLICER_TOKEN. -/
def policerTokenOk (s : Nat) : Bool := decide (s < 512)

/-- Operands of PAIRING_WINDOW_END. -/
def pairingWindowEndOk (s : Nat) : Bool := decide (s < 512)

/-- Operands of STREAM_LOSS. -/
def streamLossOk (s : Nat) : Bool := decide (s < 512)

/-- Operands of CONFREV_CLEAR. -/
def confrevClearOk (fn : Nat) (s : Nat) : Bool := decide (fn < 256) && decide (s < 512)

/-- Operands of SIM_EN_WRITE. -/
def simEnWriteOk (fn : Nat) : Bool := decide (fn < 256)

/-- Operands of PUB_WR_ADVANCE. -/
def pubWrAdvanceOk (fn : Nat) (p : Nat) : Bool := decide (fn < 256) && decide (p < 64)

/-- Operands of PUB_FRAME_SEND. -/
def pubFrameSendOk (p : Nat) : Bool := decide (p < 64)

/-- Operands of THICKET_PUB_DMA. -/
def thicketPubDmaOk (p : Nat) : Bool := decide (p < 64)

/-- Operands of ROW_OPEN. -/
def rowOpenOk (n : Nat) : Bool := decide (n < 8)

/-- Operands of ROW_DEADLINE. -/
def rowDeadlineOk (n : Nat) : Bool := decide (n < 8)

/-- Operands of ROW_RELEASE. -/
def rowReleaseOk (n : Nat) : Bool := decide (n < 8)

/-- Operands of DERIVED_ROW_RELEASE. -/
def derivedRowReleaseOk (n : Nat) : Bool := decide (n < 8)

/-- Operands of SLICE_ENABLE. -/
def sliceEnableOk (fn : Nat) (g : Nat) : Bool := decide (fn < 256) && decide (g < 128)

/-- Operands of SLICE_DISABLE. -/
def sliceDisableOk (fn : Nat) (g : Nat) : Bool := decide (fn < 256) && decide (g < 128)

/-- Operands of SLICE_CONS_WRITE. -/
def sliceConsWriteOk (fn : Nat) (g : Nat) : Bool := decide (fn < 256) && decide (g < 128)

/-- Operands of SLICE_BLOCK_WRITE. -/
def sliceBlockWriteOk (g : Nat) : Bool := decide (g < 128)

/-- Operands of ELEMENT_OPERATE. -/
def elementOperateOk (e : Nat) : Bool := decide (e < 128)

/-- Operands of ELEMENT_RESET_DELAY_EXPIRY. -/
def elementResetDelayExpiryOk (e : Nat) : Bool := decide (e < 128)

/-- Operands of INVERSE_TIME_OPERATE. -/
def inverseTimeOperateOk (e : Nat) : Bool := decide (e < 128)

/-- Operands of INVERSE_RESET_EXPIRY. -/
def inverseResetExpiryOk (e : Nat) : Bool := decide (e < 128)

/-- Operands of RETRIP. -/
def retripOk (e : Nat) : Bool := decide (e < 128)

/-- Operands of BF_OPERATE. -/
def bfOperateOk (e : Nat) : Bool := decide (e < 128)

/-- Operands of INPUT_INVALID_BLOCK. -/
def inputInvalidBlockOk (e : Nat) : Bool := decide (e < 128)

/-- Operands of FREQ_HOLD_TIMEOUT. -/
def freqHoldTimeoutOk (t : Nat) : Bool := decide (t < 8)

/-- Operands of COMPARISON_RECORD_TIMEOUT. -/
def comparisonRecordTimeoutOk (sec : Nat) : Bool := decide (sec < 8)

/-- Operands of HEDGE_PH_READ. -/
def hedgePhReadOk (fn : Nat) (c : Nat) (lane : Nat) (size : Nat) : Bool := decide (fn < 256) && decide (c < 1024) && lanesOk lane size

/-- Operands of ACQUIRE. -/
def acquireOk (fn : Nat) : Bool := decide (fn < 256)

/-- Operands of REFRESH. -/
def refreshOk (fn : Nat) : Bool := decide (fn < 256)

/-- Operands of RELEASE. -/
def releaseOk (fn : Nat) : Bool := decide (fn < 256)

/-- Operands of HEDGE_SET. -/
def hedgeSetOk (ch : Nat) : Bool := decide (ch < 288)

/-- Operands of TP_MIN_EXPIRY. -/
def tpMinExpiryOk (t : Nat) : Bool := decide (t < 784)

/-- Operands of ENGINE_SOURCE_WRITE. -/
def engineSourceWriteOk (n : Nat) (bit : Nat) : Bool := decide (n < 32) && decide (64 ≤ bit) && decide (bit < 160)

/-- Operands of GSI_TAL_EXPIRY. -/
def gsiTalExpiryOk (n : Nat) : Bool := decide (n < 64)

/-- Operands of ENG_HOLD_EXPIRY. -/
def engHoldExpiryOk (bit : Nat) : Bool := decide (64 ≤ bit) && decide (bit < 160)

/-- Operands of PULSE. -/
def pulseOk (fn : Nat) : Bool := decide (fn < 256)

/-- Operands of CLEAR. -/
def clearOk (fn : Nat) : Bool := decide (fn < 256)

/-- Operands of HCMD_PULSE_END. -/
def hcmdPulseEndOk (n : Nat) : Bool := decide (n < 32)

/-- Operands of TRIP_PUB_CHANGE. -/
def tripPubChangeOk (g : Nat) : Bool := decide (g < 64)

/-- Operands of TRIP_PUB_RESEND. -/
def tripPubResendOk (g : Nat) : Bool := decide (g < 64)

/-- Operands of CARAVAN_CUTOFF. -/
def caravanCutoffOk (r : Nat) : Bool := decide (r < 4)

/-- Operands of CARAVAN_DEPART. -/
def caravanDepartOk (r : Nat) : Bool := decide (r < 4)

/-- Operands of CARAVAN_RECEIVE. -/
def caravanReceiveOk (r : Nat) : Bool := decide (r < 4)

/-- Operands of CARAVAN_MISSING. -/
def caravanMissingOk (r : Nat) : Bool := decide (r < 4)

/-- Operands of LANE_SIGNAL_LOSS. -/
def laneSignalLossOk (r : Nat) : Bool := decide (r < 4)

/-- Operands of NODE_LOST. -/
def nodeLostOk (r : Nat) (n : Nat) : Bool := decide (r < 4) && decide (n < 16)

/-- Operands of JOIN_ANSWER. -/
def joinAnswerOk (r : Nat) : Bool := decide (r < 4)

/-- Operands of IMAGE_ROTATE. -/
def imageRotateOk (r : Nat) : Bool := decide (r < 4)

/-- Operands of ECHO_REQ_SEND. -/
def echoReqSendOk (r : Nat) : Bool := decide (r < 4)

/-- Operands of ECHO_REQ_RECEIVE. -/
def echoReqReceiveOk (r : Nat) : Bool := decide (r < 4)

/-- Operands of ECHO_RSP_RECEIVE. -/
def echoRspReceiveOk (r : Nat) : Bool := decide (r < 4)

/-- Operands of ECHO_TIMEOUT. -/
def echoTimeoutOk (r : Nat) : Bool := decide (r < 4)

/-- Operands of RING_START. -/
def ringStartOk (r : Nat) : Bool := decide (r < 4)

/-- Operands of EPOCH_COMMIT. -/
def epochCommitOk (r : Nat) : Bool := decide (r < 4)

/-- Operands of EPOCH_SWAP. -/
def epochSwapOk (r : Nat) : Bool := decide (r < 4)

/-- Operands of TRIGGER_SOURCE_STOP. -/
def triggerSourceStopOk (r : Nat) : Bool := decide (r < 4)

/-- Operands of UNWRAP. -/
def unwrapOk (fn : Nat) (r : Nat) : Bool := decide (fn < 256) && decide (r < 4)

/-- Operands of RESTORE. -/
def restoreOk (fn : Nat) (r : Nat) : Bool := decide (fn < 256) && decide (r < 4)

/-- Operands of SLEEP. -/
def sleepOk (fn : Nat) (r : Nat) : Bool := decide (fn < 256) && decide (r < 4)

/-- Operands of WAKE. -/
def wakeOk (fn : Nat) (r : Nat) : Bool := decide (fn < 256) && decide (r < 4)

/-- Operands of NODE_RESET. -/
def nodeResetOk (fn : Nat) (r : Nat) (node : Nat) : Bool := decide (fn < 256) && decide (r < 4) && decide (node < 64)

/-- Operands of CLEAR_FALSE_WAKE. -/
def clearFalseWakeOk (fn : Nat) (r : Nat) (node : Nat) : Bool := decide (fn < 256) && decide (r < 4) && decide (node < 64)

/-- Operands of BAR2_READ. -/
def bar2ReadOk (fn : Nat) (size : Nat) : Bool := decide (fn < 256) && sizeOk size

/-- Operands of BAR2_WRITE. -/
def bar2WriteOk (fn : Nat) (size : Nat) : Bool := decide (fn < 256) && sizeOk size

/-- Operands of BR_SNAP_WRITE. -/
def brSnapWriteOk (fn : Nat) : Bool := decide (fn < 256)

/-- Operands of OUT_HOLD_SET. -/
def outHoldSetOk (fn : Nat) (node : Nat) : Bool := decide (fn < 256) && decide (node < 64)

/-- Operands of OUT_HOLD_CLEAR. -/
def outHoldClearOk (fn : Nat) : Bool := decide (fn < 256)

/-- Operands of OUT_HOLD_EXPIRY. -/
def outHoldExpiryOk (fn : Nat) : Bool := decide (fn < 256)

/-- Operands of SQ_DOORBELL. -/
def sqDoorbellOk (fn : Nat) : Bool := decide (fn < 256)

/-- Operands of READ. -/
def readOk (who : Nat) : Bool := decide (who < 288)

/-- Operands of WRITE. -/
def writeOk (who : Nat) : Bool := decide (who < 288)

/-- Operands of ACK. -/
def ackOk (node : Nat) : Bool := decide (node < 64)

/-- Operands of RDATA. -/
def rdataOk (node : Nat) : Bool := decide (node < 64)

/-- Operands of ACYC_RESEND. -/
def acycResendOk (node : Nat) : Bool := decide (node < 64)

/-- Operands of ACYC_TIMEOUT. -/
def acycTimeoutOk (node : Nat) : Bool := decide (node < 64)

/-- Operands of COMPLETION_WRITE. -/
def completionWriteOk (who : Nat) : Bool := decide (who < 288)

/-- Operands of RESPONSE_DISCARD. -/
def responseDiscardOk (who : Nat) : Bool := decide (who < 288)

/-- Operands of FRAME_RECEIVE. -/
def frameReceiveOk (s : Nat) : Bool := decide (s < 52)

/-- Operands of PAUSE_RECEIVE. -/
def pauseReceiveOk (p : Nat) : Bool := decide (p < 40)

/-- Operands of PFC_RECEIVE. -/
def pfcReceiveOk (p : Nat) : Bool := decide (p < 40)

/-- Operands of PAUSE_EXPIRY. -/
def pauseExpiryOk (p : Nat) : Bool := decide (p < 40)

/-- Operands of PAUSE_SEND. -/
def pauseSendOk (p : Nat) (pcp : Nat) : Bool := decide (p < 40) && decide (pcp < 9)

/-- Operands of MOVE_LOCK_END. -/
def moveLockEndOk (vid : Nat) : Bool := decide (vid < 4096)

/-- Operands of MAC_AGE_OUT. -/
def macAgeOutOk (vid : Nat) : Bool := decide (vid < 4096)

/-- Operands of LINK_DOWN. -/
def linkDownOk (p : Nat) : Bool := decide (p < 40)

/-- Operands of LINK_UP. -/
def linkUpOk (p : Nat) : Bool := decide (p < 40)

/-- Operands of FRAME_TRANSMIT. -/
def frameTransmitOk (s : Nat) (phase : Nat) : Bool := decide (s < 52) && decide (phase < 16)

/-- Operands of ENTRY_FORGET. -/
def entryForgetOk (k : Nat) (dir : Nat) : Bool := decide (k < 8) && decide (dir < 2)

/-- Operands of NODE_FORGET. -/
def nodeForgetOk (k : Nat) : Bool := decide (k < 8)

/-- Operands of FDB_LOOKUP. -/
def fdbLookupOk (fn : Nat) : Bool := decide (fn < 256)

/-- Operands of MAC_COUNTER_READ. -/
def macCounterReadOk (fn : Nat) (p : Nat) (j : Nat) (lane : Nat) (size : Nat) : Bool := decide (fn < 256) && decide (p < 40) && decide (j < 33) && lanesOk lane size

/-- Operands of ENGINE_LOAD. -/
def engineLoadOk (n : Nat) : Bool := decide (n < 32)

/-- Operands of ENGINE_RESTART. -/
def engineRestartOk (n : Nat) : Bool := decide (n < 32)

/-- Operands of WATCHDOG. -/
def watchdogOk (n : Nat) : Bool := decide (n < 32)

/-- Operands of WDT_KICK. -/
def wdtKickOk (n : Nat) (p : EngStore) : Bool := decide (n < 32) && p.wf

/-- Operands of PERS_EVENT. -/
def persEventOk (n : Nat) (p : EngStore) : Bool := decide (n < 32) && p.wf

/-- Operands of PE_DBANK_ADDR_WRITE. -/
def peDbankAddrWriteOk (fn : Nat) (n : Nat) : Bool := decide (fn < 256) && decide (n < 32)

/-- Operands of CRC. -/
def crcOk (n : Nat) (st : CopStart) : Bool := decide (n < 32) && st.wf

/-- Operands of SHA_BLOCK. -/
def shaBlockOk (n : Nat) (st : CopStart) : Bool := decide (n < 32) && st.wf

/-- Operands of GMAC_CHECK. -/
def gmacCheckOk (n : Nat) (st : CopStart) : Bool := decide (n < 32) && st.wf

/-- Operands of GMAC_SIGN. -/
def gmacSignOk (n : Nat) (st : CopStart) : Bool := decide (n < 32) && st.wf

/-- Operands of GCM_SEAL. -/
def gcmSealOk (n : Nat) (st : CopStart) : Bool := decide (n < 32) && st.wf

/-- Operands of GCM_OPEN. -/
def gcmOpenOk (n : Nat) (st : CopStart) : Bool := decide (n < 32) && st.wf

/-- Operands of KEY_LOAD. -/
def keyLoadOk (n : Nat) (st : CopStart) : Bool := decide (n < 32) && st.wf

/-- Operands of RNG. -/
def rngOk (n : Nat) (st : CopStart) : Bool := decide (n < 32) && st.wf

/-- Operands of COP_COMPLETE. -/
def copCompleteOk (n : Nat) : Bool := decide (n < 32)

/-- Operands of FP_MOVE. -/
def fpMoveOk (n : Nat) : Bool := decide (n < 32)

/-- Operands of ADD. -/
def fpAddOk (n : Nat) (alu : Nat) (m : FpMv) : Bool := decide (n < 32) && decide (alu < 2) && m.wf

/-- Operands of SUB. -/
def fpSubOk (n : Nat) (alu : Nat) (m : FpMv) : Bool := decide (n < 32) && decide (alu < 2) && m.wf

/-- Operands of AND. -/
def fpAndOk (n : Nat) (alu : Nat) (m : FpMv) : Bool := decide (n < 32) && decide (alu < 2) && m.wf

/-- Operands of OR. -/
def fpOrOk (n : Nat) (alu : Nat) (m : FpMv) : Bool := decide (n < 32) && decide (alu < 2) && m.wf

/-- Operands of XOR. -/
def fpXorOk (n : Nat) (alu : Nat) (m : FpMv) : Bool := decide (n < 32) && decide (alu < 2) && m.wf

/-- Operands of ANDN. -/
def fpAndnOk (n : Nat) (alu : Nat) (m : FpMv) : Bool := decide (n < 32) && decide (alu < 2) && m.wf

/-- Operands of ADC. -/
def fpAdcOk (n : Nat) (alu : Nat) (m : FpMv) : Bool := decide (n < 32) && decide (alu < 2) && m.wf

/-- Operands of SBB. -/
def fpSbbOk (n : Nat) (alu : Nat) (m : FpMv) : Bool := decide (n < 32) && decide (alu < 2) && m.wf

/-- Operands of SHL. -/
def fpShlOk (n : Nat) (m : FpMv) : Bool := decide (n < 32) && m.wf

/-- Operands of SHR. -/
def fpShrOk (n : Nat) (m : FpMv) : Bool := decide (n < 32) && m.wf

/-- Operands of SAR. -/
def fpSarOk (n : Nat) (m : FpMv) : Bool := decide (n < 32) && m.wf

/-- Operands of ROL. -/
def fpRolOk (n : Nat) (m : FpMv) : Bool := decide (n < 32) && m.wf

/-- Operands of ROR. -/
def fpRorOk (n : Nat) (m : FpMv) : Bool := decide (n < 32) && m.wf

/-- Operands of SWAP. -/
def fpSwapOk (n : Nat) (m : FpMv) : Bool := decide (n < 32) && m.wf

/-- Operands of EQ. -/
def fpEqOk (n : Nat) (m : FpMv) : Bool := decide (n < 32) && m.wf

/-- Operands of NE. -/
def fpNeOk (n : Nat) (m : FpMv) : Bool := decide (n < 32) && m.wf

/-- Operands of LTU. -/
def fpLtuOk (n : Nat) (m : FpMv) : Bool := decide (n < 32) && m.wf

/-- Operands of LEU. -/
def fpLeuOk (n : Nat) (m : FpMv) : Bool := decide (n < 32) && m.wf

/-- Operands of LT. -/
def fpLtOk (n : Nat) (m : FpMv) : Bool := decide (n < 32) && m.wf

/-- Operands of LE. -/
def fpLeOk (n : Nat) (m : FpMv) : Bool := decide (n < 32) && m.wf

/-- Operands of BIT. -/
def fpBitOk (n : Nat) (m : FpMv) : Bool := decide (n < 32) && m.wf

/-- Operands of ANY. -/
def fpAnyOk (n : Nat) (m : FpMv) : Bool := decide (n < 32) && m.wf

/-- Operands of GRD. -/
def fpGrdOk (n : Nat) (m : FpMv) : Bool := decide (n < 32) && m.wf

/-- Operands of CA_RW. -/
def caRwOk (n : Nat) (cur : Nat) (dst : Nat) (m : FpGd) : Bool := decide (n < 32) && decide (cur < 2) && decide (dst < if m.long then 256 else 128) && m.wf

/-- Operands of CA_RB. -/
def caRbOk (n : Nat) (cur : Nat) (dst : Nat) (m : FpGd) : Bool := decide (n < 32) && decide (cur < 2) && decide (dst < if m.long then 256 else 128) && m.wf

/-- Operands of CA_WW. -/
def caWwOk (n : Nat) (cur : Nat) (m : FpMv) : Bool := decide (n < 32) && decide (cur < 2) && m.wf

/-- Operands of CA_WB. -/
def caWbOk (n : Nat) (cur : Nat) (m : FpMv) : Bool := decide (n < 32) && decide (cur < 2) && m.wf

/-- Operands of CA_PK. -/
def caPkOk (n : Nat) (cur : Nat) (dst : Nat) (m : FpGd) : Bool := decide (n < 32) && decide (cur < 2) && decide (dst < if m.long then 256 else 128) && m.wf

/-- Operands of CRC_CFG. -/
def crcCfgOk (n : Nat) (m : FpMv) : Bool := decide (n < 32) && m.wf

/-- Operands of CRC_T. -/
def crcTOk (n : Nat) (m : FpMv) : Bool := decide (n < 32) && m.wf

/-- Operands of CRC_TB. -/
def crcTbOk (n : Nat) (m : FpMv) : Bool := decide (n < 32) && m.wf

/-- Operands of SUM_SET. -/
def sumSetOk (n : Nat) (m : FpMv) : Bool := decide (n < 32) && m.wf

/-- Operands of SUM_T. -/
def sumTOk (n : Nat) (m : FpMv) : Bool := decide (n < 32) && m.wf

/-- Operands of QIN_POP. -/
def qinPopOk (n : Nat) (m : FpMv) : Bool := decide (n < 32) && m.wf

/-- Operands of QIN_FREE. -/
def qinFreeOk (n : Nat) (m : FpMv) : Bool := decide (n < 32) && m.wf

/-- Operands of QOUT_PUSH. -/
def qoutPushOk (n : Nat) (m : FpMv) : Bool := decide (n < 32) && m.wf

/-- Operands of QOUT_DONE. -/
def qoutDoneOk (n : Nat) (dst : Nat) (m : FpGd) : Bool := decide (n < 32) && decide (dst < if m.long then 256 else 128) && m.wf

/-- Operands of JMP. -/
def jmpOk (n : Nat) (m : FpMv) : Bool := decide (n < 32) && m.wf

/-- Operands of CALL. -/
def callOk (n : Nat) (m : FpMv) : Bool := decide (n < 32) && m.wf

/-- Operands of RET. -/
def retOk (n : Nat) (m : FpMv) : Bool := decide (n < 32) && m.wf

/-- Operands of ERET. -/
def eretOk (n : Nat) (m : FpMv) : Bool := decide (n < 32) && m.wf

/-- Operands of IPEND_CLEAR. -/
def ipendClearOk (n : Nat) (m : FpMv) : Bool := decide (n < 32) && m.wf

/-- Operands of RPT. -/
def rptOk (n : Nat) (m : FpMv) : Bool := decide (n < 32) && m.wf

/-- Operands of TAS. -/
def tasOk (n : Nat) (m : FpMv) : Bool := decide (n < 32) && m.wf

/-- Operands of SEM_CLR. -/
def semClrOk (n : Nat) (m : FpMv) : Bool := decide (n < 32) && m.wf

/-- Operands of TSQ_POP. -/
def tsqPopOk (n : Nat) (m : FpMv) : Bool := decide (n < 32) && m.wf

/-- Operands of NOW. -/
def nowOk (n : Nat) (m : FpMv) : Bool := decide (n < 32) && m.wf

/-- Operands of RX. -/
def rxOk (n : Nat) (m : FpMv) : Bool := decide (n < 32) && m.wf

/-- Operands of LUT_T. -/
def lutTOk (n : Nat) (m : FpMv) : Bool := decide (n < 32) && m.wf

/-- Operands of FP_EVENT_ENTRY. -/
def fpEventEntryOk (n : Nat) : Bool := decide (n < 32)

/-- Operands of MOV. -/
def movOk (n : Nat) (d : Nat) (src : SpSrc) : Bool := decide (n < 32) && decide (d < 8) && src.wf

/-- Operands of SP_ADD. -/
def spAddOk (n : Nat) (d : Nat) (src : SpSrc) : Bool := decide (n < 32) && decide (d < 8) && src.wf

/-- Operands of SP_ADC. -/
def spAdcOk (n : Nat) (d : Nat) (src : SpSrc) : Bool := decide (n < 32) && decide (d < 8) && src.wf

/-- Operands of SP_SUB. -/
def spSubOk (n : Nat) (d : Nat) (src : SpSrc) : Bool := decide (n < 32) && decide (d < 8) && src.wf

/-- Operands of SP_SBB. -/
def spSbbOk (n : Nat) (d : Nat) (src : SpSrc) : Bool := decide (n < 32) && decide (d < 8) && src.wf

/-- Operands of CMP. -/
def cmpOk (n : Nat) (d : Nat) (src : SpSrc) : Bool := decide (n < 32) && decide (d < 8) && src.wf

/-- Operands of SP_AND. -/
def spAndOk (n : Nat) (d : Nat) (src : SpSrc) : Bool := decide (n < 32) && decide (d < 8) && src.wf

/-- Operands of SP_OR. -/
def spOrOk (n : Nat) (d : Nat) (src : SpSrc) : Bool := decide (n < 32) && decide (d < 8) && src.wf

/-- Operands of SP_XOR. -/
def spXorOk (n : Nat) (d : Nat) (src : SpSrc) : Bool := decide (n < 32) && decide (d < 8) && src.wf

/-- Operands of SP_ANDN. -/
def spAndnOk (n : Nat) (d : Nat) (src : SpSrc) : Bool := decide (n < 32) && decide (d < 8) && src.wf

/-- Operands of TST. -/
def tstOk (n : Nat) (d : Nat) (src : SpSrc) : Bool := decide (n < 32) && decide (d < 8) && src.wf

/-- Operands of SP_SHL. -/
def spShlOk (n : Nat) (d : Nat) (src : SpSrc) : Bool := decide (n < 32) && decide (d < 8) && src.wf

/-- Operands of SP_SHR. -/
def spShrOk (n : Nat) (d : Nat) (src : SpSrc) : Bool := decide (n < 32) && decide (d < 8) && src.wf

/-- Operands of SP_SAR. -/
def spSarOk (n : Nat) (d : Nat) (src : SpSrc) : Bool := decide (n < 32) && decide (d < 8) && src.wf

/-- Operands of SP_ROL. -/
def spRolOk (n : Nat) (d : Nat) (src : SpSrc) : Bool := decide (n < 32) && decide (d < 8) && src.wf

/-- Operands of SP_BIT. -/
def spBitOk (n : Nat) (d : Nat) (src : SpSrc) : Bool := decide (n < 32) && decide (d < 8) && src.wf

/-- Operands of LOCAL_LOAD. -/
def localLoadOk (n : Nat) (x : SpReg) (am : Nat) (mode : SpMode) : Bool := decide (n < 32) && x.wf && decide (am < 8) && mode.wf

/-- Operands of LOCAL_STORE. -/
def localStoreOk (n : Nat) (x : SpReg) (am : Nat) (mode : SpMode) : Bool := decide (n < 32) && x.wf && decide (am < 8) && mode.wf

/-- Operands of LD_D. -/
def ldDOk (n : Nat) (am : Nat) (dn : Nat) : Bool := decide (n < 32) && decide (am < 8) && decide (dn < 8)

/-- Operands of LD_A. -/
def ldAOk (n : Nat) (am : Nat) (an : Nat) : Bool := decide (n < 32) && decide (am < 8) && decide (an < 8)

/-- Operands of ST_D. -/
def stDOk (n : Nat) (am : Nat) (dn : Nat) : Bool := decide (n < 32) && decide (am < 8) && decide (dn < 8)

/-- Operands of ST_A. -/
def stAOk (n : Nat) (am : Nat) (an : Nat) : Bool := decide (n < 32) && decide (am < 8) && decide (an < 8)

/-- Operands of LDX. -/
def ldxOk (n : Nat) (am : Nat) (dn : Nat) (mode : SpMode) : Bool := decide (n < 32) && decide (am < 8) && decide (dn < 8) && mode.wf

/-- Operands of STX. -/
def stxOk (n : Nat) (am : Nat) (dn : Nat) (mode : SpMode) : Bool := decide (n < 32) && decide (am < 8) && decide (dn < 8) && mode.wf

/-- Operands of LDABS. -/
def ldabsOk (n : Nat) (dn : Nat) : Bool := decide (n < 32) && decide (dn < 8)

/-- Operands of STABS. -/
def stabsOk (n : Nat) (dn : Nat) : Bool := decide (n < 32) && decide (dn < 8)

/-- Operands of AADD_SHORT. -/
def aaddShortOk (n : Nat) (an : Nat) : Bool := decide (n < 32) && decide (an < 8)

/-- Operands of XMOV. -/
def xmovOk (n : Nat) (dst : SpReg) (src : SpReg) : Bool := decide (n < 32) && dst.wf && src.wf

/-- Operands of AMOV. -/
def amovOk (n : Nat) (an : Nat) : Bool := decide (n < 32) && decide (an < 8)

/-- Operands of AADD. -/
def aaddOk (n : Nat) (an : Nat) : Bool := decide (n < 32) && decide (an < 8)

/-- Operands of ASUB. -/
def asubOk (n : Nat) (an : Nat) : Bool := decide (n < 32) && decide (an < 8)

/-- Operands of BCC. -/
def bccOk (n : Nat) (cond : BitVec 4) : Bool := decide (n < 32) && decide (cond.toNat ≠ 15)

/-- Operands of CALL0. -/
def call0Ok (n : Nat) : Bool := decide (n < 32)

/-- Operands of SP_CALL. -/
def spCallOk (n : Nat) (an : Nat) : Bool := decide (n < 32) && decide (an < 8)

/-- Operands of SP_RET. -/
def spRetOk (n : Nat) : Bool := decide (n < 32)

/-- Operands of SP_ERET. -/
def spEretOk (n : Nat) : Bool := decide (n < 32)

/-- Operands of REP. -/
def repOk (n : Nat) (cnt : SpRep) : Bool := decide (n < 32) && cnt.wf false

/-- Operands of REPI. -/
def repiOk (n : Nat) (cnt : SpRep) : Bool := decide (n < 32) && cnt.wf true

/-- Operands of SEMTAS. -/
def semtasOk (n : Nat) (d : Nat) (i : Nat) : Bool := decide (n < 32) && decide (d < 8) && decide (i < 32)

/-- Operands of SEMCLR. -/
def semclrOk (n : Nat) (i : Nat) : Bool := decide (n < 32) && decide (i < 32)

/-- Operands of JMP_AN. -/
def jmpAnOk (n : Nat) (an : Nat) : Bool := decide (n < 32) && decide (an < 8)

/-- Operands of WAIT. -/
def waitOk (n : Nat) : Bool := decide (n < 32)

/-- Operands of DI. -/
def diOk (n : Nat) : Bool := decide (n < 32)

/-- Operands of EI. -/
def eiOk (n : Nat) : Bool := decide (n < 32)

/-- Operands of ENDCYC. -/
def endcycOk (n : Nat) : Bool := decide (n < 32)

/-- Operands of PUSH. -/
def pushOk (n : Nat) (x : SpReg) : Bool := decide (n < 32) && x.wf

/-- Operands of POP. -/
def popOk (n : Nat) (x : SpReg) : Bool := decide (n < 32) && x.wf

/-- Operands of MFC. -/
def mfcOk (n : Nat) (d : Nat) (k : Nat) : Bool := decide (n < 32) && decide (d < 8) && decide (k < 32)

/-- Operands of MTC. -/
def mtcOk (n : Nat) (k : Nat) (d : Nat) : Bool := decide (n < 32) && decide (k < 32) && decide (d < 8)

/-- Operands of COPR. -/
def coprOk (n : Nat) (d : Nat) (k : Nat) : Bool := decide (n < 32) && decide (d < 8) && decide (k < 16)

/-- Operands of COPW. -/
def copwOk (n : Nat) (k : Nat) (d : Nat) : Bool := decide (n < 32) && decide (k < 16) && decide (d < 8)

/-- Operands of COPST. -/
def copstOk (n : Nat) (d : Nat) : Bool := decide (n < 32) && decide (d < 8)

/-- Operands of NOP. -/
def nopOk (n : Nat) : Bool := decide (n < 32)

/-- Operands of LDRES. -/
def ldresOk (n : Nat) (am : Nat) (dn : Nat) : Bool := decide (n < 32) && decide (am < 8) && decide (dn < 8)

/-- Operands of STCOND. -/
def stcondOk (n : Nat) (am : Nat) (dn : Nat) : Bool := decide (n < 32) && decide (am < 8) && decide (dn < 8)

/-- Operands of RISE. -/
def riseOk (n : Nat) (d : Nat) (k : Nat) (b : Nat) : Bool := decide (n < 32) && decide (d < 8) && decide (k < 4096) && decide (b < 16)

/-- Operands of FALL. -/
def fallOk (n : Nat) (d : Nat) (k : Nat) (b : Nat) : Bool := decide (n < 32) && decide (d < 8) && decide (k < 4096) && decide (b < 16)

/-- Operands of MUL. -/
def mulOk (n : Nat) (ac : Nat) (da : Nat) (db : Nat) : Bool := decide (n < 32) && decide (ac < 2) && decide (da < 8) && decide (db < 8)

/-- Operands of MAC. -/
def macOk (n : Nat) (ac : Nat) (da : Nat) (db : Nat) : Bool := decide (n < 32) && decide (ac < 2) && decide (da < 8) && decide (db < 8)

/-- Operands of MSU. -/
def msuOk (n : Nat) (ac : Nat) (da : Nat) (db : Nat) : Bool := decide (n < 32) && decide (ac < 2) && decide (da < 8) && decide (db < 8)

/-- Operands of MULU. -/
def muluOk (n : Nat) (ac : Nat) (da : Nat) (db : Nat) : Bool := decide (n < 32) && decide (ac < 2) && decide (da < 8) && decide (db < 8)

/-- Operands of MACU. -/
def macuOk (n : Nat) (ac : Nat) (da : Nat) (db : Nat) : Bool := decide (n < 32) && decide (ac < 2) && decide (da < 8) && decide (db < 8)

/-- Operands of ACC_CLR. -/
def accClrOk (n : Nat) (ac : Nat) : Bool := decide (n < 32) && decide (ac < 2)

/-- Operands of SAT. -/
def satOk (n : Nat) (ac : Nat) : Bool := decide (n < 32) && decide (ac < 2)

/-- Operands of NORM. -/
def normOk (n : Nat) (ac : Nat) (da : Nat) : Bool := decide (n < 32) && decide (ac < 2) && decide (da < 8)

/-- Operands of RND. -/
def rndOk (n : Nat) (ac : Nat) : Bool := decide (n < 32) && decide (ac < 2)

/-- Operands of MOVH. -/
def movhOk (n : Nat) (ac : Nat) (da : Nat) : Bool := decide (n < 32) && decide (ac < 2) && decide (da < 8)

/-- Operands of MOVL. -/
def movlOk (n : Nat) (ac : Nat) (da : Nat) : Bool := decide (n < 32) && decide (ac < 2) && decide (da < 8)

/-- Operands of LDH. -/
def ldhOk (n : Nat) (ac : Nat) (da : Nat) : Bool := decide (n < 32) && decide (ac < 2) && decide (da < 8)

/-- Operands of ASR. -/
def asrOk (n : Nat) (ac : Nat) (db : Nat) : Bool := decide (n < 32) && decide (ac < 2) && decide (db < 8)

/-- Operands of ADDAC. -/
def addacOk (n : Nat) (ac : Nat) : Bool := decide (n < 32) && decide (ac < 2)

/-- Operands of SP_EVENT_ENTRY. -/
def spEventEntryOk (n : Nat) : Bool := decide (n < 32)

/-- Operands of ILK_CYCLE_START. -/
def ilkCycleStartOk (n : Nat) : Bool := decide (n < 32)

/-- Operands of ILK_OVERRUN. -/
def ilkOverrunOk (n : Nat) : Bool := decide (n < 32)

/-- Operands of ILK_RUN. -/
def ilkRunOk (ch : Nat) (n : Nat) : Bool := decide (ch < 288) && decide (n < 32)

/-- Operands of ILK_STOP. -/
def ilkStopOk (ch : Nat) (n : Nat) : Bool := decide (ch < 288) && decide (n < 32)

/-- Operands of HOLD. -/
def holdOk (ch : Nat) (n : Nat) : Bool := decide (ch < 288) && decide (n < 32)

/-- Operands of FORCE_SET. -/
def forceSetOk (ch : Nat) (n : Nat) : Bool := decide (ch < 288) && decide (n < 32)

/-- Operands of FORCE_CLEAR. -/
def forceClearOk (ch : Nat) (n : Nat) : Bool := decide (ch < 288) && decide (n < 32)

/-- Operands of FORCE_CLEAR_ALL. -/
def forceClearAllOk (ch : Nat) (n : Nat) : Bool := decide (ch < 288) && decide (n < 32)

/-- Operands of CAN_MODE_WRITE. -/
def canModeWriteOk (fn : Nat) (x : Nat) : Bool := decide (fn < 256) && decide (x < 8)

/-- Operands of CAN_TIMING_WRITE. -/
def canTimingWriteOk (fn : Nat) (x : Nat) (off : Nat) : Bool := decide (fn < 256) && decide (x < 8) && (off == 8 || off == 12 || off == 28)

/-- Operands of CAN_TXREQ. -/
def canTxreqOk (fn : Nat) (x : Nat) : Bool := decide (fn < 256) && decide (x < 8)

/-- Operands of CAN_TXABORT. -/
def canTxabortOk (fn : Nat) (x : Nat) : Bool := decide (fn < 256) && decide (x < 8)

/-- Operands of CAN_RXPOP. -/
def canRxpopOk (fn : Nat) (x : Nat) : Bool := decide (fn < 256) && decide (x < 8)

/-- Operands of RECOVER. -/
def recoverOk (fn : Nat) (x : Nat) : Bool := decide (fn < 256) && decide (x < 8)

/-- Operands of CAN_FRAME_RECEIVE. -/
def canFrameReceiveOk (x : Nat) : Bool := decide (x < 8)

/-- Operands of CAN_TX_ATTEMPT_END. -/
def canTxAttemptEndOk (x : Nat) : Bool := decide (x < 8)

/-- Operands of CAN_RECOVERY_END. -/
def canRecoveryEndOk (x : Nat) : Bool := decide (x < 8)

/-- Operands of CAN_TX_RING_FETCH. -/
def canTxRingFetchOk (x : Nat) : Bool := decide (x < 8)

/-- Operands of CAN_WAKE_MATCH. -/
def canWakeMatchOk (x : Nat) : Bool := decide (x < 8)

/-- Operands of CAN_WAKE_PIN. -/
def canWakePinOk (x : Nat) : Bool := decide (x < 8)

/-- Operands of CAN_WAKE_VALIDITY_EXPIRY. -/
def canWakeValidityExpiryOk (x : Nat) : Bool := decide (x < 8)

/-- Operands of WAKE_DIS_CLEAR. -/
def wakeDisClearOk (fn : Nat) (x : Nat) : Bool := decide (fn < 256) && decide (x < 8)

/-- Operands of TK_STEP. -/
def tkStepOk (n : Nat) : Bool := decide (n < 32)

/-- Operands of TK_ENABLE. -/
def tkEnableOk (fn : Nat) (n : Nat) : Bool := decide (fn < 256) && decide (n < 32)

/-- Operands of TK_DISABLE. -/
def tkDisableOk (fn : Nat) (n : Nat) : Bool := decide (fn < 256) && decide (n < 32)

/-- Operands of TK_LUT_WRITE. -/
def tkLutWriteOk (fn : Nat) (n : Nat) (i : Nat) : Bool := decide (fn < 256) && decide (n < 32) && decide (i < 1024)

/-- Operands of TK_TXFIFO_WRITE. -/
def tkTxfifoWriteOk (fn : Nat) (n : Nat) : Bool := decide (fn < 256) && decide (n < 32)

/-- Operands of TK_RXFIFO_READ. -/
def tkRxfifoReadOk (fn : Nat) (n : Nat) (lane : Nat) (size : Nat) : Bool := decide (fn < 256) && decide (n < 32) && lanesOk lane size

/-- Operands of HOST_LINK_UP. -/
def hostLinkUpOk (port : Nat) (rate : Nat) (width : Nat) : Bool := decide (port < 4) && decide (rate < 4) && decide (width < 16)

/-- Operands of HOST_PORT_RESET. -/
def hostPortResetOk (port : Nat) : Bool := decide (port < 4)

/-- Operands of DMA_PAUSE_START. -/
def dmaPauseStartOk (port : Nat) : Bool := decide (port < 4)

/-- Operands of DMA_PAUSE_END. -/
def dmaPauseEndOk (port : Nat) : Bool := decide (port < 4)

/-- Operands of LINK_LOSS_TIMEOUT. -/
def linkLossTimeoutOk (port : Nat) : Bool := decide (port < 4)

/-- Operands of FUNCTION_LEVEL_RESET. -/
def functionLevelResetOk (fn : Nat) : Bool := decide (fn < 256)

/-- Operands of NUMVFS_WRITE. -/
def numvfsWriteOk (port : Nat) : Bool := decide (port < 4)

/-- Operands of D3HOT_ENTRY. -/
def d3hotEntryOk (fn : Nat) : Bool := decide (fn < 256)

/-- Operands of D0_RETURN. -/
def d0ReturnOk (fn : Nat) : Bool := decide (fn < 256)

/-- Operands of HOST_BANK_ACCESS. -/
def hostBankAccessOk (fn : Nat) (off : Nat) : Bool := decide (fn < 256) && decide (off < 0x200000)

/-- Operands of DMA_FAULT. -/
def dmaFaultOk (fn : Nat) : Bool := decide (fn < 256)

/-- Operands of TD_CTL_WRITE. -/
def tdCtlWriteOk (mid : Nat) (ch : Nat) : Bool := decide (mid < 326) && decide (ch < 272)

/-- Operands of TD_TAKE. -/
def tdTakeOk (ch : Nat) : Bool := decide (ch < 288)

/-- Operands of FD_POST. -/
def fdPostOk (ch : Nat) : Bool := decide (ch < 288)

/-- Operands of FD_PTR_LO_READ. -/
def fdPtrLoReadOk (mid : Nat) (ch : Nat) (lane : Nat) (size : Nat) : Bool := decide (mid < 326) && decide (ch < 272) && lanesOk lane size

/-- Operands of PING. -/
def pingOk (ch : Nat) : Bool := decide (ch < 288)

/-- Operands of PTP_TX_SET. -/
def ptpTxSetOk (ch : Nat) : Bool := decide (ch < 288)

/-- Operands of MSIX_POST. -/
def msixPostOk (fn : Nat) (vec : Nat) : Bool := decide (fn < 256) && decide (vec < 64)

/-- Operands of HOLDOFF_END. -/
def holdoffEndOk (fn : Nat) : Bool := decide (fn < 256)

/-- Operands of VECTOR_UNMASK. -/
def vectorUnmaskOk (fn : Nat) (vec : Nat) : Bool := decide (fn < 256) && decide (vec < 64)

/-- Operands of KEY_INSTALL. -/
def keyInstallOk (ch : Nat) : Bool := decide (ch < 288)

/-- Operands of KEY_ERASE. -/
def keyEraseOk (ch : Nat) : Bool := decide (ch < 288)

/-- Operands of KEY_INFO. -/
def keyInfoOk (ch : Nat) : Bool := decide (ch < 288)

/-- Operands of SVN_COMMIT. -/
def svnCommitOk (ch : Nat) : Bool := decide (ch < 288)

/-- Operands of FUSE_PROG. -/
def fuseProgOk (ch : Nat) : Bool := decide (ch < 288)

/-- Operands of TX_AN_WRITE. -/
def txAnWriteOk (fn : Nat) (u : Nat) : Bool := decide (fn < 256) && decide (u < 8)

/-- Operands of SUPPLY_WARN. -/
def supplyWarnOk (i : Nat) : Bool := decide (i < 11)

/-- Operands of BROWN_OUT. -/
def brownOutOk (i : Nat) : Bool := decide (i < 11)

/-- Operands of SET_MODE. -/
def setModeOk (fn : Nat) : Bool := decide (fn < 256)

/-- Operands of CORE_RESET. -/
def coreResetOk (fn : Nat) : Bool := decide (fn < 256)

/-- Operands of SYSTEM_RESET. -/
def systemResetOk (fn : Nat) : Bool := decide (fn < 256)

/-- Operands of STANDBY. -/
def standbyOk (fn : Nat) : Bool := decide (fn < 256)

/-- Operands of MRAM_USER_WRITE. -/
def mramUserWriteOk (fn : Nat) (off : Nat) : Bool := decide (fn < 256) && decide (off < 0x40000)

/-- Operands of STAGE_OPEN. -/
def stageOpenOk (ch : Nat) (target : Nat) : Bool := decide (ch < 288) && decide (target < 256)

/-- Operands of STAGE_WRITE. -/
def stageWriteOk (ch : Nat) : Bool := decide (ch < 288)

/-- Operands of STAGE_CLOSE. -/
def stageCloseOk (ch : Nat) : Bool := decide (ch < 288)

/-- Operands of ACTIVATE_CLUSTER. -/
def activateClusterOk (ch : Nat) (c : Nat) : Bool := decide (ch < 288) && decide (c < 8)

/-- Operands of ACTIVATE_WING. -/
def activateWingOk (ch : Nat) : Bool := decide (ch < 288)

/-- Operands of ACTIVATE_DEVICE. -/
def activateDeviceOk (ch : Nat) : Bool := decide (ch < 288)

/-- Operands of SETTINGS_LOAD. -/
def settingsLoadOk (ch : Nat) : Bool := decide (ch < 288)

/-- Operands of ABORT. -/
def abortOk (ch : Nat) : Bool := decide (ch < 288)

/-- Operands of CLOCK_WINDOW. -/
def clockWindowOk (d : Nat) : Bool := decide (d < 25)

/-- Operands of FUNCTION_RESET_COMPLETE. -/
def functionResetCompleteOk (fn : Nat) : Bool := decide (fn < 256)

/-- Operands of PERST_RELEASE. -/
def perstReleaseOk (port : Nat) : Bool := decide (port < 4)

/-- Operands of APPLY_INSTANT. -/
def applyInstantOk (r : Nat) : Bool := decide (r < 4)

/-- Operands of LANE_SIGNAL_RETURN. -/
def laneSignalReturnOk (r : Nat) : Bool := decide (r < 4)

/-- Operands of CQ_CYCLE_READ. -/
def cqCycleReadOk (fn : Nat) (r : Nat) (lane : Nat) (size : Nat) : Bool := decide (fn < 256) && decide (r < 4) && lanesOk lane size

/-- Operands of PCIE_AER_ERROR. -/
def pcieAerErrorOk (fn : Nat) : Bool := decide (fn < 256)

/-- The operands of a command name units the device has. -/
def Instr.wf : Instr → Bool
  | .registerWrite fn _ size _ _ => registerWriteOk fn size
  | .readClear fn _ size _ => readClearOk fn size
  | .iwlLaneUp lane => iwlLaneUpOk lane
  | .iwlLaneFail lane => iwlLaneFailOk lane
  | .iwlTrainDeadline => true
  | .iwlBlockReceive _ _ => true
  | .globalDecision _ => true
  | .deputyAck _ => true
  | .mirrorAckTimeout => true
  | .heartbeatSend _ => true
  | .heartbeatArbiter _ _ _ _ => true
  | .heartbeatLinkReceive _ _ => true
  | .heartbeatLost _ => true
  | .claim _ => true
  | .claimWindowClose => true
  | .stewardConfigWrite _ _ _ => true
  | .mirrorRequest _ => true
  | .mirrorComplete _ => true
  | .rejoinRequest _ => true
  | .deputyHeartbeatTimeout => true
  | .timeShadowWrite _ _ word _ => timeShadowWriteOk word
  | .timeCommit _ _ => true
  | .timeNowRead fn _ lane size => timeNowReadOk fn lane size
  | .ltcRead fn _ lane size => ltcReadOk fn lane size
  | .timeTripleRead fn _ lane size => timeTripleReadOk fn lane size
  | .wingStrobe => true
  | .servoUpdate _ => true
  | .sourceLost => true
  | .holdLimitExpiry => true
  | .step fn _ => stepOk fn
  | .gmChange fn _ => gmChangeOk fn
  | .timePortStateWrite fn p _ => timePortStateWriteOk fn p
  | .syncReceive p _ _ _ _ phase => syncReceiveOk p phase
  | .followUpReceive p _ _ _ => followUpReceiveOk p
  | .syncTransmit p _ phase => syncTransmitOk p phase
  | .pdelayExchange p _ _ _ _ => pdelayExchangeOk p
  | .announceReceive p _ _ phase => announceReceiveOk p phase
  | .announceTransmit p => announceTransmitOk p
  | .ptpTransit pin pout _ _ _ phaseIn phaseOut => ptpTransitOk pin pout phaseIn phaseOut
  | .heldSyncExpiry p => heldSyncExpiryOk p
  | .ptpUnsupported p _ _ => ptpUnsupportedOk p
  | .irigbFrame _ _ phase => irigbFrameOk phase
  | .ppsInEdge _ => true
  | .ppsOutRise => true
  | .ppsOutFall => true
  | .triggerArm fn m _ => triggerArmOk fn m
  | .triggerFire m => triggerFireOk m
  | .triggerPulseEnd m => triggerPulseEndOk m
  | .captureEdge c _ _ phase => captureEdgeOk c phase
  | .capturePop mid c lane size => capturePopOk mid c lane size
  | .tsqEntryPop fn p lane size => tsqEntryPopOk fn p lane size
  | .svFrameReceive _ _ _ _ => true
  | .svForwardReceive _ _ _ _ => true
  | .discardWindowExpiry _ s => discardWindowExpiryOk s
  | .policerToken _ s => policerTokenOk s
  | .pairingWindowEnd _ s => pairingWindowEndOk s
  | .streamLoss _ s => streamLossOk s
  | .confrevClear fn _ s _ => confrevClearOk fn s
  | .simEnWrite fn _ _ => simEnWriteOk fn
  | .pubWrAdvance fn p _ => pubWrAdvanceOk fn p
  | .pubFrameSend p => pubFrameSendOk p
  | .thicketPubDma p => thicketPubDmaOk p
  | .wallAsduWrite _ => true
  | .rowOpen _ n => rowOpenOk n
  | .rowDeadline _ n => rowDeadlineOk n
  | .rowRelease _ n _ => rowReleaseOk n
  | .derivedRowRelease _ n => derivedRowReleaseOk n
  | .wallDegradeStep _ => true
  | .wallRestoreStep _ => true
  | .sliceEnable fn g _ => sliceEnableOk fn g
  | .sliceDisable fn g _ => sliceDisableOk fn g
  | .sliceConsWrite fn g _ => sliceConsWriteOk fn g
  | .sliceBlockWrite g => sliceBlockWriteOk g
  | .hedgeRowEvaluate _ _ => true
  | .elementOperate _ e => elementOperateOk e
  | .elementResetDelayExpiry _ e => elementResetDelayExpiryOk e
  | .inverseTimeOperate _ e => inverseTimeOperateOk e
  | .inverseResetExpiry _ e => inverseResetExpiryOk e
  | .retrip _ e => retripOk e
  | .bfOperate _ e => bfOperateOk e
  | .inputInvalidBlock _ e => inputInvalidBlockOk e
  | .freqHoldTimeout _ t => freqHoldTimeoutOk t
  | .comparisonRecordReceive _ _ => true
  | .comparisonRecordTimeout _ sec => comparisonRecordTimeoutOk sec
  | .hedgePhRead fn _ c lane size => hedgePhReadOk fn c lane size
  | .acquire fn _ => acquireOk fn
  | .refresh fn _ => refreshOk fn
  | .release fn _ => releaseOk fn
  | .leaseTimeout => true
  | .hedgeSet ch _ => hedgeSetOk ch
  | .settingsTApply => true
  | .tpMinExpiry t => tpMinExpiryOk t
  | .engineSourceWrite n bit _ _ => engineSourceWriteOk n bit
  | .gsiTalExpiry _ n => gsiTalExpiryOk n
  | .engHoldExpiry _ bit => engHoldExpiryOk bit
  | .pulse fn _ _ => pulseOk fn
  | .clear fn _ _ => clearOk fn
  | .hcmdPulseEnd n => hcmdPulseEndOk n
  | .readbackMismatch _ _ => true
  | .tripPubChange g => tripPubChangeOk g
  | .tripPubResend g => tripPubResendOk g
  | .caravanCutoff r => caravanCutoffOk r
  | .caravanDepart r => caravanDepartOk r
  | .caravanReceive r _ _ => caravanReceiveOk r
  | .caravanMissing r _ => caravanMissingOk r
  | .laneSignalLoss r _ => laneSignalLossOk r
  | .nodeLost r n => nodeLostOk r n
  | .joinAnswer r => joinAnswerOk r
  | .imageRotate r => imageRotateOk r
  | .echoReqSend r _ => echoReqSendOk r
  | .echoReqReceive r _ _ _ => echoReqReceiveOk r
  | .echoRspReceive r _ _ _ _ => echoRspReceiveOk r
  | .echoTimeout r _ => echoTimeoutOk r
  | .ringStart r _ => ringStartOk r
  | .epochCommit r _ _ => epochCommitOk r
  | .epochSwap r => epochSwapOk r
  | .triggerSourceStop r => triggerSourceStopOk r
  | .unwrap fn r => unwrapOk fn r
  | .restore fn r => restoreOk fn r
  | .sleep fn r => sleepOk fn r
  | .wake fn r => wakeOk fn r
  | .nodeReset fn r node => nodeResetOk fn r node
  | .clearFalseWake fn r node => clearFalseWakeOk fn r node
  | .bar2Read fn _ size => bar2ReadOk fn size
  | .bar2Write fn _ size _ => bar2WriteOk fn size
  | .brSnapWrite fn _ => brSnapWriteOk fn
  | .outHoldSet fn node => outHoldSetOk fn node
  | .outHoldClear fn => outHoldClearOk fn
  | .outHoldExpiry fn => outHoldExpiryOk fn
  | .sqDoorbell fn _ => sqDoorbellOk fn
  | .read who _ => readOk who
  | .write who _ _ => writeOk who
  | .ack node _ => ackOk node
  | .rdata node _ _ _ _ => rdataOk node
  | .acycResend node => acycResendOk node
  | .acycTimeout node => acycTimeoutOk node
  | .completionWrite who => completionWriteOk who
  | .responseDiscard who => responseDiscardOk who
  | .frameReceive s _ => frameReceiveOk s
  | .pauseReceive p _ => pauseReceiveOk p
  | .pfcReceive p _ _ => pfcReceiveOk p
  | .pauseExpiry p _ => pauseExpiryOk p
  | .pauseSend p pcp => pauseSendOk p pcp
  | .learnRequest => true
  | .moveLockEnd vid _ => moveLockEndOk vid
  | .macAgeOut vid _ => macAgeOutOk vid
  | .linkDown p => linkDownOk p
  | .linkUp p _ _ => linkUpOk p
  | .crossbarMatch => true
  | .frameTransmit s _ _ phase => frameTransmitOk s phase
  | .entryForget k dir => entryForgetOk k dir
  | .nodeForget k _ => nodeForgetOk k
  | .fdbLookup fn _ => fdbLookupOk fn
  | .macCounterRead fn p j lane size => macCounterReadOk fn p j lane size
  | .engineLoad n _ => engineLoadOk n
  | .engineRestart n => engineRestartOk n
  | .watchdog n => watchdogOk n
  | .wdtKick n p => wdtKickOk n p
  | .persEvent n p => persEventOk n p
  | .peDbankAddrWrite fn n _ => peDbankAddrWriteOk fn n
  | .crc n st => crcOk n st
  | .shaBlock n st => shaBlockOk n st
  | .gmacCheck n st => gmacCheckOk n st
  | .gmacSign n st => gmacSignOk n st
  | .gcmSeal n st => gcmSealOk n st
  | .gcmOpen n st => gcmOpenOk n st
  | .keyLoad n st => keyLoadOk n st
  | .rng n st => rngOk n st
  | .copComplete n _ => copCompleteOk n
  | .fpMove n _ _ => fpMoveOk n
  | .fpAdd n alu m => fpAddOk n alu m
  | .fpSub n alu m => fpSubOk n alu m
  | .fpAnd n alu m => fpAndOk n alu m
  | .fpOr n alu m => fpOrOk n alu m
  | .fpXor n alu m => fpXorOk n alu m
  | .fpAndn n alu m => fpAndnOk n alu m
  | .fpAdc n alu m => fpAdcOk n alu m
  | .fpSbb n alu m => fpSbbOk n alu m
  | .fpShl n m => fpShlOk n m
  | .fpShr n m => fpShrOk n m
  | .fpSar n m => fpSarOk n m
  | .fpRol n m => fpRolOk n m
  | .fpRor n m => fpRorOk n m
  | .fpSwap n m => fpSwapOk n m
  | .fpEq n m => fpEqOk n m
  | .fpNe n m => fpNeOk n m
  | .fpLtu n m => fpLtuOk n m
  | .fpLeu n m => fpLeuOk n m
  | .fpLt n m => fpLtOk n m
  | .fpLe n m => fpLeOk n m
  | .fpBit n m => fpBitOk n m
  | .fpAny n m => fpAnyOk n m
  | .fpGrd n m => fpGrdOk n m
  | .caRw n cur dst m => caRwOk n cur dst m
  | .caRb n cur dst m => caRbOk n cur dst m
  | .caWw n cur m => caWwOk n cur m
  | .caWb n cur m => caWbOk n cur m
  | .caPk n cur dst m => caPkOk n cur dst m
  | .crcCfg n m => crcCfgOk n m
  | .crcT n m => crcTOk n m
  | .crcTb n m => crcTbOk n m
  | .sumSet n m => sumSetOk n m
  | .sumT n m => sumTOk n m
  | .qinPop n m => qinPopOk n m
  | .qinFree n m => qinFreeOk n m
  | .qoutPush n m => qoutPushOk n m
  | .qoutDone n dst m => qoutDoneOk n dst m
  | .jmp n m => jmpOk n m
  | .call n m => callOk n m
  | .ret n m => retOk n m
  | .eret n m => eretOk n m
  | .ipendClear n m => ipendClearOk n m
  | .rpt n m => rptOk n m
  | .tas n m => tasOk n m
  | .semClr n m => semClrOk n m
  | .tsqPop n m => tsqPopOk n m
  | .now n m => nowOk n m
  | .rx n m => rxOk n m
  | .lutT n m => lutTOk n m
  | .fpEventEntry n => fpEventEntryOk n
  | .mov n d src => movOk n d src
  | .spAdd n d src => spAddOk n d src
  | .spAdc n d src => spAdcOk n d src
  | .spSub n d src => spSubOk n d src
  | .spSbb n d src => spSbbOk n d src
  | .cmp n d src => cmpOk n d src
  | .spAnd n d src => spAndOk n d src
  | .spOr n d src => spOrOk n d src
  | .spXor n d src => spXorOk n d src
  | .spAndn n d src => spAndnOk n d src
  | .tst n d src => tstOk n d src
  | .spShl n d src => spShlOk n d src
  | .spShr n d src => spShrOk n d src
  | .spSar n d src => spSarOk n d src
  | .spRol n d src => spRolOk n d src
  | .spBit n d src => spBitOk n d src
  | .localLoad n x am mode => localLoadOk n x am mode
  | .localStore n x am mode => localStoreOk n x am mode
  | .ldD n _ am dn _ => ldDOk n am dn
  | .ldA n _ am an _ => ldAOk n am an
  | .stD n _ am dn _ => stDOk n am dn
  | .stA n _ am an _ => stAOk n am an
  | .ldx n _ am dn mode => ldxOk n am dn mode
  | .stx n _ am dn mode => stxOk n am dn mode
  | .ldabs n _ dn _ => ldabsOk n dn
  | .stabs n _ dn _ => stabsOk n dn
  | .aaddShort n an _ => aaddShortOk n an
  | .xmov n dst src => xmovOk n dst src
  | .amov n an _ => amovOk n an
  | .aadd n an _ => aaddOk n an
  | .asub n an _ => asubOk n an
  | .bcc n cond _ => bccOk n cond
  | .call0 n _ => call0Ok n
  | .spCall n an _ _ => spCallOk n an
  | .spRet n => spRetOk n
  | .spEret n => spEretOk n
  | .rep n cnt => repOk n cnt
  | .repi n cnt => repiOk n cnt
  | .semtas n d i => semtasOk n d i
  | .semclr n i => semclrOk n i
  | .jmpAn n an => jmpAnOk n an
  | .wait n => waitOk n
  | .di n => diOk n
  | .ei n => eiOk n
  | .endcyc n => endcycOk n
  | .push n x => pushOk n x
  | .pop n x => popOk n x
  | .mfc n d k => mfcOk n d k
  | .mtc n k d => mtcOk n k d
  | .copr n d k => coprOk n d k
  | .copw n k d => copwOk n k d
  | .copst n d => copstOk n d
  | .nop n => nopOk n
  | .ldres n _ am dn => ldresOk n am dn
  | .stcond n _ am dn => stcondOk n am dn
  | .rise n d k b => riseOk n d k b
  | .fall n d k b => fallOk n d k b
  | .mul n ac da db => mulOk n ac da db
  | .mac n ac da db => macOk n ac da db
  | .msu n ac da db => msuOk n ac da db
  | .mulu n ac da db => muluOk n ac da db
  | .macu n ac da db => macuOk n ac da db
  | .accClr n ac => accClrOk n ac
  | .sat n ac => satOk n ac
  | .norm n ac da => normOk n ac da
  | .rnd n ac => rndOk n ac
  | .movh n ac da => movhOk n ac da
  | .movl n ac da => movlOk n ac da
  | .ldh n ac da => ldhOk n ac da
  | .asr n ac db => asrOk n ac db
  | .addac n ac => addacOk n ac
  | .spEventEntry n => spEventEntryOk n
  | .ilkCycleStart n => ilkCycleStartOk n
  | .ilkOverrun n => ilkOverrunOk n
  | .ilkRun ch n => ilkRunOk ch n
  | .ilkStop ch n => ilkStopOk ch n
  | .hold ch n => holdOk ch n
  | .forceSet ch n _ _ => forceSetOk ch n
  | .forceClear ch n _ => forceClearOk ch n
  | .forceClearAll ch n => forceClearAllOk ch n
  | .canModeWrite fn x _ => canModeWriteOk fn x
  | .canTimingWrite fn x off _ => canTimingWriteOk fn x off
  | .canTxreq fn x _ => canTxreqOk fn x
  | .canTxabort fn x _ => canTxabortOk fn x
  | .canRxpop fn x => canRxpopOk fn x
  | .recover fn x => recoverOk fn x
  | .canFrameReceive x _ => canFrameReceiveOk x
  | .canTxAttemptEnd x _ => canTxAttemptEndOk x
  | .canRecoveryEnd x _ => canRecoveryEndOk x
  | .canTxRingFetch x => canTxRingFetchOk x
  | .canWakeMatch x _ _ => canWakeMatchOk x
  | .canWakePin x => canWakePinOk x
  | .canWakeValidityExpiry x => canWakeValidityExpiryOk x
  | .wakeDisClear fn x _ => wakeDisClearOk fn x
  | .tkStep n _ => tkStepOk n
  | .tkEnable fn n _ => tkEnableOk fn n
  | .tkDisable fn n _ => tkDisableOk fn n
  | .tkLutWrite fn n i _ => tkLutWriteOk fn n i
  | .tkTxfifoWrite fn n _ => tkTxfifoWriteOk fn n
  | .tkRxfifoRead fn n lane size => tkRxfifoReadOk fn n lane size
  | .hostLinkUp port rate width => hostLinkUpOk port rate width
  | .hostPortReset port _ => hostPortResetOk port
  | .dmaPauseStart port _ => dmaPauseStartOk port
  | .dmaPauseEnd port => dmaPauseEndOk port
  | .linkLossTimeout port => linkLossTimeoutOk port
  | .functionLevelReset fn => functionLevelResetOk fn
  | .numvfsWrite port _ _ => numvfsWriteOk port
  | .d3hotEntry fn => d3hotEntryOk fn
  | .d0Return fn _ => d0ReturnOk fn
  | .hostBankAccess fn off _ _ _ => hostBankAccessOk fn off
  | .dmaFault fn _ => dmaFaultOk fn
  | .tdCtlWrite mid ch _ => tdCtlWriteOk mid ch
  | .tdTake ch => tdTakeOk ch
  | .fdPost ch => fdPostOk ch
  | .fdPtrLoRead mid ch lane size => fdPtrLoReadOk mid ch lane size
  | .ping ch _ => pingOk ch
  | .ptpTxSet ch _ _ => ptpTxSetOk ch
  | .msixPost fn vec => msixPostOk fn vec
  | .holdoffEnd fn => holdoffEndOk fn
  | .vectorUnmask fn vec _ => vectorUnmaskOk fn vec
  | .keyInstall ch _ _ _ _ => keyInstallOk ch
  | .keyErase ch _ => keyEraseOk ch
  | .keyInfo ch _ => keyInfoOk ch
  | .svnCommit ch _ => svnCommitOk ch
  | .fuseProg ch _ _ _ => fuseProgOk ch
  | .txAnWrite fn u _ => txAnWriteOk fn u
  | .trngHealthFail => true
  | .trngRecover _ => true
  | .debugUnlock _ => true
  | .supplyWarn i => supplyWarnOk i
  | .brownOut i => brownOutOk i
  | .powerOn _ => true
  | .resetPin _ => true
  | .stewardWatchdog _ => true
  | .debugReset => true
  | .stormClear => true
  | .setMode fn _ => setModeOk fn
  | .coreReset fn _ => coreResetOk fn
  | .systemReset fn _ => systemResetOk fn
  | .standby fn _ => standbyOk fn
  | .standbyWake _ => true
  | .rtcAlarm => true
  | .vinOkLow _ => true
  | .holdupTaskEnd _ => true
  | .powerReturn => true
  | .tollMeasure _ => true
  | .tollThrottleStep => true
  | .tollReleaseStep => true
  | .tollCapUnmet => true
  | .holdupSample _ => true
  | .mramUserWrite fn off _ => mramUserWriteOk fn off
  | .bootComplete _ _ _ => true
  | .selfTestComplete _ => true
  | .configuringComplete _ _ => true
  | .stepTimeout => true
  | .trialClear => true
  | .diagLine => true
  | .stageOpen ch target => stageOpenOk ch target
  | .stageWrite ch _ _ _ => stageWriteOk ch
  | .stageClose ch _ => stageCloseOk ch
  | .activateCluster ch c _ => activateClusterOk ch c
  | .activateWing ch _ _ => activateWingOk ch
  | .activateDevice ch _ _ => activateDeviceOk ch
  | .settingsLoad ch _ => settingsLoadOk ch
  | .abort ch => abortOk ch
  | .journalCompact => true
  | .clockWindow d _ _ => clockWindowOk d
  | .tempRead _ _ _ => true
  | .tempShutdown => true
  | .manifestCrcRecheck _ => true
  | .lockstepFault _ => true
  | .parityError _ => true
  | .eccUe _ => true
  | .directedCheckEnd _ _ => true
  | .mspiRead _ => true
  | .mi2cRead _ => true
  | .coreResetEnd _ => true
  | .resetRelease => true
  | .functionResetComplete fn => functionResetCompleteOk fn
  | .perstRelease port => perstReleaseOk port
  | .applyInstant r => applyInstantOk r
  | .laneSignalReturn r _ => laneSignalReturnOk r
  | .eccCe _ => true
  | .cqCycleRead fn r lane size => cqCycleReadOk fn r lane size
  | .pcieAerError fn _ => pcieAerErrorOk fn

end Sys2Proof
end

