-- ==== Sys2Proof/Decode.lean ====
section
/-! DEFINITION. The commands of this block have no bit encoding: no row of the opcode table gives one, so no word spells a
command. -/

namespace Sys2Proof

/-- The command that a word spells by the table's bits: none, since the table gives no row any bits. -/
def decodeTableWord (_nbits _w : Nat) : Option Instr := none

end Sys2Proof
end

