-- ==== Sys2Proof/Config.lean ====
section
/-! DEFINITION. What the manual leaves open: free values and free functions. None has a body, so nothing can be proved
of what they hold; each is named in a row of notes/assumptions. -/

namespace Sys2Proof

/-- A value the manual does not state, fresh at each use: applied to the counter `State.free` (log entry 3). -/
opaque Config.freeWord : Nat → Word

/-- Whether CD2 (100 MHz within 5 percent, R13) has a cycle edge in the given nanosecond (log entry 4). -/
opaque Config.cd2Edge : Nat → Bool

/-- Whether CD0 (32.768 kHz, R13) has an edge in the given nanosecond (log entry 4). -/
opaque Config.cd0Edge : Nat → Bool

/-- Fields of TIME_SERVO, whose bit layout R68 does not give: SOURCE (R56), PPS_WIDTH in ns and PPS_QUAL (R62)
(log entry 5). -/
opaque Config.servoSource : Word → BitVec 2
opaque Config.servoPpsWidth : Word → Nat
opaque Config.servoPpsQual : Word → Bool

/-- Edge selection of CAPn_CTRL (R65), whose layout R68 does not give: does the word select this edge (log entry 5)? -/
opaque Config.capSelects : Word → Bool → Bool

/-- What TRGn_STAT reads as from MISSED and SKIPPED, and CAPn_STAT from OVF; R68 gives no layout (log entry 5). -/
opaque Config.trgStat : Bool → Nat → Word
opaque Config.capStat : Bool → Word

/-- What a word of increments of TRGn_STAT means as MISSED and SKIPPED, and one of CAPn_STAT as OVF (log entry 5). -/
opaque Config.trgInc : Word → Bool × Nat
opaque Config.capInc : Word → Bool

/-- Values of TIME_PORT_STATE, which R53 names and does not number: SLAVE, MASTER (log entry 5). -/
opaque Config.portSlave : Word → Bool
opaque Config.portMaster : Word → Bool

/-- A value of TIME_PORT_STATE other than DISABLED: PTP is enabled on the port (R53, log entry 5). -/
opaque Config.portOn : Word → Bool

/-- The fixed PCS/PMA latency of a lane mode, on ingress and on egress, in 1/16 ns (R51, log entry 134). -/
opaque Config.pcsLatency : Nat → Bool → Nat

/-- What TIME_UTC holds from the control bits of an IRIG-B frame, bit 0 the leap-second-pending bit; R68 gives no layout
(R60, log entry 5). -/
opaque Config.irigUtc : BitVec 19 → Word

/-- A leap second is announced in TIME_UTC, whose layout R68 does not give (log entry 5). -/
opaque Config.utcLeap : Word → Bool

/-- The angle of a complex number, in units of 2^-32 turn from half a turn back to half a turn on; the manual does not say how the device
computes and rounds it (R135, log entry 6). -/
opaque Config.argTurns : Int → Int → Int

/-- A word of HEDGE_GRP_CFG, whose layout R157 does not give, from the group that it shows: channels A, B and C, neutral, rotation
ACB, SAME_STREAM, number of the word (log entry 157). -/
opaque Config.grpWord : Nat → Nat → Nat → Option Nat → Bool → Bool → Nat → Word

/-- How a phasor component whose exact value, a quotient in 2^-16 pu, is no 32-bit integer is held: R134 states neither the
rounding nor what happens outside the range (log entry 18). -/
opaque Config.phasorHold : Int → Int → Word

/-- An output value of the resampling filter of R114, whose coefficients the manual does not give, from the source and
target rates, the phase of the output instant against the source grid and the source values in order; bit 32 says that it was saturated
(log entry 7). -/
opaque Config.firOutput : Nat → Nat → Nat → List Word → BitVec 33

/-- Outputs of the cryptographic primitives, which outside standards define: an AES-GCM or GMAC tag and cipher text,
a SHA-256 compression, a DRBG word, a key check value (log entry 8). -/
opaque Config.gcmTag : Nat → BitVec 96 → List Half → List Half
opaque Config.gcmCipher : Nat → BitVec 96 → List Half → List Half
opaque Config.shaCompress : List Half → List Half → List Half
opaque Config.drbgWord : Nat → Half
opaque Config.keyCheck : List Octet → Word
opaque Config.hmacSha256 : List Octet → List Octet → List Octet

/-- The AES block decryption of RFC 3394, of a key and a block (R426, log entry 8). -/
opaque Config.aesDec : List Octet → List Octet → List Octet

/-- The hash of Quinferun's root key 0, which the boot ROM holds (R421), and the device key of the settings journal (R461); the manual
gives neither (log entries 182 and 184). -/
opaque Config.quinferunHash : Nat
opaque Config.journalKey : List Octet

/-- The TAP's instruction register above the two bits that IEEE 1149.1 fixes, as it is captured; the instruction of a code other than all
ones, 0 for IDCODE, 1 for BYPASS; what the data register of one of the device's own instructions captures (R502, log entry 183). -/
opaque Config.tapIr : List Bool
opaque Config.tapSelects : List Bool → Nat
opaque Config.tapData : Nat → List Bool

/-- Whether a RESET_N low pulse between 1 and 3 us is taken (R440, log entry 9). -/
opaque Config.shortResetTaken : Nat → Bool

/-- The default hold width of a wait or a drawn number the manual leaves random or open (log entry 3). -/
opaque Config.freeNat : Nat → Nat

end Sys2Proof
end

