-- ==== Sys2Proof/Machine/Store.lean ====
section
/-! DEFINITION. Sparse tables and memories: sorted lists of (key, value) pairs. A memory cell that holds what an
unlisted address reads as is not listed, so equal memories are equal lists. -/

namespace Sys2Proof.Machine

/-- A sparse table, keyed by a number, keys strictly rising. -/
abbrev Tab (α : Type) := List (Nat × α)

/-- The entry at a key, if listed. -/
def Tab.find {α : Type} : Tab α → Nat → Option α
  | [], _ => none
  | (k, v) :: t, a => if k = a then some v else Tab.find t a

/-- The entry at a key, or the given default. -/
def Tab.get {α : Type} (d : α) (t : Tab α) (a : Nat) : α := (Tab.find t a).getD d

/-- Remove the entry at a key. -/
def Tab.del {α : Type} : Tab α → Nat → Tab α
  | [], _ => []
  | (k, v) :: t, a => if k = a then Tab.del t a else (k, v) :: Tab.del t a

/-- Write an entry, keeping the keys rising. -/
def Tab.put {α : Type} : Tab α → Nat → α → Tab α
  | [], a, x => [(a, x)]
  | (k, v) :: t, a, x =>
    if a < k then (a, x) :: (k, v) :: t
    else if a = k then (k, x) :: t
    else (k, v) :: Tab.put t a x

/-- Write a memory cell: the value an unlisted cell reads as removes the entry. -/
def Tab.store {α : Type} [DecidableEq α] (d : α) (t : Tab α) (a : Nat) (x : α) : Tab α :=
  if x = d then Tab.del t a else Tab.put t a x

/-- Every key of the list lies above a bound, and the keys rise strictly. -/
def Tab.risingFrom {α : Type} : Nat → Tab α → Bool
  | _, [] => true
  | lo, (k, _) :: t => decide (lo ≤ k) && Tab.risingFrom (k + 1) t

/-- The canonical form of a memory: keys strictly rising, no entry equal to what an unlisted cell reads as. -/
def Memory.wf {α : Type} [DecidableEq α] (d : α) (t : Tab α) : Bool :=
  Tab.risingFrom 0 t && t.all (fun p => decide (p.2 ≠ d))

/-- A value for each wing. -/
structure Pair (α : Type) where
  e : α
  w : α
deriving DecidableEq, Repr

end Sys2Proof.Machine
end

