-- ==== Sys2Proof/Machine/State.lean ====
section
/-! DEFINITION. The state of the block: every register, queue, counter, mode and pin the manual gives it, as plain data,
with the commands that wait. Host-visible register words have one home, the register file `regs`; what no host register
shows stands in one record per block. -/

namespace Sys2Proof.Machine

/-- Why a step stops. The block has no fault of its own: each error the manual describes is a status bit, a count, an
event or a refused access (R4, R5, R406), so no command raises one. -/
inductive Fault where
  /-- Raised by no command of this model; kept so that the type has a value. Safe: the machine would stop. -/
  | unused
deriving DecidableEq, Repr

/-- Why a command has no meaning. -/
inductive Refusal where
  /-- The command's row has no meaning in the model yet. Raised by Dispatch only. Safe: the machine stops. -/
  | notModelled (mnemonic : String)
deriving DecidableEq, Repr

/-- The device states of R443. -/
inductive DevState where
  | off | standby | boot | selfTest | safeTalk | configuring | inService | test | testBlocked | maintenance | powerFail
deriving DecidableEq, Repr

/-- How a host access completed (R393, R406, R414). -/
inductive Cpl where
  | ok | ur | ca | crs
deriving DecidableEq, Repr

/-- The clocks. -/
structure Clocks where
  /-- Elapsed nanoseconds: the model's own time base for the manual's ns, us and ms delays (log entry 4). -/
  ns : Nat
  /-- CD2 cycles (R13): lease, arbiter, clock windows. -/
  cd2 : Nat
  /-- CD0 cycles (R13): RTC, reset window, wake validity. -/
  cd0 : Nat
  /-- Local time counter of East (R43). -/
  ltcE : BitVec 64
  /-- Local time counter of West (R43). -/
  ltcW : BitVec 64
  /-- AON RTC seconds (R452). -/
  rtc : BitVec 48
  /-- Instant at which the oscillator or PLL of each clock domain CD0-CD24 last restarted (R13). -/
  pll : Tab Nat
deriving DecidableEq, Repr

/-- What the last host or board-controller read returned, and how the last access completed. -/
structure Bus where
  /-- Data of the last read (R3, R48, R396, R496). -/
  rdata : BitVec 64
  /-- Completion of the last access (R393, R406). -/
  cpl : Cpl
  /-- Bytes of the last BAR4 read (R298, R396). -/
  bytes : List Octet
deriving DecidableEq, Repr

/-- The device state machine, resets and pins (17_reset_power.md, 20_pins.md). -/
structure Dev where
  /-- SYS_STATE.STATE (R443, R452). -/
  st : DevState
  /-- SYS_STATE previous state (R452). -/
  prev : DevState
  /-- A system reset is asserted (R440, R442). -/
  rst : Bool
  /-- The instant at which the asserted reset ends (R438, R440). -/
  rstEnd : Nat
  /-- Instants (CD0 cycles) of the system resets of the last 10 s (R441). -/
  storms : List Nat
  /-- The storm condition, SYS_STATE.STORM (R441). -/
  storm : Bool
  /-- The wing's steward is in core reset, SYS_STATE.CORE_RESET_ACTIVE (R438, R452). -/
  core : Pair Bool
  /-- The wing's steward firmware is verified and runs (R420, R463). -/
  stew : Pair Bool
  /-- Level of VIN_OK (R435, R452). -/
  vinOk : Bool
  /-- Start-up step in progress (R463). -/
  step : Nat
  /-- Start of the step in progress (R463). -/
  stepAt : Nat
  /-- Instant of entry to the present state (R444, R466). -/
  since : Nat
  /-- STEWARD_SEL as sampled at power-on release: true selects East (R28, R495). -/
  sel : Bool
  /-- A manifest has been applied in the current start (R395). -/
  manOk : Bool
  /-- MANIFEST_ID in force (R458). -/
  manId : Word
  /-- The pins are configured by the manifest (R442). -/
  pinsSet : Bool
  /-- Level of PWR_REQ (R437). -/
  pwrReq : Bool
  /-- The CD1 cycle of the last wake (R449). -/
  wakeCyc : Option Nat
  /-- FORCED_N is driven low (R364). -/
  forcedLow : Bool
  /-- ALARM_N is low (R483). -/
  alarmLow : Bool
  /-- When WAKE_N was last asserted, for 1 ms (R449). -/
  wakeN : Option Nat
  /-- Suffix of the part: true for I, whose Tmax is 110 degrees (R481, R503). -/
  suffixI : Bool
  /-- SYS_RESTARTED waits for host functions to be enabled (R439). -/
  restarted : Bool
  /-- SYS_WAKE waits likewise (R449). -/
  woke : Bool
  /-- SYS_CMD STANDBY has been taken and rings still send FAIL_NOW (R448). -/
  stopping : Bool
  /-- The last DIAG_TX line: state, status and reset cause (R467). -/
  diag : Option (Octet × Octet × Octet)
  /-- Instant of the last DIAG_TX line (R467). -/
  diagAt : Nat
deriving DecidableEq, Repr

/-- The time triple of one wing (R44, R505). -/
structure Triple where
  sec : BitVec 48
  ns : Word
  frac : Half
  anchor : BitVec 64
  rate : Word
deriving DecidableEq, Repr

/-- What a decision of the steward does when it takes effect (R20, R21): a named decision of the host interface or the
manifest; one configuration register of a fenced class; a commit of the triple that defines device time, a new rate of it, a step of
device time; an epoch switch of a ring with the schedule for its inactive bank. -/
inductive Act where
  | decision (d : Decision)
  | config (addr : Nat) (val : Word)
  | commit (t : Triple)
  | rate (v : Word)
  | step (d : Int)
  | epoch (r : Nat) (sched : List (Word × Word))
deriving DecidableEq, Repr

/-- A decision that the steward has sent to the deputy as a mirror message and that has not yet taken effect (R21, R22): what it
does, when it was sent, whether the deputy has acknowledged it, whether the message was lost on the link. -/
structure Mirror where
  act : Act
  at_ : Nat
  acked : Bool
  lost : Bool
deriving DecidableEq, Repr

/-- A heartbeat on its way to the arbiter (R23): wing, epoch its sender believes current, sequence number, health word. -/
structure Beat where
  wing : Wing
  epoch : Word
  seq : Half
  health : Word
deriving DecidableEq, Repr

/-- The primacy arbiter, the inter-wing link and the stewards (01_architecture.md). -/
structure Arb where
  /-- CD2 cycle of the last accepted heartbeat of each wing (R23, R25, R35). -/
  hbAt : Pair Nat
  /-- Sequence number of each steward's next heartbeat (R23). -/
  hbSeq : Pair Half
  /-- Instant of each steward's last heartbeat, if it has sent one since its start (R23). -/
  sentAt : Pair (Option Nat)
  /-- Heartbeats on their way to the arbiter, oldest first (R23). -/
  beats : List Beat
  /-- Heartbeats that each wing has sent over the link and that have not arrived, oldest first: number in the order in which the
  link took them, and the epoch (R16, R23). -/
  linkBeats : Pair (List (Nat × Word))
  /-- Number of the next transfer on the link (R16). -/
  linkNo : Nat
  /-- Instant at which each wing last received a heartbeat over the link (R24). -/
  linkAt : Pair Nat
  /-- Each wing finds the other's heartbeat lost (R24). -/
  lost : Pair Bool
  /-- ARB_EPOCH as each wing last learned it (R25, R29). -/
  known : Pair Word
  /-- Each wing's steward holds back its heartbeats (R471, R476). -/
  mute : Pair Bool
  /-- CD2 cycle at which the arbiter restarted or last granted (R25, R34). -/
  since : Nat
  /-- CD2 cycle at which the open claim window opened (R28). -/
  window : Option Nat
  /-- The claims not yet decided: wing, epoch and the CD2 cycle in which each reached the arbiter (R28). -/
  claims : List (Wing × Word × Nat)
  /-- Instant of each wing's last refused claim (R27). -/
  refusedAt : Pair (Option Nat)
  /-- A refusal has been reported since IWL_DOWN was raised (R25). -/
  iwlRefused : Bool
  /-- Consecutive heartbeats with the current epoch since the mirror, per wing (R33). -/
  run : Pair Nat
  /-- A mirror has been asked for, with its instant, per wing (R33). -/
  mirrorReq : Pair (Option Nat)
  /-- The wing has received the full mirror (R33). -/
  mirrored : Pair Bool
  /-- Decisions sent to the deputy and not yet in effect, oldest first (R21, R22). -/
  inflight : List Mirror
  /-- Instant of the release of the reset, for link training (R506). -/
  trainAt : Nat
  /-- The first millisecond of link training has been judged (R506). -/
  trained : Bool
deriving DecidableEq, Repr

/-- A timestamp record (R50). -/
structure TsRec where
  w0 : Word
  w1 : Word
  w2 : Word
  w3 : Word
deriving DecidableEq, Repr

/-- A held Sync of the transparent clock (R54): source port, sequence, correction, instant. -/
structure HeldSync where
  port : BitVec 80
  seq : Half
  corr : Int
  at_ : Nat
deriving DecidableEq, Repr

/-- A trigger's running state (R63, R64): armed, next fire number, pulse end if the pin is high, number of firings, TRGn_STAT.MISSED and SKIPPED. -/
structure Trg where
  armed : Bool
  k : Nat
  pulseEnd : Option Nat
  fired : Nat
  missed : Bool
  skipped : Nat
deriving DecidableEq, Repr

/-- Device time, PTP, triggers and captures (02_time.md). -/
structure Time where
  /-- Active triples (R44). -/
  act : Pair Triple
  /-- Shadow sets (R45). -/
  shadow : Pair Triple
  /-- Latched T of TIME_NOW reads, in 2^-16 ns, key 2 x function + wing (R48). -/
  nowLatch : Tab Nat
  /-- Latched LTC_HI, same key (R48). -/
  ltcLatch : Tab Word
  /-- Latched TIME_TRIPLE words, same key (R505). -/
  tripleLatch : Tab Triple
  /-- LTC captures of the previous strobe (R49, R482). -/
  strobe : Option (BitVec 64 × BitVec 64)
  /-- Outcome of the LTC advance check at the last strobes, newest first: true is a failure (R482). -/
  advE : List Bool
  advW : List Bool
  /-- TIME_WING_DIFF is over its limit, and for how many checks (R49, R482). -/
  overRun : Nat
  /-- Instant of the last step under R482. -/
  diffStep : Option Nat
  /-- Consecutive servo updates within LOCK_THR (R56). -/
  lockRun : Nat
  /-- Consecutive servo updates over UNLOCK_THR (R56). -/
  unlockRun : Nat
  /-- The device has been LOCKED since start (R56). -/
  everLocked : Bool
  /-- Start of the present HOLDOVER (R56). -/
  holdAt : Nat
  /-- Instant of the last Announce on the SLAVE port (R56). -/
  annAt : Nat
  /-- The selected source is valid (R56). -/
  srcOk : Bool
  /-- clockClass of the grandmaster (R58). -/
  gmClass : Octet
  /-- Sync waiting for its Follow_Up: port, sequence, correction, receive time (R53). -/
  syncWait : Option (Nat × Half × Int × Nat)
  /-- The measurement that waits for the servo: the time of an event by the selected source and by device time, in 2^-16 ns
  (R53, R60, R61). -/
  servoIn : Option (Nat × Nat)
  /-- The last time of day from PTP or IRIG-B: the time of an event by the source and by device time (R56). -/
  tod : Option (Nat × Nat)
  /-- Instant of the last Sync or second marker of the selected source (R56). -/
  markAt : Nat
  /-- Seconds of the previous valid IRIG-B frame (R60). -/
  irigPrev : Option (BitVec 48)
  /-- Instant of the previous PPS_IN edge (R61). -/
  ppsPrev : Option Nat
  /-- PPS_OUT is high, and since when (R62). -/
  pps : Option Nat
  /-- Last second at which PPS_OUT rose (R62). -/
  ppsSec : Nat
  /-- Triggers 0-15 (R63). -/
  trg : Tab Trg
  /-- Capture FIFOs 0-7, oldest first (R65). -/
  cap : Tab (List TsRec)
  /-- CAPn_STAT.OVF (R65). -/
  capOvf : List Nat
  /-- Egress timestamp queues 0-39, oldest first (R66). -/
  tsq : Tab (List TsRec)
  /-- Held Syncs per ingress port (R54). -/
  held : Tab (List HeldSync)
  /-- The PTP message last forwarded by the switch as it left, with its egress port (R54). -/
  transit : Option (Nat × PtpMsg)
  /-- Announce content set by the host per MASTER port (R53, R404). -/
  announce : Tab (List Word)
  /-- The last Sync sent per port: sequenceId and originTimestamp, which a two-step Sync does not carry (R53). -/
  sentSync : Tab (Half × Option Nat)
  /-- The last Follow_Up sent per port: sequenceId and preciseOriginTimestamp (R53). -/
  sentFu : Tab (Half × Nat)
  /-- The last Announce sent per port: number sent, and its words, the C37.238 TLV after the host's content (R52, R53). -/
  sentAnn : Tab (Nat × List Word)
  /-- The C37.238 TLV of the parent's last Announce (R52). -/
  tlv : List Word
deriving DecidableEq, Repr

/-- An ASDU handed from the intake to the wall (R106): stream, smpSynch, smpCnt, timestamp in 2^-16 ns, cells, SIM. -/
structure AsduOut where
  s : Nat
  synch : Nat
  cnt : Nat
  ts : Nat
  chans : List (Word × Word)
  sim : Bool
deriving DecidableEq, Repr

/-- An ASDU held for its pairing window (R88). -/
structure PairHold where
  seq : Option Half
  until_ : Nat
  tmin : Nat
  out : List AsduOut
deriving DecidableEq, Repr

/-- What the intake keeps per stream beside its registers (R83, R84, R85, R88, R89). -/
structure Stream where
  h : Option Half
  seen : BitVec 128
  accAt : Option Nat
  tokens : Nat
  tokAt : Nat
  prevCnt : Option Nat
  pair : List PairHold
deriving DecidableEq, Repr

/-- The intake of one wing (03_sample_intake.md). -/
structure Intake where
  /-- Streams, key s (R77). -/
  str : Tab Stream
  /-- ASDUs handed to the wall and not yet written (R78, R106). -/
  wallQ : List AsduOut
  /-- Copies that the switch has delivered and that have not yet reached the intake, oldest first (R73, R75): port, frame, ingress
  timestamp. -/
  rx : List (Nat × SvFrame × Nat)
  /-- Frames that the other wing has sent and that are still in flight on the link, oldest first (R16, R74): number in the order in
  which the link took them, port, frame, ingress timestamp. -/
  fwd : List (Nat × Nat × SvFrame × Nat)
  /-- Instant at which the pipeline will have worked off its input FIFO (R76). -/
  busy : Nat
deriving DecidableEq, Repr

/-- A wall cell: VALUE and word 1 (R101). -/
structure Cell where
  value : Word
  w1 : Word
deriving DecidableEq, Repr

/-- Row states of R108. -/
inductive RowSt where
  | opened | ready | released
deriving DecidableEq, Repr

/-- A row of a section (R106-R110): second, index, state, cause COMPLETE, deadline in force (us), streams that have
written, cells by column, DEGRADED. -/
structure Row where
  S : Nat
  k : Nat
  st : RowSt
  complete : Bool
  deadline : Bool
  drUs : Nat
  wrote : List Nat
  cells : Tab Cell
  degraded : Bool
deriving DecidableEq, Repr

/-- A section (R103, R108, R113, R121, R124): rows in key order, the last opened and released keys as S x rate + k, the
keys that a forward step of time skipped, from one up to another, and the STEPPED flag of R113, the setting of DR_US waiting for the next
row, the next ROW_SEQ, the keys skipped under R124 and not yet counted in it, and those whose storage no later row has taken. -/
structure Sect where
  rows : List Row
  lastOpen : Option Nat
  lastRel : Option Nat
  skipFrom : Nat
  skipTo : Option Nat
  stepped : Bool
  drNext : Option Nat
  seq : Word
  skips : List Nat
  skipped : List Nat
deriving DecidableEq, Repr

/-- The wall of one wing (04_sample_wall.md). -/
structure Wall where
  /-- Sections 0-7 (R103). -/
  sect : Tab Sect
  /-- Degrade steps in force, newest first (R124). -/
  deg : List Nat
  /-- Rows released and not yet evaluated by the Hedge unit: section and row (R117). -/
  hedgeQ : List (Nat × Row)
  /-- Instant of the last uncorrectable cell error of the wing (R478). -/
  eccAt : Option Nat
  /-- Instant since which the write queue has stayed above 3,072 cells, and that since which it has stayed below 1,024 (R124). -/
  hiAt : Option Nat
  loAt : Option Nat
deriving DecidableEq, Repr

/-- A slice subscription beside its registers (R121, R122): rows of the partial block with their headers, rows dropped since the previous
block and since enable, FIRST. -/
structure Slice where
  part : List (List Word × Row)
  dropped : Nat
  total : Nat
  first : Bool
deriving DecidableEq, Repr

/-- A DMA write to host memory: function, address, words (R121, R245, R411). -/
structure Dma where
  fn : Nat
  addr : Nat
  words : List Word
deriving DecidableEq, Repr

/-- One sample of a channel's window (R133): usable, ALIGN 0b10, value. -/
structure Samp where
  ok : Bool
  tsAligned : Bool
  val : Word
deriving DecidableEq, Repr

/-- A phasor (R133, R134): RE and IM in 2^-16 pu; valid; no cell with ALIGN 0b10 in its window. -/
structure Phasor where
  re : Int
  im : Int
  valid : Bool
  noTs : Bool
deriving DecidableEq, Repr

/-- A tracking reference (R135): estimate in 2^-16 Hz, HELD, CLAMPED, start of HELD, phasor history. -/
structure Freq where
  f : Nat
  held : Bool
  clamped : Bool
  heldAt : Option Nat
  hist : List (Int × Int)
deriving DecidableEq, Repr

/-- A protection element (R140-R144). Times are counted in rows, in units of 1/24 ms, of which a row of 4,000 Hz takes 6
and one of 4,800 Hz takes 5: elapsed time, time since the first dropout row of a reset delay, time since the first
invalid row. `theta` is the integral in 2^-40; `validRun` counts the valid rows while BLOCKED. -/
structure Elem where
  pickup : Bool
  operate : Bool
  retrip : Bool
  blocked : Bool
  t : Nat
  theta : Nat
  drop : Option Nat
  invalid : Option Nat
  validRun : Nat
deriving DecidableEq, Repr

/-- The Hedge unit of one wing (05_hedge.md). -/
structure Hedge where
  /-- Sample windows per channel, newest first (R134). -/
  win : Tab (List Samp)
  /-- Full-cycle and half-cycle phasors per channel (R134, R157). -/
  ph : Tab Phasor
  hph : Tab Phasor
  /-- IM latched by a read of RE, key function x 1024 + channel (R157). -/
  phLatch : Tab Word
  /-- Tracking references TR0-TR7 (R135). -/
  freq : Tab Freq
  /-- Elements HEL0-HEL127 (R140-R145). -/
  el : Tab Elem
  /-- Settings words 1-4 accepted for an element, each with its T_apply, oldest first, until a row at or after it (R151). -/
  newSet : Tab (List (List Word × Nat))
  /-- Key of the last row evaluated per section (R131). -/
  lastKey : Tab Nat
  /-- This wing's comparison records not yet compared (R154). -/
  own : List (CmpRec × Nat)
  /-- This wing's comparison records on their way to the other wing, oldest first: number in the order in which the link took them,
  record (R16, R154). -/
  sent : List (Nat × CmpRec)
  /-- The other wing's records that arrived before this wing's own (R154). -/
  got : List CmpRec
  /-- Consecutive mismatched and matching rows per section (R155). -/
  bad : Tab Nat
  good : Tab Nat
  /-- Channel the diverse checker takes next (R156). -/
  chk : Nat
  /-- Snapshot asked for: fire instant in 2^-16 ns and channels still to latch (R157). -/
  snap : Option (Nat × List Nat)
  /-- The lease state as the unit sees it (R149). -/
  leaseHeld : Bool
deriving DecidableEq, Repr

/-- The primacy lease (R147-R150). -/
structure Lease where
  holder : Option Nat
  seq : Half
  startCd2 : Nat
  last : Option Nat
  /-- RESULT of each function's last command (R150). -/
  result : Tab Nat
  /-- Settings accepted and waiting for T_apply, in device time of 2^-16 ns (R151). -/
  pend : Option (List HedgeRec × Nat)
  /-- Cause of the last lapse: HEDGE_LEASE.LAPSE_CAUSE (R157). -/
  cause : Nat
  /-- What HOLDER_TID reads while no function holds the lease (R150); free after a lapse (log entry 128). -/
  shown : Nat
deriving DecidableEq, Repr

/-- A trip target (R165): source state, target state, instant of the rise. -/
structure Target where
  src : Bool
  act : Bool
  rise : Nat
deriving DecidableEq, Repr

/-- A trip publication (R172, R429): members, stNum, sqNum, t, next resend and its interval (us), invocation counter,
number of frames built. -/
structure TripPub where
  mem : Octet
  stNum : Word
  sqNum : Word
  t : Nat
  next : Nat
  intUs : Nat
  ctr : BitVec 64
  exh : Bool
deriving DecidableEq, Repr

/-- A trip-publication frame waiting at an egress port: its publication, building wing, port, redundancy tag and content (R172, R173, R270). -/
structure TripFrame where
  g : Nat
  wing : Wing
  port : Nat
  red : RedTag
  msg : Goose
deriving DecidableEq, Repr

/-- The trip path (06_trip_path.md). -/
structure Trip where
  /-- ILK bits of each wing (R161). -/
  ilk : Pair Word
  /-- GSI bits of each wing (R161, R162). -/
  gsi : Pair (BitVec 64)
  /-- Holds in progress, key 160 x wing + bit, start instant (R163). -/
  hold : Tab Nat
  /-- Bits that wait for the engine's first write after restart, same key (R163). -/
  stale : Tab Nat
  /-- End of the pulse of each active host line (R167). -/
  hcmd : Tab Nat
  /-- Targets (R165). -/
  tgt : Tab Target
  /-- Trip publications TGP0-TGP63 (R172). -/
  pub : Tab TripPub
  /-- Trip frames not yet begun, in order of building (R173, R270). -/
  frames : List TripFrame
  /-- PDA_EXH_DROP of each publication (R429). -/
  exhDrop : Tab Nat
  /-- Outputs were blocked when last looked at (R175). -/
  blocked : Bool
  /-- Pins of each wing that something outside pulls low, and pins that stay high though they are driven (R169, R178). -/
  pull : Pair Octet
  stuck : Pair Octet
deriving DecidableEq, Repr

/-- A CMD record waiting for a slot (R190): on A, on B, the node it names, its words; it belongs to the ring command in progress
(R230). -/
structure CmdRec where
  onA : Bool
  onB : Bool
  node : Option Nat
  words : List Half
  cmd : Bool
deriving DecidableEq, Repr

/-- A node as the device sees it, beside CQ_NODE_STAT (R223, R224, R236): caravans on end without its entry per channel,
joining with its slots not yet in a schedule, cycles since its last valid input, the EUI-64 admitted at its position. -/
structure RNode where
  missA : Nat
  missB : Nat
  joining : Option (BitVec 64)
  age : Nat
  eui : Option (BitVec 64)
deriving DecidableEq, Repr

/-- What a device lane of a ring keeps (R195, R198, R212, R217, R219): consecutive invalid caravans; CYCLE and instant of
the last valid one; instant of the previous SOC, or at which a missing one was due; instant at which the last caravan sent
ends; schedule entries of its slots; signal present; break detected; the last two caravans sent on the lane's outgoing channel;
the last caravan received; the span the guard found; the looping position seen; the caravan of this cycle has been seen, and when;
the second-pass entry reported IN_OK; the echo in flight; delays of the last exchanges; the last ECHO set sent. -/
structure Lane where
  inv : Nat
  last : Option (BitVec 48 × Nat)
  soc : Option Nat
  eocAt : Nat
  ents : List Nat
  sig : Bool
  brk : Bool
  sent : Option Caravan
  sent0 : Option Caravan
  rx : Option Caravan
  span : Option (Nat × Nat)
  loop : Option Nat
  seen : Option Nat
  ok2 : Bool
  echo : Option (Half × Nat)
  dly : List Nat
  setTx : Option LineSet
deriving DecidableEq, Repr

/-- One Caique ring (07_caique_link.md, 08_caique_cycle.md). -/
structure Ring where
  /-- CYCLE of the next caravan (R205). -/
  cycle : BitVec 48
  /-- Number k of the next cycle instant (R204). -/
  k : Nat
  /-- The ring runs authenticated; its key for the session (R202, R203). -/
  auth : Bool
  key : Nat
  /-- Distance of departures from t0 + k x Tc, in 2^-16 ns (R206). -/
  rephase : Int
  /-- Trigger start: the firing that waits, the last firing or the instant that stands for it after a step, cycles carried on since, the
  last period as a fraction in ns, the trigger has stopped (R204, R206); no cycle starts before an instant of the ns clock (R205). -/
  trgNext : Option Nat
  trgLast : Option Nat
  trgN : Nat
  trgPer : Nat × Nat
  trgStop : Bool
  notBefore : Nat
  /-- Active schedule bank (R207). -/
  bank : Nat
  /-- SW_CNT of the next caravan, 0 none; a schedule whose commit was refused while a switch was pending (R209). -/
  swCnt : Nat
  retry : Option (List (Word × Word))
  /-- The cut-off of the next caravan has passed; draft words frozen there; trip records taken there (R170, R240). -/
  cut : Bool
  frozen : Tab Half
  tripRecs : List CmdRec
  /-- Records waiting for the CMD slot (R190). -/
  cmdQ : List CmdRec
  /-- Caravans that still carry the WAKE slot (R230). -/
  wakeLeft : Nat
  /-- The command in progress (R230). -/
  busy : Option Nat
  /-- NODE_RESETs sent or to be sent: node, and the apply instant once the caravan has departed (R224, R249). -/
  applyQ : List (Nat × Option Nat)
  /-- The lanes. -/
  head : Lane
  tail : Lane
  /-- Wrapped layout in use; CYCLE of the caravan that carried UNWRAP records (R214, R217). -/
  wrapTx : Bool
  unwrapping : Option (BitVec 48)
  /-- Schedule entry of the last deferred slot carried, per segment; entries deferred in the last cycle (R216). -/
  rrHead : Nat
  rrTail : Nat
  /-- Span isolated; span whose BYPASS records wait to depart; spans restored with the instant; spans whose RESTORE is refused
  (R220, R221). -/
  iso : Option (Nat × Nat)
  isoWait : Option (Nat × Nat)
  restored : List (Nat × Nat × Nat)
  banned : List (Nat × Nat)
  /-- Nodes by position (R222-R224). -/
  node : Tab RNode
  /-- JOINs read and not yet answered: EUI-64, tag-only failure (R223). -/
  joins : List (BitVec 64 × Bool)
  /-- DIR = 1 entries of this cycle's caravans; those whose valid copy has come (R210, R211). -/
  sentE : List Nat
  rxd : List Nat
  /-- Image buffers: index of FILL, LATEST, AGING; CYCLE of each buffer; rotated for this cycle (R238, R239). -/
  fill : Nat
  latest : Nat
  aging : Nat
  bufCyc : Tab (BitVec 48)
  rotated : Bool
  /-- Identifier of the next ECHO_REQ (R198). -/
  echoId : Half
  /-- DYING caravans still to send; FAIL_NOW caravans still to send (R446, R448). -/
  dying : Nat
  failNow : Nat
deriving DecidableEq, Repr

/-- A bridge request (R241, R243, R245): requester (function 0-255 or 256 + SP), write, RSEQ, tag, remote address,
count, data, USER, buffer, whether it came through BAR2, whether it has been sent and acknowledged, cycles since it was
sent, whether it has completed TIMEOUT. -/
structure BReq where
  who : Nat
  wr : Bool
  rseq : BitVec 11
  tag : Nat
  addr : Word
  count : Nat
  data : List Half
  user : Half
  buf : Nat
  mmio : Bool
  sent : Bool
  acked : Bool
  age : Nat
  timed : Bool
deriving DecidableEq, Repr

/-- A completion that waits to be written (R242, R248): requester, status, tag, address, data, USER, buffer, arrival; the RSEQ of its
request, if it has gone through a node's queue; whether it holds a tag. -/
structure BResp where
  who : Nat
  status : Nat
  tag : Nat
  addr : Word
  data : List Half
  user : Half
  buf : Nat
  at_ : Nat
  seq : Option (BitVec 11)
  tagged : Bool
deriving DecidableEq, Repr

/-- The bridge (09_remote_space.md). -/
structure Bridge where
  /-- The image bank, 16-bit words (R237). -/
  image : Tab Half
  /-- Image words with an uncorrectable error (R237). -/
  badImage : List Nat
  /-- Draft output image by logical offset (R240). -/
  draft : Tab Half
  /-- Staged writes of a function under BR_OUT_HOLD, oldest first (R240). -/
  staged : Tab (List (Nat × Half × Half))
  /-- Start of each function's hold (R240). -/
  holdAt : Tab Nat
  /-- Latched image buffer of each function, and of each engine processor at 256 and above (R239): node, buffer; 3 once the buffer has
  become FILL. -/
  snap : Tab (Nat × Nat)
  /-- Request queue of each node, oldest first (R241, R244). -/
  queue : Tab (List BReq)
  /-- Next RSEQ of each node (R241). -/
  rseq : Tab (BitVec 11)
  /-- Cycles since ACK last advanced, per node (R244). -/
  ackAge : Tab Nat
  /-- Tags in use: tag to requester (R246). -/
  tags : Tab Nat
  /-- Tags retired whose response has not come, with the instant (R250). -/
  retired : Tab Nat
  /-- Responses that wait for their completion (R248). -/
  resp : List BResp
  /-- Entries written to the completion ring of each SP, and fetched from its submission ring (R245). -/
  spTail : Tab Nat
  spHead : Tab Nat
deriving DecidableEq, Repr

/-- A MAC-table entry (R262-R265): port or pair, STATIC, LOCKED, PAIR, last use, moves in the window, window start,
port before the window, lock start. -/
structure Fdb where
  port : Nat
  pair : Bool
  locked : Option Nat
  last : Nat
  moves : Nat
  winAt : Nat
  winPort : Nat
deriving DecidableEq, Repr

/-- A frame admitted to an egress queue (R268): ingress port, priority, cells, the frame, cells taken from the shared pool,
arrival number, the engine's transmit buffer it came from with its RELEASE bit (R332). -/
structure QFrame where
  src : Nat
  pcp : Nat
  cells : Nat
  frame : Frame
  shared : Nat
  id : Nat
  buf : Option (Nat × Half × Bool)
deriving DecidableEq, Repr

/-- An entry of a duplicate-discard table (R282): source, sequence, instant, port of the first copy (true is B), a duplicate has
come. -/
structure DupEnt where
  src : BitVec 48
  seq : Half
  at_ : Nat
  b : Bool
  dup : Bool
deriving DecidableEq, Repr

/-- The switch core and the MACs (10_ports_switch.md). -/
structure Switch where
  /-- MAC table, key VID x 2^48 + address (R263). -/
  fdb : Tab Fdb
  /-- Learn requests: VID, address, port, pair (R264). -/
  learn : List (Nat × BitVec 48 × Nat × Bool)
  /-- Egress queues, key 8 x s + q, oldest first (R268). -/
  queue : Tab (List QFrame)
  /-- The frame staged at an egress port, with its queue; the instant at which the wire is free again (R273). -/
  staged : Tab (List (Nat × QFrame))
  wire : Tab Nat
  /-- End instant of the transfer that holds an input lane (R272). -/
  busyIn : Tab Nat
  /-- Grant and accept pointers (R274): key 8 x o + q, and i. -/
  grant : Tab Nat
  accept : Tab Nat
  /-- PAUSE and per-class pause end instants: key p, and 8 x p + class (R276, R278). -/
  pause : Tab Nat
  pfc : Tab Nat
  /-- Ports and classes whose last PAUSE sent was XOFF, key 9 x p + pcp, pcp 8 for PAUSE (R277). -/
  xoff : Tab Nat
  /-- Policer tokens and their refill instant, key 3 x s + policer (R266). -/
  pol : Tab (Nat × Nat)
  /-- Rate-limit credits in octets, key 8 x s + q (R275). -/
  credit : Tab (Nat × Nat)
  /-- Duplicate-discard tables, key 2 x pair + direction, oldest first: source, sequence, instant (R282). -/
  dup : Tab (List DupEnt)
  /-- NodesTable and ProxyNodeTable of each pair: address and instant (R282). -/
  nodes : Tab (List (BitVec 48 × Nat))
  proxy : Tab (List (BitVec 48 × Nat))
  /-- Number of the next admitted frame. -/
  nextId : Nat
  /-- Copies sent on a port by an HSR ring or a PRP pair at the last frame (R280, R281). -/
  lastTx : Option (Nat × Frame)
  /-- High words of MAC counters latched per reader, key reader x 2048 + p x 33 + j (R283). -/
  cntLatch : Tab Word
  /-- PAUSE or PFC frame last sent by a port: PCP or none, quanta (R277). -/
  pauseTx : Tab (Option Nat × Half)
deriving DecidableEq, Repr

/-- A coprocessor port of one processor (R300, R336). -/
structure CopPort where
  src : Half
  len : Half
  dst : Half
  arg : List Half
  argIdx : Nat
  busy : Bool
  status : Nat
  res : List Half
  resIdx : Nat
  /-- Operation in progress: code, results to be written, end status, words to store at DST. -/
  op : Option (Nat × List Half × Nat × List Half)
deriving DecidableEq, Repr

/-- A coprocessor context (R302, R308, R426): slot, the key taken from it, key role, counter, LIMIT; a forced erase has unbound
it. -/
structure CopCtx where
  slot : Option Nat
  key : List Octet
  denied : Bool
  role : Nat
  ctr : BitVec 64
  limit : BitVec 64
deriving DecidableEq, Repr

/-- A cursor of the FP (R329). -/
structure Cursor where
  base : Half
  pos : Half
  space : Half
deriving DecidableEq, Repr

/-- A frame descriptor waiting in a receive queue (R331). -/
structure RxDesc where
  base : Half
  len : Half
  port : Nat
  prio : Nat
  handle : Nat
  ts : TsRec
deriving DecidableEq, Repr

/-- The frame processor (12_move_isa.md). -/
structure Fp where
  /-- V0-V63 (R319). -/
  v : Tab Half
  pc : Half
  /-- ALU0, ALU1: operand, result, carry (R327). -/
  aluO : Pair Half
  aluR : Pair Half
  aluC : Pair Bool
  /-- Shifter operand and result (R327). -/
  shO : Half
  shR : Half
  /-- CMP operand, CMP.G, guards G0-G7 (R328). -/
  cmpO : Half
  cmpG : Half
  grd : Octet
  /-- Cursors A and B (R329). -/
  cur : Pair Cursor
  /-- CRC selection and register (R330). -/
  crcSel : Nat
  crcV : Word
  /-- SUM accumulator (R330). -/
  sum : Half
  /-- QIN.R words and index (R331). -/
  qin : List Half
  qinIdx : Nat
  /-- QOUT.O words and index, DONE queue (R332). -/
  qout : List Half
  qoutIdx : Nat
  done : List Half
  /-- Return stack, top first (R338). -/
  rs : List Half
  /-- IEN, edge bits of IPEND, EPC, ERPT, saved guards, in-handler (R340, R341). -/
  ien : Half
  ipend : Octet
  epc : Half
  erpt : Half
  savG : Octet
  inEv : Bool
  /-- Repetitions left of the next move, bit 15 of RPT.T (R339). -/
  rptLeft : Nat
  rptHard : Bool
  /-- SEM.R (R333). -/
  semR : Half
  /-- TSQ port, result words and index (R334). -/
  tsqPort : Half
  tsqR : List Half
  tsqIdx : Nat
  /-- LUT table, key words and index, result, status (R335). -/
  lutTbl : Half
  lutK : List Half
  lutKIdx : Nat
  lutR : Half
  lutSt : Half
  cop : CopPort
  imgBase : Half
  hostBase : Half
  persArg : Half
deriving DecidableEq, Repr

/-- The session processor (13_session_isa.md). -/
structure Sp where
  /-- D0-D7, A0-A7, AC0, AC1, SK (R343). -/
  d : Tab Half
  a : Tab Half
  ac : Tab (BitVec 40)
  sk : Half
  pc : Half
  /-- SR (R344). -/
  sr : Half
  epc : Half
  esr : Half
  erpt : Half
  imask : Half
  ipend : Half
  /-- Reservation: space, word, SP cycle of LDRES in ns (R352). -/
  resv : Option (Space × Nat × Nat)
  /-- Repetitions left of the next instruction, REPI (R355). -/
  repLeft : Nat
  repI : Bool
  /-- Waiting in WAIT, suspended in ENDCYC (R349, R360). -/
  waiting : Bool
  susp : Bool
  cop : CopPort
  imgBase : Half
  hostBase : Half
  persArg : Half
deriving DecidableEq, Repr

/-- A force entry (R363): output, index, FMASK, FVAL. -/
structure Force where
  out : Bool
  idx : Nat
  mask : Half
  val : Half
deriving DecidableEq, Repr

/-- The interlock sequencer of an engine (R358-R364): first cycle after load or RUN; no ENDCYC since load; instant of the last
start, if a cycle has started; the cycle has overrun; the force entries with their number in the table; forces that the last
snapshot and the last publication applied; published words; start of a HOLD; a trigger firing that waits for its cycle. -/
structure Ilk where
  fresh : Bool
  first : Bool
  started : Option Nat
  overran : Bool
  forces : List (Nat × Force)
  inForces : List Force
  outForces : List Force
  pub : Tab Half
  holdAt : Option Nat
  fire : Bool
deriving DecidableEq, Repr

/-- A protocol engine (11_engines.md). -/
structure Engine where
  fp : Fp
  sp : Sp
  ilk : Ilk
  /-- Code bank and data bank (R292, R293, R296). -/
  code : Tab Half
  data : Tab Half
  /-- Data words with an uncorrectable error (R299, R316). -/
  badData : List Nat
  /-- The package in force (R307). -/
  pkg : Option Package
  /-- Contexts 0-15 (R302). -/
  ctx : Tab CopCtx
  /-- Semaphores (R333). -/
  sem : Word
  /-- Last watchdog kick, last restarts (R309, R312). -/
  kickAt : Nat
  trapAt : Nat
  restarts : List Nat
  /-- Receive queues 0-3, buffers in use, timestamps by handle with the frame's buffer (R331, R334). -/
  rxq : Tab (List RxDesc)
  used : List Half
  handles : Tab (TsRec × Half)
deriving DecidableEq, Repr

/-- A CAN transmit buffer's arbitration data stands in CAN_TXBUF; its state in CAN_TXSTAT. A CAN controller keeps its
receive FIFO, the pending mode and its wake state beside its registers (R369-R377). -/
structure Can where
  /-- Receive FIFO: frame, timestamp ns, filter (R370, R385). -/
  rx : List (CanFrame × Word × Nat)
  /-- The mode in effect; CAN_CTRL.MODE, as last written, takes effect at the next bus idle (R369). -/
  mode : Nat
  /-- Buffer aborted while ACTIVE (R370). -/
  abort : Option Nat
  /-- Wake not yet valid: start in CD0 cycles (R377). -/
  wakeAt : Option Nat
  /-- Transmit ring entries fetched (R371). -/
  txCons : Half
  /-- The instant from which a controller that left INIT takes part in the bus (R369). -/
  joinAt : Nat
deriving DecidableEq, Repr

/-- A frame of a published stream as it is built (R93, R94): smpSynch, and per ASDU its smpCnt and the value and quality of each
channel. -/
structure PubFrame where
  synch : Nat
  asdus : List (Nat × List (Word × Word))
deriving DecidableEq, Repr

/-- A published stream (R91-R94, R384): the instant of the last frame's last ASDU, as S x rate + k; when each ring entry was
written, in 2^-16 ns of device time; the key of a trigger firing whose entry is not yet written, and the engines that had lost a
word before it; the last frame built. -/
structure Pub where
  built : Option Nat
  wrote : Tab Nat
  fire : Option Nat
  ovf : List Nat
  last : Option PubFrame
deriving DecidableEq, Repr

/-- A Thicket engine beside its registers (R378-R384): STATE, SR, COUNT, OUT, FIFOs; running; steps until TICK is next true; a
trigger has fired since the previous step (R379); OVERFLOW since the previous firing of its published stream. -/
structure Tk where
  state : BitVec 6
  sr : Word
  count : Half
  out : Octet
  tx : List Word
  rx : List Word
  run : Bool
  tickLeft : Nat
  trig : Bool
  ovfSince : Bool
deriving DecidableEq, Repr

/-- A message or notice for an FD slot (R401, R404): TYPE, SEQ, words. -/
structure Msg where
  typ : Octet
  seq : Octet
  len : Nat
  words : List Word
deriving DecidableEq, Repr

/-- A request taken and not answered: TYPE, SEQ, LEN, and its octets if it lay in the host bank (R401, R404). -/
structure ReqMsg where
  typ : Octet
  seq : Octet
  len : Nat
  body : Option (List Octet)
deriving DecidableEq, Repr

/-- The host interface (15_host.md). -/
structure HostIf where
  /-- Enabled functions (R394, R416). -/
  en : List Nat
  /-- Functions in reset, with the start instant (R414). -/
  frst : Tab Nat
  /-- Functions in D3hot (R416). -/
  d3 : List Nat
  /-- Request taken and not answered, per channel (R404). -/
  taken : Tab ReqMsg
  /-- Replies and notices held for the FD slot, per channel (R406). -/
  out : Tab (List Msg)
  /-- Signalled events per vector that wait, key 64 x TID + vector (R409). -/
  sig : Tab Nat
  /-- Holdoff of each function: start, events counted (R410). -/
  hold : Tab (Nat × Nat)
  /-- MSI-X messages posted: function, vector (R409). -/
  posted : List (Nat × Nat)
  /-- Functions whose MSI-X Function Mask is set (R409). -/
  fmask : List Nat
  /-- Start of the pause of each port; whether it is a link loss (R413). -/
  pause : Tab (Nat × Bool)
  /-- PERST_N of each port is high, since when; training (R393). -/
  perst : Tab (Bool × Nat)
  /-- Last DMA writes to host memory, newest first, of the present command (R121, R245). -/
  dma : List Dma
  /-- DMA service: the function served last on each port, the deficit of each function in octets, its token bucket as an instant and
  tokens in 1/1000 bit, and until when a port's DMA waits under Toll (R411, R445). -/
  dmaTurn : Tab Nat
  deficit : Tab Nat
  bucket : Tab (Nat × Int)
  dmaHeld : Tab Nat
  /-- Next function served on each port by the message arbiter (R410). -/
  turn : Tab Nat
  /-- The host bank, bytes (R298, R396). -/
  bank : Tab Octet
deriving DecidableEq, Repr

/-- A Boxwood slot (R424-R426): key octets, TYPE, USAGE, PERSIST. -/
structure Key where
  key : List Octet
  typ : Nat
  usage : Nat
  persist : Bool
deriving DecidableEq, Repr

/-- The states of the TAP controller (R502, IEEE 1149.1). -/
inductive TapState where
  | reset | idle
  | selDr | capDr | shDr | ex1Dr | pauseDr | ex2Dr | updDr
  | selIr | capIr | shIr | ex1Ir | pauseIr | ex2Ir | updIr
deriving DecidableEq, Repr

/-- The TAP instruction in force (R431, R502): `other` is a code of its own, whose effect the manual does not give. -/
inductive TapInst where
  | idcode | bypass
  | other (k : Nat)
deriving DecidableEq, Repr

/-- The TAP (R502): controller, instruction, the shift paths of both registers from TDO's end on, the level of TRST_N. -/
structure Tap where
  st : TapState
  inst : TapInst
  ir : List Bool
  dr : List Bool
  trst : Bool
deriving DecidableEq, Repr

/-- The security block (16_security.md). -/
structure Sec where
  /-- Boxwood slots (R424). -/
  box : Tab Key
  /-- Fuses: blown bits per field, and as read at power-on (R422, R423). -/
  fuse : Tab (List Nat)
  fuseLatched : Tab (List Nat)
  /-- SVNs of the images in force (R423): 0 and 1 the steward firmware of East and West, 2 the manifest, 3 the settings, 4 and 5 the Thicket
  images of East and West, 8 + n the package of engine n. -/
  svn : Tab Nat
  /-- DRBG requests since the reseed, words consumed (R430). -/
  drbg : Nat
  /-- TRNG healthy (R430). -/
  trngOk : Bool
  /-- Debug unlocked (R431). -/
  unlocked : Bool
  /-- The nonce of the last challenge that no response has answered (R431). -/
  nonce : Option (List Octet)
  /-- The TAP (R502). -/
  tap : Tap
  /-- Transmit SAs whose threshold has been reported, and exhausted ones with whether a drop has been reported, key
  4 x uplink + AN (R428). -/
  thr : Tab Bool
  exh : Tab Bool
deriving DecidableEq, Repr

/-- A journal record (R461): the records of an accepted HEDGE_SET, or the engine and mode of an accepted ILK_CMD RUN or STOP, and its
HMAC. -/
structure JEntry where
  recs : List HedgeRec
  ilk : Option (Nat × Nat)
  tag : List Octet
deriving DecidableEq, Repr

/-- A half of the settings area beside its octets (R460, R461): what the full settings of its image or snapshot say, the MANIFEST_ID for which
a snapshot was written, and the journal, oldest record first. -/
structure SetHalf where
  set : SettingsImage
  snap : Option Word
  log : List JEntry
deriving DecidableEq, Repr

/-- The boot record and the update machinery (18_manifest_update.md). -/
structure Upd where
  /-- Boot record: the copy in use, SEQ, word 2, PREV (R457). -/
  copy : Nat
  seq : Word
  word2 : Word
  prev : Word
  /-- Open stage: channel, target, slot, next offset (R469). -/
  stage : Option (Nat × Nat × Nat × Nat)
  /-- Octets of the flash that are not erased (R456, R469). -/
  flash : Tab Octet
  /-- Targets whose images are staged, verified and not yet in force, each with its slot or half: 0 firmware, 1 manifest,
  2 settings (R469, R470). -/
  staged : List (Nat × Nat)
  /-- Settings of a SETTINGS_LOAD that wait for their T_apply (R469). -/
  setPend : Option SettingsImage
  /-- An activation is running: scope, phase (R469, R471). -/
  act : Option (Nat × Nat)
  /-- The wing of a WING activation; the deputy's wing of a DEVICE activation (R470, R471). -/
  actWing : Wing
  /-- Instant from which TRIAL counts (R466). -/
  trialAt : Nat
  /-- The settings half in use, what the halves hold, and the stored settings in force, if they are usable (R461, R462). -/
  half : Nat
  halves : Tab SetHalf
  stored : Option SettingsImage
  /-- What the sections of the manifest in each slot say (R458). -/
  mans : Tab Manifest
  /-- The manifest of a DEVICE activation in progress (R471). -/
  man : Option Manifest
  /-- Settings that the activation in progress brings with its manifest (R470). -/
  actSet : Option SettingsImage
  /-- Engines whose packages the activation in progress has loaded or refused (R310, R470). -/
  loaded : List Nat
  /-- Default settings in force (R462). -/
  defaulted : Bool
deriving DecidableEq, Repr

/-- The Toll governor (R445, R446). -/
structure Toll where
  /-- Power samples of 100 us, in mW, newest first (R445). -/
  samp : List Nat
  /-- Throttle steps in force, newest first; wall steps may repeat (R445). -/
  steps : List Nat
  lastTake : Nat
  lastRel : Nat
  /-- Since when every step is in force and the mean over CAP (R445). -/
  fullAt : Option Nat
  /-- Next log entry (R452). -/
  logIdx : Nat
  /-- POWER-FAIL tasks: next rank, done, skipped (R446). -/
  task : Nat
  done : BitVec 4
  skipped : BitVec 4
  /-- Since when VIN_OK has been high again in POWER-FAIL (R447). -/
  backAt : Option Nat
  /-- Every step applied by temperature (R481), by POWER-FAIL (R446). -/
  forced : Bool
deriving DecidableEq, Repr

/-- The safety monitor (19_safety.md). -/
structure Safe where
  /-- Consecutive out-of-limit windows per domain (R480). -/
  clk : Tab Nat
  /-- Instant of the last wing fault of each wing (R479). -/
  faultAt : Pair (Option Nat)
  /-- Directed check in progress since (R479). -/
  directed : Option Nat
  /-- 1oo2 override (R479). -/
  override : Bool
  /-- Temperature over Tmax + 10 since; all below Tmax - 5 since (R481). -/
  hotAt : Option Nat
  coolAt : Option Nat
  /-- An exclusion made for an activation (R477). -/
  actExcl : Pair Bool
deriving DecidableEq, Repr

/-- The retained memory (R450). -/
structure Mram where
  /-- Bytes (R450). -/
  mem : Tab Octet
  /-- Sequence number of the next event-log record, and of the reset history (R450). -/
  logSeq : Word
  logIdx : Nat
  histIdx : Nat
  /-- Ring-session counters, 0-3 (R202), those that cannot be written or read back (R203, R450); engine key epochs per slot (R308). -/
  session : Tab Word
  sessBad : List Nat
  /-- Slots whose key epoch cannot be advanced: the MRAM copies have no majority (R308, R465). -/
  epochBad : List Nat
  epoch : Tab Word
  /-- Sealed Boxwood slots (R425). -/
  sealed_ : Tab Key
  /-- Sealed slots whose record no longer passes its tag (R425). -/
  sealBad : List Nat
  /-- POWER-FAIL record: done, skipped, present (R446, R450). -/
  pf : Option (BitVec 4 × BitVec 4)
  /-- Last state record: the state and the previous one, if it is known; both copies fail their check (R444, R450, R465). -/
  stateRec : DevState × Option DevState
  stateBad : Bool
  /-- Boot-failure record: KIND and first failed check (R420). -/
  bootFail : Option (Nat × Nat)
deriving DecidableEq, Repr

/-- The state of the block. -/
structure State where
  /-- Commands that wait, first in, first out (the model's own). -/
  pending : List Instr
  /-- Counter of free values (the model's own, log entry 3). -/
  free : Nat
  /-- Register words that differ from their reset value's default (R2, R5, R8, R40, R397). -/
  regs : Tab Word
  clk : Clocks
  bus : Bus
  dev : Dev
  arb : Arb
  time : Time
  intake : Pair Intake
  wall : Pair Wall
  slice : Tab Slice
  hedge : Pair Hedge
  lease : Lease
  trip : Trip
  ring : Tab Ring
  bridge : Bridge
  sw : Switch
  eng : Tab Engine
  can : Tab Can
  tk : Tab Tk
  /-- Published streams PUB0-PUB63 (R91). -/
  pub : Tab Pub
  host : HostIf
  sec : Sec
  upd : Upd
  toll : Toll
  safe : Safe
  mram : Mram
  /-- What the applied manifest fixes and no register shows (R458). -/
  man : ManCfg
deriving DecidableEq, Repr

/-! The values at reset. The manual gives reset values to registers (their home is the register file, whose reset values
stand in RegMap); the rest is empty or zero, log entry 2. -/

def Clocks.zero : Clocks := ⟨0, 0, 0, 0, 0, 0, []⟩
def Bus.idle : Bus := ⟨0, .ok, []⟩
def Dev.zero : Dev :=
  { st := .boot, prev := .off, rst := false, rstEnd := 0, storms := [], storm := false, core := ⟨false, false⟩,
    stew := ⟨false, false⟩, vinOk := true, step := 1, stepAt := 0, since := 0, sel := true,
    manOk := false, manId := 0, pinsSet := false, pwrReq := true, wakeCyc := none, forcedLow := false,
    alarmLow := false, wakeN := none, suffixI := true, restarted := true, woke := false, stopping := false, diag := none, diagAt := 0 }
def Arb.zero : Arb :=
  { hbAt := ⟨0, 0⟩, hbSeq := ⟨0, 0⟩, sentAt := ⟨none, none⟩, beats := [], linkBeats := ⟨[], []⟩, linkNo := 0, linkAt := ⟨0, 0⟩, lost := ⟨false, false⟩, known := ⟨0, 0⟩,
    mute := ⟨false, false⟩, since := 0, window := none, claims := [], refusedAt := ⟨none, none⟩, iwlRefused := false,
    run := ⟨0, 0⟩, mirrorReq := ⟨none, none⟩, mirrored := ⟨false, false⟩, inflight := [],
    trainAt := 0, trained := false }
def Triple.zero : Triple := ⟨0, 0, 0, 0, 0⟩
def TsRec.zero : TsRec := ⟨0, 0, 0, 0⟩
def Trg.zero : Trg := ⟨false, 0, none, 0, false, 0⟩
def Time.zero : Time :=
  { act := ⟨.zero, .zero⟩, shadow := ⟨.zero, .zero⟩, nowLatch := [], ltcLatch := [], tripleLatch := [], strobe := none,
    advE := [], advW := [], overRun := 0, diffStep := none, lockRun := 0, unlockRun := 0, everLocked := false,
    holdAt := 0, annAt := 0, srcOk := false, gmClass := 0, syncWait := none, servoIn := none, tod := none, markAt := 0, irigPrev := none,
    ppsPrev := none, pps := none, ppsSec := 0, trg := [], cap := [], capOvf := [], tsq := [], held := [], transit := none,
    announce := [], sentSync := [], sentFu := [], sentAnn := [], tlv := [] }
def Stream.zero : Stream := ⟨none, 0, none, 0, 0, none, []⟩
def Intake.zero : Intake := ⟨[], [], [], [], 0⟩
def Sect.zero : Sect := ⟨[], none, none, 0, none, false, none, 0, [], []⟩
def Wall.zero : Wall := ⟨[], [], [], none, none, none⟩
def Slice.zero : Slice := ⟨[], 0, 0, true⟩
def Phasor.zero : Phasor := ⟨0, 0, false, true⟩
def Elem.zero : Elem := ⟨false, false, false, false, 0, 0, none, none, 0⟩
def Hedge.zero : Hedge :=
  { win := [], ph := [], hph := [], phLatch := [], freq := [], el := [], newSet := [], lastKey := [], own := [], sent := [], got := [], bad := [], good := [], chk := 0,
    snap := none, leaseHeld := false }
def Lease.zero : Lease := ⟨none, 0, 0, none, [], none, 0, 0⟩
def Target.zero : Target := ⟨false, false, 0⟩
def TripPub.zero : TripPub := ⟨0, 0, 0, 0, 0, 0, 0, false⟩
def Trip.zero : Trip := ⟨⟨0, 0⟩, ⟨0, 0⟩, [], [], [], [], [], [], [], false, ⟨0, 0⟩, ⟨0, 0⟩⟩
def RNode.zero : RNode := ⟨0, 0, none, 0, none⟩
def Lane.zero : Lane := ⟨0, none, none, 0, [], true, false, none, none, none, none, none, none, false, none, [], none⟩
def Ring.zero : Ring :=
  { cycle := 0, k := 0, auth := false, key := 0, rephase := 0, trgNext := none, trgLast := none,
    trgN := 0, trgPer := (0, 1), trgStop := false, notBefore := 0, bank := 0, swCnt := 0, retry := none, cut := false, frozen := [], tripRecs := [], cmdQ := [],
    wakeLeft := 0, busy := none, applyQ := [], head := .zero, tail := .zero, wrapTx := false, unwrapping := none,
    rrHead := 0, rrTail := 0, iso := none, isoWait := none, restored := [], banned := [], node := [], joins := [], sentE := [], rxd := [], fill := 0,
    latest := 1, aging := 2, bufCyc := [], rotated := true, echoId := 0, dying := 0, failNow := 0 }
def Bridge.zero : Bridge := ⟨[], [], [], [], [], [], [], [], [], [], [], [], [], []⟩
def Switch.zero : Switch :=
  { fdb := [], learn := [], queue := [], staged := [], wire := [], busyIn := [], grant := [], accept := [], pause := [], pfc := [],
    xoff := [], pol := [], credit := [], dup := [], nodes := [], proxy := [], nextId := 0, lastTx := none,
    cntLatch := [], pauseTx := [] }
def CopPort.zero : CopPort := ⟨0, 0, 0, [], 0, false, 0, [], 0, none⟩
def CopCtx.zero : CopCtx := ⟨none, [], false, 0, 0, 0⟩
def Cursor.zero : Cursor := ⟨0, 0, 0⟩
def Fp.zero : Fp :=
  { v := [], pc := 0, aluO := ⟨0, 0⟩, aluR := ⟨0, 0⟩, aluC := ⟨false, false⟩, shO := 0, shR := 0, cmpO := 0, cmpG := 0,
    grd := 0, cur := ⟨.zero, .zero⟩, crcSel := 0, crcV := 0, sum := 0, qin := [], qinIdx := 0, qout := [], qoutIdx := 0,
    done := [], rs := [], ien := 0, ipend := 0, epc := 0, erpt := 0, savG := 0, inEv := false, rptLeft := 0,
    rptHard := false, semR := 0, tsqPort := 0, tsqR := [], tsqIdx := 0, lutTbl := 0, lutK := [], lutKIdx := 0, lutR := 0,
    lutSt := 0, cop := .zero, imgBase := 0, hostBase := 0, persArg := 0 }
def Sp.zero : Sp :=
  { d := [], a := [], ac := [], sk := 0, pc := 0, sr := 0, epc := 0, esr := 0, erpt := 0, imask := 0, ipend := 0,
    resv := none, repLeft := 0, repI := false, waiting := false, susp := false, cop := .zero, imgBase := 0, hostBase := 0,
    persArg := 0 }
def Ilk.zero : Ilk := ⟨true, true, none, false, [], [], [], [], none, false⟩
def Engine.zero : Engine :=
  { fp := .zero, sp := .zero, ilk := .zero, code := [], data := [], badData := [], pkg := none, ctx := [], sem := 0,
    kickAt := 0, trapAt := 0, restarts := [], rxq := [], used := [], handles := [] }
def Can.zero : Can := ⟨[], 0, none, none, 0, 0⟩
def Pub.zero : Pub := ⟨none, [], none, [], none⟩
def Tk.zero : Tk := ⟨0, 0, 0, 0, [], [], false, 0, false, false⟩
def HostIf.zero : HostIf :=
  { en := [], frst := [], d3 := [], taken := [], out := [], sig := [], hold := [], posted := [], fmask := [], pause := [],
    perst := [], dma := [], dmaTurn := [], deficit := [], bucket := [], dmaHeld := [], turn := [], bank := [] }
def Tap.zero : Tap := ⟨.reset, .idcode, [], [], true⟩
def Sec.zero : Sec := ⟨[], [], [], [], 0, true, false, none, .zero, [], []⟩
def SettingsImage.zero : SettingsImage := ⟨[], [], (0, 0), (0, 0), (0, 0), []⟩
def SetHalf.zero : SetHalf := ⟨SettingsImage.zero, none, []⟩
def Upd.zero : Upd :=
  { copy := 1, seq := 0, word2 := 0, prev := 0, stage := none, flash := [], staged := [], setPend := none, act := none, actWing := .east,
    trialAt := 0, half := 0, halves := [], stored := none, mans := [], man := none, actSet := none, loaded := [], defaulted := false }
def Toll.zero : Toll := ⟨[], [], 0, 0, none, 0, 0, 0, 0, none, false⟩
def Safe.zero : Safe := ⟨[], ⟨none, none⟩, none, false, none, none, ⟨false, false⟩⟩
def Mram.zero : Mram := ⟨[], 1, 0, 0, [], [], [], [], [], [], none, (.off, none), false, none⟩
def ManCfg.empty : ManCfg :=
  { hostBifur := 0, totalVfs := [], vfBase := [], tenants := [], binds := [], routesLog := [], gsiFvE := 0, gsiFvW := 0,
    ilkFvE := 0, ilkFvW := 0, engBits := [], ilkMap := [], hcmdOwner := [], tripPubs := [], groupsE := [], groupsW := [],
    trE := [], trW := [], lockThr := 250, unlockThr := 1000, holdLimitS := 10, stepThr := 1000, oneStepPorts := [], ptpDomain := 0, syncNs := 1000000000, annNs := 3000000000,
    pairStreams := [], pubs := [], ringKey := [], nodeWords := [], spRings := [], spTags := [], tdMs := 100, packages := [], keyRoles := [], engineKeys := [], codes := [],
    canOwner := [], thicketOn := [], hops := [], slotSets := [], forget := [], vlans := [], staticFdb := [], linkLocal := none, supervision := none, drMax := [] }

/-- The contents of a manifest slot that holds none. -/
def Manifest.zero : Manifest := ⟨[], ManCfg.empty⟩

/-- The device after a power-on reset (R444, R454): in BOOT, at the first start-up step, every register at its reset
value, every memory, queue and table empty, nothing configured. -/
def State.reset : State :=
  { pending := [], free := 0, regs := [], clk := .zero, bus := .idle, dev := .zero, arb := .zero, time := .zero,
    intake := ⟨.zero, .zero⟩, wall := ⟨.zero, .zero⟩, slice := [], hedge := ⟨.zero, .zero⟩, lease := .zero, trip := .zero,
    ring := [], bridge := .zero, sw := .zero, eng := [], can := [], tk := [], pub := [], host := .zero, sec := .zero, upd := .zero,
    toll := .zero, safe := .zero, mram := .zero, man := ManCfg.empty }

end Sys2Proof.Machine
end

