-- ==== Sys2Proof/Machine/RegMap.lean ====
section
/-! DEFINITION. The host-view register map (R40, R397 and the register tables of each chapter): the address of every
register, and one table with the access, the reset value and the reset level of each. A register is addressed by its
offset in the owner BAR0; the function page of tenant t stands at 0x0200_0000 + 0x1_0000 t. -/

namespace Sys2Proof.Machine

/-- The lowest reset that restores a register (R8). -/
inductive Level where
  | p | s | c | k | f
deriving DecidableEq, Repr

/-- Who may write a register from the host: any function that reaches it, a holder of P_CFG, of P_SEC (R395). -/
inductive WPriv where
  | any | cfg | sec
deriving DecidableEq, Repr

/-- A row of the register map: base address, (stride, count) of each dimension, whether it lies in the function page,
the writable bits, the write-one-to-clear bits, the read-clears fields as masks, the reset value and level, whether it
belongs to the always-on domain, and the privilege a write needs. -/
structure RegRow where
  base : Nat
  dims : List (Nat × Nat)
  page : Bool
  rw : Nat
  w1c : Nat
  rc : List Nat
  reset : Nat
  lvl : Level
  aon : Bool
  priv : WPriv
deriving DecidableEq, Repr

/-- Start of the function page of a tenant in the model's register address space. -/
def fnPage (t : Nat) : Nat := 0x02000000 + 0x10000 * t


/-- ARB_STATUS (R36). -/
def Reg.ARB_STATUS : Nat := 0x1000000

/-- ARB_EPOCH (R37). -/
def Reg.ARB_EPOCH : Nat := 0x1000004

/-- IWL_STAT (R38). -/
def Reg.IWL_STAT : Nat := 0x1000008

/-- TIME_NOW_NS (R68). -/
def Reg.TIME_NOW_NS (w : Wing) : Nat := 0x200000 + 0x80000 * w.idx

/-- TIME_NOW_SEC_LO (R68). -/
def Reg.TIME_NOW_SEC_LO (w : Wing) : Nat := 0x200004 + 0x80000 * w.idx

/-- TIME_NOW_SEC_HI (R68). -/
def Reg.TIME_NOW_SEC_HI (w : Wing) : Nat := 0x200008 + 0x80000 * w.idx

/-- TIME_NOW_FRAC (R68). -/
def Reg.TIME_NOW_FRAC (w : Wing) : Nat := 0x20000c + 0x80000 * w.idx

/-- LTC_LO (R68). -/
def Reg.LTC_LO (w : Wing) : Nat := 0x200010 + 0x80000 * w.idx

/-- LTC_HI (R68). -/
def Reg.LTC_HI (w : Wing) : Nat := 0x200014 + 0x80000 * w.idx

/-- TIME_TRIPLE (R68 R505). -/
def Reg.TIME_TRIPLE (w : Wing) (i : Nat) : Nat := 0x200020 + 0x80000 * w.idx + 0x4 * i

/-- TRG_CTRL (R70). -/
def Reg.TRG_CTRL (w : Wing) (n : Nat) : Nat := 0x200100 + 0x80000 * w.idx + 0x40 * n

/-- TRG_START (R68). -/
def Reg.TRG_START (w : Wing) (n : Nat) (i : Nat) : Nat := 0x200104 + 0x80000 * w.idx + 0x40 * n + 0x4 * i

/-- TRG_PERIOD_NS (R68). -/
def Reg.TRG_PERIOD_NS (w : Wing) (n : Nat) : Nat := 0x200110 + 0x80000 * w.idx + 0x40 * n

/-- TRG_PERIOD_FRAC (R68). -/
def Reg.TRG_PERIOD_FRAC (w : Wing) (n : Nat) : Nat := 0x200114 + 0x80000 * w.idx + 0x40 * n

/-- TRG_COUNT (R68). -/
def Reg.TRG_COUNT (w : Wing) (n : Nat) : Nat := 0x200118 + 0x80000 * w.idx + 0x40 * n

/-- TRG_STAT (R68). -/
def Reg.TRG_STAT (w : Wing) (n : Nat) : Nat := 0x20011c + 0x80000 * w.idx + 0x40 * n

/-- TRG_WIDTH (R68). -/
def Reg.TRG_WIDTH (w : Wing) (n : Nat) : Nat := 0x200120 + 0x80000 * w.idx + 0x40 * n

/-- CAP_CTRL (R68). -/
def Reg.CAP_CTRL (w : Wing) (n : Nat) : Nat := 0x200400 + 0x80000 * w.idx + 0x20 * n

/-- CAP_FIFO (R65). -/
def Reg.CAP_FIFO (w : Wing) (n : Nat) (i : Nat) : Nat := 0x200404 + 0x80000 * w.idx + 0x20 * n + 0x4 * i

/-- CAP_STAT (R65). -/
def Reg.CAP_STAT (w : Wing) (n : Nat) : Nat := 0x200414 + 0x80000 * w.idx + 0x20 * n

/-- TIME_STATUS (R69). -/
def Reg.TIME_STATUS : Nat := 0x240000

/-- TIME_SERVO (R68). -/
def Reg.TIME_SERVO : Nat := 0x240004

/-- TIME_UTC (R68). -/
def Reg.TIME_UTC : Nat := 0x24000c

/-- TIME_WING_DIFF (R505). -/
def Reg.TIME_WING_DIFF : Nat := 0x240010

/-- TSQ_OVF (R68). -/
def Reg.TSQ_OVF (i : Nat) : Nat := 0x240020 + 0x4 * i

/-- TIME_PORT_STATE (R53). -/
def Reg.TIME_PORT_STATE (p : Nat) : Nat := 0x240100 + 0x4 * p

/-- TIME_PORT_LINKDLY (R68). -/
def Reg.TIME_PORT_LINKDLY (p : Nat) : Nat := 0x240200 + 0x4 * p

/-- TIME_PORT_DLY (R51). -/
def Reg.TIME_PORT_DLY (p : Nat) (i : Nat) : Nat := 0x240300 + 0x8 * p + 0x4 * i

/-- TIME_PTP_CNT (R68). -/
def Reg.TIME_PTP_CNT : Nat := 0x240500

/-- TIME_IRIG_CNT (R68). -/
def Reg.TIME_IRIG_CNT : Nat := 0x240504

/-- TSQ_LOST (R68). -/
def Reg.TSQ_LOST (p : Nat) : Nat := 0x240600 + 0x4 * p

/-- TSQ_ENTRY (R66). -/
def Reg.TSQ_ENTRY (p : Nat) (i : Nat) : Nat := 0x241000 + 0x10 * p + 0x4 * i

/-- INTAKE_CTRL (R96). -/
def Reg.INTAKE_CTRL (w : Wing) : Nat := 0x300000 + 0x80000 * w.idx

/-- INTAKE_STATUS (R97). -/
def Reg.INTAKE_STATUS (w : Wing) : Nat := 0x300004 + 0x80000 * w.idx

/-- INTAKE_CNT_UNKNOWN (R95). -/
def Reg.INTAKE_CNT_UNKNOWN (w : Wing) : Nat := 0x300010 + 0x80000 * w.idx

/-- INTAKE_CNT_OVR (R95). -/
def Reg.INTAKE_CNT_OVR (w : Wing) : Nat := 0x300014 + 0x80000 * w.idx

/-- INTAKE_CNT_FWD_TX (R95). -/
def Reg.INTAKE_CNT_FWD_TX (w : Wing) : Nat := 0x300018 + 0x80000 * w.idx

/-- INTAKE_CNT_FWD_DROP (R95). -/
def Reg.INTAKE_CNT_FWD_DROP (w : Wing) : Nat := 0x30001c + 0x80000 * w.idx

/-- STREAM_STAT (R98). -/
def Reg.STREAM_STAT (w : Wing) (s : Nat) : Nat := 0x301000 + 0x80000 * w.idx + 0x4 * s

/-- STREAM_ENTRY (R77). -/
def Reg.STREAM_ENTRY (w : Wing) (s : Nat) (i : Nat) : Nat := 0x310000 + 0x80000 * w.idx + 0x80 * s + 0x4 * i

/-- STREAM_CNT (R99). -/
def Reg.STREAM_CNT (w : Wing) (s : Nat) (i : Nat) : Nat := 0x320000 + 0x80000 * w.idx + 0x40 * s + 0x4 * i

/-- PUB_CFG (R95). -/
def Reg.PUB_CFG (p : Nat) (i : Nat) : Nat := 0x340000 + 0x100 * p + 0x4 * i

/-- PUB_WR (R95). -/
def Reg.PUB_WR (p : Nat) : Nat := 0x340040 + 0x100 * p

/-- PUB_RD (R95). -/
def Reg.PUB_RD (p : Nat) : Nat := 0x340044 + 0x100 * p

/-- PUB_CNT_SENT (R95). -/
def Reg.PUB_CNT_SENT (p : Nat) : Nat := 0x340048 + 0x100 * p

/-- PUB_CNT_UNDERRUN (R95). -/
def Reg.PUB_CNT_UNDERRUN (p : Nat) : Nat := 0x34004c + 0x100 * p

/-- PUB_CNT_STALE (R95). -/
def Reg.PUB_CNT_STALE (p : Nat) : Nat := 0x340050 + 0x100 * p

/-- WALL_STATUS (R126). -/
def Reg.WALL_STATUS (w : Wing) : Nat := 0x400000 + 0x80000 * w.idx

/-- WALL_LOAD (R126). -/
def Reg.WALL_LOAD (w : Wing) : Nat := 0x400004 + 0x80000 * w.idx

/-- WALL_CNT_QFULL (R126). -/
def Reg.WALL_CNT_QFULL (w : Wing) : Nat := 0x400008 + 0x80000 * w.idx

/-- WALL_SECT_CFG0 (R127). -/
def Reg.WALL_SECT_CFG0 (w : Wing) (n : Nat) : Nat := 0x400100 + 0x80000 * w.idx + 0x20 * n

/-- WALL_SECT_CFG1 (R126). -/
def Reg.WALL_SECT_CFG1 (w : Wing) (n : Nat) : Nat := 0x400104 + 0x80000 * w.idx + 0x20 * n

/-- WALL_SECT_CFG2 (R126). -/
def Reg.WALL_SECT_CFG2 (w : Wing) (n : Nat) : Nat := 0x400108 + 0x80000 * w.idx + 0x20 * n

/-- WALL_SECT_STAT (R128). -/
def Reg.WALL_SECT_STAT (w : Wing) (n : Nat) : Nat := 0x40010c + 0x80000 * w.idx + 0x20 * n

/-- WALL_SECT_LAST_SEC (R126). -/
def Reg.WALL_SECT_LAST_SEC (w : Wing) (n : Nat) : Nat := 0x400110 + 0x80000 * w.idx + 0x20 * n

/-- WALL_SECT_LAST_ROW (R126). -/
def Reg.WALL_SECT_LAST_ROW (w : Wing) (n : Nat) : Nat := 0x400114 + 0x80000 * w.idx + 0x20 * n

/-- WALL_SECT_ROW_SEQ (R126). -/
def Reg.WALL_SECT_ROW_SEQ (w : Wing) (n : Nat) : Nat := 0x400118 + 0x80000 * w.idx + 0x20 * n

/-- WALL_CNT (R129). -/
def Reg.WALL_CNT (w : Wing) (n : Nat) (i : Nat) : Nat := 0x400400 + 0x80000 * w.idx + 0x20 * n + 0x4 * i

/-- SLICE_DESC (R118). -/
def Reg.SLICE_DESC (w : Wing) (n : Nat) (i : Nat) : Nat := 0x401000 + 0x80000 * w.idx + 0x40 * n + 0x4 * i

/-- HEDGE_STATUS (R157). -/
def Reg.HEDGE_STATUS (w : Wing) : Nat := 0x500000 + 0x80000 * w.idx

/-- HEDGE_FREQ (R157). -/
def Reg.HEDGE_FREQ (w : Wing) (t : Nat) : Nat := 0x500010 + 0x80000 * w.idx + 0x4 * t

/-- HEDGE_SNAP_TIME (R157). -/
def Reg.HEDGE_SNAP_TIME (w : Wing) (i : Nat) : Nat := 0x500100 + 0x80000 * w.idx + 0x4 * i

/-- HEDGE_CH_CFG (R157). -/
def Reg.HEDGE_CH_CFG (w : Wing) (c : Nat) (i : Nat) : Nat := 0x501000 + 0x80000 * w.idx + 0x8 * c + 0x4 * i

/-- HEDGE_GRP_CFG (R157). -/
def Reg.HEDGE_GRP_CFG (w : Wing) (g : Nat) (i : Nat) : Nat := 0x503000 + 0x80000 * w.idx + 0x10 * g + 0x4 * i

/-- HEDGE_EL_CFG (R137). -/
def Reg.HEDGE_EL_CFG (w : Wing) (e : Nat) (i : Nat) : Nat := 0x504000 + 0x80000 * w.idx + 0x10 * e + 0x4 * i

/-- HEDGE_EL_SET (R151). -/
def Reg.HEDGE_EL_SET (w : Wing) (e : Nat) (i : Nat) : Nat := 0x504800 + 0x80000 * w.idx + 0x10 * e + 0x4 * i

/-- HEDGE_EL_STAT (R158). -/
def Reg.HEDGE_EL_STAT (w : Wing) (e : Nat) : Nat := 0x505000 + 0x80000 * w.idx + 0x4 * e

/-- HEDGE_PH (R157). -/
def Reg.HEDGE_PH (w : Wing) (c : Nat) (i : Nat) : Nat := 0x506000 + 0x80000 * w.idx + 0x8 * c + 0x4 * i

/-- HEDGE_PH_SNAP (R157). -/
def Reg.HEDGE_PH_SNAP (w : Wing) (c : Nat) (i : Nat) : Nat := 0x508000 + 0x80000 * w.idx + 0x8 * c + 0x4 * i

/-- HEDGE_CMP_STAT (R159). -/
def Reg.HEDGE_CMP_STAT (w : Wing) : Nat := 0x50a000 + 0x80000 * w.idx

/-- HEDGE_CMP_DIFF (R157). -/
def Reg.HEDGE_CMP_DIFF (w : Wing) : Nat := 0x50a004 + 0x80000 * w.idx

/-- HEDGE_LEASE (R157). -/
def Reg.HEDGE_LEASE : Nat := 0x540000

/-- HEDGE_LEASE_CFG (R157). -/
def Reg.HEDGE_LEASE_CFG : Nat := 0x540004

/-- HEDGE_VOTE_CFG (R157). -/
def Reg.HEDGE_VOTE_CFG : Nat := 0x540010

/-- HEDGE_LINE (R157). -/
def Reg.HEDGE_LINE (w : Wing) : Nat := 0x540014 + 0x4 * w.idx

/-- HEDGE_LINE_VOTED (R157). -/
def Reg.HEDGE_LINE_VOTED : Nat := 0x54001c

/-- HEDGE_EXCLUDE (R157). -/
def Reg.HEDGE_EXCLUDE : Nat := 0x540020

/-- TRIP_STATUS (R177). -/
def Reg.TRIP_STATUS : Nat := 0x600000

/-- TRIP_CTRL (R177). -/
def Reg.TRIP_CTRL : Nat := 0x600004

/-- TRIP_HCMD_STATE (R177). -/
def Reg.TRIP_HCMD_STATE : Nat := 0x600010

/-- TRIP_PIN_STAT (R178). -/
def Reg.TRIP_PIN_STAT (w : Wing) : Nat := 0x600020 + 0x4 * w.idx

/-- TRIP_GSI_STAT (R177). -/
def Reg.TRIP_GSI_STAT (w : Wing) (i : Nat) : Nat := 0x600040 + 0x8 * w.idx + 0x4 * i

/-- TRIP_WING_CFG (R177). -/
def Reg.TRIP_WING_CFG (w : Wing) : Nat := 0x600060 + 0x4 * w.idx

/-- TRIP_BFI_SEL (R177). -/
def Reg.TRIP_BFI_SEL (w : Wing) : Nat := 0x600080 + 0x4 * w.idx

/-- TRIP_TGT_STATE (R177). -/
def Reg.TRIP_TGT_STATE (i : Nat) : Nat := 0x600100 + 0x4 * i

/-- TRIP_CMD_ACCEPTED (R177). -/
def Reg.TRIP_CMD_ACCEPTED : Nat := 0x600200

/-- TRIP_CMD_REFUSED_CNT (R177). -/
def Reg.TRIP_CMD_REFUSED_CNT : Nat := 0x600204

/-- TRIP_TGT_CFG (R177). -/
def Reg.TRIP_TGT_CFG (t : Nat) (i : Nat) : Nat := 0x610000 + 0x40 * t + 0x4 * i

/-- CQ_RING_CTRL (R228). -/
def Reg.CQ_RING_CTRL (r : Nat) : Nat := 0x700000 + 0x10000 * r

/-- CQ_RING_STAT (R229). -/
def Reg.CQ_RING_STAT (r : Nat) : Nat := 0x700004 + 0x10000 * r

/-- CQ_RING_CMD (R230). -/
def Reg.CQ_RING_CMD (r : Nat) : Nat := 0x700008 + 0x10000 * r

/-- CQ_CMD_RESULT (R230). -/
def Reg.CQ_CMD_RESULT (r : Nat) : Nat := 0x70000c + 0x10000 * r

/-- CQ_CMD_ARG (R228). -/
def Reg.CQ_CMD_ARG (r : Nat) : Nat := 0x700010 + 0x10000 * r

/-- CQ_WAKE (R228). -/
def Reg.CQ_WAKE (r : Nat) (i : Nat) : Nat := 0x700014 + 0x10000 * r + 0x4 * i

/-- CQ_T0 (R228). -/
def Reg.CQ_T0 (r : Nat) (i : Nat) : Nat := 0x700020 + 0x10000 * r + 0x4 * i

/-- CQ_PERIOD_NS (R228). -/
def Reg.CQ_PERIOD_NS (r : Nat) : Nat := 0x70002c + 0x10000 * r

/-- CQ_PERIOD_FRAC (R228). -/
def Reg.CQ_PERIOD_FRAC (r : Nat) : Nat := 0x700030 + 0x10000 * r

/-- CQ_APPLY_LEAD (R228). -/
def Reg.CQ_APPLY_LEAD (r : Nat) : Nat := 0x700034 + 0x10000 * r

/-- CQ_WRAP_BULK (R228). -/
def Reg.CQ_WRAP_BULK (r : Nat) : Nat := 0x700038 + 0x10000 * r

/-- CQ_CYCLE_LO (R228). -/
def Reg.CQ_CYCLE_LO (r : Nat) : Nat := 0x700040 + 0x10000 * r

/-- CQ_CYCLE_HI (R228). -/
def Reg.CQ_CYCLE_HI (r : Nat) : Nat := 0x700044 + 0x10000 * r

/-- CQ_EPOCH (R228). -/
def Reg.CQ_EPOCH (r : Nat) : Nat := 0x700048 + 0x10000 * r

/-- CQ_SESSION (R228). -/
def Reg.CQ_SESSION (r : Nat) : Nat := 0x70004c + 0x10000 * r

/-- CQ_CNT (R232). -/
def Reg.CQ_CNT (r : Nat) (j : Nat) : Nat := 0x700100 + 0x10000 * r + 0x4 * j

/-- CQ_NODE_STAT (R231). -/
def Reg.CQ_NODE_STAT (r : Nat) (n : Nat) : Nat := 0x700400 + 0x10000 * r + 0x8 * n

/-- CQ_NODE_DEFER (R228). -/
def Reg.CQ_NODE_DEFER (r : Nat) (n : Nat) : Nat := 0x700404 + 0x10000 * r + 0x8 * n

/-- CQ_SCHED (R207). -/
def Reg.CQ_SCHED (r : Nat) (b : Nat) (i : Nat) (j : Nat) : Nat := 0x701000 + 0x10000 * r + 0x1000 * b + 0x8 * i + 0x4 * j

/-- CQ_NODE_LIST (R228). -/
def Reg.CQ_NODE_LIST (r : Nat) (n : Nat) (i : Nat) : Nat := 0x703000 + 0x10000 * r + 0x10 * n + 0x4 * i

/-- BR_QUOTA (R253). -/
def Reg.BR_QUOTA (t : Nat) : Nat := 0x800000 + 0x4 * t

/-- BR_NODE_Q (R253). -/
def Reg.BR_NODE_Q (n : Nat) : Nat := 0x801000 + 0x4 * n

/-- MAC_CFG (R286). -/
def Reg.MAC_CFG (p : Nat) : Nat := 0xa00000 + 0x1000 * p

/-- MAC_STAT (R287). -/
def Reg.MAC_STAT (p : Nat) : Nat := 0xa00004 + 0x1000 * p

/-- MAC_PAUSE_CFG (R285). -/
def Reg.MAC_PAUSE_CFG (p : Nat) : Nat := 0xa00008 + 0x1000 * p

/-- MAC_PAUSE_LEFT (R285). -/
def Reg.MAC_PAUSE_LEFT (p : Nat) : Nat := 0xa0000c + 0x1000 * p

/-- MAC_QRATE (R285). -/
def Reg.MAC_QRATE (p : Nat) (q : Nat) : Nat := 0xa00010 + 0x1000 * p + 0x4 * q

/-- MAC_CNT_HALF (R285). -/
def Reg.MAC_CNT_HALF (p : Nat) (i : Nat) : Nat := 0xa00040 + 0x1000 * p + 0x4 * i

/-- MAC_CNT (R284). -/
def Reg.MAC_CNT (p : Nat) (j : Nat) (i : Nat) : Nat := 0xa00100 + 0x1000 * p + 0x8 * j + 0x4 * i

/-- SW_STATUS (R288). -/
def Reg.SW_STATUS : Nat := 0x900000

/-- SW_SHARED_SIZE (R288). -/
def Reg.SW_SHARED_SIZE : Nat := 0x900004

/-- SW_SHARED_FREE (R288). -/
def Reg.SW_SHARED_FREE : Nat := 0x900008

/-- SW_SHARED_LOW (R288). -/
def Reg.SW_SHARED_LOW : Nat := 0x90000c

/-- SW_ALPHA (R288). -/
def Reg.SW_ALPHA (q : Nat) : Nat := 0x900010 + 0x4 * q

/-- SW_AGE_CFG (R288). -/
def Reg.SW_AGE_CFG : Nat := 0x900040

/-- SW_MOVES (R288). -/
def Reg.SW_MOVES : Nat := 0x900048

/-- SW_LEARN_FULL (R288). -/
def Reg.SW_LEARN_FULL : Nat := 0x90004c

/-- SW_LEARN_OVR (R288). -/
def Reg.SW_LEARN_OVR : Nat := 0x900050

/-- SW_MOVE_BLOCKED (R288). -/
def Reg.SW_MOVE_BLOCKED : Nat := 0x900054

/-- SW_TRIP_SUPERSEDED (R288). -/
def Reg.SW_TRIP_SUPERSEDED : Nat := 0x900058

/-- SW_FDB_KEY (R288). -/
def Reg.SW_FDB_KEY (i : Nat) : Nat := 0x900060 + 0x4 * i

/-- SW_FDB_RESULT (R288). -/
def Reg.SW_FDB_RESULT : Nat := 0x900068

/-- SW_PORT_CFG (R288). -/
def Reg.SW_PORT_CFG (s : Nat) : Nat := 0x900100 + 0x80 * s

/-- SW_PORT_PMAP (R288). -/
def Reg.SW_PORT_PMAP (s : Nat) : Nat := 0x900104 + 0x80 * s

/-- SW_PORT_MIN (R288). -/
def Reg.SW_PORT_MIN (s : Nat) (i : Nat) : Nat := 0x900108 + 0x80 * s + 0x4 * i

/-- SW_POL (R288). -/
def Reg.SW_POL (s : Nat) (i : Nat) : Nat := 0x900118 + 0x80 * s + 0x4 * i

/-- SW_POL_DROP (R288). -/
def Reg.SW_POL_DROP (s : Nat) (i : Nat) : Nat := 0x900124 + 0x80 * s + 0x4 * i

/-- SW_ADMIT_DROP (R288). -/
def Reg.SW_ADMIT_DROP (s : Nat) (q : Nat) : Nat := 0x900130 + 0x80 * s + 0x4 * q

/-- SW_QLEN (R288). -/
def Reg.SW_QLEN (s : Nat) (q : Nat) : Nat := 0x900150 + 0x80 * s + 0x4 * q

/-- SW_PAIR_CFG (R289). -/
def Reg.SW_PAIR_CFG (k : Nat) : Nat := 0x902000 + 0x40 * k

/-- SW_PAIR_SEQ (R288). -/
def Reg.SW_PAIR_SEQ (k : Nat) : Nat := 0x902004 + 0x40 * k

/-- SW_PAIR_CNT (R288). -/
def Reg.SW_PAIR_CNT (k : Nat) (i : Nat) : Nat := 0x902008 + 0x40 * k + 0x4 * i

/-- SW_PAIR_NODES (R288). -/
def Reg.SW_PAIR_NODES (k : Nat) : Nat := 0x902024 + 0x40 * k

/-- PE_STAT (R317). -/
def Reg.PE_STAT (n : Nat) : Nat := 0xb00000 + 0x1000 * n

/-- PE_TRAP (R318). -/
def Reg.PE_TRAP (n : Nat) : Nat := 0xb00004 + 0x1000 * n

/-- PE_PERS_CAUSE (R316). -/
def Reg.PE_PERS_CAUSE (n : Nat) : Nat := 0xb00008 + 0x1000 * n

/-- PE_ECC_CE (R316). -/
def Reg.PE_ECC_CE (n : Nat) : Nat := 0xb0000c + 0x1000 * n

/-- PE_RESTARTS (R316). -/
def Reg.PE_RESTARTS (n : Nat) : Nat := 0xb00010 + 0x1000 * n

/-- PE_DBANK_ADDR (R316). -/
def Reg.PE_DBANK_ADDR (n : Nat) : Nat := 0xb00020 + 0x1000 * n

/-- PE_DBANK_DATA (R316). -/
def Reg.PE_DBANK_DATA (n : Nat) : Nat := 0xb00024 + 0x1000 * n

/-- PE_CTX (R316). -/
def Reg.PE_CTX (n : Nat) (x : Nat) : Nat := 0xb00040 + 0x1000 * n + 0x4 * x

/-- PE_CTX_CNT (R316). -/
def Reg.PE_CTX_CNT (n : Nat) (x : Nat) (i : Nat) : Nat := 0xb00080 + 0x1000 * n + 0x8 * x + 0x4 * i

/-- PE_CL_STAT (R316). -/
def Reg.PE_CL_STAT (c : Nat) : Nat := 0xb40000 + 0x100 * c

/-- PE_CL_REFUSED (R316). -/
def Reg.PE_CL_REFUSED (c : Nat) : Nat := 0xb40004 + 0x100 * c

/-- LEASE_CMD (R150). -/
def Reg.LEASE_CMD (t : Nat) : Nat := fnPage t + 0x500

/-- LEASE_STAT (R150). -/
def Reg.LEASE_STAT (t : Nat) : Nat := fnPage t + 0x504

/-- TRIP_CMD_MASK (R177). -/
def Reg.TRIP_CMD_MASK (t : Nat) : Nat := fnPage t + 0x400

/-- TRIP_CMD_CTL (R177). -/
def Reg.TRIP_CMD_CTL (t : Nat) : Nat := fnPage t + 0x404

/-- TRIP_CMD_GO (R177). -/
def Reg.TRIP_CMD_GO (t : Nat) : Nat := fnPage t + 0x408

/-- TRIP_CMD_STAT (R177). -/
def Reg.TRIP_CMD_STAT (t : Nat) : Nat := fnPage t + 0x40c

/-- BR_SQ_BASE (R251). -/
def Reg.BR_SQ_BASE (t : Nat) (i : Nat) : Nat := fnPage t + 0x4000 + 0x4 * i

/-- BR_SQ_CFG (R251). -/
def Reg.BR_SQ_CFG (t : Nat) : Nat := fnPage t + 0x4008

/-- BR_SQ_TAIL (R251). -/
def Reg.BR_SQ_TAIL (t : Nat) : Nat := fnPage t + 0x400c

/-- BR_SQ_HEAD (R251). -/
def Reg.BR_SQ_HEAD (t : Nat) : Nat := fnPage t + 0x4010

/-- BR_CQ_BASE (R251). -/
def Reg.BR_CQ_BASE (t : Nat) (i : Nat) : Nat := fnPage t + 0x4014 + 0x4 * i

/-- BR_CQ_CFG (R251). -/
def Reg.BR_CQ_CFG (t : Nat) : Nat := fnPage t + 0x401c

/-- BR_CQ_HEAD (R251). -/
def Reg.BR_CQ_HEAD (t : Nat) : Nat := fnPage t + 0x4020

/-- BR_CQ_TAIL (R251). -/
def Reg.BR_CQ_TAIL (t : Nat) : Nat := fnPage t + 0x4024

/-- BR_ERR (R252). -/
def Reg.BR_ERR (t : Nat) : Nat := fnPage t + 0x4030

/-- BR_SNAP (R251). -/
def Reg.BR_SNAP (t : Nat) : Nat := fnPage t + 0x4034

/-- BR_SNAP_STAT (R251). -/
def Reg.BR_SNAP_STAT (t : Nat) : Nat := fnPage t + 0x4038

/-- BR_OUT_HOLD (R251). -/
def Reg.BR_OUT_HOLD (t : Nat) : Nat := fnPage t + 0x403c

/-- BR_LOST_WR (R251). -/
def Reg.BR_LOST_WR (t : Nat) : Nat := fnPage t + 0x4040

/-- BR_DISCARD (R251). -/
def Reg.BR_DISCARD (t : Nat) : Nat := fnPage t + 0x4044

/-- BR_TAGS (R251). -/
def Reg.BR_TAGS (t : Nat) : Nat := fnPage t + 0x4048

/-- SLICE_BASE (R119). -/
def Reg.SLICE_BASE (t : Nat) (g : Nat) (i : Nat) : Nat := fnPage t + 0x4800 + 0x20 * g + 0x4 * i

/-- SLICE_CFG (R120). -/
def Reg.SLICE_CFG (t : Nat) (g : Nat) : Nat := fnPage t + 0x4808 + 0x20 * g

/-- SLICE_WB (R119). -/
def Reg.SLICE_WB (t : Nat) (g : Nat) (i : Nat) : Nat := fnPage t + 0x480c + 0x20 * g + 0x4 * i

/-- SLICE_CONS (R119). -/
def Reg.SLICE_CONS (t : Nat) (g : Nat) : Nat := fnPage t + 0x4814 + 0x20 * g

/-- SLICE_PROD (R119). -/
def Reg.SLICE_PROD (t : Nat) (g : Nat) : Nat := fnPage t + 0x4818 + 0x20 * g

/-- SLICE_DROPS (R119). -/
def Reg.SLICE_DROPS (t : Nat) (g : Nat) : Nat := fnPage t + 0x481c + 0x20 * g

/-- ILK_STAT (R367). -/
def Reg.ILK_STAT (n : Nat) : Nat := 0xb00200 + 0x1000 * n

/-- ILK_CFG (R366). -/
def Reg.ILK_CFG (n : Nat) : Nat := 0xb00204 + 0x1000 * n

/-- ILK_CYC_LAST (R366). -/
def Reg.ILK_CYC_LAST (n : Nat) : Nat := 0xb00208 + 0x1000 * n

/-- ILK_CYC_MAX (R366). -/
def Reg.ILK_CYC_MAX (n : Nat) : Nat := 0xb0020c + 0x1000 * n

/-- ILK_OVERRUNS (R366). -/
def Reg.ILK_OVERRUNS (n : Nat) : Nat := 0xb00210 + 0x1000 * n

/-- ILK_SKIPPED (R366). -/
def Reg.ILK_SKIPPED (n : Nat) : Nat := 0xb00214 + 0x1000 * n

/-- ILK_TORN (R366). -/
def Reg.ILK_TORN (n : Nat) : Nat := 0xb00218 + 0x1000 * n

/-- CAN_CTRL (R386). -/
def Reg.CAN_CTRL (x : Nat) : Nat := 0xc00000 + 0x10000 * x

/-- CAN_STAT (R387). -/
def Reg.CAN_STAT (x : Nat) : Nat := 0xc00004 + 0x10000 * x

/-- CAN_BTR_NOM (R385). -/
def Reg.CAN_BTR_NOM (x : Nat) : Nat := 0xc00008 + 0x10000 * x

/-- CAN_BTR_DATA (R385). -/
def Reg.CAN_BTR_DATA (x : Nat) : Nat := 0xc0000c + 0x10000 * x

/-- CAN_XCVR (R385). -/
def Reg.CAN_XCVR (x : Nat) : Nat := 0xc00010 + 0x10000 * x

/-- CAN_ACK_RUN (R385). -/
def Reg.CAN_ACK_RUN (x : Nat) : Nat := 0xc00014 + 0x10000 * x

/-- CAN_RX_OVF_CNT (R385). -/
def Reg.CAN_RX_OVF_CNT (x : Nat) : Nat := 0xc00018 + 0x10000 * x

/-- CAN_TDC (R385). -/
def Reg.CAN_TDC (x : Nat) : Nat := 0xc0001c + 0x10000 * x

/-- CAN_TXREQ (R385). -/
def Reg.CAN_TXREQ (x : Nat) (i : Nat) : Nat := 0xc00020 + 0x10000 * x + 0x4 * i

/-- CAN_TXABORT (R385). -/
def Reg.CAN_TXABORT (x : Nat) (i : Nat) : Nat := 0xc00028 + 0x10000 * x + 0x4 * i

/-- CAN_RXPOP (R385). -/
def Reg.CAN_RXPOP (x : Nat) : Nat := 0xc00030 + 0x10000 * x

/-- CAN_FILTER (R385). -/
def Reg.CAN_FILTER (x : Nat) (f : Nat) (i : Nat) : Nat := 0xc00100 + 0x10000 * x + 0x8 * f + 0x4 * i

/-- CAN_TXSTAT (R385). -/
def Reg.CAN_TXSTAT (x : Nat) (i : Nat) : Nat := 0xc00400 + 0x10000 * x + 0x4 * i

/-- CAN_TXBUF (R385). -/
def Reg.CAN_TXBUF (x : Nat) (i : Nat) (j : Nat) : Nat := 0xc01000 + 0x10000 * x + 0xa0 * i + 0x4 * j

/-- CAN_RXHEAD (R385). -/
def Reg.CAN_RXHEAD (x : Nat) (j : Nat) : Nat := 0xc08000 + 0x10000 * x + 0x4 * j

/-- TK_CTRL (R389). -/
def Reg.TK_CTRL (n : Nat) : Nat := 0xd00000 + 0x2000 * n

/-- TK_CFG (R389). -/
def Reg.TK_CFG (n : Nat) : Nat := 0xd00004 + 0x2000 * n

/-- TK_COND_SEL (R389). -/
def Reg.TK_COND_SEL (n : Nat) : Nat := 0xd00008 + 0x2000 * n

/-- TK_PIN_SEL (R389). -/
def Reg.TK_PIN_SEL (n : Nat) (i : Nat) : Nat := 0xd0000c + 0x2000 * n + 0x4 * i

/-- TK_WRAP (R389). -/
def Reg.TK_WRAP (n : Nat) : Nat := 0xd00014 + 0x2000 * n

/-- TK_STEP (R389). -/
def Reg.TK_STEP (n : Nat) : Nat := 0xd00018 + 0x2000 * n

/-- TK_CNT (R389). -/
def Reg.TK_CNT (n : Nat) : Nat := 0xd0001c + 0x2000 * n

/-- TK_SR (R389). -/
def Reg.TK_SR (n : Nat) : Nat := 0xd00020 + 0x2000 * n

/-- TK_STAT (R390). -/
def Reg.TK_STAT (n : Nat) : Nat := 0xd00024 + 0x2000 * n

/-- TK_TXFIFO (R389). -/
def Reg.TK_TXFIFO (n : Nat) : Nat := 0xd00028 + 0x2000 * n

/-- TK_RXFIFO (R389). -/
def Reg.TK_RXFIFO (n : Nat) : Nat := 0xd0002c + 0x2000 * n

/-- TK_LUT (R389). -/
def Reg.TK_LUT (n : Nat) (i : Nat) : Nat := 0xd01000 + 0x2000 * n + 0x4 * i

/-- HOST_STATUS (R417). -/
def Reg.HOST_STATUS : Nat := 0xe00000

/-- HOST_PORT_STAT (R417). -/
def Reg.HOST_PORT_STAT (n : Nat) : Nat := 0xe00010 + 0x4 * n

/-- HOST_FLR_TID (R417). -/
def Reg.HOST_FLR_TID : Nat := 0xe00020

/-- HOST_FN_CFG (R417). -/
def Reg.HOST_FN_CFG (t : Nat) (i : Nat) : Nat := 0xe10000 + 0x10 * t + 0x4 * i

/-- ER_ROUTE (R408). -/
def Reg.ER_ROUTE (e : Nat) (d : Nat) : Nat := 0xe20000 + 0x10 * e + 0x4 * d

/-- ER_PEND (R417). -/
def Reg.ER_PEND (i : Nat) : Nat := 0xe30000 + 0x4 * i

/-- HOST_MB_BIND (R405). -/
def Reg.HOST_MB_BIND (c : Nat) : Nat := 0xe50000 + 0x4 * c

/-- MB_INT (R403). -/
def Reg.MB_INT (c : Nat) (i : Nat) : Nat := 0x1f00000 + 0x40 * c + 0x4 * i

/-- HOST_BIND_LOCK (R405). -/
def Reg.HOST_BIND_LOCK : Nat := 0xe51000

/-- TK_OUT_MAP (R389). -/
def Reg.TK_OUT_MAP (n : Nat) (b : Nat) : Nat := 0xd00040 + 0x2000 * n + 0x4 * b

/-- CAN_WAKE_CFG (R388). -/
def Reg.CAN_WAKE_CFG (x : Nat) : Nat := 0xc80000 + 0x40 * x

/-- CAN_WAKE_ID (R388). -/
def Reg.CAN_WAKE_ID (x : Nat) (i : Nat) : Nat := 0xc80004 + 0x40 * x + 0x4 * i

/-- CAN_WAKE_STAT (R388). -/
def Reg.CAN_WAKE_STAT (x : Nat) : Nat := 0xc8001c + 0x40 * x

/-- SEC_STATUS (R432). -/
def Reg.SEC_STATUS : Nat := 0xf00000

/-- SEC_SVN (R432). -/
def Reg.SEC_SVN : Nat := 0xf00004

/-- SEC_EUI (R432). -/
def Reg.SEC_EUI (i : Nat) : Nat := 0xf00010 + 0x4 * i

/-- SEC_SLOT (R432). -/
def Reg.SEC_SLOT (k : Nat) : Nat := 0xf00100 + 0x4 * k

/-- MSEC_TX_CTRL (R433). -/
def Reg.MSEC_TX_CTRL (u : Nat) : Nat := 0xf10000 + 0x1000 * u

/-- MSEC_TXSA (R432). -/
def Reg.MSEC_TXSA (u : Nat) (a : Nat) (i : Nat) : Nat := 0xf10010 + 0x1000 * u + 0x20 * a + 0x4 * i

/-- MSEC_RXSC (R432). -/
def Reg.MSEC_RXSC (u : Nat) (c : Nat) (i : Nat) : Nat := 0xf10100 + 0x1000 * u + 0x40 * c + 0x4 * i

/-- MSEC_TX_EXH_DROP (R428). -/
def Reg.MSEC_TX_EXH_DROP (u : Nat) : Nat := 0xf10800 + 0x1000 * u

/-- MSEC_RX_DROP (R427). -/
def Reg.MSEC_RX_DROP (u : Nat) : Nat := 0xf10804 + 0x1000 * u

/-- SYS_ID (R452). -/
def Reg.SYS_ID : Nat := 0x100000

/-- SYS_STATE (R452). -/
def Reg.SYS_STATE : Nat := 0x100004

/-- SYS_CMD (R453). -/
def Reg.SYS_CMD : Nat := 0x100008

/-- SYS_CMD_RESULT (R452). -/
def Reg.SYS_CMD_RESULT : Nat := 0x10000c

/-- SYS_RESET_CAUSE (R454). -/
def Reg.SYS_RESET_CAUSE : Nat := 0x100010

/-- SYS_PWR (R452). -/
def Reg.SYS_PWR : Nat := 0x100020

/-- TOLL_CFG (R452). -/
def Reg.TOLL_CFG : Nat := 0x100100

/-- TOLL_STAT (R452). -/
def Reg.TOLL_STAT : Nat := 0x100104

/-- TOLL_POWER (R452). -/
def Reg.TOLL_POWER : Nat := 0x100108

/-- TOLL_ENERGY (R452). -/
def Reg.TOLL_ENERGY : Nat := 0x10010c

/-- TOLL_PF_RESULT (R452). -/
def Reg.TOLL_PF_RESULT : Nat := 0x100110

/-- TOLL_HOLDUP (R452). -/
def Reg.TOLL_HOLDUP (i : Nat) : Nat := 0x100120 + 0x4 * i

/-- TOLL_LOG (R452). -/
def Reg.TOLL_LOG (i : Nat) : Nat := 0x100140 + 0x4 * i

/-- RTC_SEC (R452). -/
def Reg.RTC_SEC (i : Nat) : Nat := 0x100200 + 0x4 * i

/-- RTC_ALARM (R452). -/
def Reg.RTC_ALARM : Nat := 0x100208

/-- BKUP (R451). -/
def Reg.BKUP (k : Nat) : Nat := 0x100300 + 0x4 * k

/-- SYS_WAKE_CFG (R452). -/
def Reg.SYS_WAKE_CFG : Nat := 0x100400

/-- SYS_WAKE_CAUSE (R452). -/
def Reg.SYS_WAKE_CAUSE : Nat := 0x100404

/-- MAN_STAT (R468). -/
def Reg.MAN_STAT : Nat := 0x100500

/-- SAFE_ALARM (R485). -/
def Reg.SAFE_ALARM : Nat := 0x1000100

/-- SAFE_CE_CNT (R484). -/
def Reg.SAFE_CE_CNT : Nat := 0x1000104

/-- SAFE_TEMP_RD (R484). -/
def Reg.SAFE_TEMP_RD : Nat := 0x1000108

/-- SAFE_CLK_FAULT (R484). -/
def Reg.SAFE_CLK_FAULT : Nat := 0x100010c

/-- SAFE_LAST (R484). -/
def Reg.SAFE_LAST : Nat := 0x1000110

/-- FN_ID (R397). -/
def Reg.FN_ID (t : Nat) : Nat := fnPage t + 0x0

/-- FN_STAT (R398). -/
def Reg.FN_STAT (t : Nat) : Nat := fnPage t + 0x4

/-- FN_PRIV (R397). -/
def Reg.FN_PRIV (t : Nat) : Nat := fnPage t + 0x8

/-- FN_HB (R397). -/
def Reg.FN_HB (t : Nat) (i : Nat) : Nat := fnPage t + 0xc + 0x4 * i

/-- FN_MOD (R410). -/
def Reg.FN_MOD (t : Nat) : Nat := fnPage t + 0x14

/-- FN_QOS (R397). -/
def Reg.FN_QOS (t : Nat) : Nat := fnPage t + 0x18

/-- FN_MB_RBUF (R397). -/
def Reg.FN_MB_RBUF (t : Nat) : Nat := fnPage t + 0x1c

/-- MB_TD_PTR (R399). -/
def Reg.MB_TD_PTR (t : Nat) (j : Nat) (i : Nat) : Nat := fnPage t + 0x1000 + 0x200 * j + 0x4 * i

/-- MB_TD_ATTR (R399). -/
def Reg.MB_TD_ATTR (t : Nat) (j : Nat) : Nat := fnPage t + 0x1008 + 0x200 * j

/-- MB_TD_CTL (R399). -/
def Reg.MB_TD_CTL (t : Nat) (j : Nat) : Nat := fnPage t + 0x100c + 0x200 * j

/-- MB_FD (R399). -/
def Reg.MB_FD (t : Nat) (j : Nat) (i : Nat) : Nat := fnPage t + 0x1010 + 0x200 * j + 0x4 * i

/-- MB_STAT (R400). -/
def Reg.MB_STAT (t : Nat) (j : Nat) : Nat := fnPage t + 0x1020 + 0x200 * j

/-- MSIX_TABLE (R397). -/
def Reg.MSIX_TABLE (t : Nat) (v : Nat) (i : Nat) : Nat := fnPage t + 0x2000 + 0x10 * v + 0x4 * i

/-- MSIX_PBA (R397). -/
def Reg.MSIX_PBA (t : Nat) (i : Nat) : Nat := fnPage t + 0x3000 + 0x4 * i


/-- Part 1 of the register map. -/
def regTable1 : List RegRow := [
  ⟨0x1000000, [], false, 0x0, 0x0, [0xff0000, 0xffff], 0x0, .s, false, .any⟩,
  ⟨0x1000004, [], false, 0x0, 0x0, [], 0x0, .s, false, .any⟩,
  ⟨0x1000008, [], false, 0x0, 0x0, [0xffff], 0x0, .s, false, .any⟩,
  ⟨0x200000, [(0x80000, 2)], false, 0x0, 0x0, [], 0x0, .s, false, .any⟩,
  ⟨0x200004, [(0x80000, 2)], false, 0x0, 0x0, [], 0x0, .s, false, .any⟩,
  ⟨0x200008, [(0x80000, 2)], false, 0x0, 0x0, [], 0x0, .s, false, .any⟩,
  ⟨0x20000c, [(0x80000, 2)], false, 0x0, 0x0, [], 0x0, .s, false, .any⟩,
  ⟨0x200010, [(0x80000, 2)], false, 0x0, 0x0, [], 0x0, .s, false, .any⟩,
  ⟨0x200014, [(0x80000, 2)], false, 0x0, 0x0, [], 0x0, .s, false, .any⟩,
  ⟨0x200020, [(0x80000, 2), (0x4, 6)], false, 0x0, 0x0, [], 0x0, .s, false, .any⟩,
  ⟨0x200100, [(0x80000, 2), (0x40, 8)], false, 0xff800000, 0x0, [], 0x0, .s, false, .any⟩,
  ⟨0x200104, [(0x80000, 2), (0x40, 8), (0x4, 3)], false, 0xffffffff, 0x0, [], 0x0, .s, false, .any⟩,
  ⟨0x200110, [(0x80000, 2), (0x40, 8)], false, 0xffffffff, 0x0, [], 0x0, .s, false, .any⟩,
  ⟨0x200114, [(0x80000, 2), (0x40, 8)], false, 0xffffffff, 0x0, [], 0x0, .s, false, .any⟩,
  ⟨0x200118, [(0x80000, 2), (0x40, 8)], false, 0xffffffff, 0x0, [], 0x0, .s, false, .any⟩,
  ⟨0x20011c, [(0x80000, 2), (0x40, 8)], false, 0x0, 0x0, [0xffffffff], 0x0, .s, false, .any⟩,
  ⟨0x200120, [(0x80000, 2), (0x40, 8)], false, 0xffffffff, 0x0, [], 0x0, .s, false, .any⟩,
  ⟨0x200400, [(0x80000, 2), (0x20, 4)], false, 0xffffffff, 0x0, [], 0x0, .s, false, .any⟩,
  ⟨0x200404, [(0x80000, 2), (0x20, 4), (0x4, 4)], false, 0x0, 0x0, [], 0x0, .s, false, .any⟩,
  ⟨0x200414, [(0x80000, 2), (0x20, 4)], false, 0x0, 0x0, [0xffffffff], 0x0, .s, false, .any⟩]

/-- Part 2 of the register map. -/
def regTable2 : List RegRow := [
  ⟨0x240000, [], false, 0x0, 0x1000000, [], 0x7f0000, .s, false, .any⟩,
  ⟨0x240004, [], false, 0xffffffff, 0x0, [], 0x0, .s, false, .cfg⟩,
  ⟨0x24000c, [], false, 0x0, 0x0, [], 0x0, .s, false, .any⟩,
  ⟨0x240010, [], false, 0x0, 0x0, [], 0x0, .s, false, .any⟩,
  ⟨0x240020, [(0x4, 2)], false, 0x0, 0xffffffff, [], 0x0, .s, false, .any⟩,
  ⟨0x240100, [(0x4, 40)], false, 0xffffffff, 0x0, [], 0x0, .s, false, .cfg⟩,
  ⟨0x240200, [(0x4, 40)], false, 0x0, 0x0, [], 0x0, .s, false, .any⟩,
  ⟨0x240300, [(0x8, 40), (0x4, 2)], false, 0xffffffff, 0x0, [], 0x0, .s, false, .any⟩,
  ⟨0x240500, [], false, 0x0, 0x0, [0xffff0000, 0xffff], 0x0, .s, false, .any⟩,
  ⟨0x240504, [], false, 0x0, 0x0, [0xffff], 0x0, .s, false, .any⟩,
  ⟨0x240600, [(0x4, 40)], false, 0x0, 0x0, [0xffffffff], 0x0, .s, false, .any⟩,
  ⟨0x241000, [(0x10, 40), (0x4, 4)], false, 0x0, 0x0, [], 0x0, .s, false, .any⟩,
  ⟨0x300000, [(0x80000, 2)], false, 0x40000000, 0x0, [], 0x0, .s, false, .cfg⟩,
  ⟨0x300004, [(0x80000, 2)], false, 0x0, 0x0, [], 0x0, .s, false, .any⟩,
  ⟨0x300010, [(0x80000, 2)], false, 0x0, 0x0, [0xffffffff], 0x0, .s, false, .any⟩,
  ⟨0x300014, [(0x80000, 2)], false, 0x0, 0x0, [0xffffffff], 0x0, .s, false, .any⟩,
  ⟨0x300018, [(0x80000, 2)], false, 0x0, 0x0, [0xffffffff], 0x0, .s, false, .any⟩,
  ⟨0x30001c, [(0x80000, 2)], false, 0x0, 0x0, [0xffffffff], 0x0, .s, false, .any⟩,
  ⟨0x301000, [(0x80000, 2), (0x4, 512)], false, 0x0, 0x1ff00000, [], 0x0, .s, false, .cfg⟩,
  ⟨0x310000, [(0x80000, 2), (0x80, 512), (0x4, 32)], false, 0x0, 0x0, [], 0x0, .s, false, .any⟩]

/-- Part 3 of the register map. -/
def regTable3 : List RegRow := [
  ⟨0x320000, [(0x80000, 2), (0x40, 512), (0x4, 16)], false, 0x0, 0x0, [0xffffffff], 0x0, .s, false, .any⟩,
  ⟨0x340000, [(0x100, 64), (0x4, 16)], false, 0x0, 0x0, [], 0x0, .s, false, .any⟩,
  ⟨0x340040, [(0x100, 64)], false, 0xf, 0x0, [], 0x0, .s, false, .cfg⟩,
  ⟨0x340044, [(0x100, 64)], false, 0x0, 0x0, [], 0x0, .s, false, .any⟩,
  ⟨0x340048, [(0x100, 64)], false, 0x0, 0x0, [0xffffffff], 0x0, .s, false, .any⟩,
  ⟨0x34004c, [(0x100, 64)], false, 0x0, 0x0, [0xffffffff], 0x0, .s, false, .any⟩,
  ⟨0x340050, [(0x100, 64)], false, 0x0, 0x0, [0xffffffff], 0x0, .s, false, .any⟩,
  ⟨0x400000, [(0x80000, 2)], false, 0x0, 0x0, [], 0x0, .s, false, .any⟩,
  ⟨0x400004, [(0x80000, 2)], false, 0x0, 0x0, [], 0x0, .s, false, .any⟩,
  ⟨0x400008, [(0x80000, 2)], false, 0x0, 0x0, [0xffffffff], 0x0, .s, false, .any⟩,
  ⟨0x400100, [(0x80000, 2), (0x20, 8)], false, 0x0, 0x0, [], 0x0, .s, false, .any⟩,
  ⟨0x400104, [(0x80000, 2), (0x20, 8)], false, 0x0, 0x0, [], 0x0, .s, false, .any⟩,
  ⟨0x400108, [(0x80000, 2), (0x20, 8)], false, 0x0, 0x0, [], 0x0, .s, false, .any⟩,
  ⟨0x40010c, [(0x80000, 2), (0x20, 8)], false, 0x0, 0x0, [], 0x0, .s, false, .any⟩,
  ⟨0x400110, [(0x80000, 2), (0x20, 8)], false, 0x0, 0x0, [], 0x0, .s, false, .any⟩,
  ⟨0x400114, [(0x80000, 2), (0x20, 8)], false, 0x0, 0x0, [], 0x0, .s, false, .any⟩,
  ⟨0x400118, [(0x80000, 2), (0x20, 8)], false, 0x0, 0x0, [], 0x0, .s, false, .any⟩,
  ⟨0x400400, [(0x80000, 2), (0x20, 8), (0x4, 8)], false, 0x0, 0x0, [0xffffffff], 0x0, .s, false, .any⟩,
  ⟨0x401000, [(0x80000, 2), (0x40, 64), (0x4, 16)], false, 0x0, 0x0, [], 0x0, .s, false, .any⟩,
  ⟨0x500000, [(0x80000, 2)], false, 0x0, 0x0, [], 0x0, .s, false, .any⟩]

/-- Part 4 of the register map. -/
def regTable4 : List RegRow := [
  ⟨0x500010, [(0x80000, 2), (0x4, 8)], false, 0x0, 0x0, [], 0x0, .s, false, .any⟩,
  ⟨0x500100, [(0x80000, 2), (0x4, 3)], false, 0x0, 0x0, [], 0x0, .s, false, .any⟩,
  ⟨0x501000, [(0x80000, 2), (0x8, 1024), (0x4, 2)], false, 0x0, 0x0, [], 0x0, .s, false, .any⟩,
  ⟨0x503000, [(0x80000, 2), (0x10, 256), (0x4, 4)], false, 0x0, 0x0, [], 0x0, .s, false, .any⟩,
  ⟨0x504000, [(0x80000, 2), (0x10, 128), (0x4, 4)], false, 0x0, 0x0, [], 0x0, .s, false, .any⟩,
  ⟨0x504800, [(0x80000, 2), (0x10, 128), (0x4, 4)], false, 0x0, 0x0, [], 0x0, .s, false, .any⟩,
  ⟨0x505000, [(0x80000, 2), (0x4, 128)], false, 0x0, 0x6000000, [], 0x0, .s, false, .any⟩,
  ⟨0x506000, [(0x80000, 2), (0x8, 1024), (0x4, 2)], false, 0x0, 0x0, [], 0x0, .s, false, .any⟩,
  ⟨0x508000, [(0x80000, 2), (0x8, 1024), (0x4, 2)], false, 0x0, 0x0, [], 0x0, .s, false, .any⟩,
  ⟨0x50a000, [(0x80000, 2)], false, 0x0, 0x40000000, [], 0x0, .s, false, .any⟩,
  ⟨0x50a004, [(0x80000, 2)], false, 0x0, 0x0, [0xffffffff], 0x0, .s, false, .any⟩,
  ⟨0x540000, [], false, 0x0, 0x0, [], 0x0, .s, false, .any⟩,
  ⟨0x540004, [], false, 0x0, 0x0, [], 0x0, .s, false, .any⟩,
  ⟨0x540010, [], false, 0x0, 0x0, [], 0x0, .s, false, .any⟩,
  ⟨0x540014, [(0x4, 2)], false, 0x0, 0x0, [], 0x0, .s, false, .any⟩,
  ⟨0x54001c, [], false, 0x0, 0x0, [], 0x0, .s, false, .any⟩,
  ⟨0x540020, [], false, 0x0, 0x0, [], 0x0, .s, false, .any⟩,
  ⟨0x600000, [], false, 0x0, 0x0, [], 0x0, .s, false, .any⟩,
  ⟨0x600004, [], false, 0x80000000, 0x0, [], 0x0, .s, false, .cfg⟩,
  ⟨0x600010, [], false, 0x0, 0x0, [], 0x0, .s, false, .any⟩]

/-- Part 5 of the register map. -/
def regTable5 : List RegRow := [
  ⟨0x600020, [(0x4, 2)], false, 0x0, 0xff0000, [], 0x0, .s, false, .cfg⟩,
  ⟨0x600040, [(0x8, 2), (0x4, 2)], false, 0x0, 0x0, [], 0x0, .s, false, .any⟩,
  ⟨0x600060, [(0x4, 2)], false, 0x0, 0x0, [], 0x0, .s, false, .any⟩,
  ⟨0x600080, [(0x4, 2)], false, 0x0, 0x0, [], 0x0, .s, false, .any⟩,
  ⟨0x600100, [(0x4, 25)], false, 0x0, 0x0, [], 0x0, .s, false, .any⟩,
  ⟨0x600200, [], false, 0x0, 0x0, [0xffffffff], 0x0, .s, false, .any⟩,
  ⟨0x600204, [], false, 0x0, 0x0, [0xffffffff], 0x0, .s, false, .any⟩,
  ⟨0x610000, [(0x40, 784), (0x4, 12)], false, 0x0, 0x0, [], 0x0, .s, false, .any⟩,
  ⟨0x700000, [(0x10000, 4)], false, 0x0, 0x0, [], 0x0, .s, false, .any⟩,
  ⟨0x700004, [(0x10000, 4)], false, 0x0, 0x1000000, [], 0x3ff000, .s, false, .any⟩,
  ⟨0x700008, [(0x10000, 4)], false, 0x0, 0x0, [], 0x0, .s, false, .any⟩,
  ⟨0x70000c, [(0x10000, 4)], false, 0x0, 0x0, [], 0x0, .s, false, .any⟩,
  ⟨0x700010, [(0x10000, 4)], false, 0xffffffff, 0x0, [], 0x0, .s, false, .cfg⟩,
  ⟨0x700014, [(0x10000, 4), (0x4, 3)], false, 0xffffffff, 0x0, [], 0x0, .s, false, .cfg⟩,
  ⟨0x700020, [(0x10000, 4), (0x4, 3)], false, 0x0, 0x0, [], 0x0, .s, false, .any⟩,
  ⟨0x70002c, [(0x10000, 4)], false, 0x0, 0x0, [], 0x0, .s, false, .any⟩,
  ⟨0x700030, [(0x10000, 4)], false, 0x0, 0x0, [], 0x0, .s, false, .any⟩,
  ⟨0x700034, [(0x10000, 4)], false, 0x0, 0x0, [], 0x0, .s, false, .any⟩,
  ⟨0x700038, [(0x10000, 4)], false, 0x0, 0x0, [], 0x0, .s, false, .any⟩,
  ⟨0x700040, [(0x10000, 4)], false, 0x0, 0x0, [], 0x0, .s, false, .any⟩]

/-- Part 6 of the register map. -/
def regTable6 : List RegRow := [
  ⟨0x700044, [(0x10000, 4)], false, 0x0, 0x0, [], 0x0, .s, false, .any⟩,
  ⟨0x700048, [(0x10000, 4)], false, 0x0, 0x0, [], 0x0, .s, false, .any⟩,
  ⟨0x70004c, [(0x10000, 4)], false, 0x0, 0x0, [], 0x0, .s, false, .any⟩,
  ⟨0x700100, [(0x10000, 4), (0x4, 8)], false, 0x0, 0x0, [0xffffffff], 0x0, .s, false, .any⟩,
  ⟨0x700400, [(0x10000, 4), (0x8, 16)], false, 0x0, 0x3000000, [], 0x0, .s, false, .any⟩,
  ⟨0x700404, [(0x10000, 4), (0x8, 16)], false, 0x0, 0x0, [0xffffffff], 0x0, .s, false, .any⟩,
  ⟨0x701000, [(0x10000, 4), (0x1000, 2), (0x8, 512), (0x4, 2)], false, 0x0, 0x0, [], 0x0, .s, false, .any⟩,
  ⟨0x703000, [(0x10000, 4), (0x10, 16), (0x4, 3)], false, 0x0, 0x0, [], 0x0, .s, false, .any⟩,
  ⟨0x800000, [(0x4, 288)], false, 0x0, 0x0, [], 0x0, .s, false, .any⟩,
  ⟨0x801000, [(0x4, 64)], false, 0x0, 0x0, [], 0x0, .s, false, .any⟩,
  ⟨0xa00000, [(0x1000, 40)], false, 0x0, 0x0, [], 0x5f2, .s, false, .any⟩,
  ⟨0xa00004, [(0x1000, 40)], false, 0x0, 0xe0000, [], 0x60000000, .s, false, .any⟩,
  ⟨0xa00008, [(0x1000, 40)], false, 0x0, 0x0, [], 0x0, .s, false, .any⟩,
  ⟨0xa0000c, [(0x1000, 40)], false, 0x0, 0x0, [], 0x0, .s, false, .any⟩,
  ⟨0xa00010, [(0x1000, 40), (0x4, 8)], false, 0x0, 0x0, [], 0x0, .s, false, .any⟩,
  ⟨0xa00040, [(0x1000, 40), (0x4, 2)], false, 0x0, 0xffffffff, [], 0x0, .s, false, .any⟩,
  ⟨0xa00100, [(0x1000, 40), (0x8, 33), (0x4, 2)], false, 0x0, 0x0, [], 0x0, .s, false, .any⟩,
  ⟨0x900000, [], false, 0x0, 0x0, [], 0x0, .s, false, .any⟩,
  ⟨0x900004, [], false, 0x0, 0x0, [], 0x0, .s, false, .any⟩,
  ⟨0x900008, [], false, 0x0, 0x0, [], 0x0, .s, false, .any⟩]

/-- Part 7 of the register map. -/
def regTable7 : List RegRow := [
  ⟨0x90000c, [], false, 0x0, 0x0, [0x7ffff], 0x0, .s, false, .any⟩,
  ⟨0x900010, [(0x4, 8)], false, 0x0, 0x0, [], 0x0, .s, false, .any⟩,
  ⟨0x900040, [], false, 0x0, 0x0, [], 0x0, .s, false, .any⟩,
  ⟨0x900048, [], false, 0x0, 0x0, [0xffffffff], 0x0, .s, false, .any⟩,
  ⟨0x90004c, [], false, 0x0, 0x0, [0xffffffff], 0x0, .s, false, .any⟩,
  ⟨0x900050, [], false, 0x0, 0x0, [0xffffffff], 0x0, .s, false, .any⟩,
  ⟨0x900054, [], false, 0x0, 0x0, [0xffffffff], 0x0, .s, false, .any⟩,
  ⟨0x900058, [], false, 0x0, 0x0, [0xffffffff], 0x0, .s, false, .any⟩,
  ⟨0x900060, [(0x4, 2)], false, 0xffffffff, 0x0, [], 0x0, .s, false, .any⟩,
  ⟨0x900068, [], false, 0x0, 0x0, [], 0x0, .s, false, .any⟩,
  ⟨0x900100, [(0x80, 52)], false, 0x0, 0x0, [], 0x0, .s, false, .any⟩,
  ⟨0x900104, [(0x80, 52)], false, 0x0, 0x0, [], 0x0, .s, false, .any⟩,
  ⟨0x900108, [(0x80, 52), (0x4, 4)], false, 0x0, 0x0, [], 0x0, .s, false, .any⟩,
  ⟨0x900118, [(0x80, 52), (0x4, 3)], false, 0x0, 0x0, [], 0x0, .s, false, .any⟩,
  ⟨0x900124, [(0x80, 52), (0x4, 3)], false, 0x0, 0x0, [0xffffffff], 0x0, .s, false, .any⟩,
  ⟨0x900130, [(0x80, 52), (0x4, 8)], false, 0x0, 0x0, [0xffffffff], 0x0, .s, false, .any⟩,
  ⟨0x900150, [(0x80, 52), (0x4, 8)], false, 0x0, 0x0, [], 0x0, .s, false, .any⟩,
  ⟨0x902000, [(0x40, 8)], false, 0x0, 0x0, [], 0xfc00, .s, false, .any⟩,
  ⟨0x902004, [(0x40, 8)], false, 0x0, 0x0, [], 0x0, .s, false, .any⟩,
  ⟨0x902008, [(0x40, 8), (0x4, 7)], false, 0x0, 0x0, [0xffffffff], 0x0, .s, false, .any⟩]

/-- Part 8 of the register map. -/
def regTable8 : List RegRow := [
  ⟨0x902024, [(0x40, 8)], false, 0x0, 0x0, [], 0x0, .s, false, .any⟩,
  ⟨0xb00000, [(0x1000, 32)], false, 0x0, 0x0, [], 0x0, .k, false, .any⟩,
  ⟨0xb00004, [(0x1000, 32)], false, 0x0, 0x0, [], 0x0, .k, false, .any⟩,
  ⟨0xb00008, [(0x1000, 32)], false, 0x0, 0x0, [], 0x0, .k, false, .any⟩,
  ⟨0xb0000c, [(0x1000, 32)], false, 0x0, 0x0, [0xffffffff], 0x0, .k, false, .any⟩,
  ⟨0xb00010, [(0x1000, 32)], false, 0x0, 0x0, [0xffffffff], 0x0, .k, false, .any⟩,
  ⟨0xb00020, [(0x1000, 32)], false, 0xffff, 0x0, [], 0x0, .k, false, .any⟩,
  ⟨0xb00024, [(0x1000, 32)], false, 0x0, 0x0, [], 0x0, .k, false, .any⟩,
  ⟨0xb00040, [(0x1000, 32), (0x4, 16)], false, 0x0, 0x0, [], 0x0, .s, false, .any⟩,
  ⟨0xb00080, [(0x1000, 32), (0x8, 16), (0x4, 2)], false, 0x0, 0x0, [], 0x0, .s, false, .any⟩,
  ⟨0xb40000, [(0x100, 8)], false, 0x0, 0x0, [], 0x0, .s, false, .any⟩,
  ⟨0xb40004, [(0x100, 8)], false, 0x0, 0x0, [0xffffffff], 0x0, .s, false, .any⟩,
  ⟨0x500, [], true, 0x0, 0x0, [], 0x0, .f, false, .any⟩,
  ⟨0x504, [], true, 0x0, 0x0, [], 0x0, .f, false, .any⟩,
  ⟨0x400, [], true, 0xffffffff, 0x0, [], 0x0, .f, false, .any⟩,
  ⟨0x404, [], true, 0xf000ffff, 0x0, [], 0x0, .f, false, .any⟩,
  ⟨0x408, [], true, 0x0, 0x0, [], 0x0, .f, false, .any⟩,
  ⟨0x40c, [], true, 0x0, 0x0, [], 0x0, .f, false, .any⟩,
  ⟨0x4000, [(0x4, 2)], true, 0xffffffff, 0x0, [], 0x0, .f, false, .any⟩,
  ⟨0x4008, [], true, 0x8000000f, 0x0, [], 0x0, .f, false, .any⟩]

/-- Part 9 of the register map. -/
def regTable9 : List RegRow := [
  ⟨0x400c, [], true, 0xffffffff, 0x0, [], 0x0, .f, false, .any⟩,
  ⟨0x4010, [], true, 0x0, 0x0, [], 0x0, .f, false, .any⟩,
  ⟨0x4014, [(0x4, 2)], true, 0xffffffff, 0x0, [], 0x0, .f, false, .any⟩,
  ⟨0x401c, [], true, 0x9fc0000f, 0x0, [], 0x0, .f, false, .any⟩,
  ⟨0x4020, [], true, 0xffffffff, 0x0, [], 0x0, .f, false, .any⟩,
  ⟨0x4024, [], true, 0x0, 0x0, [], 0x0, .f, false, .any⟩,
  ⟨0x4030, [], true, 0x0, 0xfc000000, [], 0x0, .f, false, .any⟩,
  ⟨0x4034, [], true, 0x8000003f, 0x0, [], 0x0, .f, false, .any⟩,
  ⟨0x4038, [], true, 0x0, 0x80000000, [], 0x0, .f, false, .any⟩,
  ⟨0x403c, [], true, 0x8000003f, 0x0, [], 0x0, .f, false, .any⟩,
  ⟨0x4040, [], true, 0x0, 0x0, [0xffffffff], 0x0, .f, false, .any⟩,
  ⟨0x4044, [], true, 0x0, 0x0, [0xffffffff], 0x0, .f, false, .any⟩,
  ⟨0x4048, [], true, 0x0, 0x0, [], 0x0, .f, false, .any⟩,
  ⟨0x4800, [(0x20, 128), (0x4, 2)], true, 0xffffffff, 0x0, [], 0x0, .f, false, .any⟩,
  ⟨0x4808, [(0x20, 128)], true, 0x9fc0000f, 0x0, [], 0x0, .f, false, .any⟩,
  ⟨0x480c, [(0x20, 128), (0x4, 2)], true, 0xffffffff, 0x0, [], 0x0, .f, false, .any⟩,
  ⟨0x4814, [(0x20, 128)], true, 0xffffffff, 0x0, [], 0x0, .f, false, .any⟩,
  ⟨0x4818, [(0x20, 128)], true, 0x0, 0x0, [], 0x0, .f, false, .any⟩,
  ⟨0x481c, [(0x20, 128)], true, 0x0, 0x0, [0xffffffff], 0x0, .f, false, .any⟩,
  ⟨0xb00200, [(0x1000, 32)], false, 0x0, 0x0, [], 0x0, .k, false, .any⟩]

/-- Part 10 of the register map. -/
def regTable10 : List RegRow := [
  ⟨0xb00204, [(0x1000, 32)], false, 0x0, 0x0, [], 0x0, .k, false, .any⟩,
  ⟨0xb00208, [(0x1000, 32)], false, 0x0, 0x0, [], 0x0, .k, false, .any⟩,
  ⟨0xb0020c, [(0x1000, 32)], false, 0x0, 0x0, [0xffff], 0x0, .k, false, .any⟩,
  ⟨0xb00210, [(0x1000, 32)], false, 0x0, 0x0, [0xffffffff], 0x0, .k, false, .any⟩,
  ⟨0xb00214, [(0x1000, 32)], false, 0x0, 0x0, [0xffffffff], 0x0, .k, false, .any⟩,
  ⟨0xb00218, [(0x1000, 32)], false, 0x0, 0x0, [0xffffffff], 0x0, .k, false, .any⟩,
  ⟨0xc00000, [(0x10000, 8)], false, 0xf400ffff, 0x0, [], 0x2001, .s, false, .cfg⟩,
  ⟨0xc00004, [(0x10000, 8)], false, 0x0, 0x1e000000, [], 0x0, .s, false, .cfg⟩,
  ⟨0xc00008, [(0x10000, 8)], false, 0xffff7f7f, 0x0, [], 0x0, .s, false, .cfg⟩,
  ⟨0xc0000c, [(0x10000, 8)], false, 0x9f1f0f0f, 0x0, [], 0x0, .s, false, .cfg⟩,
  ⟨0xc00010, [(0x10000, 8)], false, 0x3, 0x0, [], 0x0, .s, false, .cfg⟩,
  ⟨0xc00014, [(0x10000, 8)], false, 0x0, 0x0, [], 0x0, .s, false, .cfg⟩,
  ⟨0xc00018, [(0x10000, 8)], false, 0x0, 0x0, [0xffffffff], 0x0, .s, false, .cfg⟩,
  ⟨0xc0001c, [(0x10000, 8)], false, 0x7f7f, 0x0, [], 0x0, .s, false, .cfg⟩,
  ⟨0xc00020, [(0x10000, 8), (0x4, 2)], false, 0x0, 0x0, [], 0x0, .s, false, .cfg⟩,
  ⟨0xc00028, [(0x10000, 8), (0x4, 2)], false, 0x0, 0x0, [], 0x0, .s, false, .cfg⟩,
  ⟨0xc00030, [(0x10000, 8)], false, 0x0, 0x0, [], 0x0, .s, false, .cfg⟩,
  ⟨0xc00100, [(0x10000, 8), (0x8, 32), (0x4, 2)], false, 0xffffffff, 0x0, [], 0x0, .s, false, .cfg⟩,
  ⟨0xc00400, [(0x10000, 8), (0x4, 64)], false, 0x0, 0x0, [], 0x0, .s, false, .cfg⟩,
  ⟨0xc01000, [(0x10000, 8), (0xa0, 64), (0x4, 40)], false, 0xffffffff, 0x0, [], 0x0, .s, false, .cfg⟩]

/-- Part 11 of the register map. -/
def regTable11 : List RegRow := [
  ⟨0xc08000, [(0x10000, 8), (0x4, 40)], false, 0x0, 0x0, [], 0x0, .s, false, .cfg⟩,
  ⟨0xd00000, [(0x2000, 32)], false, 0x80000000, 0x0, [], 0x0, .s, false, .cfg⟩,
  ⟨0xd00004, [(0x2000, 32)], false, 0xc0ff0000, 0x0, [], 0x0, .s, false, .cfg⟩,
  ⟨0xd00008, [(0x2000, 32)], false, 0xffff, 0x0, [], 0x0, .s, false, .cfg⟩,
  ⟨0xd0000c, [(0x2000, 32), (0x4, 2)], false, 0x3f3f3f3f, 0x0, [], 0x0, .s, false, .cfg⟩,
  ⟨0xd00014, [(0x2000, 32)], false, 0x3f3f, 0x0, [], 0x0, .s, false, .cfg⟩,
  ⟨0xd00018, [(0x2000, 32)], false, 0xffffffff, 0x0, [], 0x0, .s, false, .cfg⟩,
  ⟨0xd0001c, [(0x2000, 32)], false, 0xffff0000, 0x0, [], 0x0, .s, false, .cfg⟩,
  ⟨0xd00020, [(0x2000, 32)], false, 0x0, 0x0, [], 0x0, .s, false, .cfg⟩,
  ⟨0xd00024, [(0x2000, 32)], false, 0x0, 0xf0000000, [], 0x0, .s, false, .cfg⟩,
  ⟨0xd00028, [(0x2000, 32)], false, 0x0, 0x0, [], 0x0, .s, false, .cfg⟩,
  ⟨0xd0002c, [(0x2000, 32)], false, 0x0, 0x0, [], 0x0, .s, false, .cfg⟩,
  ⟨0xd01000, [(0x2000, 32), (0x4, 1024)], false, 0xffffffff, 0x0, [], 0x0, .s, false, .cfg⟩,
  ⟨0xe00000, [], false, 0x0, 0x0, [], 0x0, .s, false, .any⟩,
  ⟨0xe00010, [(0x4, 4)], false, 0x0, 0x0, [], 0x0, .s, false, .any⟩,
  ⟨0xe00020, [], false, 0x0, 0x0, [], 0x0, .s, false, .any⟩,
  ⟨0xe10000, [(0x10, 256), (0x4, 4)], false, 0x0, 0x0, [], 0x0, .s, false, .any⟩,
  ⟨0xe20000, [(0x10, 584), (0x4, 4)], false, 0x0, 0x0, [], 0x0, .s, false, .any⟩,
  ⟨0xe30000, [(0x4, 19)], false, 0x0, 0xffffffff, [], 0x0, .s, false, .cfg⟩,
  ⟨0xe50000, [(0x4, 288)], false, 0x0, 0x0, [], 0x0, .p, false, .any⟩]

/-- Part 12 of the register map. -/
def regTable12 : List RegRow := [
  ⟨0x1f00000, [(0x40, 32), (0x4, 9)], false, 0x0, 0x0, [], 0x0, .s, false, .any⟩,
  ⟨0xe51000, [], false, 0x0, 0x0, [], 0x0, .p, false, .any⟩,
  ⟨0xd00040, [(0x2000, 32), (0x4, 8)], false, 0xffff0002, 0x0, [], 0x0, .s, false, .cfg⟩,
  ⟨0xc80000, [(0x40, 8)], false, 0xffffffff, 0x0, [], 0xb06400, .p, true, .cfg⟩,
  ⟨0xc80004, [(0x40, 8), (0x4, 6)], false, 0xffffffff, 0x0, [], 0x0, .p, true, .cfg⟩,
  ⟨0xc8001c, [(0x40, 8)], false, 0x0, 0x80000000, [], 0x0, .p, true, .cfg⟩,
  ⟨0xf00000, [], false, 0x0, 0x0, [], 0x0, .s, false, .any⟩,
  ⟨0xf00004, [], false, 0x0, 0x0, [], 0x0, .s, false, .any⟩,
  ⟨0xf00010, [(0x4, 2)], false, 0x0, 0x0, [], 0x0, .s, false, .any⟩,
  ⟨0xf00100, [(0x4, 256)], false, 0x0, 0x0, [], 0x0, .s, false, .any⟩,
  ⟨0xf10000, [(0x1000, 8)], false, 0xfe000003, 0x0, [], 0x2000000, .s, false, .sec⟩,
  ⟨0xf10010, [(0x1000, 8), (0x20, 4), (0x4, 8)], false, 0xffffffff, 0x0, [], 0x0, .s, false, .sec⟩,
  ⟨0xf10100, [(0x1000, 8), (0x40, 16), (0x4, 16)], false, 0xffffffff, 0x0, [], 0x0, .s, false, .sec⟩,
  ⟨0xf10800, [(0x1000, 8)], false, 0x0, 0x0, [0xffffffff], 0x0, .s, false, .any⟩,
  ⟨0xf10804, [(0x1000, 8)], false, 0x0, 0x0, [0xffffffff], 0x0, .s, false, .any⟩,
  ⟨0x100000, [], false, 0x0, 0x0, [], 0x726400a1, .p, false, .any⟩,
  ⟨0x100004, [], false, 0x0, 0x0, [], 0x0, .s, false, .any⟩,
  ⟨0x100008, [], false, 0x0, 0x0, [], 0x0, .s, false, .any⟩,
  ⟨0x10000c, [], false, 0x0, 0x0, [], 0x0, .s, false, .any⟩,
  ⟨0x100010, [], false, 0x0, 0x0, [], 0x1100000, .p, true, .any⟩]

/-- Part 13 of the register map. -/
def regTable13 : List RegRow := [
  ⟨0x100020, [], false, 0x0, 0xffff, [], 0x0, .s, false, .any⟩,
  ⟨0x100100, [], false, 0x0, 0x0, [], 0x0, .p, true, .any⟩,
  ⟨0x100104, [], false, 0x0, 0x0, [], 0x0, .p, true, .any⟩,
  ⟨0x100108, [], false, 0x0, 0x0, [], 0x0, .p, true, .any⟩,
  ⟨0x10010c, [], false, 0x0, 0x0, [], 0x0, .p, true, .any⟩,
  ⟨0x100110, [], false, 0x0, 0x0, [], 0x0, .p, false, .any⟩,
  ⟨0x100120, [(0x4, 4)], false, 0x0, 0x0, [], 0x0, .p, true, .any⟩,
  ⟨0x100140, [(0x4, 16)], false, 0x0, 0x0, [], 0x0, .p, true, .any⟩,
  ⟨0x100200, [(0x4, 2)], false, 0x0, 0x0, [], 0x0, .p, true, .any⟩,
  ⟨0x100208, [], false, 0xffffffff, 0x0, [], 0x0, .p, true, .cfg⟩,
  ⟨0x100300, [(0x4, 32)], false, 0x0, 0x0, [], 0x0, .p, true, .any⟩,
  ⟨0x100400, [], false, 0x3fffff, 0x0, [], 0x0, .p, true, .cfg⟩,
  ⟨0x100404, [], false, 0x0, 0x0, [], 0x0, .p, true, .any⟩,
  ⟨0x100500, [], false, 0x0, 0x0, [], 0x0, .s, false, .any⟩,
  ⟨0x1000100, [], false, 0x0, 0x7c0000, [], 0x0, .s, false, .any⟩,
  ⟨0x1000104, [], false, 0x0, 0x0, [0xffffffff], 0x0, .s, false, .any⟩,
  ⟨0x1000108, [], false, 0x0, 0x0, [], 0x0, .s, false, .any⟩,
  ⟨0x100010c, [], false, 0x0, 0xffffffff, [], 0x0, .s, false, .any⟩,
  ⟨0x1000110, [], false, 0x0, 0x0, [], 0x0, .s, false, .any⟩,
  ⟨0x0, [], true, 0x0, 0x0, [], 0x0, .s, false, .any⟩]

/-- Part 14 of the register map. -/
def regTable14 : List RegRow := [
  ⟨0x4, [], true, 0x0, 0x30000000, [], 0x0, .f, false, .any⟩,
  ⟨0x8, [], true, 0x0, 0x0, [], 0x0, .s, false, .any⟩,
  ⟨0xc, [(0x4, 2)], true, 0x0, 0x0, [], 0x0, .s, false, .any⟩,
  ⟨0x14, [], true, 0xffff00ff, 0x0, [], 0x0, .f, false, .any⟩,
  ⟨0x18, [], true, 0x0, 0x0, [], 0x0, .s, false, .any⟩,
  ⟨0x1c, [], true, 0x0, 0x0, [], 0x0, .s, false, .any⟩,
  ⟨0x1000, [(0x200, 2), (0x4, 2)], true, 0xffffffff, 0x0, [], 0x0, .f, false, .any⟩,
  ⟨0x1008, [(0x200, 2)], true, 0x1, 0x0, [], 0x0, .f, false, .any⟩,
  ⟨0x100c, [(0x200, 2)], true, 0x0, 0x0, [], 0x0, .f, false, .any⟩,
  ⟨0x1010, [(0x200, 2), (0x4, 4)], true, 0x0, 0x0, [], 0x0, .f, false, .any⟩,
  ⟨0x1020, [(0x200, 2)], true, 0x4000000, 0x38000000, [], 0x0, .f, false, .any⟩,
  ⟨0x2000, [(0x10, 64), (0x4, 4)], true, 0xffffffff, 0x0, [], 0x0, .f, false, .any⟩,
  ⟨0x3000, [(0x4, 2)], true, 0x0, 0x0, [], 0x0, .f, false, .any⟩]

/-- The register map (R40, R397). -/
def regTable : List RegRow :=
  regTable1 ++ regTable2 ++ regTable3 ++ regTable4 ++ regTable5 ++ regTable6 ++ regTable7 ++ regTable8 ++ regTable9 ++ regTable10 ++ regTable11 ++ regTable12 ++ regTable13 ++ regTable14

/-- Whether an offset lies on an element of the dimensions left. -/
def dimsHit : List (Nat × Nat) → Nat → Bool
  | [], o => o == 0
  | (st, n) :: ds, o => decide (o / st < n) && dimsHit ds (o % st)

/-- Whether a register address belongs to a row. -/
def RegRow.hits (r : RegRow) (a : Nat) : Bool :=
  if 0x02000000 ≤ a then r.page && (decide (r.base ≤ a % 0x10000) && dimsHit r.dims (a % 0x10000 - r.base))
  else !r.page && (decide (r.base ≤ a) && dimsHit r.dims (a - r.base))

/-- The row of a register address, if a register occupies it (R4). -/
def regInfo (a : Nat) : Option RegRow := regTable.find? (fun r => r.hits a)

/-- The value of a register after reset (R8). -/
def regReset (a : Nat) : Word :=
  match regInfo a with
  | some r => BitVec.ofNat 32 r.reset
  | none => 0

end Sys2Proof.Machine
end

