-- ==== Sys2Proof/Machine/Ops.lean ====
section
/-! DEFINITION. The named operations every chapter uses: registers and their fields, the wings, device time, events and
their log, interrupt vectors, privileges, and the checks of cyclic codes. -/

namespace Sys2Proof.Machine

/-- The outcome of a command's meaning. -/
abbrev Out := Host.Outcome State Fault Refusal

/-- The outcome of a command carried out in state `s` with effect `t`. A command that names a unit, an index or a value that the
device does not have is no event of the device: the state stays (log entry 132). -/
def checked (ok : Bool) (s t : State) : Out := .next (if ok then t else s)

/-- The device is powered beyond its always-on domain (R12, R443). -/
def DevState.awake : DevState → Bool
  | .off => false
  | .standby => false
  | _ => true

/-- The blocks of MAIN and of the lane domains run: the domains are powered and no reset of the device is asserted (R12, R438). -/
def State.mainUp (s : State) : Bool := s.dev.st.awake && !s.dev.rst

/-- The outcome of a command that a block of MAIN or of a lane domain carries out: it has no effect while the block is unpowered or
held in reset (R12, R438). -/
def live (ok : Bool) (s t : State) : Out := .next (if ok && s.mainUp then t else s)

/-! Fields of words -/

/-- The field of `n` bits that begins at bit `lo`. -/
def fld {k : Nat} (x : BitVec k) (lo n : Nat) : Nat := (x.toNat >>> lo) % 2 ^ n

/-- A word with the field of `n` bits at `lo` replaced by the low bits of `v`. -/
def setFld {k : Nat} (x : BitVec k) (lo n v : Nat) : BitVec k :=
  BitVec.ofNat k (x.toNat - (fld x lo n) * 2 ^ lo + (v % 2 ^ n) * 2 ^ lo)

/-- One bit. -/
def tst {k : Nat} (x : BitVec k) (b : Nat) : Bool := x.getLsbD b

/-! Pairs by wing -/

/-- The member of a pair for a wing. -/
def Pair.at_ {α : Type} (p : Pair α) : Wing → α
  | .east => p.e
  | .west => p.w

/-- A pair with one member replaced. -/
def Pair.set {α : Type} (p : Pair α) (w : Wing) (x : α) : Pair α :=
  match w with
  | .east => { p with e := x }
  | .west => { p with w := x }

/-- Wing of a number: 0 East, otherwise West. -/
def wingOf (n : Nat) : Wing := if n = 0 then .east else .west

/-- Apply a state transformer to each number below `n`, in rising order. -/
def each (n : Nat) (f : Nat → State → State) (s : State) : State := (List.range n).foldl (fun t i => f i t) s

/-- Apply a state transformer to each member of a list, in order. -/
def eachIn {α : Type} (l : List α) (f : α → State → State) (s : State) : State := l.foldl (fun t x => f x t) s

/-! Registers -/

/-- The value of a register (R5, R8). -/
def State.rd (s : State) (a : Nat) : Word := (Tab.find s.regs a).getD (regReset a)

/-- Set a register. -/
def State.wr (s : State) (a : Nat) (v : Word) : State := { s with regs := Tab.put s.regs a v }

/-- A field of a register. -/
def State.rf (s : State) (a lo n : Nat) : Nat := fld (s.rd a) lo n

/-- Set a field of a register. -/
def State.wf (s : State) (a lo n v : Nat) : State := s.wr a (setFld (s.rd a) lo n v)

/-- A bit of a register. -/
def State.rb (s : State) (a b : Nat) : Bool := tst (s.rd a) b

/-- Set a bit of a register. -/
def State.wb (s : State) (a b : Nat) (v : Bool) : State := s.wf a b 1 (bitOf v)

/-- Add to a counting field, which saturates at all-ones. -/
def State.cnt (s : State) (a lo n k : Nat) : State := s.wf a lo n (capAt (2 ^ n - 1) (s.rf a lo n + k))

/-- Add to a 32-bit counter that rolls over. -/
def State.roll (s : State) (a k : Nat) : State := s.wr a (s.rd a + BitVec.ofNat 32 k)

/-! Free values -/

/-- The next free word (log entry 3). -/
def State.freshWord (s : State) : Word := Config.freeWord s.free

/-- Advance the counter of free values. -/
def State.used (s : State) (k : Nat) : State := { s with free := s.free + k }

/-! Wings, the steward role and the inter-wing link -/

/-- ARB_STATUS.STEWARD as a wing, if one holds the role (R36). -/
def State.steward (s : State) : Option Wing :=
  match s.rf Reg.ARB_STATUS 26 2 with
  | 1 => some .east
  | 2 => some .west
  | _ => none

/-- ARB_STATUS.DEPUTY_OK (R36). -/
def State.deputyOk (s : State) : Bool := s.rb Reg.ARB_STATUS 30

/-- Bit of ARB_STATUS that fences a wing (R36). -/
def fenceBit : Wing → Nat
  | .east => 29
  | .west => 28

/-- A wing is fenced (R31). -/
def State.fenced (s : State) (w : Wing) : Bool := s.rb Reg.ARB_STATUS (fenceBit w)

/-- The number of inter-wing lanes that carry traffic (R38). -/
def State.lanes (s : State) : Nat := bitOf (s.rb Reg.IWL_STAT 31) + bitOf (s.rb Reg.IWL_STAT 30)

/-- IWL_DOWN holds: no lane carries traffic (R19). -/
def State.iwlDown (s : State) : Bool := s.lanes == 0

/-- The wing whose triple is device time: the steward's, and East's while no wing holds the role (R20, log entry 10). -/
def State.timeWing (s : State) : Wing := s.steward.getD .east

/-! Device time -/

/-- One second in units of 2^-16 ns. -/
def tick1s : Nat := 1000000000 * 65536

/-- The range of T: 2^48 seconds (R44). -/
def timeMod : Nat := 2 ^ 48 * tick1s

/-- The LTC of a wing (R43). -/
def State.ltc (s : State) : Wing → BitVec 64
  | .east => s.clk.ltcE
  | .west => s.clk.ltcW

/-- OFFSET as a number of 2^-16 ns. -/
def Triple.offset (t : Triple) : Nat := (t.sec.toNat * 1000000000 + t.ns.toNat) * 65536 + t.frac.toNat

/-- T of a triple at an LTC value and a phase in 1/16 ns (R44, R50). -/
def Triple.at_ (t : Triple) (ltc : BitVec 64) (phase : Nat) : Nat :=
  let d : Int := (ltc - t.anchor).toInt * 16 + phase
  let x : Int := (t.offset : Int) + (ltc.toNat * 16 + phase : Nat) * 4096 + (d * t.rate.toInt) / (2 ^ 28 : Nat)
  (x % (timeMod : Nat)).toNat

/-- T of a wing now, in 2^-16 ns (R44). -/
def State.wingT (s : State) (w : Wing) : Nat := (s.time.act.at_ w).at_ (s.ltc w) 0

/-- Device time now, in 2^-16 ns (R1, R49). -/
def State.devT (s : State) : Nat := s.wingT s.timeWing

/-- Device time now, in whole nanoseconds. -/
def State.nowNs (s : State) : Nat := s.devT / 65536

/-- A timestamp of a wing at a phase: fraction bits [11:0] cleared (R50). -/
def State.stampT (s : State) (w : Wing) (phase : Nat) : Nat :=
  ((s.time.act.at_ w).at_ (s.ltc w) phase) / 4096 * 4096

/-- The wing whose time stamps frames of a MAC port: FP0-FP15 East, FP16-FP31 West; the uplinks lie in the centre and take
device time (R11, R50). -/
def State.portWing (s : State) (p : Nat) : Wing := if p < 16 then .east else if p < 32 then .west else s.timeWing

/-- A timestamp of a wing for an event `age` ns ago at a phase (R50, log entry 135). -/
def State.stampAgo (s : State) (w : Wing) (age phase : Nat) : Nat :=
  ((s.time.act.at_ w).at_ (s.ltc w - BitVec.ofNat 64 age) phase) / 4096 * 4096

/-- The delay between a port's MAC and the MDI beyond it in 1/16 ns: the latency of the lane mode and the board's own in
TIME_PORT_DLY, word 0 ingress and word 1 egress (R51, log entry 134). -/
def State.portDelay (s : State) (p : Nat) (ingress : Bool) : Int :=
  (Config.pcsLatency (s.rf (Reg.MAC_CFG p) 27 4) ingress : Nat) + (s.rd (Reg.TIME_PORT_DLY p (bitOf (!ingress)))).toInt

/-- Ingress and egress timestamps of a frame at a port, referred to the MDI (R51). -/
def State.ingressT (s : State) (p age phase : Nat) : Nat :=
  (((s.stampAgo (s.portWing p) age phase : Nat) - s.portDelay p true * 4096) % (timeMod : Nat)).toNat
def State.egressT (s : State) (p age phase : Nat) : Nat :=
  (((s.stampAgo (s.portWing p) age phase : Nat) + s.portDelay p false * 4096) % (timeMod : Nat)).toNat

/-! Rings and their periods (R180, R204) -/

/-- The wing of a ring (R180). -/
def ringWing (r : Nat) : Wing := if r < 2 then .east else .west

/-- A ring; and a state with a ring replaced. -/
def State.rg (s : State) (r : Nat) : Ring := Tab.get Ring.zero s.ring r
def State.setRg (s : State) (r : Nat) (x : Ring) : State := { s with ring := Tab.put s.ring r x }

/-- The ring starts its cycles at the firings of a trigger (R204). -/
def State.trgRing (s : State) (r : Nat) : Bool := s.rb (Reg.CQ_RING_CTRL r) 27

/-- A period given as whole nanoseconds and the word NUM [31:16], DEN [15:0]: numerator and denominator in ns (R63, R204, log
entry 20). -/
def periodOf (ns frac : Word) : Nat × Nat :=
  let d := max 1 (fld frac 0 16)
  (ns.toNat * d + fld frac 16 16, d)

/-- Tc of a ring as a fraction in ns: its own period, or that of the trigger that starts its cycles, the last one it fired with
(R204). -/
def State.cqPer (s : State) (r : Nat) : Nat × Nat :=
  let own := periodOf (s.rd (Reg.CQ_PERIOD_NS r)) (s.rd (Reg.CQ_PERIOD_FRAC r))
  if !s.trgRing r then own
  else match (s.rg r).trgLast with
    | some _ => (s.rg r).trgPer
    | none =>
      let n := s.rf (Reg.CQ_RING_CTRL r) 24 3
      periodOf (s.rd (Reg.TRG_PERIOD_NS (ringWing r) n)) (s.rd (Reg.TRG_PERIOD_FRAC (ringWing r) n))

/-- `n` periods of a ring in 2^-16 ns, truncated (R204). -/
def State.cqSpan (s : State) (r n : Nat) : Nat := n * (s.cqPer r).1 * 65536 / max 1 (s.cqPer r).2

/-- At least `n` periods of a ring have passed since an instant of the ns clock. -/
def State.cqPassed (s : State) (r n at_ more : Nat) : Bool :=
  let (p, d) := s.cqPer r
  decide ((at_ + more) * d + n * p ≤ s.clk.ns * d)

/-- The timestamp record of an instant, with a frame ID (R50). -/
def tsRec (t : Nat) (id : Half) : TsRec :=
  let sec := t / tick1s
  { w0 := BitVec.ofNat 32 (t / 65536 % 1000000000)
    w1 := BitVec.ofNat 32 sec
    w2 := BitVec.ofNat 32 (id.toNat * 65536 + sec / 2 ^ 32 % 65536)
    w3 := BitVec.ofNat 32 (t % 65536 * 65536 + 1) }

/-- Time is armed: TIME_STATUS.ARMED (R69). -/
def State.armed (s : State) : Bool := s.rb Reg.TIME_STATUS 23

/-- TIME_STATUS.STATE (R69): 0 FREE, 1 LOCKING, 2 LOCKED, 3 HOLDOVER, 4 UNSYNC. -/
def State.timeState (s : State) : Nat := s.rf Reg.TIME_STATUS 29 3

/-! Memories of bytes and words -/

/-- Bytes of a memory from an address on. -/
def bytesAt (m : Tab Octet) (a : Nat) : Nat → List Octet
  | 0 => []
  | n + 1 => Tab.get 0 m a :: bytesAt m (a + 1) n

/-- Store bytes from an address on. -/
def putBytes (m : Tab Octet) (a : Nat) : List Octet → Tab Octet
  | [] => m
  | b :: bs => putBytes (Tab.store 0 m a b) (a + 1) bs

/-- The four bytes of a word, lowest address first. -/
def wordBytes (v : Word) : List Octet := [v.setWidth 8, (v >>> 8).setWidth 8, (v >>> 16).setWidth 8, (v >>> 24).setWidth 8]

/-- A little-endian word of the first four bytes, missing bytes 0. -/
def bytesWord (l : List Octet) : Word :=
  BitVec.ofNat 32 ((l.getD 0 0).toNat + (l.getD 1 0).toNat * 2 ^ 8 + (l.getD 2 0).toNat * 2 ^ 16
    + (l.getD 3 0).toNat * 2 ^ 24)

/-- The little-endian words that some bytes cover, the last filled up with 0 (R401). -/
def bytesWords : List Octet → List Word
  | [] => []
  | a :: b :: c :: d :: t => bytesWord [a, b, c, d] :: bytesWords t
  | l => [bytesWord l]

/-- Store words from a byte address on, little-endian. -/
def putWords (m : Tab Octet) (a : Nat) : List Word → Tab Octet
  | [] => m
  | v :: vs => putWords (putBytes m a (wordBytes v)) (a + 4) vs

/-- The 16-bit words of a memory from an address on. -/
def halvesAt (m : Tab Half) (a : Nat) : Nat → List Half
  | 0 => []
  | n + 1 => Tab.get 0 m a :: halvesAt m (a + 1) n

/-- Store 16-bit words from an address on. -/
def putHalves (m : Tab Half) (a : Nat) : List Half → Tab Half
  | [] => m
  | h :: hs => putHalves (Tab.store 0 m a h) (a + 1) hs

/-! Words as octets and numbers, keys and tags -/

/-- The two 16-bit words of a word, low first. -/
def wordHalves (v : Word) : List Half := [v.setWidth 16, (v >>> (16 : Nat)).setWidth 16]

/-- Octets of words, [15:8] first (R184, R330, R335). -/
def halvesOctets : List Half → List Octet
  | [] => []
  | h :: t => (h >>> (8 : Nat)).setWidth 8 :: h.setWidth 8 :: halvesOctets t

/-- Words of octets, the first of a pair in [15:8], a missing last one 0. -/
def octetsHalves : List Octet → List Half
  | [] => []
  | [a] => [(a.setWidth 16 : Half) <<< (8 : Nat)]
  | a :: b :: t => ((a.setWidth 16 : Half) <<< (8 : Nat) ||| b.setWidth 16) :: octetsHalves t

/-- Words, most significant first, as a number; and a number as words (log entry 26). -/
def halvesNat (l : List Half) : Nat := l.foldl (fun a h => 65536 * a + h.toNat) 0
def natHalves (k x : Nat) : List Half := (List.range k).map (fun i => BitVec.ofNat 16 (x >>> (16 * (k - 1 - i))))

/-- Exactly k words: missing ones 0. -/
def fitHalves (k : Nat) (l : List Half) : List Half := (List.range k).map (fun i => l.getD i 0)

/-- The number of a key, the first octet most significant. -/
def keyNum (k : List Octet) : Nat := k.foldl (fun a b => 256 * a + b.toNat) 0

/-- The number of the key in a Boxwood slot, 0 where the slot is empty (R424). -/
def State.keyNum (s : State) (slot : Nat) : Nat := Machine.keyNum (((Tab.find s.sec.box slot).map (fun k => k.key)).getD [])

/-- The six words of an AES-GCM or GMAC tag under a key, of an initialisation vector and the words it covers (log entry 8). -/
def gcmTag (key : Nat) (iv : BitVec 96) (l : List Half) : List Half := fitHalves 6 (Config.gcmTag key iv l)

/-! Cyclic codes -/

/-- One bit of a code computed most significant bit first. -/
def crcShiftL {n : Nat} (poly : BitVec n) (c : BitVec n) : BitVec n := if c.msb then (c <<< 1) ^^^ poly else c <<< 1

/-- One bit of a reflected code. -/
def crcShiftR {n : Nat} (poly : BitVec n) (c : BitVec n) : BitVec n :=
  if c.getLsbD 0 then (c >>> 1) ^^^ poly else c >>> 1

/-- Apply a function a number of times. -/
def times {α : Type} (f : α → α) : Nat → α → α
  | 0, x => x
  | n + 1, x => times f n (f x)

/-- CRC-16 with polynomial 0x1021, most significant bit first, of octets from a register value on. -/
def crc16 (l : List Octet) (init : Half) : Half :=
  l.foldl (fun c b => times (crcShiftL 0x1021#16) 8 (c ^^^ ((b.setWidth 16 : Half) <<< (8 : Nat)))) init

/-- A reflected CRC-32 of octets from a register value on. -/
def crc32r (poly : Word) (l : List Octet) (init : Word) : Word :=
  l.foldl (fun c b => times (crcShiftR poly) 8 (c ^^^ b.setWidth 32)) init

/-- CRC-32 (polynomial 0x04C11DB7, reflected, initial and final value all-ones). -/
def crc32 (l : List Octet) : Word := ~~~ crc32r 0xEDB88320#32 l 0xFFFFFFFF#32

/-- CRC-32C (polynomial 0x1EDC6F41, reflected, initial and final value all-ones; R188). -/
def crc32c (l : List Octet) : Word := ~~~ crc32r 0x82F63B78#32 l 0xFFFFFFFF#32

/-! Interrupt vectors -/

/-- A function is enabled and not in reset. -/
def State.fnLive (s : State) (t : Nat) : Bool := s.host.en.contains t && (Tab.find s.host.frst t).isNone

/-- A vector is masked, by its own mask bit or by the Function Mask (R409). -/
def State.vecMasked (s : State) (t v : Nat) : Bool := s.host.fmask.contains t || s.rb (Reg.MSIX_TABLE t v 3) 0

/-- Post one MSI-X message on a vector, or set its PBA bit while it is masked (R402, R409). -/
def State.postVec (s : State) (t v : Nat) : State :=
  if s.vecMasked t v then s.wb (Reg.MSIX_PBA t (v / 32)) (v % 32) true
  else { s with host.posted := (t, v) :: s.host.posted }

/-- The doorbell of a mailbox: vector 0, outside the router and its moderation (R402). -/
def State.doorbell (s : State) (t : Nat) : State := if s.fnLive t then s.postVec t 0 else s

/-- Signal a vector of a function: the event waits for its message and counts toward the end of a holdoff (R407,
R410). -/
def State.signal (s : State) (t v : Nat) : State :=
  if s.fnLive t then
    { s with
      host.sig := Tab.put s.host.sig (64 * t + v) (Tab.get 0 s.host.sig (64 * t + v) + 1)
      host.hold := match Tab.find s.host.hold t with
        | some (a, n) => Tab.put s.host.hold t (a, n + 1)
        | none => s.host.hold }
  else s

/-! Events -/

/-- The device state's code in SYS_STATE and in the log (R443). -/
def DevState.code : DevState → Nat
  | .off => 0
  | .standby => 1
  | .boot => 2
  | .selfTest => 3
  | .safeTalk => 4
  | .configuring => 5
  | .inService => 6
  | .test => 7
  | .testBlocked => 8
  | .maintenance => 9
  | .powerFail => 10

/-- Where an event lies: 0 centre or device-wide, 1 East, 2 West (R450). -/
def wingCode : Wing → Nat
  | .east => 1
  | .west => 2

/-- Free words for the diagnostic part of a log record (R450, log entry 3). -/
def diagWords (k : Nat) : List Word := (List.range 10).map (fun i => Config.freeWord (k + i))

/-- The 16 words of an event-log record (R450). -/
def State.logRec (s : State) (es inst wing : Nat) : List Word :=
  let t := s.devT
  let sec := t / tick1s
  [s.mram.logSeq, BitVec.ofNat 32 (t / 65536 % 1000000000), BitVec.ofNat 32 sec,
    BitVec.ofNat 32 (sec / 2 ^ 32 % 65536), BitVec.ofNat 32 (es % 1024 + s.dev.st.code * 65536),
    BitVec.ofNat 32 (inst % 65536 + wing * 65536)] ++ diagWords s.free

/-- Add a record to the event log in MRAM (R450). -/
def State.logEvent (s : State) (es inst wing : Nat) : State :=
  { s with
    mram.mem := putWords s.mram.mem (0x10000 + 64 * s.mram.logIdx) (s.logRec es inst wing)
    mram.logIdx := (s.mram.logIdx + 1) % 3072
    mram.logSeq := if s.mram.logSeq = 0xFFFFFFFF#32 then 1 else s.mram.logSeq + 1
    free := s.free + 10 }

/-- An event is logged (R450). -/
def State.logs (s : State) (es : Nat) : Bool := decide (536 ≤ es) || s.man.routesLog.contains es

/-- Signal the destination of one route word (R407, R408). -/
def State.route (s : State) (es d : Nat) : State :=
  let r := s.rd (Reg.ER_ROUTE es d)
  if tst r 31 && !tst r 30 then s.signal (fld r 16 8) (fld r 0 6) else s

/-- Raise event ES`es` of a numbered unit (R407): set its ER_PEND bit, signal its routes, log it. -/
def State.raiseAt (s : State) (es inst wing : Nat) : State :=
  let s1 := s.wb (Reg.ER_PEND (es / 32)) (es % 32) true
  let s2 := (((s1.route es 0).route es 1).route es 2).route es 3
  if s2.logs es then s2.logEvent es inst wing else s2

/-- Raise a device-wide event. -/
def State.raise (s : State) (es : Nat) : State := s.raiseAt es 0 0

/-- Raise an event of a wing: consecutive numbers for East and West where the chapter gives them so. -/
def State.raiseW (s : State) (es : Nat) (w : Wing) : State := s.raiseAt (es + w.idx) 0 (wingCode w)

/-- Raise the event if the condition holds. -/
def State.raiseIf (s : State) (c : Bool) (es : Nat) : State := if c then s.raise es else s

/-! Privileges -/

/-- A function holds the privilege of a bit of FN_PRIV (R395). -/
def State.hasPriv (s : State) (t b : Nat) : Bool :=
  (s.dev.manOk && s.rb (Reg.FN_PRIV t) b) || (t == 0 && b == 2 && (!s.dev.manOk || s.dev.st == .safeTalk))

/-- P_CFG (R395). -/
def State.pCfg (s : State) (t : Nat) : Bool := s.hasPriv t 2

/-- A master identity is marked secure (R42, R395). -/
def State.secureMid (s : State) (m : Nat) : Bool :=
  if m < 256 then s.dev.manOk && s.rb (Reg.FN_PRIV m) 8
  else m == 320 || m == 321 || m == 324 || m == 325 || (m == 322 && s.sec.unlocked)

/-! Host accesses -/

/-- The address in the register map of an offset in a function's BAR0: the function page, and for the owner the whole
map of R40. -/
def barAddr (fn off : Nat) : Option Nat :=
  if off < 0x10000 then some (fnPage fn + off)
  else if fn = 0 ∧ off < 0x02000000 then some off
  else none

/-- The four byte lanes of an aligned word that an access covers, as a mask of the word. -/
def laneMask (lane size : Nat) : Word :=
  BitVec.ofNat 32 ((2 ^ (8 * size) - 1) * 2 ^ (8 * lane))

/-- Put the answer of a read on the bus. -/
def State.answer (s : State) (v : BitVec 64) : State := { s with bus.rdata := v, bus.cpl := .ok }

/-- A read or write that does not reach a register: it completes as given, a read with all-ones. -/
def State.refuseBus (s : State) (c : Cpl) : State := { s with bus.rdata := BitVec.allOnes 64, bus.cpl := c }

/-- The host port of a function (R394, R397). -/
def State.fnPort (s : State) (fn : Nat) : Nat := s.rf (Reg.FN_ID fn) 30 2

/-- A port that completes memory requests as Unsupported Request: for 50 ms after its PERST_N has risen (R393). -/
def State.portQuiet (s : State) (port : Nat) : Bool :=
  let (up, at_) := Tab.get (false, 0) s.host.perst port
  up && decide (s.clk.ns < at_ + 50000000)

/-- A function may reach its registers: it is enabled and not in reset, and its port takes memory requests (R393, R394, R414). -/
def State.reach (s : State) (t : Nat) : Bool := s.fnLive t && !s.portQuiet (s.fnPort t)

/-- How an access of a function that is not reachable completes: all-ones from a function in reset (R414), Unsupported
Request otherwise (R393). -/
def State.unreached (s : State) (t : Nat) : State :=
  if s.host.en.contains t && !s.portQuiet (s.fnPort t) then s.refuseBus .ok else s.refuseBus .ur

/-- The bytes an access of `size` bytes at byte `lane` takes from a word, moved to bit 0. -/
def laneData (v : Word) (lane size : Nat) : BitVec 64 :=
  BitVec.ofNat 64 (v.toNat / 2 ^ (8 * lane) % 2 ^ (8 * size))

/-- A read of a register outside the function pages: the owner alone reaches it (R40, R396), and in SAFE TALK reads 0 (R467); the
register's value is returned after the read's effect on it. -/
def State.ownerRead (s : State) (fn lane size : Nat) (v : Word) (act : State → State) : State :=
  if !s.reach fn then s.unreached fn
  else if fn ≠ 0 then s.refuseBus .ur
  else if s.dev.st == .safeTalk then s.answer 0
  else (act s).answer (laneData v lane size)

/-- A function reaches the blocks of the owner's BAR0: it is the owner; in SAFE TALK it has SYS, SAFETY and MRAM alone (R40, R467). -/
def State.ownerIn (s : State) (fn : Nat) : Bool := s.reach fn && fn == 0 && s.dev.st != .safeTalk

/-- The owner's write of a configuration register of a block takes effect: it holds P_CFG (R40, R395). -/
def State.ownerCfg (s : State) (fn : Nat) : Bool := s.ownerIn fn && s.pCfg fn

/-! Redundancy pairs (R279-R281, R289) -/

/-- Fields of SW_PAIR_CFG (R289). -/
def State.pairMode (s : State) (k : Nat) : Nat := s.rf (Reg.SW_PAIR_CFG k) 28 3
def State.pairPort (s : State) (k : Nat) (b : Bool) : Nat := s.rf (Reg.SW_PAIR_CFG k) (if b then 16 else 22) 6

/-- The pair of a switch port, and whether the port is its port B (R279). -/
def State.pairOf (s : State) (p : Nat) : Option (Nat × Bool) :=
  ((List.range 8).find? (fun k => s.rb (Reg.SW_PAIR_CFG k) 31 && (s.pairPort k false == p || s.pairPort k true == p))).map
    (fun k => (k, s.pairPort k true == p))

/-- Take the next sequence number of a pair (R280, R281, R288). -/
def State.nextSeq (s : State) (k : Nat) : Half × State :=
  let q := s.rf (Reg.SW_PAIR_SEQ k) 0 16
  (BitVec.ofNat 16 q, s.wf (Reg.SW_PAIR_SEQ k) 0 16 (q + 1))

/-- The tag or trailer of a copy for a port of a pair: LanId 0xA or 0xB under PRP (R280, R281). -/
def State.redTag (s : State) (k : Nat) (b : Bool) (n : Half) : RedTag :=
  if s.pairMode k = 0 then .prp (if b then 0xB else 0xA) n else .hsr n

/-- The ports of a list with the tags of their copies: a frame that goes to a pair goes to both its ports, with the pair's next sequence
number (R280, R281). -/
def State.tagPorts (s : State) (ports : List Nat) : List (Nat × RedTag) × State :=
  let ks := (List.range 8).filter (fun k => ports.any (fun p => (s.pairOf p).any (fun x => x.1 == k)))
  ks.foldl (fun a k =>
    let (n, t) := a.2.nextSeq k
    (a.1 ++ [(s.pairPort k false, s.redTag k false n), (s.pairPort k true, s.redTag k true n)], t))
    ((ports.filter (fun p => (s.pairOf p).isNone)).map (fun p => (p, .none)), s)

end Sys2Proof.Machine
end

