-- ==== Sys2Proof/Machine/Crypto.lean ====
section
/-! DEFINITION. The functions that R420 and R431 name: SHA-384 (FIPS 180-4) and ECDSA P-384 (FIPS 186-5, SEC1), and the key unwrap of RFC 3394. -/

namespace Sys2Proof.Machine

/-! SHA-384 -/

/-- The 80 round constants. -/
def sha512K : List Nat :=
  [0x428a2f98d728ae22, 0x7137449123ef65cd, 0xb5c0fbcfec4d3b2f, 0xe9b5dba58189dbbc,
    0x3956c25bf348b538, 0x59f111f1b605d019, 0x923f82a4af194f9b, 0xab1c5ed5da6d8118,
    0xd807aa98a3030242, 0x12835b0145706fbe, 0x243185be4ee4b28c, 0x550c7dc3d5ffb4e2,
    0x72be5d74f27b896f, 0x80deb1fe3b1696b1, 0x9bdc06a725c71235, 0xc19bf174cf692694,
    0xe49b69c19ef14ad2, 0xefbe4786384f25e3, 0x0fc19dc68b8cd5b5, 0x240ca1cc77ac9c65]
  ++ [0x2de92c6f592b0275, 0x4a7484aa6ea6e483, 0x5cb0a9dcbd41fbd4, 0x76f988da831153b5,
    0x983e5152ee66dfab, 0xa831c66d2db43210, 0xb00327c898fb213f, 0xbf597fc7beef0ee4,
    0xc6e00bf33da88fc2, 0xd5a79147930aa725, 0x06ca6351e003826f, 0x142929670a0e6e70,
    0x27b70a8546d22ffc, 0x2e1b21385c26c926, 0x4d2c6dfc5ac42aed, 0x53380d139d95b3df,
    0x650a73548baf63de, 0x766a0abb3c77b2a8, 0x81c2c92e47edaee6, 0x92722c851482353b]
  ++ [0xa2bfe8a14cf10364, 0xa81a664bbc423001, 0xc24b8b70d0f89791, 0xc76c51a30654be30,
    0xd192e819d6ef5218, 0xd69906245565a910, 0xf40e35855771202a, 0x106aa07032bbd1b8,
    0x19a4c116b8d2d0c8, 0x1e376c085141ab53, 0x2748774cdf8eeb99, 0x34b0bcb5e19b48a8,
    0x391c0cb3c5c95a63, 0x4ed8aa4ae3418acb, 0x5b9cca4f7763e373, 0x682e6ff3d6b2b8a3,
    0x748f82ee5defb2fc, 0x78a5636f43172f60, 0x84c87814a1f0ab72, 0x8cc702081a6439ec]
  ++ [0x90befffa23631e28, 0xa4506cebde82bde9, 0xbef9a3f7b2c67915, 0xc67178f2e372532b,
    0xca273eceea26619c, 0xd186b8c721c0c207, 0xeada7dd6cde0eb1e, 0xf57d4f7fee6ed178,
    0x06f067aa72176fba, 0x0a637dc5a2c898a6, 0x113f9804bef90dae, 0x1b710b35131c471b,
    0x28db77f523047d84, 0x32caab7b40c72493, 0x3c9ebe0a15c9bebc, 0x431d67c49c100d4c,
    0x4cc5d4becb3e42b6, 0x597f299cfc657e2a, 0x5fcb6fab3ad6faec, 0x6c44198c4a475817]

/-- The initial hash value of SHA-384. -/
def sha384Iv : List Nat := [0xcbbb9d5dc1059ed8, 0x629a292a367cd507, 0x9159015a3070dd17, 0x152fecd8f70e5939,
  0x67332667ffc00b31, 0x8eb44a8768581511, 0xdb0c2e0d64f98fa7, 0x47b5481dbefa4fa4]

/-- Rotate a 64-bit value right. -/
def rotr64 (x n : Nat) : Nat := (x >>> n ||| x <<< (64 - n)) % 2 ^ 64

/-- One word more of the message schedule, newest first. -/
def shaExtend (l : List Nat) : List Nat :=
  let w (i : Nat) : Nat := l.getD (i - 1) 0
  let s0 := rotr64 (w 15) 1 ^^^ rotr64 (w 15) 8 ^^^ w 15 >>> 7
  let s1 := rotr64 (w 2) 19 ^^^ rotr64 (w 2) 61 ^^^ w 2 >>> 6
  ((w 16 + s0 + w 7 + s1) % 2 ^ 64) :: l

/-- One round: working variables a to h, the round's constant and schedule word. -/
def shaRound (v : List Nat) (kw : Nat × Nat) : List Nat :=
  match v with
  | [a, b, c, d, e, f, g, h] =>
    let t1 := h + (rotr64 e 14 ^^^ rotr64 e 18 ^^^ rotr64 e 41) + ((e &&& f) ^^^ ((2 ^ 64 - 1 - e) &&& g)) + kw.1 + kw.2
    let t2 := (rotr64 a 28 ^^^ rotr64 a 34 ^^^ rotr64 a 39) + ((a &&& b) ^^^ (a &&& c) ^^^ (b &&& c))
    [(t1 + t2) % 2 ^ 64, a, b, c, (d + t1) % 2 ^ 64, e, f, g]
  | _ => v

/-- The octets of a number, `n` of them, big-endian. -/
def natOctets : Nat → Nat → List Octet
  | 0, _ => []
  | n + 1, v => BitVec.ofNat 8 (v >>> (8 * n)) :: natOctets n v

/-- A block of 128 octets goes into the hash value. -/
def shaBlock (hv : List Nat) (blk : List Octet) : List Nat :=
  let ws := ((List.range 16).map (fun i => keyNum ((blk.drop (8 * i)).take 8))).reverse
  let sched := ((List.range 64).foldl (fun l _ => shaExtend l) ws).reverse
  let v := (sha512K.zip sched).foldl shaRound hv
  (hv.zip v).map (fun p => (p.1 + p.2) % 2 ^ 64)

/-- The blocks of a padded message, one after the other. -/
def shaBlocks : Nat → List Nat → List Octet → List Nat
  | 0, hv, _ => hv
  | n + 1, hv, m => shaBlocks n (shaBlock hv (m.take 128)) (m.drop 128)

/-- The SHA-384 digest of some octets, as a number. -/
def sha384 (m : List Octet) : Nat :=
  let zeros := (239 - m.length % 128) % 128
  let padded := m ++ [0x80] ++ List.replicate zeros 0 ++ natOctets 16 (8 * m.length)
  ((shaBlocks (padded.length / 128) sha384Iv padded).take 6).foldl (fun a w => a * 2 ^ 64 + w) 0

/-! ECDSA P-384 -/

/-- The prime of the field, the order of the base point, the curve's b, the base point. -/
def p384 : Nat := 0xfffffffffffffffffffffffffffffffffffffffffffffffffffffffffffffffeffffffff0000000000000000ffffffff
def n384 : Nat := 0xffffffffffffffffffffffffffffffffffffffffffffffffc7634d81f4372ddf581a0db248b0a77aecec196accc52973
def b384 : Nat := 0xb3312fa7e23ee7e4988e056be3f82d19181d9c6efe8141120314088f5013875ac656398d8a2ed19d2a85c8edd3ec2aef
def gx384 : Nat := 0xaa87ca22be8b05378eb1c71ef320ad746e1d3b628ba79b9859f741e082542a385502f25dbf55296c3a545e3872760ab7
def gy384 : Nat := 0x3617de4a96262c6f5d9e98bf9292dc29f8f41dbd289a147ce9da3113b5f0b8c00a60b1ce1d7e819d7a431d7c90ea0e5f

/-- A point in Jacobian coordinates; z = 0 is the point at infinity. -/
structure JPoint where
  x : Nat
  y : Nat
  z : Nat
deriving DecidableEq, Repr

/-- Difference in the field. -/
def subP (a b : Nat) : Nat := (a + p384 - b) % p384

/-- Twice a point (a = -3). -/
def JPoint.dbl (q : JPoint) : JPoint :=
  if q.z = 0 then q
  else
    let d := q.z * q.z % p384
    let g := q.y * q.y % p384
    let b := q.x * g % p384
    let al := 3 * (subP q.x d * (q.x + d) % p384) % p384
    let x := subP (al * al % p384) (8 * b % p384)
    ⟨x, subP (al * subP (4 * b % p384) x % p384) (8 * g * g % p384), 2 * q.y * q.z % p384⟩

/-- The sum of two points. -/
def JPoint.add (q r : JPoint) : JPoint :=
  if q.z = 0 then r
  else if r.z = 0 then q
  else
    let z1 := q.z * q.z % p384
    let z2 := r.z * r.z % p384
    let u1 := q.x * z2 % p384
    let u2 := r.x * z1 % p384
    let s1 := q.y * r.z * z2 % p384
    let s2 := r.y * q.z * z1 % p384
    if u1 = u2 then (if s1 = s2 then q.dbl else ⟨1, 1, 0⟩)
    else
      let h := subP u2 u1
      let t := subP s2 s1
      let h2 := h * h % p384
      let h3 := h * h2 % p384
      let v := u1 * h2 % p384
      let x := subP (subP (t * t % p384) h3) (2 * v % p384)
      ⟨x, subP (t * subP v x % p384) (s1 * h3 % p384), h * q.z * r.z % p384⟩

/-- u G + v Q over the bits below `n`, the higher ones first; `gq` is G + Q. -/
def shamir (g q gq : JPoint) (u v : Nat) : Nat → JPoint → JPoint
  | 0, acc => acc
  | n + 1, acc =>
    let a := acc.dbl
    shamir g q gq u v n (match u.testBit n, v.testBit n with
      | true, true => a.add gq
      | true, false => a.add g
      | false, true => a.add q
      | false, false => a)

/-- A power modulo m, over the bits of e below n, the higher ones first. -/
def powMod (m b e : Nat) : Nat → Nat → Nat
  | 0, acc => acc
  | n + 1, acc => powMod m b e n (if e.testBit n then acc * acc % m * b % m else acc * acc % m)

/-- The inverse modulo a prime. -/
def invMod (m a : Nat) : Nat := powMod m a (m - 2) 384 1

/-- An ECDSA P-384 signature over a SHA-384 digest verifies under a public key, X then Y; the signature is r then s, 48 octets each. -/
def ecdsaOk (pub : List Octet) (digest : Nat) (sig : List Octet) : Bool :=
  let x := keyNum (pub.take 48)
  let y := keyNum (pub.drop 48)
  let r := keyNum (sig.take 48)
  let s := keyNum (sig.drop 48)
  let w := invMod n384 s
  let q : JPoint := ⟨x, y, 1⟩
  let g : JPoint := ⟨gx384, gy384, 1⟩
  let t := shamir g q (g.add q) (digest * w % n384) (r * w % n384) 384 ⟨1, 1, 0⟩
  let zi := invMod p384 t.z
  decide (pub.length = 96) && decide (sig.length = 96) && decide (x < p384) && decide (y < p384)
    && decide (y * y % p384 = (x * x * x + (p384 - 3) * x + b384) % p384)
    && decide (0 < r) && decide (r < n384) && decide (0 < s) && decide (s < n384) && decide (t.z ≠ 0)
    && decide (t.x * zi * zi % p384 % n384 = r)

/-! Key unwrap (RFC 3394) -/

/-- One step: the integrity register and the blocks of 8 octets, for block i and counter t. -/
def unwrapStep (k : List Octet) (a : List Octet) (r : List (List Octet)) (i t : Nat) : List Octet × List (List Octet) :=
  let x := natOctets 8 (keyNum a ^^^ t)
  let b := Config.aesDec k (x ++ r.getD (i - 1) [])
  (b.take 8, r.set (i - 1) ((b.drop 8).take 8))

/-- All steps, t of them, the counter falling to 1; n blocks. -/
def unwrapSteps (k : List Octet) (n : Nat) : Nat → List Octet → List (List Octet) → List Octet × List (List Octet)
  | 0, a, r => (a, r)
  | t + 1, a, r =>
    let (a1, r1) := unwrapStep k a r (t % n + 1) (t + 1)
    unwrapSteps k n t a1 r1

/-- The key that a wrapping under a key-encryption key holds; none where the integrity check fails. -/
def unwrapKey (kek wrapped : List Octet) : Option (List Octet) :=
  let n := wrapped.length / 8 - 1
  let blocks := (List.range n).map (fun i => (wrapped.drop (8 * (i + 1))).take 8)
  let (a, r) := unwrapSteps kek n (6 * n) (wrapped.take 8) blocks
  if n = 0 || wrapped.length % 8 ≠ 0 || a ≠ List.replicate 8 0xA6 then none else some r.flatten

end Sys2Proof.Machine
end

