-- ==== Sys2Proof/Machine/Trip.lean ====
section
/-! DEFINITION. The trip path (06_trip_path.md): sources, targets, host trip commands, local pins and the GOOSE fast
publisher; with the vote of the Hedge lines that feeds it (R152, R153). -/

namespace Sys2Proof.Machine

/-! The alarm register (R483, R485) -/

/-- Set a bit of SAFE_ALARM; ALARM_N is low while any bit is 1, and a change of its level raises SAFE_ALARM (R483). -/
def State.setAlarm (s : State) (b : Nat) (v : Bool) : State :=
  let s1 := s.wb Reg.SAFE_ALARM b v
  let low := decide (s1.rd Reg.SAFE_ALARM ≠ 0)
  if low = s1.dev.alarmLow then s1
  else { s1 with dev.alarmLow := low } |>.raise 567

/-! Voting (R152, R153) -/

/-- A wing is excluded (R153, R157). -/
def State.excluded (s : State) (w : Wing) : Bool := s.rb Reg.HEDGE_EXCLUDE w.idx

/-- The voted state of the Hedge lines as the trip logic of a wing has it (R152, R153, R479): the wing's own lines while
the link is down; the other wing's alone while one is excluded; else 1oo2 or 2oo2 by line, and 1oo2 for every line
under the override. -/
def State.voted (s : State) (w : Wing) : Word :=
  let e := s.rd (Reg.HEDGE_LINE .east)
  let v := s.rd (Reg.HEDGE_LINE .west)
  let cfg := s.rd Reg.HEDGE_VOTE_CFG
  if s.iwlDown then s.rd (Reg.HEDGE_LINE w)
  else if s.excluded .east then v
  else if s.excluded .west then e
  else if s.safe.override then e ||| v
  else ((e &&& v) &&& cfg) ||| ((e ||| v) &&& ~~~cfg)

/-- HEDGE_LINE_VOTED follows the vote. Where the wings' votes differ, as they can while the link is down, the register's
bit is a free value (log entry 12). -/
def State.showVote (s : State) : State :=
  let a := s.voted .east
  let b := s.voted .west
  (s.wr Reg.HEDGE_LINE_VOTED ((a &&& b) ||| ((a ^^^ b) &&& s.freshWord))).used 1

/-! Device states of the outputs (R175) -/

/-- Local pins and remote trip points follow the target states (R175). -/
def DevState.live : DevState → Bool
  | .inService => true
  | .test => true
  | .powerFail => true
  | _ => false

/-- Trip outputs are blocked (R175). -/
def DevState.blocked : DevState → Bool
  | .testBlocked => true
  | .maintenance => true
  | _ => false

/-- Target states are computed (R175). -/
def DevState.computes (d : DevState) : Bool := d.live || d.blocked

/-- The device is in TEST or TEST-BLOCKED (R162). -/
def State.inTest (s : State) : Bool := s.dev.st == .test || s.dev.st == .testBlocked

/-- The test field of the trip publications is TRUE (R172). -/
def State.pubTest (s : State) : Bool := s.inTest || s.dev.st == .maintenance

/-! Sources (R161) -/

/-- Source bit `b` of a wing's trip logic (R161). -/
def State.source (s : State) (w : Wing) (b : Nat) : Bool :=
  if b < 32 then tst (s.voted w) b
  else if b < 64 then (Tab.find s.trip.hcmd (b - 32)).isSome
  else if b < 96 then tst (s.trip.ilk.at_ w) (b - 64)
  else tst (s.trip.gsi.at_ w) (b - 96)

/-- The word of five that holds source bits 32 x k to 32 x k + 31 (R161, R177). -/
def State.sourceWord (s : State) (w : Wing) (k : Nat) : Word :=
  match k with
  | 0 => s.voted w
  | 1 => s.rd Reg.TRIP_HCMD_STATE
  | 2 => s.trip.ilk.at_ w
  | 3 => (s.trip.gsi.at_ w).extractLsb' 0 32
  | _ => (s.trip.gsi.at_ w).extractLsb' 32 32

/-- Some source bit of the wing is routed to the target and asserted (R165). -/
def State.routed (s : State) (w : Wing) (t : Nat) : Bool :=
  let base := match w with
    | .east => 2
    | .west => 7
  (List.range 5).any (fun k => decide (s.sourceWord w k &&& s.rd (Reg.TRIP_TGT_CFG t (base + k)) ≠ 0))

/-- The wings that may drive a target: East the TRIPE pins, West the TRIPW pins, both the others (R165). -/
def mayDriveTgt (t : Nat) : Wing → Bool
  | .east => decide (t < 8 ∨ 16 ≤ t)
  | .west => decide (8 ≤ t)

/-- The wings that drive a target (R165, R177: WING bit 0 East, bit 1 West). -/
def State.drives (s : State) (t : Nat) (w : Wing) : Bool := mayDriveTgt t w && s.rb (Reg.TRIP_TGT_CFG t 0) (29 + w.idx)

/-- The source state of a target: the OR of its routed bits over the wings that drive it (R165). -/
def State.srcState (s : State) (t : Nat) : Bool :=
  (s.drives t .east && s.routed .east t) || (s.drives t .west && s.routed .west t)

/-- TP_MIN of a target in ns (R165). -/
def State.tpMin (s : State) (t : Nat) : Nat := s.rf (Reg.TRIP_TGT_CFG t 0) 0 16 * 1000000

/-- A target of the manifest is in use (R177). -/
def State.tgtValid (s : State) (t : Nat) : Bool := s.rb (Reg.TRIP_TGT_CFG t 0) 31

/-! Local pins (R169) -/

/-- Bits 0-7 of a wing's DRIVE field: its pins whose target is active, where outputs are live and no STANDBY has been
commanded (R169, R175, R448). -/
def State.pinDrive (s : State) (w : Wing) : Nat :=
  if s.dev.st.live && !s.dev.stopping then s.rf (Reg.TRIP_TGT_STATE 0) (8 * w.idx) 8 else 0

/-- The level at the balls of a wing, a bit set where the ball is low: driven or pulled low from outside, unless it stays high (R169,
R178, log entry 13). -/
def State.pinRead (s : State) (w : Wing) : Octet :=
  (BitVec.ofNat 8 (s.pinDrive w) ||| s.trip.pull.at_ w) &&& ~~~(s.trip.stuck.at_ w)

/-- Some local pin or remote trip point is active: what blocking holds off; the trip publications stay live (R175). -/
def State.heldOff (s : State) : Bool :=
  (List.range 8).any (fun i => decide (s.rd (Reg.TRIP_TGT_STATE i) ≠ 0)) || decide (s.rf (Reg.TRIP_TGT_STATE 8) 0 16 ≠ 0)

/-- Pins, TRIP_STATUS and the block event follow the target states and the device state (R169, R175, R177). -/
def State.tripOutputs (s : State) : State :=
  let pin (w : Wing) (t : State) : State :=
    (t.wf (Reg.TRIP_PIN_STAT w) 0 8 (t.pinDrive w)).wf (Reg.TRIP_PIN_STAT w) 8 8 (t.pinRead w).toNat
  let some1 := s.heldOff
  let b := s.dev.st.blocked
  let s1 := ((((pin .west (pin .east s)).wb Reg.TRIP_STATUS 31 b).wb Reg.TRIP_STATUS 30 s.pubTest).wb
    Reg.TRIP_STATUS 29 (b && some1))
  if b = s.trip.blocked then s1 else { s1 with trip.blocked := b } |>.raise 574

/-- Update one target from its source state (R165): it rises with the source, and falls at the later of the fall of the
source and the rise plus TP_MIN. -/
def State.evalTarget (t : Nat) (s : State) : State :=
  if s.tgtValid t then
    let o := Tab.get Target.zero s.trip.tgt t
    let src := s.srcState t
    if src && !o.src && !o.act then
      ({ s with trip.tgt := Tab.put s.trip.tgt t ⟨true, true, s.clk.ns⟩ }.wb (Reg.TRIP_TGT_STATE (t / 32)) (t % 32)
        true).raise 575
    else
      let act := o.act && (src || decide (s.clk.ns < o.rise + s.tpMin t))
      { s with trip.tgt := Tab.put s.trip.tgt t ⟨src, act, o.rise⟩ }.wb (Reg.TRIP_TGT_STATE (t / 32)) (t % 32) act
  else s

/-- Update every target and the outputs, in the states in which target states are computed (R165, R175). -/
def State.evalTargets (s : State) : State :=
  (if s.dev.st.computes then each 784 State.evalTarget s else s).tripOutputs

/-- The vote changed: show it and update the targets. -/
def State.revote (s : State) : State := s.showVote.evalTargets

/-- TP_MIN after the rise of a target has ended: it falls if its source has fallen (R165). -/
def State.tpMinExpiry (s : State) (t : Nat) : State :=
  if s.dev.st.computes then (State.evalTarget t s).tripOutputs else s

/-! Engine sources (R161-R163) -/

/-- The fail value FV of a source bit 64-159 of a wing (R162, R163). -/
def State.failValue (s : State) (w : Wing) (b : Nat) : Bool :=
  match w with
  | .east => if b < 96 then tst s.man.ilkFvE (b - 64) else tst s.man.gsiFvE (b - 96)
  | .west => if b < 96 then tst s.man.ilkFvW (b - 64) else tst s.man.gsiFvW (b - 96)

/-- Set a source bit 64-159 of a wing. -/
def State.setSource (s : State) (w : Wing) (b : Nat) (v : Bool) : State :=
  if b < 96 then { s with trip.ilk := s.trip.ilk.set w (setFld (s.trip.ilk.at_ w) (b - 64) 1 (bitOf v)) }
  else { s with trip.gsi := s.trip.gsi.set w (setFld (s.trip.gsi.at_ w) (b - 96) 1 (bitOf v)) }

/-- No GSI flag of the wing is set. -/
def State.noGsiFlag (s : State) (w : Wing) : Bool :=
  s.rd (Reg.TRIP_GSI_STAT w 0) == 0 && s.rd (Reg.TRIP_GSI_STAT w 1) == 0

/-- A source bit takes its fail value; a GSI bit's flag sets, and the first flag of the wing raises TRIP_x_GSI_FAIL
(R162). -/
def State.takeFv (s : State) (w : Wing) (b : Nat) : State :=
  let s1 := s.setSource w b (s.failValue w b)
  if b < 96 then s1
  else
    let n := b - 96
    let first := s.noGsiFlag w
    let s2 := s1.wb (Reg.TRIP_GSI_STAT w (n / 32)) (n % 32) true
    if first then s2.raiseW 571 w else s2

/-- The wing of an engine (R11). -/
def engWing (n : Nat) : Wing := if n < 16 then .east else .west

/-- An engine writes a source bit that the manifest gives it: the bit becomes live (R161-R163). A simulated frame feeds
a GSI bit only under SIM_EN in TEST or TEST-BLOCKED; invalid quality, or test outside those states, gives FV. -/
def State.engineSourceWrite (s : State) (n bit : Nat) (v : Bool) (q : GooseQual) : State :=
  let w := engWing n
  let key := 160 * w.idx + bit
  if !s.man.engBits.contains (n, bit) then s
  else
    let s0 := { s with trip.hold := Tab.del s.trip.hold key, trip.stale := Tab.del s.trip.stale key }
    if bit < 96 then (s0.setSource w bit v).evalTargets
    else if q.sim && !(s.rb Reg.TRIP_CTRL 31 && s.inTest) then s
    else if q.invalid || (q.test && !s.inTest) then (s0.takeFv w bit).evalTargets
    else ((s0.setSource w bit v).wb (Reg.TRIP_GSI_STAT w ((bit - 96) / 32)) ((bit - 96) % 32) false).evalTargets

/-- timeAllowedToLive of a subscription expires: its bit takes FV (R162). -/
def State.gsiTalExpiry (s : State) (w : Wing) (n : Nat) : State := (s.takeFv w (96 + n)).evalTargets

/-- An engine stops feeding its source bits: each keeps its value and its hold begins (R163). -/
def State.holdSources (s : State) (n : Nat) : State :=
  let w := engWing n
  let bits := (s.man.engBits.filter (fun p => p.1 == n)).map (fun p => 160 * w.idx + p.2)
  let fresh := bits.filter (fun k => (Tab.find s.trip.hold k).isNone && (Tab.find s.trip.stale k).isNone)
  if fresh.isEmpty then s
  else { s with trip.hold := fresh.foldl (fun t k => Tab.put t k s.clk.ns) s.trip.hold } |>.raise 573

/-- ENG_HOLD after the stop of its engine a source bit takes FV (R163). -/
def State.engHoldExpiry (s : State) (w : Wing) (bit : Nat) : State :=
  let key := 160 * w.idx + bit
  match Tab.find s.trip.hold key with
  | some t0 =>
    if s.clk.ns < t0 + s.rf (Reg.TRIP_WING_CFG w) 16 7 * 1000000 then s
    else
      let s1 := { s with trip.hold := Tab.del s.trip.hold key, trip.stale := Tab.put s.trip.stale key s.clk.ns }
      (s1.takeFv w bit).evalTargets
  | none => s

/-! Host trip commands (R166, R167) -/

/-- The 12 bytes that the CRC of a command covers (R166). -/
def tripCrcBytes (mask ctl : Word) (seq : Half) (tid : Nat) : List Octet :=
  (wordBytes mask).reverse ++ (wordBytes ctl).reverse
    ++ [(seq >>> (8 : Nat)).setWidth 8, seq.setWidth 8, BitVec.ofNat 8 tid, 0]

/-- The owner of a host command line (R166). -/
def State.hcmdOwner (s : State) (n : Nat) : Option Nat := (s.man.hcmdOwner.find? (fun p => p.1 == n)).map (fun p => p.2)

/-- The result of the checks of R166 on the staged words: 0 OK, else the first check that fails (R177). -/
def State.tripCheck (s : State) (fn : Nat) (seq crc : Half) : Nat :=
  let mask := s.rd (Reg.TRIP_CMD_MASK fn)
  let ctl := s.rd (Reg.TRIP_CMD_CTL fn)
  let last := s.rf (Reg.TRIP_CMD_STAT fn) 0 16
  if !s.hasPriv fn 1 then 1
  else if crc16 (tripCrcBytes mask ctl seq fn) 0xFFFF ≠ crc then 2
  else if seq.toNat ≠ (last + 1) % 65536 then 3
  else if (List.range 32).any (fun n => tst mask n && !(s.hcmdOwner n == some fn)) then 4
  else if fld ctl 28 4 = 2 ∨ (fld ctl 28 4 = 1 ∧ 1 ≤ fld ctl 0 16 ∧ fld ctl 0 16 ≤ 2000) then 0
  else 5

/-- Set or end one host line; `none` ends it (R167). -/
def State.setLine (s : State) (n : Nat) (till : Option Nat) : State :=
  match till with
  | some t => { s with trip.hcmd := Tab.put s.trip.hcmd n (max t (Tab.get 0 s.trip.hcmd n)) }.wb Reg.TRIP_HCMD_STATE n true
  | none => { s with trip.hcmd := Tab.del s.trip.hcmd n }.wb Reg.TRIP_HCMD_STATE n false

/-- An accepted trip command (R167): its sequence number is kept; PULSE drives each masked line for WIDTH ms, CLEAR ends
it at once. -/
def State.tripDo (s : State) (fn : Nat) (seq : Half) : State :=
  let mask := s.rd (Reg.TRIP_CMD_MASK fn)
  let ctl := s.rd (Reg.TRIP_CMD_CTL fn)
  let till := if fld ctl 28 4 = 1 then some (s.clk.ns + fld ctl 0 16 * 1000000) else none
  let s2 := ((s.wf (Reg.TRIP_CMD_STAT fn) 29 3 0).wf (Reg.TRIP_CMD_STAT fn) 0 16 seq.toNat).cnt Reg.TRIP_CMD_ACCEPTED 0 32 1
  (each 32 (fun n t => if tst mask n then t.setLine n till else t) s2).evalTargets

/-- A write of TRIP_CMD_GO: check the staged command and carry it out, or refuse it (R166, R167). -/
def State.tripGo (s : State) (fn : Nat) (seq crc : Half) : State :=
  if !s.reach fn then s
  else
    let r := s.tripCheck fn seq crc
    if r = 0 then s.tripDo fn seq
    else ((s.wf (Reg.TRIP_CMD_STAT fn) 29 3 r).cnt Reg.TRIP_CMD_REFUSED_CNT 0 32 1).raise 570

/-- A write of GO while PULSE is staged (R167). -/
def State.pulse (s : State) (fn : Nat) (seq crc : Half) : State := s.tripGo fn seq crc

/-- A write of GO while CLEAR is staged (R167). -/
def State.clear (s : State) (fn : Nat) (seq crc : Half) : State := s.tripGo fn seq crc

/-- The timed pulse of a host line ends (R167). -/
def State.hcmdPulseEnd (s : State) (n : Nat) : State :=
  match Tab.find s.trip.hcmd n with
  | some t => if s.clk.ns < t then s else (s.setLine n none).evalTargets
  | none => s

/-- The ball of a pin has read a level for READBACK_FILT (R169, R178, R478): where it is not the level commanded, MISMATCH sets and the
safety monitor alarms, but not for a pin read low while released that WIRED_OR lets another device pull; where it is, the ball follows
the drive again (log entry 13). -/
def State.readbackMismatch (s : State) (pin : Wing × Fin 8) (low : Bool) : State :=
  let w := pin.1
  let i := pin.2.val
  let driven := s.rb (Reg.TRIP_PIN_STAT w) i
  let s1 := { s with
    trip.pull := s.trip.pull.set w (setFld (s.trip.pull.at_ w) i 1 (bitOf (low && !driven)))
    trip.stuck := s.trip.stuck.set w (setFld (s.trip.stuck.at_ w) i 1 (bitOf (!low && driven))) }.tripOutputs
  if low = driven || (low && s.rb (Reg.TRIP_TGT_CFG (8 * w.idx + i) 0) 28) then s1
  else ((s1.wb (Reg.TRIP_PIN_STAT w) (16 + i) true).raiseW 568 w).setAlarm 22 true

/-! Trip publications (R172, R173) -/

/-- The configuration of a trip publication, if the manifest has it. -/
def State.pubOf (s : State) (g : Nat) : Option TripPubCfg := (s.man.tripPubs.find? (fun p => p.1 == g)).map (fun p => p.2)

/-- The states of a publication's members: targets 272 + 8 x g to 279 + 8 x g (R165). -/
def State.members (s : State) (g : Nat) : Octet :=
  BitVec.ofNat 8 (s.rf (Reg.TRIP_TGT_STATE ((272 + 8 * g) / 32)) ((272 + 8 * g) % 32) 8)

/-- Trip publications are sent (R175): dying-gasp publications only in POWER-FAIL. -/
def State.pubsLive (s : State) : Bool := (s.dev.st == .inService || s.pubTest) && !s.dev.stopping

/-- Put a frame of a publication on one egress port: it replaces one of the same publication not yet begun, and takes
its place behind the other trip frames (R270); the event is raised on the first one since the counter was read (R291). -/
def State.queueTrip (s : State) (f : TripFrame) : State :=
  let old := s.trip.frames.any (fun x => x.g == f.g && x.port == f.port)
  let rest := s.trip.frames.filter (fun x => !(x.g == f.g && x.port == f.port))
  let s1 := { s with trip.frames := rest ++ [f] }
  if old then (s1.cnt Reg.SW_TRIP_SUPERSEDED 0 32 1).raiseIf (s1.rd Reg.SW_TRIP_SUPERSEDED == 0) 392 else s1

/-- The content of a publication's frame (R172): timeAllowedToLive is three intervals of `i` us, the test field follows the device
state, the simulation field is FALSE. -/
def State.pubMsg (s : State) (c : TripPubCfg) (p : TripPub) (i : Nat) : Goose :=
  { appid := c.appid, tmpl := c.tmpl, stNum := p.stNum, sqNum := p.sqNum, t := p.t, tal := 3 * i, mem := p.mem, test := s.pubTest
    sim := false, auth := none }

/-- What the tag of such a frame covers, as 16-bit words (R429, log entry 147). -/
def tripWords (m : Goose) : List Half :=
  m.appid :: octetsHalves m.tmpl ++ wordHalves m.stNum ++ wordHalves m.sqNum ++ natHalves 6 m.t ++ natHalves 2 m.tal
    ++ [m.mem.setWidth 16, BitVec.ofNat 16 (2 * bitOf m.test + bitOf m.sim)]

/-- A frame with its extension: the GMAC under the key of a slot, the invocation counter the low 64 bits of the vector (R172, R429). -/
def State.signTrip (s : State) (slot : Nat) (ctr : BitVec 64) (m : Goose) : Goose :=
  { m with auth := some ⟨some slot, ctr.setWidth 96, gcmTag (s.keyNum slot) (ctr.setWidth 96) (tripWords m)⟩ }

/-- Send a frame of publication `g` on its ports, with the tags of the copies of a redundancy pair (R280). -/
def State.sendOut (s : State) (g : Nat) (c : TripPubCfg) (m : Goose) : State :=
  eachIn (s.tagPorts c.ports).1 (fun q t => t.queueTrip ⟨g, c.wing, q.1, q.2, m⟩) (s.tagPorts c.ports).2

/-- Build and send a frame of a publication. With a key slot the frame carries a GMAC and spends one invocation; at LIMIT
it is not sent. A port of a redundancy pair stands for the pair (R280). `i` is the interval to the next resend in us (R172, R429). -/
def State.sendPub (s : State) (g : Nat) (c : TripPubCfg) (i : Nat) : State :=
  let p := Tab.get TripPub.zero s.trip.pub g
  let msg := s.pubMsg c p i
  match c.keySlot with
  | none => s.sendOut g c msg
  | some k =>
    if c.limit ≤ p.ctr then
      ({ s with
        trip.exhDrop := Tab.put s.trip.exhDrop g (Tab.get 0 s.trip.exhDrop g + 1)
        trip.pub := Tab.put s.trip.pub g { p with exh := true } }.raise 526).setAlarm 25 true
    else
      let s1 := { s with trip.pub := Tab.put s.trip.pub g { p with ctr := p.ctr + 1 } }
      (s1.raiseIf (p.ctr.toNat + 1 == c.limit.toNat - c.thr + 1) 525).sendOut g c (s.signTrip k p.ctr msg)

/-- A member of a publication changes: stNum advances, sqNum is 0, t is now, the frame goes out at once and is resent
after T1 (R172). -/
def State.changePub (s : State) (g : Nat) (c : TripPubCfg) (m : Octet) : State :=
  let p := Tab.get TripPub.zero s.trip.pub g
  let p1 := { p with mem := m, stNum := p.stNum + 1, sqNum := 0, t := s.devT, next := s.clk.ns + c.t1us * 1000, intUs := c.t1us }
  { s with trip.pub := Tab.put s.trip.pub g p1 }.sendPub g c c.t1us

/-- A member of trip publication `g` changes (R172). -/
def State.tripPubChange (s : State) (g : Nat) : State :=
  match s.pubOf g with
  | some c =>
    if s.pubsLive && decide (s.members g ≠ (Tab.get TripPub.zero s.trip.pub g).mem) then s.changePub g c (s.members g)
    else s
  | none => s

/-- The interval to a publication's next resend ends: it is resent with sqNum + 1. Resends fall T1, 2 x T1, 4 x T1 and so
on after the change, until the interval between them reaches T0 (R172). -/
def State.tripPubResend (s : State) (g : Nat) : State :=
  match s.pubOf g, Tab.find s.trip.pub g with
  | some c, some p =>
    if !s.pubsLive || s.clk.ns < p.next then s
    else
      let i := min p.intUs c.t0us
      let p1 := { p with sqNum := p.sqNum + 1, intUs := 2 * i, next := p.next + i * 1000 }
      { s with trip.pub := Tab.put s.trip.pub g p1 }.sendPub g c i
  | _, _ => s

/-! The meanings of the rows -/

/-- TP_MIN_EXPIRY (R165): TP_MIN after a rise ends, and the target goes inactive if its source has fallen. -/
def execTpMinExpiry (t : Nat) (s : State) : Out :=
  live (tpMinExpiryOk t) s (s.tpMinExpiry t)

/-- ENGINE_SOURCE_WRITE (R163): An engine writes an ILK or GSI source bit, which becomes live. -/
def execEngineSourceWrite (n bit : Nat) (v : Bool) (q : GooseQual) (s : State) : Out :=
  live (engineSourceWriteOk n bit) s (s.engineSourceWrite n bit v q)

/-- GSI_TAL_EXPIRY (R162): A GOOSE subscription's timeAllowedToLive expires and its GSI bit takes its fail value. -/
def execGsiTalExpiry (w : Wing) (n : Nat) (s : State) : Out :=
  live (gsiTalExpiryOk n) s (s.gsiTalExpiry w n)

/-- ENG_HOLD_EXPIRY (R163): An engine source held since its engine stopped reaches ENG_HOLD and takes its fail value. -/
def execEngHoldExpiry (w : Wing) (bit : Nat) (s : State) : Out :=
  live (engHoldExpiryOk bit) s (s.engHoldExpiry w bit)

/-- PULSE (R167): A TRIP_CMD GO with OP PULSE passes the checks and holds each masked line active for WIDTH. -/
def execPulse (fn : Nat) (seq crc : BitVec 16) (s : State) : Out :=
  checked (pulseOk fn) s (s.pulse fn seq crc)

/-- CLEAR (R167): A TRIP_CMD GO with OP CLEAR passes the checks and ends each masked line at once. -/
def execClear (fn : Nat) (seq crc : BitVec 16) (s : State) : Out :=
  checked (clearOk fn) s (s.clear fn seq crc)

/-- HCMD_PULSE_END (R167): A host command line's timed pulse reaches its end and the line goes inactive. -/
def execHcmdPulseEnd (n : Nat) (s : State) : Out :=
  live (hcmdPulseEndOk n) s (s.hcmdPulseEnd n)

/-- READBACK_MISMATCH (R169): A trip-pin readback mismatch lasts READBACK_FILT, setting MISMATCH and raising TRIP_x_READBACK. -/
def execReadbackMismatch (pin : Wing × Fin 8) (low : Bool) (s : State) : Out :=
  live true s (s.readbackMismatch pin low)

/-- TRIP_PUB_CHANGE (R172): A trip-publication member changes, so stNum advances and the frame is sent at once. -/
def execTripPubChange (g : Nat) (s : State) : Out :=
  live (tripPubChangeOk g) s (s.tripPubChange g)

/-- TRIP_PUB_RESEND (R172): A trip publication's retransmission interval expires and the frame is resent. -/
def execTripPubResend (g : Nat) (s : State) : Out :=
  live (tripPubResendOk g) s (s.tripPubResend g)

end Sys2Proof.Machine
end

