-- ==== Sys2Proof/Machine/Dev.lean ====
section
/-! DEFINITION. Operations of the whole device that several chapters use: mailbox notices and replies, changes of the
device state, the resets of R438 as what they restore, exclusion of a wing and the reactions of R476. -/

namespace Sys2Proof.Machine

/-! Messages to the host (R404) -/

/-- Queue a message for the FD slot of a channel; the steward posts it when the slot and its receiver allow (R406). -/
def State.send (s : State) (ch : Nat) (m : Msg) : State :=
  { s with host.out := Tab.put s.host.out ch (Tab.get [] s.host.out ch ++ [m]) }

/-- Answer the request taken on a channel: same SEQ, TYPE + 0x80 (R404). -/
def State.replyLen (s : State) (ch len : Nat) (ws : List Word) : State :=
  match Tab.find s.host.taken ch with
  | some q => { s with host.taken := Tab.del s.host.taken ch }.send ch ⟨q.typ + 0x80, q.seq, len, ws⟩
  | none => s

/-- Answer with whole words: the result first (R404). -/
def State.reply (s : State) (ch : Nat) (ws : List Word) : State := s.replyLen ch (4 * ws.length) ws

/-- Carry out the request taken on a channel, if it has this TYPE (R402, R404). -/
def State.request (s : State) (ch ty : Nat) (go : State → State) : State :=
  match Tab.find s.host.taken ch with
  | some q => if q.typ.toNat = ty then go s else s
  | none => s

/-- The octets of the request taken on a channel, LEN of them, a missing one 0: those that lay in the host bank when it was taken, or,
from the sender's memory, those that the command gives (R401). -/
def State.msg (s : State) (ch : Nat) (given : List Octet) : List Octet :=
  match Tab.find s.host.taken ch with
  | some q => (q.body.getD given ++ List.replicate q.len 0).take q.len
  | none => given

/-- A word of a message, its missing octets 0 (R401). -/
def msgWord (m : List Octet) (i : Nat) : Word := bytesWord ((m.drop (4 * i)).take 4)

/-- A message reaches the first octet of `n` words (R401). -/
def msgHas (m : List Octet) (n : Nat) : Bool := decide (4 * n ≤ m.length + 3)

/-- The function that sends on a channel: MBt is function t's, a secure channel that of the tenant to which the manifest
gives it, an internal channel no function's (R403). -/
def State.chanFn (s : State) (ch : Nat) : Option Nat :=
  if ch < 256 then some ch
  else if ch < 272 then (s.man.tenants.find? (fun t => t.secure && t.secCh == ch - 256)).map (fun t => t.tid)
  else none

/-- The sender of a channel's request holds a privilege (R395). -/
def State.chanPriv (s : State) (ch b : Nat) : Bool :=
  match s.chanFn ch with
  | some t => s.hasPriv t b
  | none => false

/-- The HMAC of a journal record under the device key (R461, log entry 184). -/
def journalTag (recs : List HedgeRec) (ilk : Option (Nat × Nat)) : List Octet :=
  let words (r : HedgeRec) : List Word := [BitVec.ofNat 32 (r.wings.toNat * 2 ^ 30 + r.idx), r.w1, r.w2, r.w3, r.w4]
  let mode : List Octet := match ilk with
    | some m => [BitVec.ofNat 8 m.1, BitVec.ofNat 8 m.2]
    | none => []
  Config.hmacSha256 Config.journalKey ((recs.flatMap words).flatMap wordBytes ++ mode)

/-- A record changes the settings (R461). -/
def JEntry.apply (e : JEntry) (i : SettingsImage) : SettingsImage :=
  { i with
    recs := i.recs ++ e.recs
    ilkModes := match e.ilk with
      | some m => i.ilkModes.filter (fun x => x.1 != m.1) ++ [m]
      | none => i.ilkModes }

/-- Add a record to the journal of the half in use, and carry it into the stored settings (R461). -/
def State.journalAdd (s : State) (recs : List HedgeRec) (ilk : Option (Nat × Nat)) : State :=
  let e : JEntry := ⟨recs, ilk, journalTag recs ilk⟩
  let h := Tab.get SetHalf.zero s.upd.halves s.upd.half
  { s with upd.halves := Tab.put s.upd.halves s.upd.half { h with log := h.log ++ [e] }, upd.stored := s.upd.stored.map e.apply }

/-- Post PEER_RESET with cause 1 for every request taken and not answered (R404). -/
def State.peerReset (s : State) : State :=
  eachIn (s.host.taken.filter (fun p => decide (p.1 < 272)))
    (fun p t => { t with host.taken := Tab.del t.host.taken p.1 }.send p.1 ⟨0xF0, p.2.seq, 4, [1]⟩) s

/-! Device states (R443, R444) -/

/-- The device changes state: SYS_STATE_CHANGE, the state record, the alarm of SAFE TALK, the outputs of R175. -/
def State.enter (s : State) (d : DevState) : State :=
  if s.dev.st = d then s
  else
    let s1 := { s with dev.prev := s.dev.st, dev.st := d, dev.since := s.clk.ns, mram.stateRec := (d, some s.dev.st) }
    ((s1.raise 536).setAlarm 23 (d == .safeTalk)).evalTargets

/-! What a reset restores (R8, R438) -/

/-- The resets that restart the device. -/
inductive Restart where
  | power | standbyExit | system
deriving DecidableEq, Repr

/-- The level recorded in SYS_RESET_CAUSE (R454). -/
def Restart.level : Restart → Nat
  | .power => 1
  | .standbyExit => 6
  | .system => 2

/-- A register is restored by the reset (R8). -/
def Restart.restores (r : Restart) (row : RegRow) : Bool :=
  match r with
  | .power => true
  | .standbyExit => !row.aon
  | .system => row.lvl != .p

/-- The registers with those a condition names at their reset values. -/
def State.restoreRegs (s : State) (hit : RegRow → Nat → Bool) : State :=
  { s with regs := s.regs.filter (fun p => match regInfo p.1 with
      | some row => !hit row p.1
      | none => false) }

/-- Words of the reset-history record, whose layout the manual does not give (R450, log entry 3). -/
def State.histRecord (s : State) : State :=
  { s with
    mram.mem := putWords s.mram.mem (0x2000 + 64 * s.mram.histIdx)
      ((List.range 16).map (fun i => Config.freeWord (s.free + i)))
    mram.histIdx := (s.mram.histIdx + 1) % 64
    free := s.free + 16 }

/-- Write SYS_RESET_CAUSE (R454). -/
def State.setCause (s : State) (cause level prev cnt : Nat) : State :=
  s.wr Reg.SYS_RESET_CAUSE (BitVec.ofNat 32 (cause * 2 ^ 24 + level * 2 ^ 20 + prev * 2 ^ 16 + capAt 15 cnt))

/-- System resets within the last 10 s: 327,680 CD0 periods (R441). -/
def State.recentResets (s : State) : List Nat := s.dev.storms.filter (fun t => decide (s.clk.cd0 < t + 327680))

/-- FN_STAT.LAST_RESET of the functions that a reset of system level reached (R398). -/
def keepLast (old : State) (lr : Nat → Nat) (s : State) : State :=
  each 256 (fun t u => if lr t = 0 then u else u.wf (Reg.FN_STAT t) 24 3 (lr t))
    (each 256 (fun t u => if old.rf (Reg.FN_STAT t) 24 3 = 0 then u
      else u.wf (Reg.FN_STAT t) 24 3 (old.rf (Reg.FN_STAT t) 24 3)) s)

/-- The Toll governor after a reset below its own level: it runs on, POWER-FAIL and the temperature hold being over (R8, R11, log
entry 144). -/
def Toll.keep (t : Toll) : Toll := { t with task := 0, done := 0, skipped := 0, backAt := none, fullAt := none, forced := false }

/-- Clock domains whose oscillator or PLL the reset restarts (R13): none restarts CD3, and only a power-on reset CD0 to CD2. -/
def Restart.plls (r : Restart) : List Nat :=
  match r with
  | .power => List.range 3 ++ (List.range 21).map (fun d => d + 4)
  | _ => (List.range 21).map (fun d => d + 4)

/-- Every block of MAIN at its reset state, with what the reset leaves intact carried over (R11, R438). An unlock of debug ends with
the debug logic's level, at a power-on or standby-exit reset (R8, R11, R431, log entry 145). -/
def State.clearMain (s : State) (r : Restart) : State :=
  let s1 := s.restoreRegs (fun row _ => r.restores row)
  let z := State.reset
  { z with
    pending := s.pending
    free := s.free
    regs := s1.regs
    clk := { s.clk with ltcE := 0, ltcW := 0, pll := r.plls.foldl (fun t d => Tab.put t d s.clk.ns) s.clk.pll }
    toll := match (r : Restart) with
      | Restart.power => z.toll
      | _ => s.toll.keep
    dev := { z.dev with
      st := s.dev.st, prev := s.dev.prev, since := s.dev.since, storms := s.dev.storms, storm := s.dev.storm,
      vinOk := s.dev.vinOk, sel := s.dev.sel, pwrReq := s.dev.pwrReq,
      suffixI := s.dev.suffixI, alarmLow := false }
    arb := { z.arb with since := s.clk.cd2 }
    sec := { z.sec with
      fuse := s.sec.fuse, fuseLatched := s.sec.fuseLatched, unlocked := s.sec.unlocked && r == .system
      nonce := if r == .system then s.sec.nonce else none, tap := if r == .system then s.sec.tap else .zero }
    upd := { z.upd with
      copy := s.upd.copy, seq := s.upd.seq, word2 := s.upd.word2, prev := s.upd.prev, flash := s.upd.flash, staged := s.upd.staged
      half := s.upd.half, halves := s.upd.halves, mans := s.upd.mans }
    lease := { z.lease with last := match (r : Restart) with
      | Restart.system => s.lease.last
      | _ => none }
    can := match (r : Restart) with
      | Restart.power => []
      | _ => s.can.map (fun (p : Nat × Can) => (p.1, { Can.zero with wakeAt := p.2.wakeAt }))
    mram := s.mram }

/-- What a system reset ends is reported before it clears the device: the lapse of a held lease, and the blocking of the outputs (R149,
R175). -/
def State.lastReports (s : State) (r : Restart) : State :=
  if r == .system then (s.raiseIf s.lease.holder.isSome 484).raiseIf s.trip.blocked 574 else s

/-- The reset itself (R438-R442, R444): record the cause and the history, restore what the level restores, load ARB_EPOCH, and
enter BOOT. The reset holds until its release. -/
def State.resetAll (s : State) (r : Restart) (cause : Nat) : State :=
  let recent := s.recentResets
  let n := match r with
    | .system => recent.length + 1
    | _ => 0
  let storming := r == .system && decide (9 ≤ n) && !s.dev.storm
  let s1 := s.clearMain r
  let s2 := match r with
    | .system => { s1 with dev.storms := s.clk.cd0 :: recent, dev.storm := s.dev.storm || storming }
    | .power =>
      { s1 with
        dev.storms := [], dev.storm := false, dev.pwrReq := true, sec.fuseLatched := s.sec.fuse,
        clk.rtc := 0, clk.cd0 := 0 }
    | .standbyExit => { s1 with dev.pwrReq := true }
  let s3 := keepLast (if r == .system then s else State.reset) (fun t => if s.host.en.contains t then 5 else 0) s2
  let s4 := s3.wr Reg.ARB_EPOCH (s3.rd (Reg.BKUP 1))
  let s5 := s4.wb Reg.ARB_STATUS 31 (decide (s4.rd Reg.ARB_EPOCH = 0xFFFFFFFF#32) || (r == .system && s.rb Reg.ARB_STATUS 31))
  let s6 := (s5.setCause (if storming then 0x0B else cause) r.level s.dev.st.code n).histRecord
  let s7 := if r == .system && s.lease.holder.isSome then { s6 with lease.cause := 5 } else s6
  let s8 := { s7 with
    arb.known := ⟨s7.rd Reg.ARB_EPOCH, s7.rd Reg.ARB_EPOCH⟩
    dev.rst := true, dev.rstEnd := s.clk.ns + 10000, dev.restarted := true
    dev.woke := decide (r = Restart.standbyExit) }
  let s9 := s8.enter .boot
  let s10 := if storming then s9.raise 539 else s9
  if s10.sec.unlocked then s10.setAlarm 27 true else s10

/-- Assert a restart of the device: the reports due before it, then the reset (R149, R175, R438). -/
def State.restart (s : State) (r : Restart) (cause : Nat) : State := (s.lastReports r).resetAll r cause

/-! Reactions of the safety monitor (R476, R477) -/

/-- Record the last reaction: its event, level, and wing code 1 East, 2 West, 3 centre (R484). -/
def State.safeLast (s : State) (es lvl wing : Nat) : State :=
  s.wr Reg.SAFE_LAST (BitVec.ofNat 32 ((es - 560) * 2 ^ 24 + lvl * 2 ^ 20 + wing))

/-- SAFE_ALARM.VOTE follows exclusion, IWL_DOWN and the 1oo2 override (R485). -/
def State.voteAlarm (s : State) : State :=
  s.setAlarm 30 (decide (s.rd Reg.HEDGE_EXCLUDE ≠ 0) || s.iwlDown || s.safe.override)

/-- SYSTEM: a system reset with cause 0x07 SAFETY (R476). -/
def State.reactSystem (s : State) (es : Nat) : State := (s.safeLast es 4 3).restart .system 7

/-- EXCLUDE of a wing (R153, R476, R477): voting follows the other wing, the wing's steward, if it holds the role, stops
its heartbeats; when both wings would be excluded, SYSTEM instead. Identification and its 1oo2 override end (R479). -/
def State.exclude (s : State) (w : Wing) (es : Nat) : State :=
  if s.excluded w then s.safeLast es 2 (wingCode w)
  else if s.excluded w.other then s.reactSystem es
  else
    let s0 := { s with safe.override := false, safe.directed := none }
    let s1 := (s0.wb Reg.HEDGE_EXCLUDE w.idx true).safeLast es 2 (wingCode w)
    let s2 := ((s1.raiseAt 566 0 (wingCode w)).raise 487).voteAlarm.revote
    if s2.steward = some w then { s2 with arb.mute := s2.arb.mute.set w true } else s2

/-- The exclusion of a wing ends (R471). -/
def State.unexclude (s : State) (w : Wing) : State :=
  if s.excluded w then
    (((s.wb Reg.HEDGE_EXCLUDE w.idx false).raiseAt 566 0 (wingCode w)).raise 487).voteAlarm.revote
  else s

/-- A diagnostic of a wing has found it faulty: the instant counts for the identification of R479. -/
def State.wingFault (s : State) (w : Wing) : State :=
  { s with safe.faultAt := s.safe.faultAt.set w (some s.clk.ns) }

/-! Core resets (R8, R11, R438) -/

/-- The engine of a K-level register address (R40, R316): the PE block gives each engine 0x1000. -/
def engOfAddr (a : Nat) : Nat := (a - 0x00B00000) / 0x1000

/-- Reset of one engine as a cluster or core reset makes it: K fields, both processors, the interlock sequencer and the
receive queues; contexts keep their bindings (R8, R307, R308, R312). -/
def State.resetEngine (s : State) (n : Nat) : State :=
  let e := Tab.get Engine.zero s.eng n
  let s1 := s.restoreRegs (fun row a => row.lvl == .k && engOfAddr a == n)
  { s1.holdSources n with eng := Tab.put s1.eng n { Engine.zero with ctx := e.ctx } }

/-- Core reset of the wings named: their stewards stop, their clusters and engines reset; no other state of level S changes
(R438). -/
def State.coreResetWing (s : State) (w : Wing) : State :=
  let s1 := each 4 (fun c t => t.wf (Reg.PE_CL_STAT (4 * w.idx + c)) 30 2 1)
    (each 16 (fun i t => t.resetEngine (16 * w.idx + i)) s)
  { s1.restoreRegs (fun row _ => row.lvl == .c) with
    dev.core := s1.dev.core.set w true, dev.stew := s1.dev.stew.set w false, dev.stepAt := s.clk.ns
    arb.lost := s1.arb.lost.set w false }

/-- Core reset of a list of wings with its cause and level (R439, R454). -/
def State.coreReset0 (s : State) (ws : List Wing) (cause : Nat) : State :=
  let lvl := if ws.length = 2 then 5 else match ws with
    | .west :: _ => 4
    | _ => 3
  let s1 := eachIn ws (fun w t => t.coreResetWing w) s
  let n := s.recentResets.length
  ((s1.setCause cause lvl s.dev.st.code n).histRecord).raise 538

end Sys2Proof.Machine
end

