-- ==== Sys2Proof/Machine/Arb.lean ====
section
/-! DEFINITION. Wings, the inter-wing link and the primacy arbiter (01_architecture.md). -/

namespace Sys2Proof.Machine

/-! The inter-wing link (R16-R19, R506) -/

/-- Cross-wing comparison runs or stops in both wings; when it resumes the mismatch counts start again, HEDGE_CMP_STAT.RUN among them
(R155, R159, R506). -/
def State.compareOn (s : State) (on : Bool) : State :=
  let one (w : Wing) (t : State) : State := (t.wb (Reg.HEDGE_CMP_STAT w) 31 on).wf (Reg.HEDGE_CMP_STAT w) 16 8 0
  { one .west (one .east s) with
    hedge.e.bad := [], hedge.w.bad := [], hedge.e.own := [], hedge.w.own := [], hedge.e.sent := [], hedge.w.sent := []
    hedge.e.got := [], hedge.w.got := [] }

/-- Transfers of every class that are in flight are lost: heartbeats, mirror messages, comparison records, sample copies (R19). -/
def State.linkLost (s : State) : State :=
  { s with
    intake.e.fwd := [], intake.w.fwd := [], arb.linkBeats := ⟨[], []⟩, arb.mirrorReq := ⟨none, none⟩
    arb.inflight := s.arb.inflight.map (fun m => { m with lost := m.lost || !m.acked }) }

/-- The number of lanes that carry traffic went to zero or left it: transfers in flight are lost, forwarding and comparison stop or
resume, and the alarm of the vote follows (R19, R506). -/
def State.linkSet (s : State) (down : Bool) : State :=
  let s1 := s.linkLost
  let act := s1.upd.act.isNone && s1.dev.st.computes
  let s2 := s1.compareOn (!down && act)
  ((s2.wb (Reg.INTAKE_STATUS .east) 31 (!down)).wb (Reg.INTAKE_STATUS .west) 31 (!down)).voteAlarm

/-- The same after the start of the link, with the vote and its event (R153). -/
def State.linkTurn (s : State) (down : Bool) : State :=
  (({ s with arb.iwlRefused := false }.linkSet down).raise 487).revote

/-- Raise the link events of a change of the number of lanes and let the rest of the device follow (R506). -/
def State.lanesChanged (s : State) (before : Nat) : State :=
  let n := s.lanes
  if before = n then s
  else
    let s1 := s.raiseIf (before == 1 || n == 1) 580
    let s2 := s1.raiseIf (before == 0 || n == 0) 581
    if before = 0 || n = 0 then s2.linkTurn (n == 0) else s2

/-- A lane starts or stops carrying traffic (R506). Up to the first deadline after a reset the link counts as one of two lanes, so
that no event comes before it (log entry 14). -/
def State.laneTo (s : State) (lane : Nat) (up : Bool) : State :=
  let n := s.lanes
  let s1 := s.wb Reg.IWL_STAT (31 - lane) up
  if s.arb.trained then s1.lanesChanged n
  else if (n == 0) != (s1.lanes == 0) then s1.linkSet (s1.lanes == 0)
  else s1

/-- A lane finishes training (R506). -/
def State.iwlLaneUp (s : State) (lane : Nat) : State := s.laneTo lane true

/-- A lane fails (R506). -/
def State.iwlLaneFail (s : State) (lane : Nat) : State := s.laneTo lane false

/-- 1 ms after the release of the reset: a lane that is not up counts as a change from two lanes (R506). -/
def State.iwlTrainDeadline (s : State) : State :=
  if s.arb.trained || s.clk.ns < s.arb.trainAt + 1000000 then s
  else { s with arb.trained := true }.lanesChanged 2

/-- The next number of a transfer on the link. -/
def State.linkNext (s : State) : State := { s with arb.linkNo := s.arb.linkNo + 1 }

/-- A transfer of a class below the first may arrive: no heartbeat that the sender gave the link before it is still in flight, and for
a sample copy no comparison record (R16). -/
def State.linkTurnOf (s : State) (sender : Wing) (no : Nat) (sample : Bool) : Bool :=
  (s.arb.linkBeats.at_ sender).all (fun b => decide (no < b.1))
    && (!sample || (s.hedge.at_ sender).sent.all (fun r => decide (no < r.1)))

/-- The oldest mirror message that has neither been answered nor lost is lost. -/
def loseMirror : List Mirror → List Mirror
  | m :: q => if m.acked || m.lost then m :: loseMirror q else { m with lost := true } :: q
  | [] => []

/-- The oldest transfer of a kind that a wing has in flight is dropped (R16, R17). -/
def State.dropTransfer (s : State) (w : Wing) (kind : LinkKind) : State :=
  match kind with
  | .beat => { s with arb.linkBeats := s.arb.linkBeats.set w ((s.arb.linkBeats.at_ w).drop 1) }
  | .mirror => { s with arb.inflight := loseMirror s.arb.inflight }
  | .record => { s with hedge := s.hedge.set w { s.hedge.at_ w with sent := (s.hedge.at_ w).sent.drop 1 } }
  | .sample => { s with intake := s.intake.set w.other { s.intake.at_ w.other with fwd := (s.intake.at_ w.other).fwd.drop 1 } }

/-- A transfer block that a wing has sent arrives and is checked; one that fails at the first try and at the second is dropped and counted,
and what it carried never arrives (R16, R17). What a good block carries is delivered by the row of its receiver. -/
def State.iwlBlockReceive (s : State) (b : LinkBlock) (ok : Bool × Bool) : State :=
  if s.iwlDown || ok.1 || ok.2 then s else (s.dropTransfer b.sender b.kind).cnt Reg.IWL_STAT 0 16 1

/-! The deputy (R21, R33, R35) -/

/-- DEPUTY_OK changes: ARB_DEPUTY_CHANGE, and the alarm of a single steward (R35, R485). -/
def State.setDeputy (s : State) (ok : Bool) : State :=
  let s1 := (s.wb Reg.ARB_STATUS 30 ok).raise 579
  s1.setAlarm 31 (!ok)

/-- DEPUTY_OK falls, if it was 1 (R35). -/
def State.dropDeputy (s : State) : State := if s.deputyOk then s.setDeputy false else s

/-! Steward writes and global decisions (R20-R22, R31) -/

/-- Registers of the classes that fencing names: the switch configuration, the Caique schedules, host-function ownership, the
manifest's own (R31, log entry 141). The triples have commands of their own. -/
def fencedClass (a : Nat) : Bool :=
  (decide (0x900000 ≤ a) && decide (a < 0xB00000))
    || (decide (0x700000 ≤ a) && decide (a < 0x740000))
    || (decide (0xE00000 ≤ a) && decide (a < 0xF00000))
    || a == Reg.MAN_STAT

/-- A steward's processor runs: verified and not in core reset (R420, R438). -/
def State.stewUp (s : State) (w : Wing) : Bool := s.dev.stew.at_ w && !s.dev.core.at_ w

/-- The steward that holds the role is running. -/
def State.stewardRuns (s : State) : Bool :=
  match s.steward with
  | some w => s.stewUp w
  | none => false

/-- A configuration register is written by the steward; a locked binding table keeps its words (R405). -/
def State.stewardWr (s : State) (a : Nat) (v : Word) : State :=
  if s.rb Reg.HOST_BIND_LOCK 31 && decide (Reg.HOST_MB_BIND 0 ≤ a) && decide (a < Reg.HOST_MB_BIND 288) then s
  else if (regInfo a).isSome then s.wr a v
  else s

/-- Writes discarded by fencing (R31). -/
def State.fenceHits (s : State) (n : Nat) : State := s.cnt Reg.ARB_STATUS 0 16 n

/-- One write discarded by fencing (R31). -/
def State.fenceHit (s : State) : State := s.fenceHits 1

/-- A decision goes to the deputy as a mirror message while there is a deputy, and takes effect at once while there is none
(R21, R35). -/
def State.mirrorOr (s : State) (a : Act) (now : State → State) : State :=
  if s.deputyOk then { s with arb.inflight := s.arb.inflight ++ [⟨a, s.clk.ns, false, false⟩] } else now s

/-- A steward writes a register of a fenced class: a fenced one's write is discarded, the role's holder decides (R20, R21, R31). -/
def State.stewardConfigWrite (s : State) (w : Wing) (addr : Nat) (val : Word) : State :=
  if !s.stewUp w || !fencedClass addr then s
  else if s.fenced w then s.fenceHit
  else if s.steward = some w then s.mirrorOr (.config addr val) (fun u => u.stewardWr addr val)
  else s

/-- A named decision takes effect (R21). -/
def State.applyDecision (s : State) (d : Decision) : State := eachIn d.writes (fun p t => t.stewardWr p.1 p.2) s

/-- The steward makes a global decision (R20, R21). -/
def State.globalDecision (s : State) (d : Decision) : State :=
  if s.stewardRuns then s.mirrorOr (.decision d) (fun u => u.applyDecision d) else s

/-! Heartbeats (R23, R24) -/

/-- A steward that runs sends its next heartbeat on both paths, at least 950 us after the one before; its health word is the steward
firmware's own (R23, log entry 3). Over a link that is down nothing is sent (R19). -/
def State.heartbeatSend (s : State) (w : Wing) : State :=
  let soon := match s.arb.sentAt.at_ w with
    | some t => decide (s.clk.ns < t + 950000)
    | none => false
  if !s.stewUp w || s.arb.mute.at_ w || soon then s
  else
    let e := s.arb.known.at_ w
    let n := s.arb.hbSeq.at_ w
    let q := s.arb.linkBeats.at_ w
    ({ s with
      arb.hbSeq := s.arb.hbSeq.set w (n + 1)
      arb.sentAt := s.arb.sentAt.set w (some s.clk.ns)
      arb.beats := s.arb.beats ++ [Beat.mk w e n s.freshWord]
      arb.linkBeats := s.arb.linkBeats.set w (if s.iwlDown then q else q ++ [(s.arb.linkNo, e)]) }.used 1).linkNext

/-- The oldest heartbeat of the other wing on the link, which carries an epoch, arrives and restarts the loss timer (R24, log entry
186). -/
def State.heartbeatLinkReceive (s : State) (w : Wing) (epoch : Word) : State :=
  match s.arb.linkBeats.at_ w.other with
  | (_, e) :: q =>
    let s1 := { s with arb.linkBeats := s.arb.linkBeats.set w.other q }
    if epoch ≠ e then s
    else if s1.stewUp w then
      { s1 with
        arb.linkAt := s1.arb.linkAt.set w s.clk.ns
        arb.lost := s1.arb.lost.set w false
        arb.known := s1.arb.known.set w (if s.arb.known.at_ w < e then e else s.arb.known.at_ w) }
    else s1
  | [] => s

/-- 3.5 ms on the wing's own steward clock without a heartbeat of the other wing over the link; the clock stands in the steward's
core reset (R13, R24). -/
def State.heartbeatLost (s : State) (w : Wing) : State :=
  if !s.stewUp w || s.clk.ns < s.arb.linkAt.at_ w + 3500000 then s else { s with arb.lost := s.arb.lost.set w true }

/-! Claims (R25-R30, R34) -/

/-- A wing may claim: its steward runs, it does not hold the role, it finds the steward lost or no wing holds the role,
and 1 ms has passed since its last refusal (R25, R27, R34). -/
def State.mayClaim (s : State) (w : Wing) : Bool :=
  s.stewUp w && decide (s.steward ≠ some w) && (s.arb.lost.at_ w || s.steward.isNone)
    && (match s.arb.refusedAt.at_ w with
      | some t => decide (t + 1000000 ≤ s.clk.ns)
      | none => true)

/-- A wing writes a claim with the epoch one above the one it last learned; with no window open it opens one (R25, R28). DESIGN
CHOICE, log entry 142: a steward whose claim is not yet decided writes no second one. -/
def State.claimNow (s : State) (w : Wing) : State :=
  if !s.mayClaim w || s.arb.claims.any (fun c => c.1 == w) then s
  else { s with
    arb.window := some (s.arb.window.getD s.clk.cd2)
    arb.claims := s.arb.claims ++ [(w, s.arb.known.at_ w + 1, s.clk.cd2)] }

/-- The wing that STEWARD_SEL prefers (R28). -/
def State.preferred (s : State) : Wing := if s.dev.sel then .east else .west

/-- The winner among claims above the current epoch: the higher epoch, the preferred wing at a tie (R28). -/
def State.bestClaim (s : State) (cs : List (Wing × Word × Nat)) : Option (Wing × Word × Nat) :=
  (cs.filter (fun c => decide (s.rd Reg.ARB_EPOCH < c.2.1))).foldl (fun b c =>
    match b with
    | none => some c
    | some x => if x.2.1 < c.2.1 || (x.2.1 = c.2.1 && c.1 = s.preferred) then some c else some x) none

/-- A grant in a CD2 cycle is not forbidden by R25 and R26: 300,000 cycles without a heartbeat of the steward, counted from its grant
at the earliest; with no steward, the wing that STEWARD_SEL does not prefer waits as long from the restart of the
arbiter (R34, log entry 11). -/
def State.mayGrant (s : State) (w : Wing) (cyc : Nat) : Bool :=
  match s.steward with
  | some h => decide (max (s.arb.hbAt.at_ h) s.arb.since + 300000 ≤ cyc)
  | none => w == s.preferred || decide (s.arb.since + 300000 ≤ cyc)

/-- Refuse one claim (R25, R27): while the link is down only the first refusal for a steward that still beats is
reported. -/
def State.refuseClaim (s : State) (w : Wing) (beats : Bool) : State :=
  let s1 := { s with arb.refusedAt := s.arb.refusedAt.set w (some s.clk.ns) }
  if s.iwlDown && beats then
    if s.arb.iwlRefused then s1 else { s1 with arb.iwlRefused := true }.raiseAt 578 0 (wingCode w)
  else s1.raiseAt 578 0 (wingCode w)

/-! Becoming deputy (R33, R35) -/

/-- A wing's steward asks the steward for a mirror over the link, once it knows the current epoch (R33). -/
def State.mirrorRequest (s : State) (w : Wing) : State :=
  if s.iwlDown || s.steward = some w || !s.stewardRuns || !s.stewUp w || s.arb.known.at_ w != s.rd Reg.ARB_EPOCH then s
  else { s with arb.mirrorReq := s.arb.mirrorReq.set w (some s.clk.ns) }

/-- The mirror asked for is complete (R33). -/
def State.mirrorComplete (s : State) (w : Wing) : State :=
  if s.iwlDown || !s.stewardRuns || !s.stewUp w || (s.arb.mirrorReq.at_ w).isNone then s
  else { s with arb.mirrorReq := s.arb.mirrorReq.set w none, arb.mirrored := s.arb.mirrored.set w true }

/-! The meanings of the rows -/

/-- IWL_LANE_UP (R506): An inter-wing link lane finishes training and starts carrying traffic, setting its LANEn_UP bit. -/
def execIwlLaneUp (lane : Nat) (s : State) : Out :=
  live (iwlLaneUpOk lane) s (s.iwlLaneUp lane)

/-- IWL_LANE_FAIL (R506): An inter-wing link lane fails and starts retraining; in-flight transfers are lost if it was the last lane. -/
def execIwlLaneFail (lane : Nat) (s : State) : Out :=
  live (iwlLaneFailOk lane) s (s.iwlLaneFail lane)

/-- IWL_TRAIN_DEADLINE (R506): 1 ms after reset release, a lane that is not up counts as failed and as a change from two lanes. -/
def execIwlTrainDeadline (s : State) : Out :=
  live true s (s.iwlTrainDeadline)

/-- IWL_BLOCK_RECEIVE (R16): A transfer block arrives over the inter-wing link and is checked by CRC-32C, retransmitted once or dropped. -/
def execIwlBlockReceive (b : LinkBlock) (ok : Bool × Bool) (s : State) : Out :=
  live true s (s.iwlBlockReceive b ok)

/-- GLOBAL_DECISION (R21): The steward sends a global decision to the deputy as a mirror message and waits for its acknowledgement. -/
def execGlobalDecision (d : Decision) (s : State) : Out :=
  live true s (s.globalDecision d)

/-- HEARTBEAT_SEND (R23): Every 1 ms a steward sends a heartbeat to the arbiter and over the link to the other wing. -/
def execHeartbeatSend (w : Wing) (s : State) : Out :=
  live true s (s.heartbeatSend w)

/-- HEARTBEAT_LINK_RECEIVE (R24): A heartbeat from the other wing arrives over the inter-wing link and restarts the loss timer. -/
def execHeartbeatLinkReceive (w : Wing) (epoch : BitVec 32) (s : State) : Out :=
  live true s (s.heartbeatLinkReceive w epoch)

/-- HEARTBEAT_LOST (R24): No heartbeat from the other wing has arrived for 3.5 ms, so the wing may claim the steward role. -/
def execHeartbeatLost (w : Wing) (s : State) : Out :=
  live true s (s.heartbeatLost w)

/-- STEWARD_CONFIG_WRITE (R31): A steward writes a fenced-class register (switch, triple, schedules, ownership, manifest-apply). -/
def execStewardConfigWrite (w : Wing) (addr : Nat) (val : BitVec 32) (s : State) : Out :=
  live true s (s.stewardConfigWrite w addr val)

/-- MIRROR_REQUEST (R33): A wing's steward asks the steward for a full mirror of the current decisions. -/
def execMirrorRequest (w : Wing) (s : State) : Out :=
  live true s (s.mirrorRequest w)

/-- MIRROR_COMPLETE (R33): The full mirror of current decisions has been delivered to the requesting wing. -/
def execMirrorComplete (w : Wing) (s : State) : Out :=
  live true s (s.mirrorComplete w)

end Sys2Proof.Machine
end

