-- ==== Sys2Proof/Machine/Wall.lean ====
section
/-! DEFINITION. The sample wall (04_sample_wall.md): rows, release, derived sections, degradation and slices. -/

namespace Sys2Proof.Machine

/-! Sections -/

/-- Sampling rate of a RATE code (R77, R127). -/
def rateHz (code : Nat) : Nat :=
  match code with
  | 0 => 4000
  | 1 => 4800
  | 2 => 12800
  | 3 => 14400
  | _ => 96000

/-- A field of WALL_SECT_CFG0 (R127). -/
def State.sectF (s : State) (w : Wing) (n lo k : Nat) : Nat := s.rf (Reg.WALL_SECT_CFG0 w n) lo k

/-- Rate of a section in Hz (R103). -/
def State.sectRate (s : State) (w : Wing) (n : Nat) : Nat := rateHz (s.sectF w n 25 3)

/-- Columns of a section (R103). -/
def State.cols (s : State) (w : Wing) (n : Nat) : Nat := s.sectF w n 0 14

/-- A section of a wing. -/
def State.sect (s : State) (w : Wing) (n : Nat) : Sect := Tab.get Sect.zero (s.wall.at_ w).sect n

/-- Replace a section of a wing. -/
def State.setSect (s : State) (w : Wing) (n : Nat) (x : Sect) : State :=
  { s with wall := s.wall.set w { s.wall.at_ w with sect := Tab.put (s.wall.at_ w).sect n x } }

/-- Key of a row: S x rate + k (R106). -/
def Row.key (r : Row) (rate : Nat) : Nat := r.S * rate + r.k

/-- A cell that nothing has written: MISSING, ALIGN none, validity invalid (R101, R102). -/
def missingCell : Cell := ⟨0, 0x98000001#32⟩

/-- The cell of a column. -/
def Row.cell (r : Row) (c : Nat) : Cell := Tab.get missingCell r.cells c

/-- A received cell: MISSING, INTERP and RESAMPLED are 0 (R110). -/
def Row.received (r : Row) (c : Nat) : Bool :=
  match Tab.find r.cells c with
  | some x => fld x.w1 29 3 == 0
  | none => false

/-- The row of a key that a section tracks. -/
def Sect.row (x : Sect) (rate key : Nat) : Option Row := x.rows.find? (fun r => r.key rate == key)

/-- Rows of a section in OPEN or READY (R128). -/
def Sect.openCount (x : Sect) : Nat := (x.rows.filter (fun r => r.st != .released)).length

/-- WALL_SECT_STAT.OPEN and WALL_STATUS follow the rows (R126, R128). -/
def State.wallStat (s : State) (w : Wing) : State :=
  let s1 := each 8 (fun n t => t.wf (Reg.WALL_SECT_STAT w n) 0 11 (t.sect w n).openCount) s
  let total := (List.range 8).foldl (fun a n => a + (s1.sect w n).openCount) 0
  let lv := (List.range 8).foldl (fun a n => a + (if s1.rf (Reg.WALL_SECT_STAT w n) 30 2 = 0 then 0 else 2 ^ n)) 0
  (s1.wf (Reg.WALL_STATUS w) 0 12 total).wf (Reg.WALL_STATUS w) 16 8 lv

/-- A row index is kept at a degradation level (R124). -/
def keptAt (level k : Nat) : Bool :=
  match level with
  | 0 => true
  | 1 => k % 2 == 0
  | 2 => k % 4 == 0
  | _ => false

/-- Degradation level of a section (R128). -/
def State.degLevel (s : State) (w : Wing) (n : Nat) : Nat := s.rf (Reg.WALL_SECT_STAT w n) 30 2

/-- The row of a key opens, has opened or will open: its level keeps it and no step skipped it (R110). -/
def State.opens (s : State) (w : Wing) (n key : Nat) : Bool :=
  let x := s.sect w n
  let rate := s.sectRate w n
  if (x.row rate key).isSome then true
  else if decide (key ≤ x.lastOpen.getD 0) then false
  else keptAt (s.degLevel w n) (key % rate) && (match x.skipTo with
    | some t => decide (t ≤ key)
    | none => true)

/-- The raising of a wing's wall event: four numbers per wing (R130). -/
def State.wallEvent (s : State) (es : Nat) (w : Wing) (n : Nat) : State := s.raiseAt (es + 4 * w.idx) n (wingCode w)

/-- A section runs: the wall runs and the manifest uses it. -/
def State.sectOn (s : State) (w : Wing) (n : Nat) : Bool := s.rb (Reg.WALL_STATUS w) 31 && s.sectF w n 31 1 == 1

/-! Ready test (R108, R109) -/

/-- A word of a stream-table entry (R77). -/
def State.strW (s : State) (w : Wing) (st i : Nat) : Word := s.rd (Reg.STREAM_ENTRY w st i)

/-- STREAM_STAT.STATE (R89). -/
def State.strState (s : State) (w : Wing) (st : Nat) : Nat := s.rf (Reg.STREAM_STAT w st) 29 3

/-- A stream belongs to the expected set of a section (R109). -/
def State.expected (s : State) (w : Wing) (n st : Nat) : Bool :=
  tst (s.strW w st 0) 31 && fld (s.strW w st 0) 22 3 == n && (s.strState w st == 2 || s.strState w st == 5)

/-- The streams of the expected set. -/
def State.expectedSet (s : State) (w : Wing) (n : Nat) : List Nat :=
  (List.range 512).filter (fun st => s.expected w n st)

/-- OPEN rows that the whole expected set has written become READY by COMPLETE (R108). -/
def State.readyComplete (s : State) (w : Wing) (n : Nat) : State :=
  let x := s.sect w n
  let ex := s.expectedSet w n
  let upd (r : Row) : Row :=
    if r.st == .opened && ex.all (fun st => r.wrote.contains st) then { r with st := .ready, complete := true } else r
  s.setSect w n { x with rows := x.rows.map upd }

/-- OPEN rows past their deadline become READY by DEADLINE and are counted (R108, R129). -/
def State.rowDeadline (s : State) (w : Wing) (n : Nat) : State :=
  if !s.sectOn w n then s
  else
    let x := s.sect w n
    let rate := s.sectRate w n
    let late (r : Row) : Bool :=
      r.st == .opened && decide ((r.key rate) * tick1s + r.drUs * 1000 * 65536 * rate ≤ s.wingT w * rate)
    let upd (r : Row) : Row := if late r then { r with st := .ready, deadline := true } else r
    let s1 := s.setSect w n { x with rows := x.rows.map upd }
    s1.cnt (Reg.WALL_CNT w n 1) 0 32 (x.rows.filter late).length

/-! Opening (R107, R108, R113, R124) -/

/-- The key of the next row a section opens: after the last one opened, past the keys a step skipped; at the start, the
row whose open instant was reached last. -/
def State.nextKey (s : State) (w : Wing) (n : Nat) : Nat :=
  let x := s.sect w n
  let rate := s.sectRate w n
  match x.lastOpen with
  | some l => max (l + 1) (x.skipTo.getD 0)
  | none => max ((s.wingT w + 1000000 * 65536) * rate / tick1s) (x.skipTo.getD 0)

/-- The open instant of a key has been reached: 1 ms before its nominal instant (R107). -/
def State.openDue (s : State) (w : Wing) (n key : Nat) : Bool :=
  decide (key * tick1s ≤ (s.wingT w + 1000000 * 65536) * s.sectRate w n)

/-- Two keys have the same storage in a section: they differ by a multiple of ROWS (R108). -/
def State.sameSlot (s : State) (w : Wing) (n a b : Nat) : Bool :=
  let rows := s.rf (Reg.WALL_SECT_CFG1 w n) 0 19
  a % rows == b % rows

/-- The section with the storage of a key free for it: a released row there is overwritten, and a key skipped there is forgotten
(R108, log entry 151). -/
def State.freeSlot (s : State) (w : Wing) (n key : Nat) : Sect :=
  let x := s.sect w n
  let rate := s.sectRate w n
  { x with
    rows := x.rows.filter (fun r => !(r.st == .released && s.sameSlot w n (r.key rate) key))
    skipped := x.skipped.filter (fun q => !s.sameSlot w n q key) }

/-- A key that the level does not keep is skipped and counted; its ROW_SEQ is used (R124). -/
def State.skipKey (s : State) (w : Wing) (n key : Nat) : State :=
  let x := s.freeSlot w n key
  (s.setSect w n { x with skips := x.skips ++ [key], skipped := key :: x.skipped }).cnt (Reg.WALL_CNT w n 7) 0 32 1

/-- Open the next row of a source section whose instant has come, in the storage of the row ROWS keys before it (R107, R108); a
row that the level does not keep is skipped and counted (R124). -/
def State.rowOpen (s : State) (w : Wing) (n : Nat) : State :=
  let key := s.nextKey w n
  let rate := s.sectRate w n
  if !s.sectOn w n || s.sectF w n 30 1 == 1 || !s.armed || !s.openDue w n key then s
  else
    let level := s.degLevel w n
    if !keptAt level (key % rate) then (s.setSect w n { s.sect w n with lastOpen := some key }).skipKey w n key
    else
      let x := s.freeSlot w n key
      let s0 := match x.drNext with
        | some d => s.wf (Reg.WALL_SECT_CFG2 w n) 0 13 d
        | none => s
      let dr := s0.rf (Reg.WALL_SECT_CFG2 w n) 0 13
      let r : Row := { S := key / rate, k := key % rate, st := .opened, complete := false, deadline := false,
                       drUs := dr, wrote := [], cells := [], degraded := decide (0 < level) }
      ((s0.setSect w n { x with rows := x.rows ++ [r], lastOpen := some key, drNext := none }).readyComplete w n).wallStat w

/-! Writing (R106, R107, R112) -/

/-- The nearest grid index, a tie to the lower (R106). -/
def nearestKey (ts rate : Nat) : Nat :=
  let x := ts * rate
  if tick1s < 2 * (x % tick1s) then x / tick1s + 1 else x / tick1s

/-- The key of an ASDU, if it falls in a second that exists (R106). -/
def asduKey (a : AsduOut) (rate : Nat) : Nat :=
  if a.synch = 0 then nearestKey a.ts rate
  else
    let d : Int := (a.ts * rate : Nat) - (a.cnt * tick1s : Nat) + (250000000 * 65536 * rate : Nat)
    (d / (tick1s * rate : Nat)).toNat * rate + a.cnt

/-- Word 1 of a received cell (R101, R106). -/
def cellW1 (a : AsduOut) (q : Word) : Word :=
  let align := if a.synch = 2 then 0 else if a.synch = 1 then 1 else 2
  BitVec.ofNat 32 (align * 2 ^ 27 + bitOf a.sim * 2 ^ 26 + fld q 0 14)

/-- Write an ASDU's cells into a row: a column already written keeps its first cell (R107). The count is of the cells
discarded. -/
def writeCells (a : AsduOut) : Nat → List (Word × Word) → Tab Cell → Tab Cell × Nat
  | _, [], t => (t, 0)
  | c, v :: vs, t =>
    if (Tab.find t c).isSome then
      let r := writeCells a (c + 1) vs t
      (r.1, r.2 + 1)
    else writeCells a (c + 1) vs (Tab.put t c ⟨v.1, cellW1 a v.2⟩)

/-- An ASDU for a released or untracked row: late (R112). -/
def State.lateAsdu (s : State) (w : Wing) (n : Nat) (a : AsduOut) : State :=
  let first := s.rd (Reg.WALL_CNT w n 4) == 0
  let s1 := (s.cnt (Reg.STREAM_CNT w a.s 10) 0 32 1).cnt (Reg.WALL_CNT w n 4) 0 32 a.chans.length
  if first then s1.wallEvent 464 w n else s1

/-- Put an ASDU into the row its key names (R106, R107, R112, R113, R124). A key not later than the last one released is late even where
a backward step of time has put it in the future. An ASDU for a row that a forward step skipped is late as well (log entry 152). -/
def State.putAsdu (s : State) (w : Wing) (n : Nat) (a : AsduOut) : State :=
  let rate := s.sectRate w n
  let key := asduKey a rate
  if (s.sect w n).skipped.contains key then s
  else if (s.sect w n).lastRel.any (fun l => decide (key ≤ l)) then s.lateAsdu w n a
  else if !s.openDue w n key then s.cnt (Reg.WALL_CNT w n 5) 0 32 a.chans.length
  else
    let fuel := min 2048 (key + 1 - s.nextKey w n)
    let s0 := times (fun t => t.rowOpen w n) fuel s
    let x := s0.sect w n
    match x.row rate key with
    | some r =>
      if r.st == .released then s0.lateAsdu w n a
      else
        let base := fld (s0.strW w a.s 6) 0 14
        let (cells, dup) := writeCells a base a.chans r.cells
        let wrote := if r.wrote.contains a.s then r.wrote else a.s :: r.wrote
        let rows := x.rows.map (fun y => if y.key rate == key then { y with cells := cells, wrote := wrote } else y)
        let s1 := (s0.setSect w n { x with rows := rows }).cnt (Reg.WALL_CNT w n 6) 0 32 dup
        (s1.readyComplete w n).wallStat w
    | none => if x.skipped.contains key then s0 else s0.lateAsdu w n a

/-- Cells that wait in the write queue (R124). -/
def State.queuedCells (s : State) (w : Wing) : Nat := (s.intake.at_ w).wallQ.foldl (fun a x => a + x.chans.length) 0

/-- The write queue has changed: note since when it has stood above 3,072 or below 1,024 cells (R124). -/
def State.noteQueue (s : State) (w : Wing) : State :=
  let n := s.queuedCells w
  let since (on : Bool) (t : Option Nat) : Option Nat := if on then some (t.getD s.clk.ns) else none
  let x := s.wall.at_ w
  { s with wall := s.wall.set w { x with hiAt := since (decide (3072 < n)) x.hiAt, loAt := since (decide (n < 1024)) x.loAt } }

/-- The wall takes the next accepted ASDU from the intake (R106). -/
def State.wallAsduWrite (s : State) (w : Wing) : State :=
  match (s.intake.at_ w).wallQ with
  | a :: q =>
    let s1 := { s with intake := s.intake.set w { s.intake.at_ w with wallQ := q } }.noteQueue w
    let n := fld (s1.strW w a.s 0) 22 3
    if s1.sectOn w n && s1.armed then s1.putAsdu w n a else s1
  | [] => s

/-- Wing and number within the wing of a subscription (R118). -/
def sliceWing (g : Nat) : Wing := if g < 64 then .east else .west

/-- Word of a subscription's descriptor (R118). -/
def State.sliceDesc (s : State) (g i : Nat) : Word := s.rd (Reg.SLICE_DESC (sliceWing g) (g % 64) i)

/-! Release (R110-R112, R125) -/

/-- The mean of two signed words, rounded toward minus infinity (R110). -/
def meanDown (a b : Word) : Word := BitVec.ofInt 32 ((a.toInt + b.toInt) / 2)

/-- Validity of a cell that several cells contribute to: invalid, else questionable, else good (R102). -/
def joinValidity (vs : List Nat) : Nat :=
  if vs.contains 1 then 1 else if vs.contains 3 then 3 else 0

/-- Q of a cell that several cells contribute to (R102). -/
def joinQ (cs : List Cell) : Nat :=
  (cs.foldl (fun a c => a ||| (fld c.w1 2 12)) 0) * 4 + joinValidity (cs.map (fun c => fld c.w1 0 2))

/-- An interpolated cell (R101, R102, R110). ALIGN and SIM are the neighbours' where they agree; where they differ the
manual states none, and the bits are free (log entry 15). -/
def interpCell (p n : Cell) (fr : Word) : Cell :=
  let align := if fld p.w1 27 2 = fld n.w1 27 2 then fld p.w1 27 2 else fld fr 0 2
  let sim := if fld p.w1 26 1 = fld n.w1 26 1 then fld p.w1 26 1 else fld fr 2 1
  ⟨meanDown p.value n.value, BitVec.ofNat 32 (2 ^ 30 + align * 2 ^ 27 + sim * 2 ^ 26 + joinQ [p, n])⟩

/-- Fill the single gaps of a row from its neighbours (R110); the answer counts them. -/
def fillGaps (cols : Nat) (p n : Row) (fr : Nat) (h : Row) : Row × Nat :=
  (List.range cols).foldl (fun (acc : Row × Nat) c =>
    if (Tab.find acc.1.cells c).isNone && p.received c && n.received c then
      ({ acc.1 with cells := Tab.put acc.1.cells c (interpCell (p.cell c) (n.cell c) (Config.freeWord (fr + c))) }, acc.2 + 1)
    else acc) (h, 0)

/-- A row with one cell read as MISSING (R125). -/
def Row.lose (r : Row) (c : Nat) : Row := { r with cells := Tab.put r.cells c missingCell }

/-- The cell of a row in the wall holds an uncorrectable error: whoever reads it from now on, the filter, the Hedge unit or a slice, finds
it MISSING (R125). -/
def State.loseCell (s : State) (w : Wing) (n key c : Nat) : State :=
  let rate := s.sectRate w n
  let hit (r : Row) : Row := if r.key rate == key then r.lose c else r
  let s1 := s.setSect w n { s.sect w n with rows := (s.sect w n).rows.map hit }
  let s2 := { s1 with wall := s1.wall.set w { s1.wall.at_ w with
    hedgeQ := (s1.wall.at_ w).hedgeQ.map (fun (p : Nat × Row) => if p.1 == n then (p.1, hit p.2) else p) } }
  { s2 with slice := s2.slice.map (fun (p : Nat × Slice) =>
      if sliceWing p.1 == w && fld (s2.sliceDesc p.1 0) 24 3 == n then
        (p.1, { p.2 with part := p.2.part.map (fun (x : List Word × Row) => (x.1, hit x.2)) })
      else p) }

/-- Uncorrectable ECC error in the wall of a wing: WALL_x_FAULT, ALARM, and EXCLUDE on a second within 1 s (R125, R478). -/
def State.wallEcc (s : State) (w : Wing) : State :=
  let again := match (s.wall.at_ w).eccAt with
    | some t => decide (s.clk.ns < t + 1000000000)
    | none => false
  let s1 := { s with wall := s.wall.set w { s.wall.at_ w with eccAt := some s.clk.ns } }
  let s2 := (((s1.wallEvent 467 w 0).wingFault w).setAlarm 21 true).raiseAt 563 0 (wingCode w)
  if again then s2.exclude w 563 else s2.safeLast 563 1 (wingCode w)

/-- The row header words of a released row (R121). -/
def State.rowHeader (s : State) (r : Row) (seq : Word) (interp missing : Nat) (resampled stepped : Bool) (t : Nat) :
    List Word :=
  [BitVec.ofNat 32 r.S, BitVec.ofNat 32 (r.S / 2 ^ 32 % 65536), BitVec.ofNat 32 r.k,
    BitVec.ofNat 32 (bitOf r.complete * 2 ^ 31 + bitOf r.deadline * 2 ^ 30 + bitOf r.degraded * 2 ^ 29
      + bitOf resampled * 2 ^ 28 + bitOf s.inTest * 2 ^ 27 + bitOf stepped * 2 ^ 26),
    BitVec.ofNat 32 (interp % 65536 * 65536 + missing % 65536), seq, BitVec.ofNat 32 (t / 65536 % 1000000000), 0]

/-- The subscriptions of a wing's section that take the rows released: enabled and not paused (R118, R120, R123). -/
def State.takers (s : State) (w : Wing) (n : Nat) : List Nat :=
  (List.range 64).filter (fun i =>
    let d := s.rd (Reg.SLICE_DESC w i 0)
    let cfg := s.rd (Reg.SLICE_CFG (fld d 16 8) (64 * w.idx + i))
    tst d 31 && fld d 24 3 == n && tst cfg 31 && !tst cfg 29)

/-- Deliver a released row to the Hedge unit and to slices (R117, R121). -/
def State.deliver (s : State) (w : Wing) (n : Nat) (r : Row) (hdr : List Word) : State :=
  let s1 := if s.sectF w n 19 1 == 1 then
      { s with wall := s.wall.set w { s.wall.at_ w with hedgeQ := (s.wall.at_ w).hedgeQ ++ [(n, r)] } }
    else s
  eachIn (s.takers w n) (fun i t =>
    let g := 64 * w.idx + i
    let sl := Tab.get Slice.zero t.slice g
    { t with slice := Tab.put t.slice g { sl with part := sl.part ++ [(hdr, r)] } }) s1

/-- Record a row as released: counters, registers, ROW_SEQ (R121, R126, R129). `interp` and `missing` are the cells of the row with INTERP
and with MISSING, `filled` those that R110 filled. -/
def State.noteRelease (s : State) (w : Wing) (n : Nat) (r : Row) (interp filled missing : Nat) (resampled : Bool) : State :=
  let x := s.sect w n
  let rate := s.sectRate w n
  let key := r.key rate
  let seq := x.seq + BitVec.ofNat 32 (x.skips.filter (fun q => decide (q < key))).length
  let r1 := { r with st := .released }
  let rows := if (x.row rate key).isSome then x.rows.map (fun y => if y.key rate == key then r1 else y)
    else (s.freeSlot w n key).rows ++ [r1]
  let hdr := s.rowHeader r1 seq interp missing resampled x.stepped (s.wingT w)
  let x1 := { x with rows := rows, lastRel := some key, seq := seq + 1,
                     skips := x.skips.filter (fun q => decide (key < q)), stepped := false }
  let s1 := (((s.setSect w n x1).wr (Reg.WALL_SECT_LAST_SEC w n) (BitVec.ofNat 32 r.S)).wr
    (Reg.WALL_SECT_LAST_ROW w n) (BitVec.ofNat 32 r.k)).wr (Reg.WALL_SECT_ROW_SEQ w n) seq
  let s2 := ((s1.roll (Reg.WALL_CNT w n 0) 1).cnt (Reg.WALL_CNT w n 2) 0 32 missing).cnt (Reg.WALL_CNT w n 3) 0 32 filled
  (s2.deliver w n r1 hdr).wallStat w

/-- The row a source section releases next, if R110 lets it: READY, and with INTERP_EN the next row READY or never
opened. -/
def State.releasable (s : State) (w : Wing) (n : Nat) : Option Row :=
  let x := s.sect w n
  let rate := s.sectRate w n
  match x.rows.find? (fun r => r.st != .released) with
  | some h =>
    if h.st != .ready then none
    else if s.sectF w n 29 1 == 1 && s.opens w n (h.key rate + 1) then
      match x.row rate (h.key rate + 1) with
      | some y => if y.st == .opened then none else some h
      | none => none
    else some h
  | none => none

/-- Release the next row of a source section (R110, R125): fill single gaps, leave the rest MISSING, deliver. A cell read
with an uncorrectable error is delivered MISSING. -/
def State.rowRelease (s : State) (w : Wing) (n : Nat) (ecc : List Nat) : State :=
  if !s.sectOn w n || s.sectF w n 30 1 == 1 then s
  else
    match s.releasable w n with
    | none => s
    | some h =>
      let x := s.sect w n
      let rate := s.sectRate w n
      let key := h.key rate
      let cols := s.cols w n
      let (h1, k1) := if s.sectF w n 29 1 == 1 then
          match (if key = 0 then none else x.row rate (key - 1)), x.row rate (key + 1) with
          | some p, some y => fillGaps cols p y s.free h
          | _, _ => (h, 0)
        else (h, 0)
      let bad := ecc.filter (fun c => (Tab.find h1.cells c).isSome)
      let lost := (bad.filter (fun c => tst (h1.cell c).w1 30)).length
      let h2 := { h1 with cells := bad.foldl (fun t c => Tab.put t c missingCell) h1.cells }
      let missing := cols - (h2.cells.filter (fun p => !tst p.2.w1 31)).length
      let s1 := (s.used cols).noteRelease w n h2 (k1 - lost) (k1 - lost) missing false
      if bad.isEmpty then s1 else s1.wallEcc w

/-! Derived sections (R114-R116) -/

/-- Group delay of the filter: five target grid periods (R114). The nominal instant of key `K` plus or minus D, scaled by
the product of both rates, against a source key. -/
def inWindow (srcKey key srcRate rate : Nat) : Bool :=
  decide (key * srcRate ≤ srcKey * rate + 5 * srcRate) && decide (srcKey * rate ≤ key * srcRate + 5 * srcRate)

/-- The source rows of the window of a derived row, in key order: keys, and the row if the wall still has it. -/
def State.window (s : State) (w : Wing) (src key srcRate rate : Nat) : List (Option Row) :=
  let lo := (key * srcRate - 5 * srcRate) / rate
  ((List.range (10 * srcRate / rate + 3)).map (fun i => lo + i)).filterMap (fun k =>
    if inWindow k key srcRate rate then some ((s.sect w src).row srcRate k) else none)

/-- A derived cell from the source cells of one column, at a phase of the filter (R101, R102, R114, R116). The filter of zeros is zero. A
cell with MISSING has Q of the contributing cells, as every RESAMPLED one (log entry 153). -/
def derivedCell (srcRate rate phase : Nat) (cs : List Cell) : Cell :=
  let vals := cs.map (fun c => if tst c.w1 31 then 0 else c.value)
  let out := if vals.all (fun v => v == 0) then 0 else Config.firOutput srcRate rate phase vals
  let some1 (b : Nat) : Nat := bitOf (cs.any (fun c => tst c.w1 b))
  let aligns := (cs.filter (fun c => !tst c.w1 31)).map (fun c => fld c.w1 27 2)
  let align := if aligns.isEmpty then 3 else aligns.foldl max 0
  let q := joinQ cs ||| (if tst out 32 then 4 else 0)
  ⟨out.setWidth 32, BitVec.ofNat 32 (some1 31 * 2 ^ 31 + some1 30 * 2 ^ 30 + 2 ^ 29 + align * 2 ^ 27 + some1 26 * 2 ^ 26
    + q % 2 ^ 14)⟩

/-- The next key a derived section releases: the one after the last, past the keys that a step skipped (R113), or at the start the latest
whose condition holds. -/
def State.derivedKey (s : State) (w : Wing) (n : Nat) (srcLast srcRate : Nat) : Nat :=
  let x := s.sect w n
  match x.lastRel with
  | some l => if x.skipFrom ≤ l + 1 then max (l + 1) (x.skipTo.getD 0) else l + 1
  | none => ((srcLast + 1) * s.sectRate w n + srcRate - 1) / srcRate - 6

/-- Compute and release the next row of a derived section, once its source has released every row up to t_k + D
(R115, R116). -/
def State.derivedRowRelease (s : State) (w : Wing) (n : Nat) : State :=
  if !s.sectOn w n || s.sectF w n 30 1 == 0 then s
  else
    let src := s.sectF w n 22 3
    let srcRate := s.sectRate w src
    let rate := s.sectRate w n
    match (s.sect w src).lastRel with
    | none => s
    | some l =>
      let key := s.derivedKey w n l srcRate
      if (l + 1) * rate ≤ key * srcRate + 5 * srcRate then s
      else if !keptAt (s.degLevel w n) (key % rate) then
        (s.setSect w n { s.sect w n with lastRel := some key }).skipKey w n key
      else
        let win := s.window w src key srcRate rate
        let cells := (List.range (s.cols w n)).map (fun c =>
          (c, derivedCell srcRate rate (key * srcRate % rate) (win.map (fun o => match o with
            | some r => r.cell c
            | none => missingCell))))
        let r : Row := { S := key / rate, k := key % rate, st := .released, complete := false, deadline := false,
                         drUs := 0, wrote := [], cells := cells, degraded := decide (0 < s.degLevel w n) }
        let interp := (cells.filter (fun c => tst c.2.w1 30)).length
        let missing := (cells.filter (fun c => tst c.2.w1 31)).length
        s.noteRelease w n r interp 0 missing true

/-! A step of the wing's time (R113) -/

/-- The first key whose open instant lies after a wing's time `t`. -/
def keyAfter (t rate : Nat) : Nat := (t + 1000000 * 65536) * rate / tick1s + 1

/-- A step of a wing's time by `d`, which has been made: forward, every open row reaches its deadline, rows whose open instant was skipped
never open, in a derived section either, and the first row released after it carries STEPPED; backward, nothing already released opens
again (R113). -/
def State.wallStep (s : State) (w : Wing) (d : Int) : State :=
  if d ≤ 0 then s
  else
    (each 8 (fun n t =>
      if t.sectOn w n then
        let x := t.sect w n
        let now := t.wingT w
        let opened := (x.rows.filter (fun r => r.st == .opened)).length
        let rows := x.rows.map (fun r => if r.st == .opened then { r with st := .ready, deadline := true } else r)
        (t.setSect w n { x with
          rows := rows, skipFrom := keyAfter (now - d.toNat) (t.sectRate w n), skipTo := some (keyAfter now (t.sectRate w n))
          stepped := true }).cnt (Reg.WALL_CNT w n 1) 0 32 opened
      else t) s).wallStat w

/-! Degradation (R124) -/

/-- Rank of a section in the order of degrade steps: 96,000 Hz first, then DEG_PRIO, then number (R124). -/
def State.degRank (s : State) (w : Wing) (n : Nat) : Nat :=
  (if s.sectRate w n = 96000 then 0 else 1) * 64 + s.sectF w n 20 2 * 8 + n

/-- The section the next degrade step raises (R124). -/
def State.degNext (s : State) (w : Wing) : Option Nat :=
  ((List.range 8).filter (fun n => s.sectF w n 31 1 == 1 && s.sectF w n 28 1 == 1 && decide (s.degLevel w n < 3))).foldl
    (fun b n => match b with
      | none => some n
      | some m => if s.degRank w n < s.degRank w m then some n else some m) none

/-- Set the level of a section: WALL_x_DEGRADE (R124, R128). -/
def State.setLevel (s : State) (w : Wing) (n lv : Nat) : State :=
  ((s.wf (Reg.WALL_SECT_STAT w n) 30 2 lv).wallStat w).wallEvent 466 w n

/-- One degrade step, if some section can take it (R124). -/
def State.degradeStep (s : State) (w : Wing) : State :=
  match s.degNext w with
  | some n =>
    { s with wall := s.wall.set w { s.wall.at_ w with deg := n :: (s.wall.at_ w).deg } }.setLevel w n (s.degLevel w n + 1)
  | none => s

/-- One restore step: it undoes the most recent degrade step in force (R124). -/
def State.restoreStep (s : State) (w : Wing) : State :=
  match (s.wall.at_ w).deg with
  | n :: q => { s with wall := s.wall.set w { s.wall.at_ w with deg := q } }.setLevel w n (s.degLevel w n - 1)
  | [] => s

/-- The write queue has stayed above 3,072 cells for 10 us: a degrade step, and the time counts again (R124). -/
def State.wallDegradeStep (s : State) (w : Wing) : State :=
  match (s.wall.at_ w).hiAt with
  | some t =>
    if s.clk.ns < t + 10000 then s
    else { s with wall := s.wall.set w { s.wall.at_ w with hiAt := some s.clk.ns } }.degradeStep w
  | none => s

/-- The write queue has stayed below 1,024 cells for 10 ms: a restore step, and the time counts again (R124). -/
def State.wallRestoreStep (s : State) (w : Wing) : State :=
  match (s.wall.at_ w).loAt with
  | some t =>
    if s.clk.ns < t + 10000000 then s
    else { s with wall := s.wall.set w { s.wall.at_ w with loAt := some s.clk.ns } }.restoreStep w
  | none => s

/-! Slices (R118-R123) -/

/-- The function owns the subscription (R118, R119). -/
def State.ownsSlice (s : State) (fn g : Nat) : Bool :=
  tst (s.sliceDesc g 0) 31 && fld (s.sliceDesc g 0) 16 8 == fn

/-! DMA service (R411, R413, R445) -/

/-- DMA of a function runs (R413, R414, R416). -/
def State.dmaRuns (s : State) (fn : Nat) : Bool :=
  s.fnLive fn && !s.host.d3.contains fn && (Tab.find s.host.pause (s.fnPort fn)).isNone

/-- A subscription has a block that waits for its DMA (R121). -/
def State.sliceReady (s : State) (g : Nat) : Bool :=
  let b := fld (s.sliceDesc g 0) 0 9
  let cfg := s.rd (Reg.SLICE_CFG (fld (s.sliceDesc g 0) 16 8) g)
  tst (s.sliceDesc g 0) 31 && tst cfg 31 && !tst cfg 29 && b != 0 && decide (b ≤ (Tab.get Slice.zero s.slice g).part.length)

/-- Octets of a block's DMA: the entry and the write-back (R121). -/
def State.sliceOctets (s : State) (g : Nat) : Nat := (s.sliceDesc g 10).toNat + 8

/-- The completion ring of a function has a free entry and can be written (R245, R246). -/
def State.hostCqFree (s : State) (who : Nat) : Bool :=
  s.rb (Reg.BR_CQ_CFG who) 31 && s.dmaRuns who
    && decide ((s.rd (Reg.BR_CQ_TAIL who) - s.rd (Reg.BR_CQ_HEAD who)).toNat < 2 ^ s.rf (Reg.BR_CQ_CFG who) 0 4)

/-- A function's submission ring holds an entry (R245). -/
def State.sqWaits (s : State) (who : Nat) : Bool :=
  s.rb (Reg.BR_SQ_CFG who) 31 && decide (s.rd (Reg.BR_SQ_TAIL who) ≠ s.rd (Reg.BR_SQ_HEAD who)) && s.hostCqFree who

/-- Octets of the DMA at the head of what a function has waiting: a completion with its data, a block, a submission entry (log entry
180). -/
def State.dmaHead (s : State) (t : Nat) : Option Nat :=
  if !s.dmaRuns t then none
  else match s.bridge.resp.find? (fun x => x.who == t) with
  | some x => some (16 + 2 * x.data.length)
  | none => match (List.range 128).find? (fun g => s.ownsSlice t g && s.sliceReady g) with
    | some g => some (s.sliceOctets g)
    | none => if s.sqWaits t then some 32 else none

/-- The quantum of a function: 256 octets x its weight (R411). -/
def State.quantum (s : State) (t : Nat) : Nat := 256 * max 1 (s.rf (Reg.FN_QOS t) 24 8)

/-- Tokens of a capped function, in 1/1000 bit: filled at the cap, up to a burst of 64 KiB (R411). -/
def State.tokens (s : State) (t : Nat) : Int :=
  let (at_, k) := Tab.get (0, 524288000) s.host.bucket t
  min 524288000 (k + (s.rf (Reg.FN_QOS t) 0 20 * (s.clk.ns - at_) : Nat))

/-- A function has tokens, or no cap (R411). -/
def State.hasTokens (s : State) (t : Nat) : Bool := s.rf (Reg.FN_QOS t) 0 20 == 0 || decide (0 < s.tokens t)

/-- Where a function is served in the round robin: the visits it must wait for its deficit to cover `n` octets, then its place after the
function served last, which is still at its turn (R411). -/
def State.dmaPlace (s : State) (port t n : Nat) : Nat × Nat :=
  let last := Tab.get 0 s.host.dmaTurn port
  let visits := (n - Tab.get 0 s.host.deficit t + s.quantum t - 1) / s.quantum t
  (visits, if t = last then visits * 256 else (visits - 1) * 256 + (t + 256 - last) % 256)

/-- Deficit round robin (R411): the functions of the port that wait with tokens are visited in turn, each visit adding a quantum, until
one's deficit covers its DMA. `none`: the DMA of `n` octets is not served now. -/
def State.dmaServe (s : State) (fn n : Nat) : Option State :=
  let port := s.fnPort fn
  let others := (List.range 256).filterMap (fun t =>
    if t ≠ fn ∧ s.fnPort t = port ∧ s.host.en.contains t ∧ s.hasTokens t then (s.dmaHead t).map (fun m => (t, m)) else none)
  let (visits, place) := s.dmaPlace port fn n
  if !s.dmaRuns fn || !s.hasTokens fn || decide (s.clk.ns < Tab.get 0 s.host.dmaHeld port)
    || others.any (fun x => decide ((s.dmaPlace port x.1 x.2).2 < place)) then none
  else
    let last := Tab.get 0 s.host.dmaTurn port
    let add (d : Tab Nat) (t : Nat) : Tab Nat :=
      let passed := if t = last then place / 256 else (place + 256 - (t + 256 - last) % 256) / 256
      Tab.put d t (Tab.get 0 s.host.deficit t + passed * s.quantum t)
    let mine := Tab.get 0 s.host.deficit fn + visits * s.quantum fn - n
    let slow := if s.toll.steps.contains 7 then 4 else if s.toll.steps.contains 6 then 2 else 0
    let rate := [8, 16, 32, 64].getD (s.rf (Reg.HOST_PORT_STAT port) 28 3) 8 * max 1 (s.rf (Reg.HOST_PORT_STAT port) 24 4)
    some { s with
      host.dmaTurn := Tab.put s.host.dmaTurn port fn
      host.deficit := Tab.put (others.foldl (fun d x => add d x.1) (s.host.deficit.filter (fun p => s.fnPort p.1 != port))) fn mine
      host.bucket := if s.rf (Reg.FN_QOS fn) 0 20 = 0 then s.host.bucket
        else Tab.put s.host.bucket fn (s.clk.ns, s.tokens fn - (8000 * n : Nat))
      host.dmaHeld := if slow = 0 then Tab.del s.host.dmaHeld port else Tab.put s.host.dmaHeld port (s.clk.ns + 8 * n * slow / rate) }

/-- A write of SLICE_CFG by its owner (R119-R121). -/
def State.sliceCfgWrite (s : State) (fn g : Nat) (val : Word) : State :=
  if !s.reach fn || !s.ownsSlice fn g then s
  else
    let a := Reg.SLICE_CFG fn g
    let on := s.rb a 31
    let log2 := if on then s.rf a 0 4 else fld val 0 4
    let s1 := ((s.wf a 0 4 log2).wf a 22 6 (fld val 22 6)).wf a 28 1 (fld val 28 1)
    let z := { Slice.zero with first := true }
    if on && !tst val 31 then
      { s1 with slice := Tab.put s1.slice g z }.wf a 30 2 0
    else if !on && tst val 31 && decide (3 ≤ log2) && decide (log2 ≤ 12) then
      ((({ s1 with slice := Tab.put s1.slice g z }.wf a 30 2 3).wr (Reg.SLICE_PROD fn g) 0).wr
        (Reg.SLICE_CONS fn g) 0)
    else s1

/-- A write of SLICE_CFG that sets EN (R121). -/
def State.sliceEnable (s : State) (fn g : Nat) (val : Word) : State := s.sliceCfgWrite fn g val

/-- A write of SLICE_CFG that clears EN (R121). -/
def State.sliceDisable (s : State) (fn g : Nat) (val : Word) : State := s.sliceCfgWrite fn g val

/-- The doorbell of a subscription: a consumer index outside CONS to PROD is discarded (R119). -/
def State.sliceConsWrite (s : State) (fn g : Nat) (val : Word) : State :=
  let cons := s.rd (Reg.SLICE_CONS fn g)
  let prod := s.rd (Reg.SLICE_PROD fn g)
  if s.reach fn && s.ownsSlice fn g && decide ((val - cons) ≤ (prod - cons)) then s.wr (Reg.SLICE_CONS fn g) val else s

/-- Words of a list filled up with zero words to a multiple of 16 (64 bytes; R121). -/
def pad64 (l : List Word) : List Word := l ++ List.replicate ((16 - l.length % 16) % 16) 0

/-- The columns a subscription delivers, in order (R118). -/
def State.sliceCols (s : State) (g : Nat) : List Nat :=
  (List.range 8).flatMap (fun j =>
    let d := s.sliceDesc g (1 + j)
    (List.range (fld d 0 14)).map (fun i => fld d 14 14 + i))

/-- The words of one row of an entry: header and cells (R121). -/
def rowWords (cols : List Nat) (x : List Word × Row) : List Word :=
  pad64 (x.1 ++ cols.flatMap (fun c => [(x.2.cell c).value, (x.2.cell c).w1]))

/-- A block is lost when one of its rows has left the wall (R122). -/
def State.rowGone (s : State) (g : Nat) (r : Row) : Bool :=
  let w := sliceWing g
  let n := fld (s.sliceDesc g 0) 24 3
  ((s.sect w n).row (s.sectRate w n) (r.key (s.sectRate w n))).isNone

/-- Drop a block of B rows; FIRST waits for the next block that is written (R121, R122, log entry 154). -/
def State.dropBlock (s : State) (fn g b : Nat) (rest : List (List Word × Row)) : State :=
  let sl := Tab.get Slice.zero s.slice g
  let first := s.rd (Reg.SLICE_DROPS fn g) == 0
  let s1 := { s with slice := Tab.put s.slice g { sl with part := rest, dropped := sl.dropped + b, total := sl.total + b } }
  let s2 := s1.cnt (Reg.SLICE_DROPS fn g) 0 32 b
  if first then s2.wallEvent 465 (sliceWing g) (g % 64) else s2

/-- The entry of a block: block header, then its rows (R121). -/
def State.blockWords (s : State) (g b : Nat) (rows : List (List Word × Row)) : List Word :=
  let sl := Tab.get Slice.zero s.slice g
  let cols := s.sliceCols g
  let seq := match rows with
    | x :: _ => x.1.getD 5 0
    | [] => 0
  let degr := rows.any (fun x => x.2.degraded)
  [seq, BitVec.ofNat 32 (b % 65536 * 65536 + cols.length % 65536), BitVec.ofNat 32 sl.dropped,
    BitVec.ofNat 32 (bitOf sl.first * 2 ^ 31 + bitOf degr * 2 ^ 30)] ++ List.replicate 12 0
    ++ rows.flatMap (rowWords cols)

/-- A block of B rows goes to the ring, then the write-back, then PROD advances (R121). -/
def State.putBlock (s : State) (fn g b : Nat) (rows rest : List (List Word × Row)) : State :=
  let cfg := s.rd (Reg.SLICE_CFG fn g)
  let sl := Tab.get Slice.zero s.slice g
  let prod := s.rd (Reg.SLICE_PROD fn g)
  let base := (s.rd (Reg.SLICE_BASE fn g 0)).toNat + (s.rd (Reg.SLICE_BASE fn g 1)).toNat * 2 ^ 32
  let wb := (s.rd (Reg.SLICE_WB fn g 0)).toNat + (s.rd (Reg.SLICE_WB fn g 1)).toNat * 2 ^ 32
  let entry : Dma := ⟨fn, base + prod.toNat % 2 ^ fld cfg 0 4 * (s.sliceDesc g 10).toNat, s.blockWords g b rows⟩
  let back : Dma := ⟨fn, wb, [prod + 1, BitVec.ofNat 32 sl.total]⟩
  let s1 := { s with
    host.dma := [back, entry]
    slice := Tab.put s.slice g { sl with part := rest, dropped := 0, first := false } }
  let s2 := s1.wr (Reg.SLICE_PROD fn g) (prod + 1)
  if tst cfg 28 then s2.signal fn (fld cfg 22 6) else s2

/-- A block of B rows is complete: it is written when its function's DMA is served (R121, R411); it is dropped while the ring is full,
when a row has left the wall (R122), or by Toll throttle step 4 (R445). -/
def State.sliceBlockWrite (s : State) (g : Nat) : State :=
  let fn := fld (s.sliceDesc g 0) 16 8
  let b := fld (s.sliceDesc g 0) 0 9
  let cfg := s.rd (Reg.SLICE_CFG fn g)
  let sl := Tab.get Slice.zero s.slice g
  if !s.sliceReady g then s
  else
    let rows := sl.part.take b
    let rest := sl.part.drop b
    let prod := s.rd (Reg.SLICE_PROD fn g)
    let cons := s.rd (Reg.SLICE_CONS fn g)
    let n := 2 ^ fld cfg 0 4
    let odd := match rows with
      | x :: _ => tst (x.1.getD 5 0) 0
      | [] => false
    if decide (n ≤ (prod - cons).toNat) || rows.any (fun x => s.rowGone g x.2) || (s.toll.steps.contains 4 && odd) then
      s.dropBlock fn g b rest
    else match s.dmaServe fn (s.sliceOctets g) with
      | some t => t.putBlock fn g b rows rest
      | none => s

/-! The meanings of the rows -/

/-- WALL_ASDU_WRITE (R107): An accepted ASDU is keyed to a row and its cells written, or counted as early, duplicate or late. -/
def execWallAsduWrite (w : Wing) (s : State) : Out :=
  live true s (s.wallAsduWrite w)

/-- ROW_OPEN (R108): Device time reaches a row's nominal instant minus 1 ms and the row opens. -/
def execRowOpen (w : Wing) (n : Nat) (s : State) : Out :=
  live (rowOpenOk n) s (s.rowOpen w n)

/-- ROW_DEADLINE (R108): Device time reaches nominal instant plus Dr and the open row becomes READY by DEADLINE. -/
def execRowDeadline (w : Wing) (n : Nat) (s : State) : Out :=
  live (rowDeadlineOk n) s (s.rowDeadline w n)

/-- ROW_RELEASE (R110): A READY row is released in key order, with single gaps interpolated and the rest marked MISSING. -/
def execRowRelease (w : Wing) (n : Nat) (ecc : List Nat) (s : State) : Out :=
  live (rowReleaseOk n) s (s.rowRelease w n ecc)

/-- DERIVED_ROW_RELEASE (R115): Once the source rows are released a derived row is computed by the resampling filter and released. -/
def execDerivedRowRelease (w : Wing) (n : Nat) (s : State) : Out :=
  live (derivedRowReleaseOk n) s (s.derivedRowRelease w n)

/-- WALL_DEGRADE_STEP (R124): The wall write queue has stayed above 3,072 cells for 10 µs, so a degrade step is taken. -/
def execWallDegradeStep (w : Wing) (s : State) : Out :=
  live true s (s.wallDegradeStep w)

/-- WALL_RESTORE_STEP (R124): The wall write queue has stayed below 1,024 cells for 10 ms, so a restore step is taken. -/
def execWallRestoreStep (w : Wing) (s : State) : Out :=
  live true s (s.wallRestoreStep w)

/-- SLICE_ENABLE (R121): A 0-to-1 write of SLICE_CFG.EN resets PROD and CONS and starts delivery at the next released row. -/
def execSliceEnable (fn g : Nat) (val : BitVec 32) (s : State) : Out :=
  checked (sliceEnableOk fn g) s (s.sliceEnable fn g val)

/-- SLICE_DISABLE (R121): A 1-to-0 write of SLICE_CFG.EN stops delivery and abandons the partial block. -/
def execSliceDisable (fn g : Nat) (val : BitVec 32) (s : State) : Out :=
  checked (sliceDisableOk fn g) s (s.sliceDisable fn g val)

/-- SLICE_CONS_WRITE (R119): The host writes SLICE_CONS as the doorbell; an out-of-range value is discarded. -/
def execSliceConsWrite (fn g : Nat) (val : BitVec 32) (s : State) : Out :=
  checked (sliceConsWriteOk fn g) s (s.sliceConsWrite fn g val)

/-- SLICE_BLOCK_WRITE (R121): A complete block of B rows is written to the ring, then its write-back, then PROD advances. -/
def execSliceBlockWrite (g : Nat) (s : State) : Out :=
  live (sliceBlockWriteOk g) s (s.sliceBlockWrite g)

end Sys2Proof.Machine
end

