-- ==== Sys2Proof/Machine/Intake.lean ====
section
/-! DEFINITION. The sampled-value intake (03_sample_intake.md): matching, forwarding, the acceptance checks, duplicate
discard, policing, sample counting, pairing and stream states. -/

namespace Sys2Proof.Machine

/-! Streams -/

/-- A stream of a wing's intake. -/
def State.stream (s : State) (w : Wing) (n : Nat) : Stream := Tab.get Stream.zero (s.intake.at_ w).str n

/-- Replace a stream's record. -/
def State.setStream (s : State) (w : Wing) (n : Nat) (x : Stream) : State :=
  { s with intake := s.intake.set w { s.intake.at_ w with str := Tab.put (s.intake.at_ w).str n x } }

/-- An intake event: four numbers per wing (R100). -/
def State.intakeEvent (s : State) (es : Nat) (w : Wing) (n : Nat) : State := s.raiseAt (es + 4 * w.idx) n (wingCode w)

/-- The intake of a wing processes frames (R96). -/
def State.intakeRuns (s : State) (w : Wing) : Bool := s.rb (Reg.INTAKE_CTRL w) 31

/-- INTAKE_STATUS.ACTIVE and SIM_ACTIVE (R97). -/
def State.intakeStat (s : State) (w : Wing) : State :=
  let n (v : Nat) : Nat := ((List.range 512).filter (fun i => s.strState w i == v)).length
  (s.wf (Reg.INTAKE_STATUS w) 0 10 (n 2)).wb (Reg.INTAKE_STATUS w) 30 (decide (0 < n 5))

/-- A stream changes state: INTAKE_x_STREAM_STATE, and the expected set of its section is judged again (R89, R90,
R109). -/
def State.setStrState (s : State) (w : Wing) (n v : Nat) : State :=
  if s.strState w n = v then s
  else
    let s1 := ((s.wf (Reg.STREAM_STAT w n) 29 3 v).intakeStat w).intakeEvent 456 w n
    s1.readyComplete w (fld (s1.strW w n 0) 22 3)

/-- Set a sticky bit of STREAM_STAT; the event is raised when it goes from 0 to 1 (R90). -/
def State.sticky (s : State) (w : Wing) (n b : Nat) (es : Option Nat) : State :=
  let was := s.rb (Reg.STREAM_STAT w n) b
  let s1 := s.wb (Reg.STREAM_STAT w n) b true
  match es with
  | some e => if was then s1 else s1.intakeEvent e w n
  | none => s1

/-- Count in a stream counter that saturates (R99). -/
def State.strCnt (s : State) (w : Wing) (n i k : Nat) : State := s.cnt (Reg.STREAM_CNT w n i) 0 32 k

/-- Count in a wing-level counter; the first increment after a read raises INTAKE_x_REJECT (R90, R95). -/
def State.rejectCnt (s : State) (w : Wing) (a : Nat) : State :=
  let first := s.rd a == 0
  let s1 := s.cnt a 0 32 1
  if first then s1.intakeEvent 459 w 0 else s1

/-- Rate, NOASDU and NCH of an entry (R77). -/
def State.strRate (s : State) (w : Wing) (n : Nat) : Nat := rateHz (fld (s.strW w n 0) 25 3)
def State.strAsdus (s : State) (w : Wing) (n : Nat) : Nat := fld (s.strW w n 0) 16 4
def State.strNch (s : State) (w : Wing) (n : Nat) : Nat := fld (s.strW w n 4) 11 5

/-! Matching (R73, R74) -/

/-- A frame matches the key of a valid entry of a wing's table (R74, R77). -/
def State.keyMatch (s : State) (w : Wing) (n : Nat) (f : SvFrame) : Bool :=
  let w0 := s.strW w n 0
  tst w0 31
    && f.dmac == BitVec.ofNat 48 ((s.strW w n 2).toNat * 65536 + fld (s.strW w n 3) 16 16)
    && f.appid.toNat == fld w0 0 16
    && (!tst w0 28 || f.vid == some (fld (s.strW w n 3) 0 12))

/-- The entry a frame matches. Where two keys that differ in VLAN_REQ match one tagged frame, the one that asks for the
tag is taken (log entry 16). -/
def State.entryOf (s : State) (w : Wing) (f : SvFrame) : Option Nat :=
  match (List.range 512).find? (fun n => s.keyMatch w n f && tst (s.strW w n 0) 28) with
  | some n => some n
  | none => (List.range 512).find? (fun n => s.keyMatch w n f)

/-! The acceptance checks (R78-R84) -/

/-- The octets of an entry's svID (R77). -/
def State.strSvid (s : State) (w : Wing) (n : Nat) : List Octet :=
  (((List.range 16).map (fun i => wordBytes (s.strW w n (8 + i)))).flatten).take (fld (s.strW w n 4) 16 8)

/-- Step 1 of R78: the format. -/
def State.formatOk (s : State) (w : Wing) (n : Nat) (f : SvFrame) : Bool :=
  let rate := s.strRate w n
  f.ber && f.noAsdu == s.strAsdus w n && f.asdus.length == f.noAsdu
    && f.asdus.all (fun a => a.chans.length == s.strNch w n && decide (a.smpCnt < rate) && a.smpRate.all (fun r => r == rate))

/-- USAGE codes of a Boxwood slot, in the order of R424 (log entry 17). -/
def useMacsec : Nat := 0
def usePdauth : Nat := 1
def useCaique : Nat := 2
def useEngine : Nat := 3
def useWrap : Nat := 4

/-- A Boxwood slot holds an AES key of a usage (R424). -/
def State.aesKey (s : State) (slot use : Nat) : Bool :=
  match Tab.find s.sec.box slot with
  | some k => k.usage == use && (k.typ == 1 || k.typ == 2)
  | none => false

/-- What the tag of the extension covers, as 16-bit words: the frame's own content in order (R429, log entry 147). -/
def svAsduWords (a : SvAsdu) : List Half :=
  a.svid.map (fun o => o.setWidth 16) ++ [BitVec.ofNat 16 a.smpCnt, BitVec.ofNat 16 (a.smpCnt / 65536)] ++ wordHalves a.confRev
    ++ [BitVec.ofNat 16 a.smpSynch, BitVec.ofNat 16 (a.smpRate.getD 0)] ++ a.chans.flatMap (fun c => wordHalves c.1 ++ wordHalves c.2)
def svWords (f : SvFrame) : List Half :=
  natHalves 3 f.dmac.toNat ++ [f.appid, BitVec.ofNat 16 f.noAsdu, BitVec.ofNat 16 (bitOf f.sim)] ++ f.asdus.flatMap svAsduWords

/-- The tag of the extension under the key of a slot (R80, R429). -/
def State.svTag (s : State) (slot : Nat) (iv : BitVec 96) (f : SvFrame) : List Half := gcmTag (s.keyNum slot) iv (svWords f)

/-- Step 2 of R78: authentication (R80, R429). -/
def State.authOk (s : State) (w : Wing) (n : Nat) (f : SvFrame) : Bool :=
  if tst (s.strW w n 0) 29 then
    let k := fld (s.strW w n 4) 24 8
    match f.auth with
    | some a => (match a.slot with
      | some q => (q == k || q == k + 1) && s.aesKey q usePdauth && a.tag == s.svTag q a.iv f
      | none => false)
    | none => false
  else true

/-- Simulated frames are accepted on a wing (R82). -/
def State.simOk (s : State) (w : Wing) : Bool := s.inTest && s.rb (Reg.INTAKE_CTRL w) 30

/-- Step 4 of R78: the simulation bit (R82). -/
def State.simPass (s : State) (w : Wing) (n : Nat) (f : SvFrame) : Bool :=
  if f.sim then s.simOk w else s.strState w n != 5

/-- What the discard window says of a sequence number (R83). -/
inductive Dup where
  | new (x : Stream) | duplicate | tooOld
deriving DecidableEq, Repr

/-- Judge a redundancy sequence number by the discard window (R83). Bit i of the map stands for h - i. -/
def judge (x : Stream) (q : Half) : Dup :=
  match x.h with
  | none => .new { x with h := some q, seen := 1 }
  | some h =>
    let d := (q - h).toInt
    if 0 < d then .new { x with h := some q, seen := (x.seen <<< d.toNat) ||| 1 }
    else if -127 ≤ d then
      if x.seen.getLsbD (-d).toNat then .duplicate
      else .new { x with seen := x.seen ||| (1#128 <<< (-d).toNat) }
    else .tooOld

/-- A copy of a frame that waits for its pairing window lowers its timestamp (R88). -/
def pairCopy (x : Stream) (f : SvFrame) (ts ns : Nat) : Stream :=
  { x with pair := x.pair.map (fun p =>
      if p.seq == f.red && f.red.isSome && decide (ns ≤ p.until_) then { p with tmin := min p.tmin ts } else p) }

/-- Hand an ASDU to the wall's write queue of 4,096 cells. The cells of an ASDU are written together: one that does not fit whole is
discarded, and each of its cells counts (R107, R124, log entry 150). -/
def State.toWall (s : State) (w : Wing) (a : AsduOut) : State :=
  if 4096 < s.queuedCells w + a.chans.length then s.cnt (Reg.WALL_CNT_QFULL w) 0 32 a.chans.length
  else
    { s with intake := s.intake.set w { s.intake.at_ w with wallQ := (s.intake.at_ w).wallQ ++ [a] } }.noteQueue w

/-- The loss time of a stream has passed since its last accepted frame (R85, R89). -/
def State.lossDue (s : State) (w : Wing) (n : Nat) : Bool :=
  match (s.stream w n).accAt with
  | some t => decide (8 * s.strAsdus w n * 1000000000 ≤ (s.clk.ns - t) * s.strRate w n)
  | none => true

/-- smpSynch of an ASDU after R86. -/
def synchOf (v : Nat) : Nat := if v ≤ 2 then v else 0

/-- One accepted ASDU: sample counting, synchronisation and quality (R85-R87). -/
def State.noteAsdu (s : State) (w : Wing) (n : Nat) (a : SvAsdu) : State :=
  let rate := s.strRate w n
  let x := s.stream w n
  let s1 := match x.prevCnt with
    | some p =>
      let d := (a.smpCnt + rate - p) % rate
      if d = 1 then s
      else if 2 ≤ d ∧ 2 * d ≤ rate then (s.strCnt w n 7 (d - 1)).sticky w n 24 (some 456)
      else s.strCnt w n 8 1
    | none => s
  let exp := fld (s.strW w n 0) 20 2
  let dev := decide (2 < a.smpSynch) || (exp != 3 && a.smpSynch != exp)
  let s2 := if dev then s1.sticky w n 25 (some 456) else s1
  let inv := a.chans.any (fun c => fld c.2 0 2 == 1)
  let s3 := if inv then (s2.strCnt w n 13 1).sticky w n 23 none else s2
  let s4 := if a.chans.any (fun c => tst c.2 11) then s3.sticky w n 22 none else s3
  let s5 := (s4.wf (Reg.STREAM_STAT w n) 18 2 (synchOf a.smpSynch)).wf (Reg.STREAM_STAT w n) 0 17 a.smpCnt
  s5.setStream w n { s5.stream w n with prevCnt := some a.smpCnt }

/-- A frame passes every check (R78, R82, R85, R88, R89): counters, state, and its ASDUs in order; those of smpSynch 0
wait for their pairing window. -/
def State.acceptFrame (s : State) (w : Wing) (n : Nat) (f : SvFrame) (ts : Nat) : State :=
  let st := s.strState w n
  let fresh := st == 1 || st == 3 || s.lossDue w n
  let x := s.stream w n
  let s1 := (s.roll (Reg.STREAM_CNT w n 1) 1).setStream w n
    { x with accAt := some s.clk.ns, prevCnt := if fresh then none else x.prevCnt, tokens := x.tokens - 1 }
  let s2 := if f.sim then s1.setStrState w n 5
    else if st == 1 || st == 3 then s1.setStrState w n 2 else s1
  let s3 := eachIn f.asdus (fun a t => t.noteAsdu w n a) s2
  let out (a : SvAsdu) : AsduOut := ⟨n, synchOf a.smpSynch, a.smpCnt, ts, a.chans, s3.strState w n == 5⟩
  let s4 := eachIn (f.asdus.filter (fun a => synchOf a.smpSynch != 0)) (fun a t => t.toWall w (out a)) s3
  let zero := (f.asdus.filter (fun a => synchOf a.smpSynch == 0)).map out
  if zero.isEmpty then s4
  else
    let y := s4.stream w n
    s4.setStream w n { y with pair := y.pair ++ [⟨f.red, s.clk.ns + 8000, ts, zero⟩] }

/-- Steps 5 to 7 of R78 on a frame that has passed steps 1 to 4. -/
def State.lastChecks (s : State) (w : Wing) (n : Nat) (f : SvFrame) (ts : Nat) : State :=
  if s.strState w n = 4 then s.strCnt w n 6 1
  else if f.asdus.any (fun a => decide (a.confRev ≠ s.strW w n 1)) then
    ((((s.strCnt w n 6 1).wb (Reg.STREAM_STAT w n) 28 true).setStrState w n 4).intakeEvent 459 w n)
  else
    let x := pairCopy (s.stream w n) f ts s.clk.ns
    let s0 := s.setStream w n x
    let after (t : State) : State :=
      if (t.stream w n).tokens = 0 then (t.strCnt w n 9 1).sticky w n 26 (some 458)
      else t.acceptFrame w n f ts
    match f.red with
    | none => after s0
    | some q =>
      match judge x q with
      | .new y => after (s0.setStream w n y)
      | .duplicate => s0.strCnt w n 2 1
      | .tooOld => s0.strCnt w n 3 1

/-- The checks of R78 on a frame that matches entry `n`, counted in RX_FRAMES first (R79). -/
def State.checkFrame (s : State) (w : Wing) (n : Nat) (f : SvFrame) (ts : Nat) : State :=
  let s0 := s.roll (Reg.STREAM_CNT w n 0) 1
  if !s0.formatOk w n f then (s0.strCnt w n 12 1).sticky w n 20 (some 459)
  else if !s0.authOk w n f then (s0.strCnt w n 4 1).sticky w n 27 (some 457)
  else if f.asdus.any (fun a => a.svid != s0.strSvid w n) then (s0.strCnt w n 5 1).sticky w n 21 (some 459)
  else if !s0.simPass w n f then s0.strCnt w n 11 1
  else s0.lastChecks w n f ts

/-- A frame enters the pipeline of a wing, one every 60 ns behind a FIFO of 256 frames; none when it is full (R76). -/
def State.enterPipe (s : State) (w : Wing) : Option State :=
  let b := (s.intake.at_ w).busy
  if 256 * 60 ≤ b - s.clk.ns then none
  else some { s with intake := s.intake.set w { s.intake.at_ w with busy := max b s.clk.ns + 60 } }

/-- The intake to which the switch delivers the sampled-value frames of a port: FP0-FP15 and UP0-UP3 East, FP16-FP31 and UP4-UP7
West, none for the engines' and the hosts' ports (R73). -/
def svWing (p : Nat) : Option Wing :=
  if p < 16 ∨ (32 ≤ p ∧ p < 36) then some .east else if p < 32 ∨ (36 ≤ p ∧ p < 40) then some .west else none

/-- The switch delivers a copy of a sampled-value frame to the intake of its port, with its addresses and tags, its port and its
ingress timestamp (R73). -/
def State.svCopy (s : State) (p : Nat) (f : Frame) : State :=
  match f.sv, svWing p with
  | some v, some w =>
    if f.etype = 0x88BA then
      let i := s.intake.at_ w
      let g : SvFrame := { v with
        dmac := f.dst, vid := f.vlan.map (fun x => x.2)
        red := match f.red with
          | .prp _ q => some q
          | .hsr q => some q
          | .none => none }
      { s with intake := s.intake.set w { i with rx := i.rx ++ [(p, g, f.ts)] } }
    else s
  | _, _ => s

/-- A frame that matches a peer key is sent to the other wing over the link, or counted while the link is down (R16, R74). -/
def State.svForward (s : State) (w : Wing) (port : Nat) (f : SvFrame) (ts : Nat) : State :=
  if s.iwlDown then s.rejectCnt w (Reg.INTAKE_CNT_FWD_DROP w)
  else
    let o := s.intake.at_ w.other
    { s with
      intake := s.intake.set w.other { o with fwd := o.fwd ++ [(s.arb.linkNo, port, f, ts)] }
      arb.linkNo := s.arb.linkNo + 1 }.cnt (Reg.INTAKE_CNT_FWD_TX w) 0 32 1

/-- A frame in the pipeline of a wing, from its own ports or from the link; only one of its own ports is forwarded (R74, R76, R78). -/
def State.svPipe (s : State) (w : Wing) (own : Bool) (port : Nat) (f : SvFrame) (ts : Nat) : State :=
  if !s.intakeRuns w then s
  else
    match s.enterPipe w with
    | none => s.rejectCnt w (Reg.INTAKE_CNT_OVR w)
    | some s1 =>
      let peer := own && (s1.entryOf w.other f).isSome
      let s2 := if peer then s1.svForward w port f ts else s1
      match s1.entryOf w f with
      | some n => s2.checkFrame w n f ts
      | none => if peer then s2 else s2.rejectCnt w (Reg.INTAKE_CNT_UNKNOWN w)

/-- The oldest copy that the switch has delivered to a wing reaches its intake (R73, R75, log entry 186). -/
def State.svFrameReceive (s : State) (w : Wing) (port : Nat) (f : SvFrame) (ts : Nat) : State :=
  let i := s.intake.at_ w
  match i.rx with
  | x :: q => if x = (port, f, ts) then { s with intake := s.intake.set w { i with rx := q } }.svPipe w true port f ts else s
  | [] => s

/-- The oldest frame that the other wing has forwarded reaches the intake, every transfer of a higher class that the link took before
it having arrived; it is not forwarded again (R16, R74, log entry 186). -/
def State.svForwardReceive (s : State) (w : Wing) (port : Nat) (f : SvFrame) (ts : Nat) : State :=
  let i := s.intake.at_ w
  match i.fwd with
  | (no, x) :: q =>
    if x = (port, f, ts) ∧ s.linkTurnOf w.other no true = true then { s with intake := s.intake.set w { i with fwd := q } }.svPipe w false port f ts else s
  | [] => s

/-! Expiries -/

/-- 400 ms without an accepted frame empties the discard window (R83). -/
def State.discardWindowExpiry (s : State) (w : Wing) (n : Nat) : State :=
  let x := s.stream w n
  match x.accAt with
  | some t => if s.clk.ns < t + 400000000 then s else s.setStream w n { x with h := none, seen := 0 }
  | none => s.setStream w n { x with h := none, seen := 0 }

/-- The policer of a stream gains a token every NOASDU / smpRate seconds, up to POL_BURST (R84). The end of the last token
period is held in ns x rate. -/
def State.policerToken (s : State) (w : Wing) (n : Nat) : State :=
  let x := s.stream w n
  let next := x.tokAt + s.strAsdus w n * 1000000000
  if s.strState w n = 0 || decide (s.clk.ns * s.strRate w n < next) then s
  else s.setStream w n { x with tokAt := next, tokens := min (x.tokens + 1) (fld (s.strW w n 4) 8 3) }

/-- A pairing window has ended: its ASDUs go to the wall with the lowest timestamp less XFER_DLY (R88). -/
def State.pairingWindowEnd (s : State) (w : Wing) (n : Nat) : State :=
  let x := s.stream w n
  match x.pair with
  | p :: q =>
    if s.clk.ns ≤ p.until_ then s
    else
      let ts := p.tmin - fld (s.strW w n 5) 10 22 * 65536
      eachIn p.out (fun a t => t.toWall w { a with ts := ts }) (s.setStream w n { x with pair := q })
  | [] => s

/-- The loss time of an ACTIVE stream has passed (R89). -/
def State.streamLoss (s : State) (w : Wing) (n : Nat) : State :=
  if s.strState w n = 2 && s.lossDue w n then s.setStrState w n 3 else s

/-- The host clears bits of STREAM_STAT; clearing CONFREV_ERR returns the stream to WAITING (R81, R98). -/
def State.confrevClear (s : State) (fn : Nat) (w : Wing) (n : Nat) (val : Word) : State :=
  if !s.ownerCfg fn then s
  else
    let a := Reg.STREAM_STAT w n
    let clears := tst val 28 && s.rb a 28
    let s1 := s.wr a (s.rd a &&& ~~~(val &&& 0x1FF00000#32))
    if clears && s1.strState w n = 4 then
      let s2 := s1.setStrState w n 1
      s2.setStream w n { s2.stream w n with prevCnt := none }
    else s1

/-- SIMULATED streams of a wing return to WAITING (R82). -/
def State.endSim (s : State) (w : Wing) : State :=
  each 512 (fun n t => if t.strState w n = 5 then t.setStrState w n 1 else t) s

/-- A write of INTAKE_CTRL (R82, R95, R96). -/
def State.simEnWrite (s : State) (fn : Nat) (w : Wing) (val : Word) : State :=
  if !s.ownerCfg fn then s
  else
    let s1 := s.wb (Reg.INTAKE_CTRL w) 30 (tst val 30)
    if tst val 30 then s1 else s1.endSim w

/-- A manifest is applied: an entry in use is WAITING with an empty window and a full bucket, any other DISABLED; a change of STATE
is an event (R83, R84, R89, R90). -/
def State.startStream (s : State) (w : Wing) (n : Nat) : State :=
  if tst (s.strW w n 0) 31 then
    let z := { Stream.zero with tokens := fld (s.strW w n 4) 8 3, tokAt := s.clk.ns * s.strRate w n }
    (s.setStream w n z).setStrState w n 1
  else s.setStrState w n 0

/-! The meanings of the rows -/

/-- SV_FRAME_RECEIVE (R78): A sampled-value frame reaches an intake and runs through matching, forwarding and acceptance checks. -/
def execSvFrameReceive (w : Wing) (port : Nat) (f : SvFrame) (ts : Nat) (s : State) : Out :=
  live true s (s.svFrameReceive w port f ts)

/-- SV_FORWARD_RECEIVE (R74): A frame forwarded from the other wing reaches the intake and runs the acceptance checks. -/
def execSvForwardReceive (w : Wing) (port : Nat) (f : SvFrame) (ts : Nat) (s : State) : Out :=
  live true s (s.svForwardReceive w port f ts)

/-- DISCARD_WINDOW_EXPIRY (R83): After 400 ms with no accepted frame the stream's discard window is emptied. -/
def execDiscardWindowExpiry (w : Wing) (sn : Nat) (s : State) : Out :=
  live (discardWindowExpiryOk sn) s (s.discardWindowExpiry w sn)

/-- POLICER_TOKEN (R84): A stream policer gains a token every NOASDU / smpRate seconds. -/
def execPolicerToken (w : Wing) (sn : Nat) (s : State) : Out :=
  live (policerTokenOk sn) s (s.policerToken w sn)

/-- PAIRING_WINDOW_END (R88): An 8 µs pairing window ends and the smpSynch 0 ASDU goes to the wall keyed on t_min − XFER_DLY. -/
def execPairingWindowEnd (w : Wing) (sn : Nat) (s : State) : Out :=
  live (pairingWindowEndOk sn) s (s.pairingWindowEnd w sn)

/-- STREAM_LOSS (R89): No frame has been accepted for the loss time, so an ACTIVE stream becomes LOST. -/
def execStreamLoss (w : Wing) (sn : Nat) (s : State) : Out :=
  live (streamLossOk sn) s (s.streamLoss w sn)

/-- CONFREV_CLEAR (R81): The host clears STREAM_STAT.CONFREV_ERR and the stream returns to WAITING. -/
def execConfrevClear (fn : Nat) (w : Wing) (sn : Nat) (val : BitVec 32) (s : State) : Out :=
  checked (confrevClearOk fn sn) s (s.confrevClear fn w sn val)

/-- SIM_EN_WRITE (R82): A write of INTAKE_CTRL.SIM_EN; clearing it returns SIMULATED streams to WAITING. -/
def execSimEnWrite (fn : Nat) (w : Wing) (val : BitVec 32) (s : State) : Out :=
  checked (simEnWriteOk fn) s (s.simEnWrite fn w val)

end Sys2Proof.Machine
end

