-- ==== Sys2Proof/Machine/Bridge.lean ====
section
/-! DEFINITION. The remote space and the bridge (09_remote_space.md): addresses, rights, the image bank, draft outputs,
request queues, host rings, completions and what resets do to them. -/

namespace Sys2Proof.Machine

/-! Remote addresses (R234) -/

/-- NODE, CLASS, PORT and WORD of a remote address (R234). -/
def raNode (a : Word) : Nat := fld a 26 6
def raClass (a : Word) : Nat := fld a 22 4
def raPort (a : Word) : Nat := fld a 16 6
def raWord (a : Word) : Nat := fld a 0 16

/-- A register is cyclic when WORD[15:8] is 0 (R234). -/
def raCyclic (a : Word) : Bool := decide (raWord a < 256)

/-- CLASS and PORT are in range (R234). -/
def raPortOk (a : Word) : Bool :=
  match raClass a with
  | 0 => raPort a == 0
  | 1 => decide (raPort a < 32)
  | 2 => decide (raPort a < 8)
  | 3 => decide (raPort a < 8)
  | 4 => decide (raPort a < 4)
  | _ => false

/-- What the node's commissioning profile says of a word (R236). -/
def State.nodeWord (s : State) (a : Word) : Option NodeWord := s.man.nodeWords.find? (fun w => w.addr == a)

/-- NODE_STATUS and CYCLE of node control, which the device answers itself (R236). -/
def ownWord (a : Word) : Bool := raClass a == 0 && raPort a == 0 && decide (raWord a < 2)

/-- A port and word that the node has (R236). -/
def State.raDefined (s : State) (a : Word) : Bool := raPortOk a && (ownWord a || (s.nodeWord a).isSome)

/-- The ring of a node and the node's position (R181). -/
def State.ringOf (s : State) (node : Nat) : Ring := Tab.get Ring.zero s.ring (node / 16)

/-- State of a node (R231): 2 is ADMITTED. -/
def State.nodeState (s : State) (node : Nat) : Nat := s.rf (Reg.CQ_NODE_STAT (node / 16) (node % 16)) 29 3

/-- READ or WRITE right to a node and a class; the manifest limits tenants (R236). -/
def State.mayAccess (s : State) (who : Nat) (wr : Bool) (a : Word) : Bool :=
  match s.man.tenants.find? (fun t => t.tid == who) with
  | some t =>
    if wr then tst t.nodeWr (raNode a) && tst t.classWr (raClass a)
    else tst t.nodeRd (raNode a) && tst t.classRd (raClass a)
  | none => decide (256 ≤ who)

/-- The outputs of a DOUT command word that are remote trip points (R165, R236). -/
def State.tripMask (s : State) (a : Word) : Half :=
  if raClass a = 4 ∧ raWord a = 0 then
    (List.range 256).foldl (fun (m : Half) i =>
      let w1 := s.rd (Reg.TRIP_TGT_CFG (16 + i) 1)
      if s.tgtValid (16 + i) && fld w1 22 6 == raNode a && fld w1 16 6 / 16 == raPort a then
        m ||| BitVec.ofNat 16 (2 ^ (fld w1 16 6 % 16))
      else m) 0
  else 0

/-! Errors and counts (R252, R253) -/

/-- Set a bit of BR_ERR; the event is raised on the first occurrence since it was cleared (R252, R253). Engine processors
have no BR_ERR. -/
def State.brErr (s : State) (who b : Nat) : State :=
  if 256 ≤ who then s
  else if s.rb (Reg.BR_ERR who) b then s
  else (s.wb (Reg.BR_ERR who) b true).raiseAt 488 who 0

/-- Count a lost write of its function (R247, R249, R253). -/
def State.lostWrite (s : State) (who : Nat) : State :=
  if 256 ≤ who then s
  else
    let first := s.rd (Reg.BR_LOST_WR who) == 0
    let s1 := s.cnt (Reg.BR_LOST_WR who) 0 32 1
    if first then s1.raiseAt 491 who 0 else s1

/-! The image bank (R237-R239) -/

/-- Word offset of a logical word in a buffer (R237). -/
def imgAt (off buf : Nat) : Nat := off + 0x80000 * buf

/-- Read a word of the image bank; a word with an uncorrectable error reads all-ones and raises BR_FAULT (R237). -/
def State.imageRead (s : State) (a : Nat) : Half × State :=
  if s.bridge.badImage.contains a then (0xFFFF, s.raise 495) else (Tab.get 0 s.bridge.image a, s)

/-- Write a word of the image bank. -/
def State.imageWrite (s : State) (a : Nat) (v : Half) : State :=
  { s with
    bridge.image := Tab.store 0 s.bridge.image a v
    bridge.badImage := s.bridge.badImage.filter (fun x => x != a) }

/-- The buffer that a reader of a node's cyclic inputs is answered from; a latched buffer that has become FILL gives LATEST
and sets TORN (R239). -/
def State.imageBuf (s : State) (who node : Nat) : Nat × State :=
  let r := s.ringOf node
  match Tab.find s.bridge.snap who with
  | some (n, b) =>
    if n ≠ node then (r.latest, s)
    else if b < 3 then (b, s)
    else if 256 ≤ who then (r.latest, s)
    else
      let was := s.rb (Reg.BR_SNAP_STAT who) 31
      let s1 := s.wb (Reg.BR_SNAP_STAT who) 31 true
      (r.latest, if was then s1 else s1.raiseAt 494 who 0)
  | none => (r.latest, s)

/-- Latch a node's LATEST buffer for a reader (R239). -/
def State.latchNode (s : State) (who node : Nat) : State :=
  { s with bridge.snap := Tab.put s.bridge.snap who (node, (s.ringOf node).latest) }

/-- NODE_STATUS and CYCLE of a node (R236). -/
def State.ownWordValue (s : State) (a : Word) (buf : Nat) : Half :=
  let node := raNode a
  let r := s.ringOf node
  if raWord a = 0 then
    BitVec.ofNat 16 (s.nodeState node * 2 ^ 13 + s.rf (Reg.CQ_NODE_STAT (node / 16) (node % 16)) 28 1 * 2 ^ 12
      + capAt 0xFFF (Tab.get RNode.zero r.node (node % 16)).age)
  else (Tab.get 0 r.bufCyc buf).setWidth 16

/-- Read a cyclic word (R236, R239). What an output word reads as is not stated: a free value (log entry 3). -/
def State.cyclicRead (s : State) (who : Nat) (a : Word) : Half × State :=
  let (b, s1) := s.imageBuf who (raNode a)
  if ownWord a then (s1.ownWordValue a b, s1)
  else
    match s1.nodeWord a with
    | some w => match w.img with
      | some off => if w.out then (s1.freshWord.setWidth 16, s1.used 1) else s1.imageRead (imgAt off b)
      | none => (0xFFFF, s1)
    | none => (0xFFFF, s1)

/-! Draft outputs (R240) -/

/-- Put bits of a word into the draft output image. -/
def State.draftWrite (s : State) (off : Nat) (v mask : Half) : State :=
  { s with bridge.draft := Tab.store 0 s.bridge.draft off ((Tab.get 0 s.bridge.draft off &&& ~~~mask) ||| (v &&& mask)) }

/-- The function's own writes to a node are staged (R240). -/
def State.holding (s : State) (who node : Nat) : Bool :=
  (Tab.find s.bridge.holdAt who).isSome && decide (who < 256) && s.rf (Reg.BR_OUT_HOLD who) 0 6 == node

/-- Write a cyclic word (R236, R240): outputs that are remote trip points keep their value, an input word is unchanged. -/
def State.cyclicWrite (s : State) (who : Nat) (a : Word) (v : Half) : State :=
  match s.nodeWord a with
  | some w => match w.img with
    | some off =>
      if !w.out then s
      else
        let m := ~~~s.tripMask a
        let s1 := if s.tripMask a ≠ 0 then s.brErr who 30 else s
        if s1.holding who (raNode a) then
          { s1 with bridge.staged := Tab.put s1.bridge.staged who (Tab.get [] s1.bridge.staged who ++ [(off, v, m)]) }
        else s1.draftWrite off v m
    | none => s
  | none => s

/-- The staged writes of a function enter the draft together, and its hold ends (R240). -/
def State.releaseHold (s : State) (fn : Nat) : State :=
  let l := Tab.get [] s.bridge.staged fn
  eachIn l (fun p t => t.draftWrite p.1 p.2.1 p.2.2)
    { s with bridge.staged := Tab.del s.bridge.staged fn, bridge.holdAt := Tab.del s.bridge.holdAt fn }

/-- A write of BR_OUT_HOLD that sets HOLD (R240). -/
def State.outHoldSet (s : State) (fn node : Nat) : State :=
  if !s.reach fn then s
  else
    let s1 := (s.releaseHold fn).wr (Reg.BR_OUT_HOLD fn) (BitVec.ofNat 32 (2 ^ 31 + node))
    { s1 with bridge.holdAt := Tab.put s1.bridge.holdAt fn s.clk.ns }

/-- A write of BR_OUT_HOLD that clears HOLD (R240). -/
def State.outHoldClear (s : State) (fn : Nat) : State :=
  if !s.reach fn then s else (s.releaseHold fn).wb (Reg.BR_OUT_HOLD fn) 31 false

/-- 4 x Tc after a hold was set its writes enter the draft (R240). -/
def State.outHoldExpiry (s : State) (fn : Nat) : State :=
  match Tab.find s.bridge.holdAt fn with
  | some t =>
    if s.cqPassed (s.rf (Reg.BR_OUT_HOLD fn) 0 6 / 16) 4 t 0 then (s.releaseHold fn).brErr fn 26 else s
  | none => s

/-! Request queues (R241-R244) -/

/-- The queue of a node. -/
def State.brQueue (s : State) (node : Nat) : List BReq := Tab.get [] s.bridge.queue node

/-- Replace the queue of a node. -/
def State.setQueue (s : State) (node : Nat) (q : List BReq) : State :=
  { s with bridge.queue := Tab.put s.bridge.queue node q }

/-- Add a request to its node's queue, with the next RSEQ (R241). -/
def State.enqueue (s : State) (q : BReq) : State :=
  let node := raNode q.addr
  let n := Tab.get 0 s.bridge.rseq node
  { s.setQueue node (s.brQueue node ++ [{ q with rseq := n }]) with
    bridge.rseq := Tab.put s.bridge.rseq node (n + 1) }

/-- LEN of a node's ACYC slot in the schedule in force (R243). -/
def State.acycLen (s : State) (node : Nat) (dir : Bool) : Nat :=
  let r := node / 16
  let b := (s.ringOf node).bank
  match (List.range 512).find? (fun i =>
    let w := s.rd (Reg.CQ_SCHED r b i 0)
    tst w 31 && fld w 26 3 == 4 && tst w 25 == dir && fld w 16 6 == node) with
  | some i => s.rf (Reg.CQ_SCHED r b i 0) 0 12
  | none => 0

/-- Words of a request's message (R243). -/
def msgLen (q : BReq) : Nat := if q.wr then 5 + q.count else 5

/-- The message of a request (R243). -/
def msgWords (q : BReq) : List Half :=
  [BitVec.ofNat 16 ((if q.wr then 2 else 1) * 2 ^ 12 + q.rseq.toNat), BitVec.ofNat 16 (if q.wr then 0 else q.tag),
    BitVec.ofNat 16 (raClass q.addr * 2 ^ 6 + raPort q.addr), BitVec.ofNat 16 (raWord q.addr), BitVec.ofNat 16 q.count]
    ++ (if q.wr then q.data else [])

/-- The requests that a DIR = 0 slot of `len` words takes next, in queue order: the first ones not yet sent, while they fit
and at most 64 are unacknowledged (R243, R244). -/
def takeMsgs : Nat → Nat → List BReq → List BReq × List BReq
  | _, _, [] => ([], [])
  | len, un, q :: t =>
    if q.acked then
      let (m, r) := takeMsgs len un t
      (m, q :: r)
    else if q.sent then
      let (m, r) := takeMsgs len (un + 1) t
      (m, q :: r)
    else if msgLen q ≤ len ∧ un < 64 then
      let (m, r) := takeMsgs (len - msgLen q) (un + 1) t
      (q :: m, { q with sent := true, age := 0 } :: r)
    else ([], q :: t)

/-! BAR2 (R235, R236, R239-R241, R247) -/

/-- One word of a BAR2 read. -/
def State.bar2Word (s : State) (fn : Nat) (a : Word) : Half × State :=
  if !s.mayAccess fn false a then (0xFFFF, s.brErr fn 30)
  else if !s.raDefined a then (0xFFFF, s.brErr fn 29)
  else if raCyclic a then s.cyclicRead fn a
  else (0xFFFF, s.brErr fn 31)

/-- Words of a BAR2 access: the addresses from byte offset X on. -/
def bar2Addr (off i : Nat) : Word := BitVec.ofNat 32 (off / 2 + i)

/-- Read words in rising order. -/
def State.bar2Words (s : State) (fn off : Nat) : Nat → Nat → List Half → List Half × State
  | 0, _, acc => (acc.reverse, s)
  | n + 1, i, acc =>
    let (v, s1) := s.bar2Word fn (bar2Addr off i)
    s1.bar2Words fn off n (i + 1) (v :: acc)

/-- Words as one value, the first at the bottom. -/
def halvesVal : List Half → Nat
  | [] => 0
  | h :: t => h.toNat + 65536 * halvesVal t

/-- A host read through BAR2 (R235, R239, R241): one to four words; an 8-bit read returns its byte. -/
def State.bar2Read (s : State) (fn off size : Nat) : State :=
  if !s.reach fn then s.unreached fn
  else
    let (l, s1) := s.bar2Words fn off (max 1 (size / 2)) 0 []
    let v := halvesVal l
    s1.answer (BitVec.ofNat 64 (if size = 1 then v / 2 ^ (8 * (off % 2)) % 256 else v))

/-- Posted writes of a function that wait in all queues (R247). -/
def State.postedCount (s : State) (fn : Nat) : Nat :=
  s.bridge.queue.foldl (fun n p => n + (p.2.filter (fun q => q.mmio && q.who == fn)).length) 0

/-- The posted quota of a function (R247). -/
def State.postedQuota (s : State) (fn : Nat) : Nat :=
  match s.man.tenants.find? (fun t => t.tid == fn) with
  | some t => t.posted
  | none => 0

/-- One word of a BAR2 write (R236, R240, R241, R247, R249). -/
def State.bar2Put (s : State) (fn : Nat) (a : Word) (v : Half) : State :=
  if !s.mayAccess fn true a then s.brErr fn 30
  else if !s.raDefined a then s.brErr fn 29
  else if raCyclic a then s.cyclicWrite fn a v
  else if s.nodeState (raNode a) ≠ 2 then s.lostWrite fn
  else if s.postedQuota fn ≤ s.postedCount fn then (s.lostWrite fn).brErr fn 27
  else s.enqueue ⟨fn, true, 0, 0, a, 1, [v], 0, 0, true, false, false, 0, false⟩

/-- A host write through BAR2: 8-bit writes are discarded (R235). -/
def State.bar2Write (s : State) (fn off size : Nat) (val : BitVec 64) : State :=
  if !s.reach fn then s
  else if size = 1 then s.brErr fn 28
  else each (size / 2) (fun i t => t.bar2Put fn (bar2Addr off i) (BitVec.ofNat 16 (val.toNat / 2 ^ (16 * i)))) s

/-- A write of BR_SNAP (R239). -/
def State.brSnapWrite (s : State) (fn : Nat) (val : Word) : State :=
  if !s.reach fn then s
  else
    let s1 := s.wr (Reg.BR_SNAP fn) (val &&& 0x8000003F#32)
    if tst val 31 then
      let node := fld val 0 6
      let r := s1.ringOf node
      (s1.latchNode fn node).wf (Reg.BR_SNAP_STAT fn) 0 16 (Tab.get 0 r.bufCyc r.latest).toNat
    else { s1 with bridge.snap := Tab.del s1.bridge.snap fn }

/-! Host rings (R245, R246, R248) -/

/-- The ring pair of an SP (R245). -/
def State.spRing (s : State) (who : Nat) : Option (Nat × Nat × Nat × Nat) := s.man.spRings.find? (fun p => p.1 + 256 == who)

/-- The completion ring of a requester has a free entry and can be written (R245, R246). -/
def State.cqFree (s : State) (who : Nat) : Bool :=
  if who < 256 then s.hostCqFree who else (s.spRing who).isSome

/-- Reads of a requester that have not completed. -/
def State.openReads (s : State) (who : Nat) : Nat :=
  s.bridge.queue.foldl (fun n p => n + (p.2.filter (fun q => !q.wr && !q.timed && q.who == who)).length) 0
    + (s.bridge.resp.filter (fun r => r.who == who)).length

/-- The bridge may fetch a submission entry: there is one, the completion ring will have a free entry for its completion (R246), and the
function's DMA is served (R411). -/
def State.mayFetch (s : State) (who : Nat) : Bool :=
  if who < 256 then
    s.sqWaits who && (s.dmaServe who 32).isSome
      && decide ((s.rd (Reg.BR_CQ_TAIL who) - s.rd (Reg.BR_CQ_HEAD who)).toNat + s.openReads who
        < 2 ^ s.rf (Reg.BR_CQ_CFG who) 0 4)
  else (s.spRing who).isSome

/-- Words of a completion entry (R245). -/
def State.cqEntry (s : State) (x : BResp) (phase : Bool) : List Word :=
  [BitVec.ofNat 32 (bitOf phase * 2 ^ 31 + x.status % 16 * 2 ^ 27 + x.tag * 2 ^ 16 + x.user.toNat), x.addr,
    BitVec.ofNat 32 x.data.length, BitVec.ofNat 32 (s.nowNs % 1000000000)]

/-- The words that 16-bit data fill, two to a word. -/
def pairWords : List Half → List Word
  | [] => []
  | [a] => [BitVec.ofNat 32 a.toNat]
  | a :: b :: t => BitVec.ofNat 32 (a.toNat + b.toNat * 65536) :: pairWords t

/-- Write a READ's data and then a completion entry (R245): to host memory for a function, to the host bank for an SP. -/
def State.writeCompletion (s : State) (x : BResp) : State :=
  if x.who < 256 then
    let cfg := s.rd (Reg.BR_CQ_CFG x.who)
    let tail := s.rd (Reg.BR_CQ_TAIL x.who)
    let n := 2 ^ fld cfg 0 4
    let base := (s.rd (Reg.BR_CQ_BASE x.who 0)).toNat + (s.rd (Reg.BR_CQ_BASE x.who 1)).toNat * 2 ^ 32
    let entry : Dma := ⟨x.who, base + 16 * (tail.toNat % n), s.cqEntry x (tail.toNat / n % 2 == 0)⟩
    let data : List Dma := if x.data.isEmpty then [] else [⟨x.who, x.buf, pairWords x.data⟩]
    let s1 := { s with host.dma := entry :: data }.wr (Reg.BR_CQ_TAIL x.who) (tail + 1)
    if tst cfg 28 then s1.signal x.who (fld cfg 22 6) else s1
  else
    match s.spRing x.who with
    | some (_, _, cq, lg) =>
      let tail := Tab.get 0 s.bridge.spTail x.who
      let b1 := putWords s.host.bank x.buf (pairWords x.data)
      { s with
        host.bank := putWords b1 (cq + 16 * (tail % 2 ^ lg)) (s.cqEntry x (tail / 2 ^ lg % 2 == 0))
        bridge.spTail := Tab.put s.bridge.spTail x.who (tail + 1) }
    | none => s

/-- Complete a request at once, without a tag. -/
def State.completeNow (s : State) (who status : Nat) (addr : Word) (user : Half) (buf : Nat) (data : List Half) : State :=
  s.writeCompletion ⟨who, status, 0, addr, data, user, buf, s.clk.ns, none, false⟩

/-- A ring request is refused: what BR_ERR shows of it, then its completion (R236, R245). -/
def State.refuseReq (s : State) (who status : Nat) (addr : Word) (user : Half) (buf : Nat) : State :=
  let s1 := if status = 6 then s.brErr who 30 else if status = 4 then s.brErr who 29 else s
  s1.completeNow who status addr user buf []

/-- One RSEQ lies before another (R242). -/
def seqBefore (a b : BitVec 11) : Bool := decide (a ≠ b) && decide ((b - a).toNat < 1024)

/-- The completion of a request with this RSEQ must wait: one of an earlier request of the same requester to the same node is still to come
(R242). -/
def State.completesLater (s : State) (who node : Nat) (q : BitVec 11) : Bool :=
  (s.brQueue node).any (fun x => !x.wr && !x.timed && x.who == who && seqBefore x.rseq q)
    || s.bridge.resp.any (fun x => x.who == who && raNode x.addr == node && (match x.seq with
      | some p => seqBefore p q
      | none => false))

/-- Td in ns (R248). -/
def State.tdNs (s : State) : Nat := s.man.tdMs * 1000000

/-- A tag is neither in use nor retired within Td (R246, R250). -/
def State.tagFree (s : State) (t : Nat) : Bool :=
  (Tab.find s.bridge.tags t).isNone && (match Tab.find s.bridge.retired t with
    | some a => decide (a + s.tdNs ≤ s.clk.ns)
    | none => true)

/-- A free tag, searched from a free starting point: which one is taken is open (log entry 3). -/
def State.pickTag (s : State) : Option Nat :=
  ((List.range 2048).map (fun i => (s.freshWord.toNat + i) % 2048)).find? (fun t => s.tagFree t)

/-- Tags in use by a requester, and its quota (R246, R251, R253). -/
def State.tagsUsed (s : State) (who : Nat) : Nat := (s.bridge.tags.filter (fun p => p.2 == who)).length
def State.tagQuota (s : State) (who : Nat) : Nat :=
  if 256 ≤ who then ((s.man.spTags.find? (fun p => p.1 + 256 == who)).map (fun p => p.2)).getD 0
  else match s.man.tenants.find? (fun t => t.tid == who) with
  | some t => t.tags
  | none => 0

/-- Fields of a submission entry (R245). -/
def sqWord (e : List Word) (i : Nat) : Word := e.getD i 0
def sqCount (e : List Word) : Nat := fld (sqWord e 2) 0 9
def sqUser (e : List Word) : Half := (sqWord e 0).setWidth 16
def sqBuf (e : List Word) : Nat := (sqWord e 4).toNat + (sqWord e 5).toNat * 2 ^ 32

def sqOp (e : List Word) : Nat := fld (sqWord e 0) 28 4

/-- BAD_DESC: a wrong OP, a COUNT out of range, or a reserved field that is not 0 (R245). -/
def badDesc (op : Nat) (e : List Word) : Bool :=
  !(sqOp e == op && fld (sqWord e 0) 16 12 == 0 && fld (sqWord e 2) 9 23 == 0 && decide (1 ≤ sqCount e)
    && decide (sqCount e ≤ 256) && sqWord e 3 == 0 && sqWord e 6 == 0 && sqWord e 7 == 0)

/-- The entry has been fetched (R251). -/
def State.fetched (s : State) (who : Nat) : State :=
  if who < 256 then ((s.dmaServe who 32).getD s).wr (Reg.BR_SQ_HEAD who) (s.rd (Reg.BR_SQ_HEAD who) + 1)
  else { s with bridge.spHead := Tab.put s.bridge.spHead who (Tab.get 0 s.bridge.spHead who + 1) }

/-- The words of the host bank from a byte offset on. -/
def State.bankWord32 (s : State) (a : Nat) : Word := bytesWord (bytesAt s.host.bank a 4)

/-- The submission entry fetched: a function's comes from host memory, as the command gives it; that of an SP is read from its ring in the
host bank (R245). -/
def State.sqEntry (s : State) (who : Nat) (e : List Word) : List Word :=
  match s.spRing who with
  | some (_, sq, _, lg) =>
    if who < 256 then e
    else (List.range 8).map (fun i => s.bankWord32 (sq + 32 * (Tab.get 0 s.bridge.spHead who % 2 ^ lg) + 4 * i))
  | none => e

/-- The data of a WRITE: from host memory, as the command gives them, or, of an SP, from its buffer in the host bank (R245). -/
def State.sqData (s : State) (who : Nat) (e : List Word) (data : List Half) : List Half :=
  if who < 256 then data
  else (List.range (sqCount e)).map (fun i =>
    let l := bytesAt s.host.bank (sqBuf e + 2 * i) 2
    (l.getD 1 0) ++ (l.getD 0 0))

/-- The words that a request for `n` words from an address on names: consecutive ones, or a FIFO word time and again (R243). -/
def State.reqAddrs (s : State) (a : Word) (n : Nat) : List Word :=
  match s.nodeWord a with
  | some w => if w.fifo then [a] else (List.range n).map (fun i => a + BitVec.ofNat 32 i)
  | none => (List.range n).map (fun i => a + BitVec.ofNat 32 i)

/-- Read consecutive cyclic words. -/
def State.cyclicReads (s : State) (who : Nat) (a : Word) : Nat → List Half → List Half × State
  | 0, acc => (acc.reverse, s)
  | n + 1, acc =>
    let (v, s1) := s.cyclicRead who a
    s1.cyclicReads who (a + 1) n (v :: acc)

/-- The statuses that refuse a ring request before it reaches its queue (R236, R243, R249), in the order of log entry 23. Every word
that it names needs the right and must be defined; one that is cyclic where the first is not, or acyclic where it is, is no word of
the request's kind (log entry 170). -/
def State.ringRefusal (s : State) (who : Nat) (wr : Bool) (e : List Word) : Option Nat :=
  let a := sqWord e 1
  let n := sqCount e
  let l := s.reqAddrs a n
  if badDesc (if wr then 2 else 1) e then some 8
  else if l.any (fun x => !s.mayAccess who wr x || (wr && decide (s.tripMask x ≠ 0))) then some 6
  else if l.any (fun x => !s.raDefined x || raCyclic x != raCyclic a || raPort x != raPort a) then some 4
  else if raCyclic a then none
  else if s.nodeState (raNode a) ≠ 2 then some 3
  else if s.acycLen (raNode a) false < (if wr then 5 + n else 5) ∨ (!wr && decide (s.acycLen (raNode a) true < 3 + n)) then
    some 7
  else none

/-- A READ submission entry is fetched (R245, R246): refused, answered from the image, or queued with a tag. A WRITE is another row's. -/
def State.read (s : State) (who : Nat) (e0 : List Word) : State :=
  let e := s.sqEntry who e0
  if !s.mayFetch who || sqOp e == 2 then s
  else
    let a := sqWord e 1
    let s1 := s.fetched who
    match s1.ringRefusal who false e with
    | some c => s1.refuseReq who c a (sqUser e) (sqBuf e)
    | none =>
      if raCyclic a then
        let (l, s2) := s1.cyclicReads who a (sqCount e) []
        s2.completeNow who 0 a (sqUser e) (sqBuf e) l
      else
        match (if s1.tagQuota who ≤ s1.tagsUsed who then none else s1.pickTag) with
        | none => (s1.completeNow who 1 a (sqUser e) (sqBuf e) []).raiseAt 489 who 0
        | some t =>
          { s1.used 1 with
            bridge.tags := Tab.put s1.bridge.tags t who
            bridge.retired := Tab.del s1.bridge.retired t }.enqueue
            ⟨who, false, 0, t, a, sqCount e, [], sqUser e, sqBuf e, false, false, false, 0, false⟩

/-- An accepted write through a ring enters its node's queue; its completion waits for those of earlier requests to the node (R241,
R242, R245). -/
def State.postWrite (s : State) (q : BReq) : State :=
  let node := raNode q.addr
  let n := Tab.get 0 s.bridge.rseq node
  let s1 := s.enqueue q
  let x : BResp := ⟨q.who, 0, 0, q.addr, [], q.user, 0, s.clk.ns, some n, false⟩
  if s.completesLater q.who node n then { s1 with bridge.resp := s1.bridge.resp ++ [x] } else s1.writeCompletion x

/-- A WRITE submission entry is fetched with its data (R245): refused, put into the draft, or queued. A READ is another row's. -/
def State.write (s : State) (who : Nat) (e0 : List Word) (data : List Half) : State :=
  let e := s.sqEntry who e0
  if !s.mayFetch who || sqOp e == 1 then s
  else
    let a := sqWord e 1
    let s1 := s.fetched who
    match s1.ringRefusal who true e with
    | some c => s1.refuseReq who c a (sqUser e) 0
    | none =>
      let d := (s.sqData who e data).take (sqCount e)
      if raCyclic a then
        (eachIn (d.zip (List.range d.length)) (fun p t => t.cyclicWrite who (a + BitVec.ofNat 32 p.2) p.1) s1).completeNow who 0 a
          (sqUser e) 0 []
      else s1.postWrite ⟨who, true, 0, 0, a, sqCount e, d, sqUser e, 0, false, false, false, 0, false⟩

/-- The doorbell of a submission ring (R245, R251). -/
def State.sqDoorbell (s : State) (fn : Nat) (tail : Word) : State :=
  if s.reach fn then s.wr (Reg.BR_SQ_TAIL fn) tail else s

/-! Responses (R243, R244, R248) -/

/-- An ACK: the requests up to this RSEQ have been executed; writes leave the queue, reads wait for their data (R243,
R244). -/
def State.ack (s : State) (node : Nat) (rseq : BitVec 11) : State :=
  let q := s.brQueue node
  match q.find? (fun x => !x.acked) with
  | some f =>
    let d := (rseq - f.rseq).toNat
    let sent := (q.filter (fun x => x.sent && !x.acked)).length
    if sent ≤ d then s
    else
      let hit (x : BReq) : Bool := !x.acked && decide ((x.rseq - f.rseq).toNat ≤ d)
      let q1 := (q.filter (fun x => !(x.wr && hit x) && !(x.timed && hit x))).map
        (fun x => if hit x then { x with acked := true } else x)
      { s.setQueue node q1 with bridge.ackAge := Tab.put s.bridge.ackAge node 0 }
  | none => s

/-- STATUS of an RDATA as a completion status (R243, R245); the others are not assigned: free (log entry 3). -/
def rdStatus (st : Nat) (fr : Word) : Nat :=
  match st with
  | 0 => 0
  | 1 => 4
  | 2 => 5
  | 3 => 10
  | _ => fld fr 0 4

/-- An RDATA: the response is held for its completion; one whose tag is no longer in use is dropped (R243, R248, R250). -/
def State.rdata (s : State) (node : Nat) (rseq tag : BitVec 11) (status : BitVec 4) (data : List Half) : State :=
  let q := s.brQueue node
  match q.find? (fun x => !x.wr && x.sent && x.rseq == rseq && x.tag == tag.toNat) with
  | some x =>
    let s1 := s.setQueue node (if x.acked then q.erase x else q.map (fun y => if y = x then { y with timed := true } else y))
    if x.timed || Tab.find s.bridge.tags x.tag ≠ some x.who then
      { s1 with bridge.retired := Tab.del s1.bridge.retired x.tag }
    else
      let st := rdStatus status.toNat s.freshWord
      let d := if status = 0 then data.take x.count else []
      { s1.used 1 with bridge.resp := s1.bridge.resp ++ [⟨x.who, st, x.tag, x.addr, d, x.user, x.buf, s.clk.ns, some x.rseq, true⟩] }
  | none => { s with bridge.retired := Tab.del s.bridge.retired tag.toNat }

/-- ACK has not advanced for 8 cycles: every unacknowledged request is sent again, the oldest first (R244). -/
def State.acycResend (s : State) (node : Nat) : State :=
  if Tab.get 0 s.bridge.ackAge node < 8 then s
  else
    { s.setQueue node ((s.brQueue node).map (fun q => if q.acked then q else { q with sent := false })) with
      bridge.ackAge := Tab.put s.bridge.ackAge node 0 }

/-- A response for a read that completes without data. -/
def BReq.resp (q : BReq) (status ns : Nat) : BResp := ⟨q.who, status, q.tag, q.addr, [], q.user, q.buf, ns, some q.rseq, true⟩

/-- No ACK within 256 cycles while the node is ADMITTED: the reads concerned complete with TIMEOUT. The request keeps its
place, so that RSEQ stays in order; a write has completed when it was accepted (R245, log entry 24). -/
def State.acycTimeout (s : State) (node : Nat) : State :=
  let q := s.brQueue node
  let late (x : BReq) : Bool := !x.acked && !x.timed && decide (256 ≤ x.age)
  if s.nodeState node ≠ 2 || !q.any late then s
  else
    let rs := (q.filter (fun x => late x && !x.wr && decide (Tab.find s.bridge.tags x.tag = some x.who))).map
      (fun x => x.resp 9 s.clk.ns)
    let s1 := s.setQueue node (q.map (fun x => if late x then { x with timed := true } else x))
    { s1 with bridge.resp := s1.bridge.resp ++ rs }.raiseAt 493 node 0

/-- One more cycle of a ring: ages of what its nodes have not acknowledged (R244, R245). -/
def State.ageQueues (s : State) (r : Nat) : State :=
  each 16 (fun p t =>
    let n := 16 * r + p
    let q := t.brQueue n
    if q.any (fun x => !x.acked) then
      { t.setQueue n (q.map (fun x => if x.acked then x else { x with age := x.age + 1 })) with
        bridge.ackAge := if q.any (fun x => x.sent && !x.acked) then
            Tab.put t.bridge.ackAge n (Tab.get 0 t.bridge.ackAge n + 1) else t.bridge.ackAge }
    else t) s

/-- A held completion leaves the store; its tag is free (R248). -/
def State.dropResp (s : State) (x : BResp) : State :=
  { s with bridge.resp := s.bridge.resp.erase x, bridge.tags := if x.tagged then Tab.del s.bridge.tags x.tag else s.bridge.tags }

/-- The DMA of a requester's completion is served; an SP's ring lies in the host bank (R245, R411). -/
def State.complServe (s : State) (who n : Nat) : Option State := if who < 256 then s.dmaServe who n else some s

/-- The next held completion of a requester is written, data before the entry; those for one node in RSEQ order (R242, R245, R248). -/
def State.completionWrite (s : State) (who : Nat) : State :=
  let next (x : BResp) : Bool := x.who == who && (match x.seq with
    | some q => !s.completesLater who (raNode x.addr) q
    | none => true)
  match s.bridge.resp.find? next with
  | some x =>
    if !s.cqFree who then s
    else match s.complServe who (16 + 2 * x.data.length) with
    | some t => (t.dropResp x).writeCompletion x
    | none => s
  | none => s

/-- A response that could not be written within Td is discarded and its tag freed (R248). -/
def State.responseDiscard (s : State) (who : Nat) : State :=
  match s.bridge.resp.find? (fun x => x.who == who && x.tagged) with
  | some x =>
    if s.clk.ns < x.at_ + s.tdNs then s
    else
      let s1 := s.dropResp x
      if 256 ≤ who then s1
      else
        let first := s1.rd (Reg.BR_DISCARD who) == 0
        let s2 := s1.cnt (Reg.BR_DISCARD who) 0 32 1
        if first then s2.raiseAt 490 who 0 else s2
  | none => s

/-! Node loss and resets (R249, R250) -/

/-- A node has been reset or has left ADMITTED: outstanding reads complete, writes not acknowledged are lost (R249). -/
def State.retireNode (s : State) (node status : Nat) : State :=
  let q := s.brQueue node
  if q.isEmpty then s
  else
    let rs := (q.filter (fun x => !x.wr && !x.timed && decide (Tab.find s.bridge.tags x.tag = some x.who))).map
      (fun x => x.resp status s.clk.ns)
    let lost := q.filter (fun x => x.wr && !x.acked)
    let s1 := s.setQueue node []
    let s2 := eachIn lost (fun x t => t.lostWrite x.who) { s1 with bridge.resp := s1.bridge.resp ++ rs }
    if rs.isEmpty then s2 else s2.raiseAt 492 node 0

/-- A node is admitted: RSEQ starts at 0 (R241). -/
def State.admitQueue (s : State) (node : Nat) : State :=
  { s.setQueue node [] with bridge.rseq := Tab.put s.bridge.rseq node 0, bridge.ackAge := Tab.put s.bridge.ackAge node 0 }

/-- A reset of a requester: its outstanding tags are retired, nothing is completed, its staged writes enter the draft and its
latch goes; the node queues are not touched (R240, R250). -/
def State.bridgeReset (s : State) (fn : Nat) : State :=
  let waiting := s.bridge.resp.filter (fun x => x.who == fn)
  let mine := (s.bridge.tags.filter (fun p => p.2 == fn)).map (fun p => p.1)
  let away := mine.filter (fun t => !waiting.any (fun x => x.tag == t))
  let s1 := s.releaseHold fn
  { s1 with
    bridge.resp := s1.bridge.resp.filter (fun x => x.who != fn)
    bridge.tags := s1.bridge.tags.filter (fun p => p.2 != fn)
    bridge.retired := away.foldl (fun t x => Tab.put t x s.clk.ns) s1.bridge.retired
    bridge.snap := Tab.del s1.bridge.snap fn }

/-! Views (R251, R253) -/

/-- BR_TAGS and BR_QUOTA (R251, R253). -/
def State.tagsView (s : State) (who : Nat) : Word := BitVec.ofNat 32 (s.tagQuota who * 2 ^ 16 + s.tagsUsed who)

/-- BR_NODE_Q (R253). -/
def State.nodeQView (s : State) (node : Nat) : Word :=
  let q := s.brQueue node
  BitVec.ofNat 32 (capAt 255 (q.filter (fun x => x.sent && !x.acked)).length * 2 ^ 24
    + capAt 255 (q.filter (fun x => x.mmio)).length * 2 ^ 16 + (Tab.get 0 s.bridge.rseq node).toNat)

/-! The meanings of the rows -/

/-- BAR2_READ (R239): A host read through BAR2 is answered from the image bank or with all-ones. -/
def execBar2Read (fn : Nat) (off : Nat) (size : Nat) (s : State) : Out :=
  checked (bar2ReadOk fn size) s (s.bar2Read fn off size)

/-- BAR2_WRITE (R240): A host write through BAR2 enters a draft output image or a node's acyclic queue, or is discarded. -/
def execBar2Write (fn : Nat) (off : Nat) (size : Nat) (val : BitVec 64) (s : State) : Out :=
  checked (bar2WriteOk fn size) s (s.bar2Write fn off size val)

/-- BR_SNAP_WRITE (R239): A write of BR_SNAP latches a node's LATEST input buffer for the writing function. -/
def execBrSnapWrite (fn : Nat) (val : BitVec 32) (s : State) : Out :=
  checked (brSnapWriteOk fn) s (s.brSnapWrite fn val)

/-- OUT_HOLD_SET (R240): A function sets BR_OUT_HOLD and starts staging its writes to a node. -/
def execOutHoldSet (fn node : Nat) (s : State) : Out :=
  checked (outHoldSetOk fn node) s (s.outHoldSet fn node)

/-- OUT_HOLD_CLEAR (R240): A function clears BR_OUT_HOLD and its staged writes enter the draft together. -/
def execOutHoldClear (fn : Nat) (s : State) : Out :=
  checked (outHoldClearOk fn) s (s.outHoldClear fn)

/-- OUT_HOLD_EXPIRY (R240): 4 × Tc after a hold was set its writes enter the draft and HOLD_EXP sets. -/
def execOutHoldExpiry (fn : Nat) (s : State) : Out :=
  checked (outHoldExpiryOk fn) s (s.outHoldExpiry fn)

/-- SQ_DOORBELL (R245): A write of BR_SQ_TAIL tells the bridge new submission entries exist. -/
def execSqDoorbell (fn : Nat) (tail : BitVec 32) (s : State) : Out :=
  checked (sqDoorbellOk fn) s (s.sqDoorbell fn tail)

/-- READ (R245): The bridge fetches a READ submission entry, takes a tag and queues the request to the node. -/
def execRead (who : Nat) (e : List (BitVec 32)) (s : State) : Out :=
  live (readOk who) s (s.read who e)

/-- WRITE (R245): The bridge fetches a WRITE submission entry once the node queue has room and queues it. -/
def execWrite (who : Nat) (e : List (BitVec 32)) (data : List (BitVec 16)) (s : State) : Out :=
  live (writeOk who) s (s.write who e data)

/-- ACK (R244): An ACK in a DIR = 1 ACYC slot acknowledges requests executed in order. -/
def execAck (node : Nat) (rseq : BitVec 11) (s : State) : Out :=
  live (ackOk node) s (s.ack node rseq)

/-- RDATA (R243): An RDATA response arrives and is held in the response store. -/
def execRdata (node : Nat) (rseq tag : BitVec 11) (status : BitVec 4) (data : List (BitVec 16)) (s : State) : Out :=
  live (rdataOk node) s (s.rdata node rseq tag status data)

/-- ACYC_RESEND (R244): ACK has not advanced for 8 cycles, so unacknowledged requests are resent. -/
def execAcycResend (node : Nat) (s : State) : Out :=
  live (acycResendOk node) s (s.acycResend node)

/-- ACYC_TIMEOUT (R245): No ACK for a request within 256 cycles, so it completes with TIMEOUT. -/
def execAcycTimeout (node : Nat) (s : State) : Out :=
  live (acycTimeoutOk node) s (s.acycTimeout node)

/-- COMPLETION_WRITE (R248): The bridge writes a READ's data and completion entry once the completion ring has room. -/
def execCompletionWrite (who : Nat) (s : State) : Out :=
  live (completionWriteOk who) s (s.completionWrite who)

/-- RESPONSE_DISCARD (R248): A response not written within Td is discarded and its tag freed. -/
def execResponseDiscard (who : Nat) (s : State) : Out :=
  live (responseDiscardOk who) s (s.responseDiscard who)

end Sys2Proof.Machine
end

