-- ==== Sys2Proof/Machine/Hedge.lean ====
section
/-! DEFINITION. The Hedge units (05_hedge.md): phasors, tracking references, protection elements, cross-wing comparison,
the diverse checker, settings and the primacy lease. Reals of the manual are computed in integers with a stated
number of fraction bits (log entry 18). -/

namespace Sys2Proof.Machine

/-! Numbers -/

/-- The integer n-th root, built from the highest of `bits` bits down. -/
def nroot (n x : Nat) : Nat → Nat → Nat
  | 0, r => r
  | b + 1, r => nroot n x b (if (r + 2 ^ b) ^ n ≤ x then r + 2 ^ b else r)

/-- Cosine and sine by their series, in 2^-48: `k` is the next power, `t` the last term. -/
def trigLoop (a : Nat) : Nat → Nat → Nat → Int → Int → Int × Int
  | 0, _, _, c, s => (c, s)
  | m + 1, k, t, c, s =>
    let t1 := t * a / (k * 2 ^ 48)
    match k % 4 with
    | 0 => trigLoop a m (k + 1) t1 (c + t1) s
    | 1 => trigLoop a m (k + 1) t1 c (s + t1)
    | 2 => trigLoop a m (k + 1) t1 (c - t1) s
    | _ => trigLoop a m (k + 1) t1 c (s - t1)

/-- e^(j 2 pi x / y) in 2^-48. -/
def turn (x y : Nat) : Int × Int :=
  let r := x % y
  let a := 442139859501777 * (4 * r % y) / y
  let (c, s) := trigLoop a 24 1 (2 ^ 48) (2 ^ 48) 0
  match 4 * r / y with
  | 0 => (c, s)
  | 1 => (-s, c)
  | 2 => (-c, -s)
  | _ => (s, -c)

/-- A phasor component as it is held: its exact value where that is an integer in range (R134, log entry 18). -/
def holdPart (num : Int) (den : Int) : Int :=
  let q := num / den
  if -(2 ^ 31) ≤ q ∧ q < 2 ^ 31 - 1 then
    if num % den = 0 then q else q + bitOf (tst (Config.phasorHold num den) 0)
  else (Config.phasorHold num den).toInt

/-- Number of whole rows in the window of an estimate, and the numerator of the last row's weight over `m` x f (R134): `m`
is 1 for the full-cycle and 2 for the half-cycle estimate. -/
def winRows (fs f m : Nat) : Nat × Nat := (fs * 65536 / (m * f), fs * 65536 % (m * f))

/-- Rows of the window whose weight is not 0. -/
def winLen (fs f m : Nat) : Nat :=
  let (n0, r) := winRows fs f m
  if r = 0 then n0 else n0 + 1

/-- An estimate over a channel's window, newest row first (R133, R134). `f` is in 2^-16 Hz. -/
def estimate (fs f m nom : Nat) (l : List Samp) : Phasor :=
  let (n0, r) := winRows fs f m
  let cnt := winLen fs f m
  let w := l.take cnt
  let sum := (w.zip (List.range cnt)).foldl (fun (a : Int × Int) p =>
    let (c, s) := turn (f * p.2) (fs * 65536)
    let k : Int := if p.2 < n0 then ((m * f : Nat) : Int) else (r : Nat)
    (a.1 + k * p.1.val.toInt * c, a.2 + k * p.1.val.toInt * s)) (0, 0)
  let den : Int := (fs * 2 ^ 96 * nom : Nat)
  { re := holdPart (398065729532860 * sum.1) den, im := holdPart (398065729532860 * sum.2) den,
    valid := decide (w.length = cnt) && w.all (fun x => x.ok), noTs := w.all (fun x => !x.tsAligned) }

/-- Units per pu of a quantity: 2^16 x 6 x 2^24, so that the sequence components of R136 have integer parts. -/
def quPu : Nat := 2 ^ 16 * 6 * 2 ^ 24

/-- A quantity of an element (R138): its square, in units of quPu, and whether it is valid. -/
structure Quant where
  sq : Nat
  valid : Bool
deriving DecidableEq, Repr

/-- The square of a complex number. -/
def sqAbs (re im : Int) : Nat := (re * re + im * im).toNat

/-- The magnitude of one phasor. -/
def Phasor.quant (p : Phasor) : Quant := ⟨sqAbs p.re p.im * (6 * 2 ^ 24) ^ 2, p.valid⟩

/-- Validity of a quantity formed from several channels (R133). -/
def jointValid (same : Bool) (l : List Phasor) : Bool := l.all (fun p => p.valid) && (same || l.all (fun p => p.noTs))

/-- The calculated residual 3I0 (R136). -/
def residual (same : Bool) (a b c : Phasor) : Quant :=
  ⟨sqAbs (a.re + b.re + c.re) (a.im + b.im + c.im) * (6 * 2 ^ 24) ^ 2, jointValid same [a, b, c]⟩

/-- The positive sequence component for rotation ABC, scaled by 6 x 2^24 (R136). -/
def posSeq (a b c : Phasor) : Int × Int :=
  (2 ^ 24 * (2 * a.re - b.re - c.re) - 29058990 * (b.im - c.im), 2 ^ 24 * (2 * a.im - b.im - c.im) + 29058990 * (b.re - c.re))

/-! Element arithmetic (R140-R143) -/

/-- A time counted in units of 1/24 ms has reached a setting in ms. -/
def reached (t ms : Nat) : Bool := decide (ms * 24 ≤ t)

/-- Compare a quantity with PICKUP x `k` / 100, PICKUP in 0.01 pu. -/
def Quant.atLeast (q : Quant) (pickup k : Nat) : Bool := decide ((pickup * k * quPu) ^ 2 ≤ q.sq * 10000 ^ 2)
def Quant.over (q : Quant) (pickup k : Nat) : Bool := decide ((pickup * k * quPu) ^ 2 < q.sq * 10000 ^ 2)

/-- One row of a definite-time element (R140). A row between the pickup and dropout thresholds leaves the whole state as it is, the elapsed
time and a running RESET_DELAY with it (log entry 158). -/
def Elem.definite (x : Elem) (pick drop : Bool) (dt delay rd : Nat) : Elem :=
  if pick then
    let y := if !x.pickup then { x with pickup := true, t := 0, drop := none }
      else if x.drop.isSome then { x with drop := none }
      else { x with t := x.t + dt }
    { y with operate := y.operate || reached y.t delay }
  else if drop && x.pickup then
    let d := match x.drop with
      | some v => v + dt
      | none => 0
    if reached d rd then { x with operate := false, pickup := false, t := 0, drop := none }
    else { x with operate := false, drop := some d }
  else x

/-- A curve of R141: k, c and tr in 10^-4, and alpha in hundredths. -/
def curve (n : Nat) : Nat × Nat × Nat × Nat :=
  match n with
  | 0 => (1400, 0, 0, 2)
  | 1 => (135000, 0, 0, 100)
  | 2 => (800000, 0, 0, 200)
  | 3 => (1200000, 0, 0, 100)
  | 4 => (515, 1140, 48500, 2)
  | 5 => (196100, 4910, 216000, 200)
  | _ => (282000, 1217, 291000, 200)

/-- M^alpha in 2^-40 from the square of M as a quotient (R141). -/
def powAlpha (num den alpha : Nat) : Nat :=
  match alpha with
  | 200 => num * 2 ^ 40 / den
  | 100 => nroot 2 (num * 2 ^ 80 / den) 48 0
  | _ => nroot 100 (num * 2 ^ 4000 / den) 48 0

/-- What a row of a section at `fs` Hz adds to the integral at a square of M, which is capped at 40 (R141). -/
def thetaStep (num den cv tms fs : Nat) : Nat :=
  let (k, c, _, alpha) := curve cv
  let n := min num (1600 * den)
  let d := powAlpha n den alpha - 2 ^ 40
  2 ^ 40 * 1000000 * d / (fs * tms * (k * 2 ^ 40 + c * d))

/-- What a row subtracts from it under DEPENDENT reset (R141, R142). -/
def thetaBack (num den cv tms fs : Nat) : Nat :=
  let (_, _, tr, _) := curve cv
  2 ^ 40 * 1000000 * (den - num) / (fs * tms * tr * den)

/-- PICKUP, OPERATE, RETRIP, the timers and theta clear. -/
def Elem.clear (x : Elem) : Elem :=
  { x with pickup := false, operate := false, retrip := false, t := 0, theta := 0, drop := none }

/-- The settings of an element in force (R151). -/
structure ElSet where
  mode : Nat
  est : Bool
  curve : Nat
  reset : Nat
  pickup : Nat
  tms : Nat
  delay : Nat
  rd : Nat
  aux : Nat
deriving DecidableEq, Repr

/-- Settings from words 1 to 3 (R151). -/
def elSet (w1 w2 w3 : Word) : ElSet :=
  ⟨fld w1 30 2, tst w1 29, fld w1 26 3, fld w1 24 2, fld w1 0 16, fld w2 16 16, fld w2 0 16, fld w3 16 16, fld w3 0 16⟩

/-- One row of an inverse-time element (R141, R142). -/
def Elem.inverse (x : Elem) (q : Quant) (g : ElSet) (fs dt : Nat) : Elem :=
  let num := q.sq * 10000
  let den := (g.pickup * quPu) ^ 2
  let x1 := if x.pickup then { x with t := x.t + dt } else x
  let x2 :=
    if q.atLeast g.pickup 105 then
      let y := if x1.pickup then x1 else { x1 with pickup := true, t := 0, theta := 0 }
      { y with drop := none, theta := y.theta + thetaStep num den g.curve g.tms fs }
    else if !q.atLeast g.pickup 95 && x1.pickup then
      match g.reset with
      | 0 => x1.clear
      | 1 =>
        let d := match x1.drop with
          | some v => v + dt
          | none => 0
        if reached d g.rd then x1.clear else { x1 with operate := false, drop := some d }
      | _ =>
        let th := x1.theta - thetaBack num den g.curve g.tms fs
        if th = 0 then x1.clear else { x1 with operate := false, drop := some 0, theta := th }
    else x1
  if x2.pickup && x2.drop.isNone && decide (2 ^ 40 ≤ x2.theta) && reached x2.t g.aux then { x2 with operate := true } else x2

/-- One row of a breaker-failure element (R143). -/
def Elem.breaker (x : Elem) (q : Quant) (init : Bool) (g : ElSet) (dt : Nat) : Elem :=
  let stage (y : Elem) : Elem :=
    { y with
      retrip := y.retrip || (g.aux != 0 && reached y.t g.aux)
      operate := y.operate || reached y.t g.delay }
  if x.pickup then
    if !q.atLeast g.pickup 95 || !init then x.clear else stage { x with t := x.t + dt }
  else if init && q.atLeast g.pickup 100 then stage { x with pickup := true, t := 0 }
  else x

/-! The unit's configuration -/

/-- A Hedge event of a wing, with the element or reference it concerns (R160). -/
def State.hedgeEvent (s : State) (es : Nat) (w : Wing) (n : Nat) : State := s.raiseAt (es + 6 * w.idx) n (wingCode w)

/-- Replace the Hedge unit of a wing. -/
def State.setHedge (s : State) (w : Wing) (h : Hedge) : State := { s with hedge := s.hedge.set w h }

/-- F_NOM of a wing in 2^-16 Hz (R135, R157). -/
def State.fNom (s : State) (w : Wing) : Nat := if s.rb (Reg.HEDGE_STATUS w) 30 then 60 * 65536 else 50 * 65536

/-- A tracking reference; it starts held at F_NOM. -/
def State.freqRef (s : State) (w : Wing) (t : Nat) : Freq :=
  (Tab.find (s.hedge.at_ w).freq t).getD ⟨s.fNom w, true, false, none, []⟩

/-- A channel is in use; its section (R157). -/
def State.chOn (s : State) (w : Wing) (c : Nat) : Bool := s.rb (Reg.HEDGE_CH_CFG w c 0) 31
def State.chSect (s : State) (w : Wing) (c : Nat) : Nat := s.rf (Reg.HEDGE_CH_CFG w c 0) 27 3

/-- The tracking reference of a channel, if it has one (R132, R157). -/
def State.chTr (s : State) (w : Wing) (c : Nat) : Option Nat :=
  if s.rb (Reg.HEDGE_CH_CFG w c 0) 23 then some (s.rf (Reg.HEDGE_CH_CFG w c 0) 24 3) else none

/-- The tracked frequency of a channel in 2^-16 Hz (R135). -/
def State.chFreq (s : State) (w : Wing) (c : Nat) : Nat :=
  match s.chTr w c with
  | some t => (s.freqRef w t).f
  | none => s.fNom w

/-- Channels in use of a section, in HCH order. -/
def State.chansOf (s : State) (w : Wing) (n : Nat) : List Nat :=
  (List.range 1024).filter (fun c => s.chOn w c && s.chSect w c == n)

/-- KIND of a channel is voltage (R132, R157, log entry 159). -/
def State.chVolt (s : State) (w : Wing) (c : Nat) : Bool := s.rb (Reg.HEDGE_CH_CFG w c 0) 30

/-- The groups and the tracking references of a wing in the manifest (R132, R135). -/
def State.groupsOf (s : State) (w : Wing) : List (Nat × Group) :=
  match w with
  | .east => s.man.groupsE
  | .west => s.man.groupsW
def State.trsOf (s : State) (w : Wing) : List (Nat × Nat) :=
  match w with
  | .east => s.man.trE
  | .west => s.man.trW

/-- HEDGE_GRP_CFG shows the groups in use (R157). -/
def State.showGroups (s : State) (w : Wing) : State :=
  eachIn (s.groupsOf w) (fun p t => each 4 (fun i u =>
    u.wr (Reg.HEDGE_GRP_CFG w p.1 i) (Config.grpWord p.2.a p.2.b p.2.c p.2.n p.2.acb p.2.same i)) t) s

/-- The group of an index (R132). -/
def State.group (s : State) (w : Wing) (g : Nat) : Option Group :=
  ((s.groupsOf w).find? (fun p => p.1 == g)).map (fun p => p.2)

/-- The group that a tracking reference follows (R135). -/
def State.trGroup (s : State) (w : Wing) (t : Nat) : Option Group :=
  match (s.trsOf w).find? (fun p => p.1 == t) with
  | some p => s.group w p.2
  | none => none

/-- Word of an element's configuration (R137). -/
def State.elCfg (s : State) (w : Wing) (e i : Nat) : Word := s.rd (Reg.HEDGE_EL_CFG w e i)

/-- The group of an element in use. -/
def State.elGroup (s : State) (w : Wing) (e : Nat) : Option Group :=
  if tst (s.elCfg w e 0) 31 then s.group w (fld (s.elCfg w e 0) 16 8) else none

/-- Elements of a section in use, in rising order (R145). -/
def State.elemsOf (s : State) (w : Wing) (n : Nat) : List Nat :=
  (List.range 128).filter (fun e => match s.elGroup w e with
    | some g => s.chSect w g.a == n
    | none => false)

/-- The settings of an element in force. -/
def State.elSettings (s : State) (w : Wing) (e : Nat) : ElSet :=
  elSet (s.rd (Reg.HEDGE_EL_SET w e 0)) (s.rd (Reg.HEDGE_EL_SET w e 1)) (s.rd (Reg.HEDGE_EL_SET w e 2))

/-- TYPE of an element (R137). -/
def State.elType (s : State) (w : Wing) (e : Nat) : Nat := fld (s.elCfg w e 0) 26 4

/-- An element of a wing. -/
def State.elem (s : State) (w : Wing) (e : Nat) : Elem := Tab.get Elem.zero (s.hedge.at_ w).el e

/-- The element uses the half-cycle estimate (R138). -/
def State.elHalf (s : State) (w : Wing) (e : Nat) : Bool :=
  s.elType w e == 9 || ((s.elType w e == 1 || s.elType w e == 2) && (s.elSettings w e).est)

/-- A phasor of a channel, by estimate. -/
def State.phasor (s : State) (w : Wing) (half : Bool) (c : Nat) : Phasor :=
  Tab.get Phasor.zero (if half then (s.hedge.at_ w).hph else (s.hedge.at_ w).ph) c

/-! One row: samples and phasors (R131-R135) -/

/-- The sample that a cell gives (R133). -/
def State.sampleOf (s : State) (c : Cell) : Samp :=
  { ok := !tst c.w1 31 && (fld c.w1 0 2 == 0 || fld c.w1 0 2 == 3) && (!tst c.w1 11 || s.inTest)
    tsAligned := fld c.w1 27 2 == 2
    val := c.value }

/-- The sample of a row that the section never had. -/
def gapSample : Samp := ⟨false, false, 0⟩

/-- A row's samples enter the windows of its channels and their phasors are computed (R131, R134). -/
def State.rowPhasors (s : State) (w : Wing) (n : Nat) (r : Row) : State :=
  let fs := s.sectRate w n
  let h := s.hedge.at_ w
  let gap := match Tab.find h.lastKey n with
    | some k => min 122 (r.key fs - k - 1)
    | none => 0
  let one (c : Nat) (t : State) : State :=
    let x := t.hedge.at_ w
    let cell := r.cell (t.rf (Reg.HEDGE_CH_CFG w c 0) 0 14)
    let l := (t.sampleOf cell :: (List.replicate gap gapSample ++ Tab.get [] x.win c)).take 122
    let nom := (t.rd (Reg.HEDGE_CH_CFG w c 1)).toNat
    let f := t.chFreq w c
    t.setHedge w { x with
      win := Tab.put x.win c l
      ph := Tab.put x.ph c (estimate fs f 1 nom l)
      hph := Tab.put x.hph c (estimate fs f 2 nom l) }
  let s1 := eachIn (s.chansOf w n) one s
  s1.setHedge w { s1.hedge.at_ w with lastKey := Tab.put (s1.hedge.at_ w).lastKey n (r.key fs) }

/-- HEDGE_FREQ of a reference (R157). -/
def State.showFreq (s : State) (w : Wing) (t : Nat) : State :=
  let x := s.freqRef w t
  s.wr (Reg.HEDGE_FREQ w t) (BitVec.ofNat 32 (bitOf x.held * 2 ^ 31 + bitOf x.clamped * 2 ^ 30 + x.f % 2 ^ 23))

/-- A reference's positive-sequence phasor, scaled by 6 x 2^24, and whether it is valid (R133, R135). -/
def State.refPhasor (s : State) (w : Wing) (g : Group) (half : Bool) : (Int × Int) × Bool :=
  let p (c : Nat) : Phasor := s.phasor w half c
  (if g.acb then posSeq (p g.a) (p g.c) (p g.b) else posSeq (p g.a) (p g.b) (p g.c),
    jointValid g.same [p g.a, p g.b, p g.c])

/-- Rows of one cycle at a frequency, to the nearest (R135, log entry 6). -/
def cycleRows (fs f : Nat) : Nat := (2 * fs * 65536 + f) / (2 * f)

/-- What the angle of a phasor has moved beyond one turn in the cycle that ended `i` cycles of `n` rows ago (R135). -/
def cycleAdvance (n : Nat) (h : List (Int × Int)) (i : Nat) : Option Int :=
  match h[i * n]?, h[(i + 1) * n]? with
  | some a, some b => some (Config.argTurns (a.1 * b.1 + a.2 * b.2) (a.2 * b.1 - a.1 * b.2))
  | _, _ => none

/-- The frequency that the advance of the angle over one cycle gives, averaged over the last three cycles or over those that the history
holds; with none the estimate stays (R135, log entry 6). In 2^-16 Hz. -/
def freqOf (fs f : Nat) (h : List (Int × Int)) : Nat :=
  let n := cycleRows fs f
  let l := (List.range 3).filterMap (cycleAdvance n h)
  if l.isEmpty then f
  else (((fs * 65536 : Nat) : Int) * ((l.length * 2 ^ 32 : Nat) + l.sum) / (n * l.length * 2 ^ 32 : Nat)).toNat

/-- A row updates a tracking reference (R135): held while its phasor is invalid or below 0.10 pu, else the estimate,
clamped to 40 to 70 Hz. -/
def State.updateFreq (s : State) (w : Wing) (fs t : Nat) (g : Group) : State :=
  let x := s.freqRef w t
  let (v, ok) := s.refPhasor w g false
  let q : Quant := ⟨sqAbs v.1 v.2, ok⟩
  let put (y : Freq) (u : State) : State :=
    (u.setHedge w { u.hedge.at_ w with freq := Tab.put (u.hedge.at_ w).freq t y }).showFreq w t
  if !ok || !q.atLeast 10 100 then
    if x.held then put { x with hist := [] } s
    else (put { x with held := true, clamped := false, heldAt := some s.clk.ns, hist := [] } s).hedgeEvent 474 w t
  else
    let hist := ((v.1 / (6 * 2 ^ 24), v.2 / (6 * 2 ^ 24)) :: x.hist).take 490
    let raw := freqOf fs x.f hist
    let f := max (40 * 65536) (min (70 * 65536) raw)
    let cl := decide (f ≠ raw)
    let s1 := put ⟨f, false, cl, none, hist⟩ s
    if cl && !x.clamped then s1.hedgeEvent 474 w t else s1

/-- The references that follow groups of a section are updated (R135). -/
def State.rowFreqs (s : State) (w : Wing) (n : Nat) : State :=
  each 8 (fun t u => match u.trGroup w t with
    | some g => if u.chSect w g.a = n then u.updateFreq w (u.sectRate w n) t g else u
    | none => u) s

/-- 500 ms of HELD set the frequency to F_NOM (R135). -/
def State.freqHoldTimeout (s : State) (w : Wing) (t : Nat) : State :=
  let x := s.freqRef w t
  match x.heldAt with
  | some a =>
    if x.held && decide (a + 500000000 ≤ s.clk.ns) then
      (s.setHedge w { s.hedge.at_ w with
        freq := Tab.put (s.hedge.at_ w).freq t { x with f := s.fNom w, heldAt := none } }).showFreq w t
    else s
  | none => s

/-! One row: elements (R138-R145) -/

/-- The extreme of some magnitudes; valid when each is. -/
def extreme (largest : Bool) (l : List Quant) : Quant :=
  let pick (a b : Nat) : Nat := if largest then max a b else min a b
  match l with
  | q :: t => ⟨(t.map (fun x => x.sq)).foldl pick q.sq, l.all (fun x => x.valid)⟩
  | [] => ⟨0, false⟩

/-- |V1| of a group, full-cycle. -/
def State.v1 (s : State) (w : Wing) (g : Group) : Quant :=
  let (v, ok) := s.refPhasor w g false
  ⟨sqAbs v.1 v.2, ok⟩

/-- The tracking reference of a channel has a valid phasor; F_NOM stands for a channel without one (R133, R135). -/
def State.refValid (s : State) (w : Wing) (c : Nat) : Bool :=
  match s.chTr w c with
  | some t => (match s.trGroup w t with
    | some g => (s.refPhasor w g false).2
    | none => true)
  | none => true

/-- The quantity of a frequency element: |V1| of its group, which its block uses; valid when the reference that gives its frequency is
valid too (R138, R140, R144). -/
def State.freqQuant (s : State) (w : Wing) (g : Group) : Quant :=
  let v := s.v1 w g
  { v with valid := v.valid && s.refValid w g.a }

/-- The operate quantity of an element (R138); for 81 the quantity that its block uses. -/
def State.quantity (s : State) (w : Wing) (e : Nat) (g : Group) : Quant :=
  let half := s.elHalf w e
  let q (c : Nat) : Quant := (s.phasor w half c).quant
  let three := [q g.a, q g.b, q g.c]
  let qty := fld (s.elCfg w e 0) 24 2
  match s.elType w e with
  | 1 => extreme true three
  | 3 => extreme true three
  | 9 => extreme true three
  | 5 => if qty = 2 then s.v1 w g else extreme (qty == 1) three
  | 6 => if qty = 2 then s.v1 w g else extreme (qty == 0) three
  | 7 => s.freqQuant w g
  | 8 => s.freqQuant w g
  | _ =>
    if qty = 0 then residual g.same (s.phasor w half g.a) (s.phasor w half g.b) (s.phasor w half g.c)
    else match g.n with
      | some c => q c
      | none => ⟨0, false⟩

/-- A breaker-failure element is initiated: a line of INIT, as voted for the previous row, or a selected BFI input
(R143, R145, R164). -/
def State.bfInit (s : State) (w : Wing) (e : Nat) (lines : Word) : Bool :=
  decide (s.elCfg w e 3 &&& lines ≠ 0)
    || (List.range 4).any (fun b => tst (s.elCfg w e 0) (12 + b) && s.source w (s.rf (Reg.TRIP_BFI_SEL w) (8 * b) 8))

/-- Pickup and dropout conditions of a definite-time element (R140). -/
def State.definiteConds (s : State) (w : Wing) (e : Nat) (g : Group) (q : Quant) : Bool × Bool :=
  let st := s.elSettings w e
  let p := st.pickup
  let f := s.chFreq w g.a
  match s.elType w e with
  | 5 =>
    let blocked := st.aux != 0 && !q.atLeast st.aux 100
    (!q.over p 100 && !blocked, q.over p 102 || blocked)
  | 7 =>
    let blocked := !q.atLeast st.aux 100
    (decide (f * 100 ≤ p * 65536) && !blocked, decide ((p + 2) * 65536 ≤ f * 100) || blocked)
  | 8 =>
    let blocked := !q.atLeast st.aux 100
    (decide (p * 65536 ≤ f * 100) && !blocked, decide (f * 100 + 2 * 65536 ≤ p * 65536) || blocked)
  | _ => (q.atLeast p 100, !q.atLeast p 95)

/-- One row of an element whose input is valid (R140-R143). -/
def State.runElem (s : State) (w : Wing) (e : Nat) (g : Group) (q : Quant) (lines : Word) (fs dt : Nat) (x : Elem) : Elem :=
  let st := s.elSettings w e
  match s.elType w e with
  | 3 => x.inverse q st fs dt
  | 4 => x.inverse q st fs dt
  | 9 => x.breaker q (s.bfInit w e lines) st dt
  | _ =>
    let (pick, drop) := s.definiteConds w e g q
    x.definite pick drop dt st.delay st.rd

/-- Reset by invalid input: everything clears and BLOCKED sets (R144). -/
def Elem.block (x : Elem) : Elem := { x.clear with blocked := true, invalid := none, validRun := 0 }

/-- INV_BLOCK of a wing in ms (R144, R157). -/
def State.invBlock (s : State) (w : Wing) : Nat := s.rf (Reg.HEDGE_STATUS w) 23 7

/-- One row of an element: not evaluated in OFF; frozen while its input is invalid; reset after INV_BLOCK (R144, R145). -/
def State.stepElem (s : State) (w : Wing) (e : Nat) (g : Group) (lines : Word) (fs dt : Nat) : Elem :=
  let x := s.elem w e
  if (s.elSettings w e).mode = 0 then Elem.zero
  else
    let q := s.quantity w e g
    let run := if q.valid then x.validRun + 1 else 0
    let free := decide (winLen fs (s.chFreq w g.a) (if s.elHalf w e then 2 else 1) ≤ run)
    let y := if !x.blocked then x else if free then { x with blocked := false, validRun := 0 } else { x with validRun := run }
    if y.blocked then y
    else if q.valid then s.runElem w e g q lines fs dt { y with invalid := none }
    else
      let d := match y.invalid with
        | some v => v + dt
        | none => 0
      if reached d (s.invBlock w) then y.block else { y with invalid := some d }

/-- An element may drive its lines (R145). -/
def State.mayDrive (s : State) (w : Wing) (e : Nat) : Bool :=
  let m := (s.elSettings w e).mode
  m == 2 || (m == 3 && !(s.hedge.at_ w).leaseHeld)

/-- PROGRESS of an element (R158). -/
def State.progress (s : State) (w : Wing) (e : Nat) : Nat :=
  let x := s.elem w e
  if s.elType w e = 3 ∨ s.elType w e = 4 then capAt 65535 (x.theta / 2 ^ 24) else capAt 65535 (x.t / 24)

/-- HEDGE_EL_STAT of an element (R158). -/
def State.showElem (s : State) (w : Wing) (e : Nat) : State :=
  let x := s.elem w e
  let a := Reg.HEDGE_EL_STAT w e
  let top := bitOf x.pickup * 16 + bitOf x.operate * 8 + bitOf x.retrip * 4 + bitOf x.blocked * 2
    + bitOf (s.mayDrive w e && (x.operate || x.retrip))
  ((s.wf a 27 5 top).wf a 20 2 (s.elSettings w e).mode).wf a 0 16 (s.progress w e)

/-- Install an element's new state and report what it did (R144, R158, R160). -/
def State.putElem (s : State) (w : Wing) (e : Nat) (x : Elem) : State :=
  let old := s.elem w e
  let s1 := (s.setHedge w { s.hedge.at_ w with el := Tab.put (s.hedge.at_ w).el e x }).showElem w e
  let s2 := if x.operate && !old.operate then (s1.wb (Reg.HEDGE_EL_STAT w e) 26 true).hedgeEvent 472 w e else s1
  if x.blocked && !old.blocked then (s2.wb (Reg.HEDGE_EL_STAT w e) 25 true).hedgeEvent 473 w e else s2

/-- The lines of a wing (R152): OPERATE and RETRIP of every element that may drive; voting and the targets follow. -/
def State.driveLines (s : State) (w : Wing) : State :=
  let l := (List.range 128).foldl (fun (a : Word) e =>
    let x := s.elem w e
    if tst (s.elCfg w e 0) 31 && s.mayDrive w e then
      a ||| (if x.operate then s.elCfg w e 1 else 0) ||| (if x.retrip then s.elCfg w e 2 else 0)
    else a) 0
  let s1 := each 128 (fun e t => if tst (t.elCfg w e 0) 31 then t.showElem w e else t) s
  if l = s1.rd (Reg.HEDGE_LINE w) then s1 else (s1.wr (Reg.HEDGE_LINE w) l).revote

/-! Settings (R151) -/

/-- New settings words of an element come into force; a change of more than MODE clears the element (R151). -/
def State.putSet (s : State) (w : Wing) (e : Nat) (ws : List Word) : State :=
  let old (i : Nat) : Word := s.rd (Reg.HEDGE_EL_SET w e i)
  let same := setFld (old 0) 30 2 0 == setFld (ws.getD 0 0) 30 2 0 && old 1 == ws.getD 1 0 && old 2 == ws.getD 2 0
  let s1 := each 4 (fun i u => u.wr (Reg.HEDGE_EL_SET w e i) (ws.getD i 0)) s
  if same then s1 else s1.putElem w e (s1.elem w e).clear

/-- The settings of an element that wait come into force, in order, on the first row at or after their T_apply (R151). -/
def State.switchElem (s : State) (w : Wing) (key fs e : Nat) : State :=
  let h := s.hedge.at_ w
  let l := Tab.get [] h.newSet e
  if l.isEmpty then s
  else
    let due (p : List Word × Nat) : Bool := decide (p.2 * fs ≤ key * tick1s)
    let rest := l.dropWhile due
    let s1 := s.setHedge w { h with newSet := if rest.isEmpty then Tab.del h.newSet e else Tab.put h.newSet e rest }
    eachIn (l.takeWhile due) (fun p u => u.putSet w e p.1) s1

/-! Comparison (R154, R155) -/

/-- A channel of a section is fed by a twin stream (R72, R154). -/
def State.twinChan (s : State) (w : Wing) (c : Nat) : Bool :=
  let n := s.chSect w c
  let src := if s.sectF w n 30 1 == 1 then s.sectF w n 22 3 else n
  let col := s.rf (Reg.HEDGE_CH_CFG w c 0) 0 14
  (List.range 512).any (fun i =>
    let w0 := s.strW w i 0
    let base := fld (s.strW w i 6) 0 14
    tst w0 31 && tst w0 30 && fld w0 22 3 == src && decide (base ≤ col) && decide (col < base + fld (s.strW w i 4) 11 5))

/-- Twin elements of a section. -/
def State.twinElems (s : State) (w : Wing) (n : Nat) : List Nat := (s.elemsOf w n).filter (fun e => tst (s.elCfg w e 0) 30)

/-- Word 3 + j of a comparison record (R154). -/
def State.digestWord (s : State) (w : Wing) (es : List Nat) (j : Nat) : Word :=
  (es.filter (fun e => e / 16 == j)).foldl (fun (a : Word) e =>
    let x := s.elem w e
    a ||| BitVec.ofNat 32 (bitOf x.pickup * 2 ^ (2 * (e % 16)) + bitOf x.operate * 2 ^ (2 * (e % 16) + 1))) 0

/-- The comparison record of a row (R154). -/
def State.cmpRecord (s : State) (w : Wing) (n : Nat) (r : Row) : CmpRec :=
  let cs := (s.chansOf w n).filter (fun c => s.twinChan w c)
  let trs := (List.range 8).filter (fun t => cs.any (fun c => s.chTr w c == some t))
  let words := cs.flatMap (fun c =>
      let p := s.phasor w false c
      [BitVec.ofInt 32 p.re, BitVec.ofInt 32 p.im]) ++ trs.map (fun t => BitVec.ofNat 32 (s.freqRef w t).f)
  { sec := n, k := r.k, sLow := BitVec.ofNat 32 r.S, crc := crc32c (words.flatMap wordBytes)
    digest := (List.range 8).map (s.digestWord w (s.twinElems w n)), lines := s.rd (Reg.HEDGE_LINE w) }

/-- Words 0 to 1 of two records agree: they are of one row. -/
def sameKey (a b : CmpRec) : Bool := a.sec == b.sec && a.k == b.k && a.sLow == b.sLow

/-- The wings in MISMATCH (R159). -/
def State.mismatch (s : State) (w : Wing) : Bool := s.rb (Reg.HEDGE_CMP_STAT w) 29

/-- The 1oo2 override begins or ends (R479, R485, R486). -/
def State.setOverride (s : State) (v : Bool) : State :=
  if s.safe.override = v then s
  else (({ s with safe.override := v }.raise 566).voteAlarm).revote

/-- A wing had a fault of its own within the last 100 ms (R479). -/
def State.recentFault (s : State) (w : Wing) : Bool :=
  match s.safe.faultAt.at_ w with
  | some t => decide (s.clk.ns ≤ t + 100000000)
  | none => false

/-- MISMATCH has set (R479): every line votes 1oo2; a wing with a fault in the past 100 ms is excluded; else the directed
check starts in both wings. -/
def State.identify (s : State) : State :=
  let s1 := (s.raise 487).setOverride true
  let bad := [Wing.east, Wing.west].filter (fun w => s1.recentFault w)
  if bad.isEmpty then { s1 with safe.directed := some s.clk.ns, hedge.e.chk := 0, hedge.w.chk := 0 }
  else eachIn bad (fun w t => t.exclude w 566) s1

/-- The comparison of a row of a section found a difference (R154, R155). -/
def State.rowMismatch (s : State) (w : Wing) (n : Nat) : State :=
  let h := s.hedge.at_ w
  let k := Tab.get 0 h.bad n + 1
  let a := Reg.HEDGE_CMP_STAT w
  let s1 := s.setHedge w { h with bad := Tab.put h.bad n k, good := Tab.put h.good n 0 }
  let s2 := (s1.cnt (Reg.HEDGE_CMP_DIFF w) 0 32 1).cnt a 16 8 1
  if 4 ≤ k && !s2.rb a (8 + n) then
    let known := s2.mismatch .east || s2.mismatch .west
    let told := s2.rb (Reg.HEDGE_CMP_STAT w.other) (8 + n)
    let s3 := (s2.wb a (8 + n) true).wb a 29 true
    let s4 := if told then s3 else (s3.hedgeEvent 476 .east n).hedgeEvent 476 .west n
    if known then s4 else s4.identify
  else s2

/-- The comparison of a row found none: 100 rows on end MISMATCH clears, and with the last one the override (R155,
R479). -/
def State.rowMatch (s : State) (w : Wing) (n : Nat) : State :=
  let h := s.hedge.at_ w
  let k := Tab.get 0 h.good n + 1
  let a := Reg.HEDGE_CMP_STAT w
  let s1 := (s.setHedge w { h with bad := Tab.put h.bad n 0, good := Tab.put h.good n k }).wf a 16 8 0
  if 100 ≤ k && s1.rb a (8 + n) then
    let s2 := s1.wb a (8 + n) false
    if s2.rf a 8 8 = 0 then
      let s3 := s2.wb a 29 false
      if s3.mismatch .east || s3.mismatch .west then s3 else { s3 with safe.directed := none }.setOverride false
    else s2
  else s1

/-- Two records of one row are compared: words 2 to 10, the line states not (R154). -/
def State.compareRow (s : State) (w : Wing) (own got : CmpRec) : State :=
  if own.crc = got.crc ∧ own.digest = got.digest then s.rowMatch w own.sec else s.rowMismatch w own.sec

/-- Comparison runs in a wing (R159). -/
def State.comparing (s : State) (w : Wing) : Bool := s.rb (Reg.HEDGE_CMP_STAT w) 31 && !s.iwlDown

/-- A row's own record is sent to the other wing and waits for that wing's, unless that has come first (R16, R154). -/
def State.ownRecord (s : State) (w : Wing) (n : Nat) (r : Row) : State :=
  let twin := !(s.twinElems w n).isEmpty || (s.chansOf w n).any (fun c => s.twinChan w c)
  if !twin || !s.comparing w then s
  else
    let rec_ := s.cmpRecord w n r
    let h := { s.hedge.at_ w with sent := (s.hedge.at_ w).sent ++ [(s.arb.linkNo, rec_)] }
    let s1 := { s with arb.linkNo := s.arb.linkNo + 1 }
    match h.got.find? (fun g => sameKey g rec_) with
    | some g => (s1.setHedge w { h with got := h.got.erase g }).compareRow w rec_ g
    | none => s1.setHedge w { h with own := h.own ++ [(rec_, s.clk.ns)] }

/-- A record of the other wing (R154): compared with this wing's own, kept if this wing has not evaluated the row, and of no use once the
row has been counted. -/
def State.takeRecord (s : State) (w : Wing) (r : CmpRec) : State :=
  if !s.comparing w then s
  else
    let h := s.hedge.at_ w
    match h.own.find? (fun p => sameKey p.1 r) with
    | some p => (s.setHedge w { h with own := h.own.erase p }).compareRow w p.1 r
    | none =>
      let last := Tab.get 0 h.lastKey r.sec
      let fs := s.sectRate w r.sec
      if last < (last / fs / 2 ^ 32 * 2 ^ 32 + r.sLow.toNat) * fs + r.k || (Tab.find h.lastKey r.sec).isNone then
        s.setHedge w { h with got := h.got ++ [r] }
      else s

/-- The oldest record that the other wing has sent arrives, no heartbeat that the link took before it being in flight
(R16, R154, log entry 186). -/
def State.comparisonRecordReceive (s : State) (w : Wing) (r : CmpRec) : State :=
  let o := s.hedge.at_ w.other
  match o.sent with
  | (no, x) :: q =>
    if x = r ∧ s.linkTurnOf w.other no false = true then (s.setHedge w.other { o with sent := q }).takeRecord w r else s
  | [] => s

/-- No record of the other wing within 100 us of this wing's own: the row mismatches (R154). -/
def State.comparisonRecordTimeout (s : State) (w : Wing) (sec : Nat) : State :=
  let h := s.hedge.at_ w
  match h.own.find? (fun p => p.1.sec == sec) with
  | some p =>
    if s.clk.ns < p.2 + 100000 || !s.comparing w then s
    else (s.setHedge w { h with own := h.own.erase p }).rowMismatch w sec
  | none => s

/-! The diverse checker (R156, R478, R479) -/

/-- A fault in a Hedge unit: CHK_FAIL, HEDGE_x_FAULT, and EXCLUDE of the wing (R156, R478). -/
def State.hedgeFault (s : State) (w : Wing) (es : Nat) : State :=
  ((((s.wb (Reg.HEDGE_CMP_STAT w) 30 true).hedgeEvent 477 w 0).wingFault w).exclude w es)

/-- Channels that the checker takes in turn, in HCH order: all of the wing, and in the directed check only the twin channels of
mismatched sections (R156, R479). -/
def State.chkChans (s : State) (w : Wing) : List Nat :=
  let all := (List.range 1024).filter (fun c => s.chOn w c)
  match s.safe.directed with
  | some _ => all.filter (fun c => s.rb (Reg.HEDGE_CMP_STAT w) (8 + s.chSect w c) && s.twinChan w c)
  | none => all

/-- Each row the checker recomputes one channel; a difference is a fault (R156). -/
def State.checkerStep (s : State) (w : Wing) (diff : Bool) : State :=
  let h := s.hedge.at_ w
  let cs := s.chkChans w
  match (cs.find? (fun c => decide (h.chk ≤ c))).orElse (fun _ => cs.head?) with
  | some c =>
    let s1 := s.setHedge w { h with chk := c + 1 }
    if diff then
      let s2 := if s1.safe.directed.isSome then { s1 with safe.directed := none } else s1
      s2.hedgeFault w 566
    else s1
  | none => s

/-! The row (R131) -/

/-- A phasor as two register words (R157). -/
def Phasor.reg (p : Phasor) (i : Nat) : Word := BitVec.ofInt 32 (if i = 0 then p.re else p.im)

/-- Latch the snapshot phasors of a row (R157). -/
def State.snapRow (s : State) (w : Wing) (n : Nat) (r : Row) : State :=
  let h := s.hedge.at_ w
  match h.snap with
  | some (t, cs) =>
    let fs := s.sectRate w n
    if r.key fs * tick1s < t * fs then s
    else
      let now := cs.filter (fun c => s.chSect w c == n)
      let s1 := eachIn now (fun c u => (u.wr (Reg.HEDGE_PH_SNAP w c 0) ((u.phasor w false c).reg 0)).wr
        (Reg.HEDGE_PH_SNAP w c 1) ((u.phasor w false c).reg 1)) s
      s1.setHedge w { s1.hedge.at_ w with snap := some (t, cs.filter (fun c => s.chSect w c != n)) }
  | none => s

/-- The next released row is evaluated (R117, R131): settings that are due, phasors, frequencies, elements in rising
order, lines, comparison record, diverse checker. `chkDiff` says whether the checker finds a difference. -/
def State.hedgeEvaluate (s : State) (w : Wing) (chkDiff : Bool) : State :=
  match (s.wall.at_ w).hedgeQ with
  | (n, r) :: q =>
    let s0 := { s with wall := s.wall.set w { s.wall.at_ w with hedgeQ := q } }
    if !s0.rb (Reg.HEDGE_STATUS w) 31 || !s0.rb (Reg.HEDGE_STATUS w) n then s0
    else
      let fs := s0.sectRate w n
      let dt := 24000 / fs
      let lines := s0.voted w
      let s1 := (s0.rowPhasors w n r).rowFreqs w n
      let s2 := eachIn (s1.elemsOf w n) (fun e t => match t.elGroup w e with
        | some g =>
          let u := t.switchElem w (r.key fs) fs e
          u.putElem w e (u.stepElem w e g lines fs dt)
        | none => t) s1
      (((s2.driveLines w).snapRow w n r).ownRecord w n r).checkerStep w chkDiff
  | [] => s

/-! The instants that rows reach (R140-R144): each acts when the element's own state says that it is due, as a row's
evaluation does. -/

/-- Change an element that is evaluated, and let the lines follow. -/
def State.elemDue (s : State) (w : Wing) (e : Nat) (types : List Nat) (due : ElSet → Elem → Bool) (f : Elem → Elem) : State :=
  let x := s.elem w e
  let g := s.elSettings w e
  if tst (s.elCfg w e 0) 31 && types.contains (s.elType w e) && g.mode != 0 && due g x then
    (s.putElem w e (f x)).driveLines w
  else s

/-- A definite-time element's elapsed time has reached DELAY (R140). -/
def State.elementOperate (s : State) (w : Wing) (e : Nat) : State :=
  s.elemDue w e [1, 2, 5, 6, 7, 8] (fun g x => x.pickup && x.drop.isNone && reached x.t g.delay)
    (fun x => { x with operate := true })

/-- RESET_DELAY of a definite-time element has ended (R140). -/
def State.elementResetDelayExpiry (s : State) (w : Wing) (e : Nat) : State :=
  s.elemDue w e [1, 2, 5, 6, 7, 8] (fun g x => match x.drop with
      | some d => x.pickup && reached d g.rd
      | none => false)
    (fun x => { x with pickup := false, t := 0, drop := none })

/-- The integral of a 51 element has reached 1 and TMIN has passed (R141). -/
def State.inverseTimeOperate (s : State) (w : Wing) (e : Nat) : State :=
  s.elemDue w e [3, 4] (fun g x => x.pickup && x.drop.isNone && decide (2 ^ 40 ≤ x.theta) && reached x.t g.aux)
    (fun x => { x with operate := true })

/-- RESET_DELAY of a 51 element with DEFINITE reset has ended (R142). -/
def State.inverseResetExpiry (s : State) (w : Wing) (e : Nat) : State :=
  s.elemDue w e [3, 4] (fun g x => g.reset == 1 && (match x.drop with
      | some d => x.pickup && reached d g.rd
      | none => false))
    (fun x => x.clear)

/-- The timer of a 50BF element has reached T1 (R143). -/
def State.retrip (s : State) (w : Wing) (e : Nat) : State :=
  s.elemDue w e [9] (fun g x => x.pickup && g.aux != 0 && reached x.t g.aux) (fun x => { x with retrip := true })

/-- The timer of a 50BF element has reached T2 (R143). -/
def State.bfOperate (s : State) (w : Wing) (e : Nat) : State :=
  s.elemDue w e [9] (fun g x => x.pickup && reached x.t g.delay) (fun x => { x with operate := true })

/-- An element's input has been invalid for INV_BLOCK (R144). -/
def State.inputInvalidBlock (s : State) (w : Wing) (e : Nat) : State :=
  s.elemDue w e [1, 2, 3, 4, 5, 6, 7, 8, 9] (fun _ x => match x.invalid with
      | some d => !x.blocked && reached d (s.invBlock w)
      | none => false)
    (fun x => x.block)

/-- A read of RE of a phasor latches IM for the reader (R157). -/
def State.phRead (s : State) (fn : Nat) (w : Wing) (c lane size : Nat) : State :=
  s.ownerRead fn lane size ((s.phasor w false c).reg 0) (fun t =>
    t.setHedge w { t.hedge.at_ w with
      phLatch := Tab.put (t.hedge.at_ w).phLatch (fn * 1024 + c) ((t.phasor w false c).reg 1) })

/-! HEDGE_SET (R139, R151) -/

/-- A value lies in a range. -/
def inRange (lo hi x : Nat) : Bool := decide (lo ≤ x) && decide (x ≤ hi)

/-- The settings lie in the ranges of R139 and use no field that the type does not have (R151). -/
def settingsOk (ty : Nat) (g : ElSet) (rsv : Bool) : Bool :=
  let inv := ty == 3 || ty == 4
  let pick := match ty with
    | 1 => inRange 5 4000 g.pickup
    | 2 => inRange 2 4000 g.pickup
    | 3 => inRange 5 400 g.pickup
    | 4 => inRange 2 400 g.pickup
    | 5 => inRange 5 120 g.pickup
    | 6 => inRange 50 200 g.pickup
    | 9 => inRange 2 200 g.pickup
    | _ => inRange 4000 7000 g.pickup
  let delay := match ty with
    | 3 => g.delay == 0
    | 4 => g.delay == 0
    | 7 => inRange 60 60000 g.delay
    | 8 => inRange 60 60000 g.delay
    | 9 => inRange 50 1000 g.delay
    | _ => inRange 0 60000 g.delay
  let aux := match ty with
    | 3 => inRange 0 1000 g.aux
    | 4 => inRange 0 1000 g.aux
    | 5 => inRange 0 50 g.aux
    | 7 => inRange 20 90 g.aux
    | 8 => inRange 20 90 g.aux
    | 9 => inRange 0 500 g.aux
    | _ => g.aux == 0
  let tms := if inv then inRange 5 1500 g.tms else g.tms == 0
  let rd := if ty == 9 || (inv && g.reset != 1) then g.rd == 0 else inRange 0 60000 g.rd
  let est := !g.est || ty == 1 || ty == 2
  let cv := if inv then inRange 0 6 g.curve && inRange 0 2 g.reset && (g.reset != 2 || decide (4 ≤ g.curve))
    else g.curve == 0 && g.reset == 0
  !rsv && pick && delay && aux && tms && rd && est && cv

/-- The wings a record names (R151). -/
def recWings (r : HedgeRec) : List Wing :=
  (if tst r.wings 0 then [Wing.east] else []) ++ (if tst r.wings 1 then [Wing.west] else [])

/-- Why a record is refused, if it is: 2 RANGE, 3 BAD_ELEMENT, 4 TWIN_SPLIT (R151, log entry 19 for the order). -/
def State.recFault (s : State) (r : HedgeRec) : Option Nat :=
  let ws := (recWings r)
  let g := elSet r.w1 r.w2 r.w3
  let rsv := decide (fld r.w1 16 8 ≠ 0) || decide (r.w4 ≠ 0)
  if ws.isEmpty then some 2
  else if decide (128 ≤ r.idx) || ws.any (fun w => !tst (s.elCfg w r.idx 0) 31) then some 3
  else if ws.any (fun w => !settingsOk (s.elType w r.idx) g rsv) then some 2
  else if decide (r.wings ≠ 3) && ws.any (fun w => tst (s.elCfg w r.idx 0) 30) then some 4
  else none

/-- The first refused record and why. -/
def State.firstFault (s : State) : List HedgeRec → Nat → Option (Nat × Nat)
  | [], _ => none
  | r :: t, i => match s.recFault r with
    | some c => some (c, i)
    | none => s.firstFault t (i + 1)

/-- Accepted records wait for their T_apply (R151). -/
def State.acceptRecs (s : State) (recs : List HedgeRec) (t : Nat) : State :=
  eachIn recs (fun r u => eachIn (recWings r) (fun w v =>
    v.setHedge w { v.hedge.at_ w with
      newSet := Tab.put (v.hedge.at_ w).newSet r.idx
        (Tab.get [] (v.hedge.at_ w).newSet r.idx ++ [([r.w1, r.w2, r.w3, r.w4], t)]) }) u) s

/-- The words of a HEDGE_SET message, and the records that a message holds (R151). -/
def hedgeWords (recs : List HedgeRec) : List Word :=
  BitVec.ofNat 32 (recs.length % 65536)
    :: recs.flatMap (fun r => [BitVec.ofNat 32 (r.wings.toNat * 2 ^ 30 + r.idx % 128), r.w1, r.w2, r.w3, r.w4])
def hedgeRecs (m : List Octet) : List HedgeRec :=
  (List.range (fld (msgWord m 0) 0 16)).map (fun i =>
    let w (k : Nat) : Word := msgWord m (1 + 5 * i + k)
    ⟨BitVec.ofNat 2 (fld (w 0) 30 2), fld (w 0) 0 7, w 1, w 2, w 3, w 4⟩)

/-- A HEDGE_SET request (R151): refused as a whole with one reason, or answered, stored in the journal (R461) and put in
force 2 ms later. Which record a refusal for the whole message names is open, a free value (log entry 3). -/
def State.hedgeSet (s : State) (ch : Nat) (given : List HedgeRec) : State :=
  s.request ch 0x10 fun s =>
    let m := s.msg ch ((hedgeWords given).flatMap wordBytes)
    let recs := hedgeRecs m
    if !msgHas m (1 + 5 * fld (msgWord m 0) 0 16) then s.reply ch [0xFE]
    else if !s.chanPriv ch 0 then (s.reply ch [1, s.freshWord]).used 1
    else if s.lease.pend.isSome then (s.reply ch [5, s.freshWord]).used 1
    else
      match s.firstFault recs 0 with
      | some (c, i) => s.reply ch [BitVec.ofNat 32 c, BitVec.ofNat 32 i]
      | none =>
        let t := s.devT + 2000000 * 65536
        let s1 := ({ s with lease.pend := some (recs, t) }.acceptRecs recs t).reply ch [0]
        s1.journalAdd recs none

/-- T_apply is reached: the message is no longer pending, and each wing it names reports it (R151, R160). -/
def State.hedgeTApply (s : State) : State :=
  match s.lease.pend with
  | some (recs, t) =>
    if s.devT < t then s
    else
      let hit (w : Wing) : Bool := recs.any (fun r => (recWings r).contains w)
      let s1 := { s with lease.pend := none }
      let s2 := if hit .east then s1.hedgeEvent 475 .east 0 else s1
      if hit .west then s2.hedgeEvent 475 .west 0 else s2
  | none => s

/-! The primacy lease (R147-R150) -/

/-- Both Hedge units see the lease state, well within the 2 us of R149. -/
def State.leaseSeen (s : State) (v : Bool) : State := { s with hedge.e.leaseHeld := v, hedge.w.leaseHeld := v }

/-- The lease lapses, with its cause (R149, R157); HOLDER_TID is valid while HELD = 1 and then free (R150, log entry 128). -/
def State.lapse (s : State) (cause : Nat) : State :=
  if s.lease.holder.isSome then
    (({ s with lease.holder := none, lease.cause := cause, lease.shown := fld s.freshWord 0 8 }.used 1).leaseSeen false).raise 484
  else s

/-- The timer has run for LEASE_PERIOD x 100,000 CD2 cycles (R148). -/
def State.leaseDue (s : State) : Bool :=
  s.lease.holder.isSome && decide (s.lease.startCd2 + s.rf Reg.HEDGE_LEASE_CFG 0 6 * 100000 ≤ s.clk.cd2)

/-- The timer expires: a lapse with cause TIMEOUT (R148). -/
def State.leaseTimeout (s : State) : State := if s.leaseDue then s.lapse 1 else s

/-- A lease command: the result is recorded for its function (R147). -/
def State.leaseResult (s : State) (fn r : Nat) : State := { s with lease.result := Tab.put s.lease.result fn r }

/-- A command of a tenant with P_PROT, after a timer that expires in the same cycle (R147, R148). -/
def State.leaseCmd (s : State) (fn : Nat) (go : State → State) : State :=
  if !s.reach fn then s
  else if !s.hasPriv fn 0 then s.leaseResult fn 1
  else go s.leaseTimeout

/-- ACQUIRE (R147, R149). The manual gives no result for the holder itself: free (log entry 3). -/
def State.acquire (s : State) (fn : Nat) (seq : BitVec 16) : State :=
  s.leaseCmd fn fun s =>
    match s.lease.holder with
    | none =>
      let again := s.lease.last == some fn
      let s1 := { s with
        lease.holder := some fn, lease.seq := seq, lease.startCd2 := s.clk.cd2, lease.last := some fn }
      ((s1.leaseResult fn 0).leaseSeen true).raise (if again then 485 else 486)
    | some h => if h = fn then (s.leaseResult fn (fld s.freshWord 0 3)).used 1 else s.leaseResult fn 2

/-- REFRESH (R147). -/
def State.refresh (s : State) (fn : Nat) (seq : BitVec 16) : State :=
  s.leaseCmd fn fun s =>
    if s.lease.holder ≠ some fn then s.leaseResult fn 3
    else if seq ≠ s.lease.seq + 1 then s.leaseResult fn 4
    else { s with lease.seq := seq, lease.startCd2 := s.clk.cd2 }.leaseResult fn 0

/-- RELEASE (R147). -/
def State.release (s : State) (fn : Nat) (seq : BitVec 16) : State :=
  let _ := seq
  s.leaseCmd fn fun s =>
    if s.lease.holder ≠ some fn then s.leaseResult fn 3 else (s.leaseResult fn 0).lapse 2

/-- HEDGE_LEASE (R157). -/
def State.leaseReg (s : State) : Word :=
  match s.lease.holder with
  | some t => BitVec.ofNat 32 (2 ^ 31 + s.lease.cause * 2 ^ 28 + t * 2 ^ 16)
  | none => BitVec.ofNat 32 (s.lease.cause * 2 ^ 28 + s.lease.shown * 2 ^ 16)

/-- LEASE_STAT of a function (R150). -/
def State.leaseStat (s : State) (fn : Nat) : Word :=
  BitVec.ofNat 32 (bitOf (s.lease.holder == some fn) * 2 ^ 31 + bitOf s.lease.holder.isSome * 2 ^ 30
    + Tab.get 0 s.lease.result fn % 8 * 2 ^ 27 + s.lease.holder.getD s.lease.shown * 2 ^ 16 + s.lease.seq.toNat)

/-! The meanings of the rows -/

/-- ELEMENT_OPERATE (R140): A definite-time element's elapsed pickup time reaches DELAY and OPERATE sets. -/
def execElementOperate (w : Wing) (e : Nat) (s : State) : Out :=
  live (elementOperateOk e) s (s.elementOperate w e)

/-- ELEMENT_RESET_DELAY_EXPIRY (R140): RESET_DELAY ends without pickup returning, so elapsed time and PICKUP clear. -/
def execElementResetDelayExpiry (w : Wing) (e : Nat) (s : State) : Out :=
  live (elementResetDelayExpiryOk e) s (s.elementResetDelayExpiry w e)

/-- INVERSE_TIME_OPERATE (R141): A 51 element's integral reaches 1 with TMIN met and OPERATE sets. -/
def execInverseTimeOperate (w : Wing) (e : Nat) (s : State) : Out :=
  live (inverseTimeOperateOk e) s (s.inverseTimeOperate w e)

/-- INVERSE_RESET_EXPIRY (R142): A DEFINITE-reset 51 element's RESET_DELAY ends and θ and PICKUP clear. -/
def execInverseResetExpiry (w : Wing) (e : Nat) (s : State) : Out :=
  live (inverseResetExpiryOk e) s (s.inverseResetExpiry w e)

/-- RETRIP (R143): A 50BF timer reaches T1 and RETRIP sets. -/
def execRetrip (w : Wing) (e : Nat) (s : State) : Out :=
  live (retripOk e) s (s.retrip w e)

/-- BF_OPERATE (R143): A 50BF timer reaches T2 and OPERATE sets. -/
def execBfOperate (w : Wing) (e : Nat) (s : State) : Out :=
  live (bfOperateOk e) s (s.bfOperate w e)

/-- INPUT_INVALID_BLOCK (R144): An element's input stays invalid for INV_BLOCK, so the element resets and BLOCKED sets. -/
def execInputInvalidBlock (w : Wing) (e : Nat) (s : State) : Out :=
  live (inputInvalidBlockOk e) s (s.inputInvalidBlock w e)

/-- FREQ_HOLD_TIMEOUT (R135): After 500 ms of HELD a tracking reference's frequency is set to F_NOM. -/
def execFreqHoldTimeout (w : Wing) (t : Nat) (s : State) : Out :=
  live (freqHoldTimeoutOk t) s (s.freqHoldTimeout w t)

/-- COMPARISON_RECORD_RECEIVE (R154): The other wing's comparison record arrives and is compared with the wing's own. -/
def execComparisonRecordReceive (w : Wing) (r : CmpRec) (s : State) : Out :=
  live true s (s.comparisonRecordReceive w r)

/-- COMPARISON_RECORD_TIMEOUT (R154): The other wing's record has not arrived within 100 µs, so the row mismatches. -/
def execComparisonRecordTimeout (w : Wing) (sec : Nat) (s : State) : Out :=
  live (comparisonRecordTimeoutOk sec) s (s.comparisonRecordTimeout w sec)

/-- ACQUIRE (R147): A LEASE_CMD ACQUIRE takes the primacy lease if it is free and starts its timer. -/
def execAcquire (fn : Nat) (seq : BitVec 16) (s : State) : Out :=
  checked (acquireOk fn) s (s.acquire fn seq)

/-- REFRESH (R147): A LEASE_CMD REFRESH by the holder with the next SEQ restarts the lease timer. -/
def execRefresh (fn : Nat) (seq : BitVec 16) (s : State) : Out :=
  checked (refreshOk fn) s (s.refresh fn seq)

/-- RELEASE (R147): A LEASE_CMD RELEASE by the holder lapses the lease at once. -/
def execRelease (fn : Nat) (seq : BitVec 16) (s : State) : Out :=
  checked (releaseOk fn) s (s.release fn seq)

/-- LEASE_TIMEOUT (R148): The lease timer expires and the lease lapses with cause TIMEOUT. -/
def execLeaseTimeout (s : State) : Out :=
  live true s (s.leaseTimeout)

/-- HEDGE_SET (R151): A HEDGE_SET message is validated as a whole and answered before it takes effect. -/
def execHedgeSet (ch : Nat) (recs : List HedgeRec) (s : State) : Out :=
  live (hedgeSetOk ch) s (s.hedgeSet ch recs)

end Sys2Proof.Machine
end

