-- ==== Sys2Proof/Machine/Time.lean ====
section
/-! DEFINITION. Device time (02_time.md): triples, steering between the wings, the servo's states, PTP, IRIG-B, PPS,
captures and the egress timestamp queues. -/

namespace Sys2Proof.Machine

/-! Triples (R43-R47, R504) -/

/-- The triple that gives T at an LTC value, with ANCHOR equal to it (R47, R49). -/
def Triple.make (t : Nat) (ltc : BitVec 64) (rate : Word) : Triple :=
  let o := (t + timeMod - ltc.toNat * 65536 % timeMod) % timeMod
  { sec := BitVec.ofNat 48 (o / tick1s), ns := BitVec.ofNat 32 (o / 65536 % 1000000000), frac := BitVec.ofNat 16 o,
    anchor := ltc, rate := rate }

/-- A word of a triple, in the layout of R505. -/
def Triple.word (t : Triple) (i : Nat) : Word :=
  match i with
  | 0 => t.ns
  | 1 => t.sec.setWidth 32
  | 2 => BitVec.ofNat 32 (t.frac.toNat * 65536 + t.sec.toNat / 2 ^ 32)
  | 3 => t.anchor.setWidth 32
  | 4 => BitVec.ofNat 32 (t.anchor.toNat / 2 ^ 32)
  | _ => t.rate

/-- A triple with a word replaced. -/
def Triple.setWord (t : Triple) (i : Nat) (v : Word) : Triple :=
  match i with
  | 0 => { t with ns := v }
  | 1 => { t with sec := setFld t.sec 0 32 v.toNat }
  | 2 => { t with sec := setFld t.sec 32 16 v.toNat, frac := BitVec.ofNat 16 (v.toNat / 65536) }
  | 3 => { t with anchor := setFld t.anchor 0 32 v.toNat }
  | 4 => { t with anchor := setFld t.anchor 32 32 v.toNat }
  | _ => { t with rate := v }

/-! Triggers seen by a step (R63, R64) -/

/-- Wing and local index of a trigger or capture. -/
def trgWing (m : Nat) : Wing := if m < 8 then .east else .west
def capWing (c : Nat) : Wing := if c < 4 then .east else .west

/-- An instant held in three words: seconds, nanoseconds, fraction in [31:16] (R204; log entry 20), in 2^-16 ns. -/
def instant3 (a b c : Word) : Nat := (a.toNat * 1000000000 + b.toNat) * 65536 + fld c 16 16

/-- The three words of an instant. -/
def words3 (t : Nat) (i : Nat) : Word :=
  match i with
  | 0 => BitVec.ofNat 32 (t / tick1s)
  | 1 => BitVec.ofNat 32 (t / 65536 % 1000000000)
  | _ => BitVec.ofNat 32 (t % 65536 * 65536)

/-- START and the period of a trigger: start in 2^-16 ns, and the period as a numerator over DEN, in 2^-16 ns (R63). DESIGN CHOICE, log
entry 136: NUM in [31:16] and DEN in [15:0] of PERIOD_FRAC, and a DEN of 0 counts as 1. -/
def State.trgStart (s : State) (m : Nat) : Nat :=
  let a (i : Nat) : Word := s.rd (Reg.TRG_START (trgWing m) (m % 8) i)
  instant3 (a 0) (a 1) (a 2)
def State.trgDen (s : State) (m : Nat) : Nat := max 1 (s.rf (Reg.TRG_PERIOD_FRAC (trgWing m) (m % 8)) 0 16)
def State.trgNum (s : State) (m : Nat) : Nat :=
  ((s.rd (Reg.TRG_PERIOD_NS (trgWing m) (m % 8))).toNat * s.trgDen m
    + s.rf (Reg.TRG_PERIOD_FRAC (trgWing m) (m % 8)) 16 16) * 65536

/-- Fire instant k of a trigger, exactly computed and truncated to 1/16 ns (R63). -/
def State.fireAt (s : State) (m k : Nat) : Nat := (s.trgStart m * s.trgDen m + k * s.trgNum m) / s.trgDen m / 4096 * 4096

/-- The first k whose fire instant lies at or after an instant. -/
def State.firstK (s : State) (m t : Nat) : Nat :=
  if t ≤ s.trgStart m then 0
  else if s.trgNum m = 0 then 0
  else ((t - s.trgStart m) * s.trgDen m + s.trgNum m - 1) / s.trgNum m

/-- A trigger. -/
def State.trg (s : State) (m : Nat) : Trg := Tab.get Trg.zero s.time.trg m

/-- Replace a trigger's running state. -/
def State.setTrg (s : State) (m : Nat) (x : Trg) : State := { s with time.trg := Tab.put s.time.trg m x }

/-- A trigger fires again after its next instant: it is periodic and its period is not 0. -/
def State.trgRepeats (s : State) (m : Nat) : Bool :=
  s.rb (Reg.TRG_CTRL (trgWing m) (m % 8)) 30 && decide (s.trgNum m ≠ 0)

/-- Fire instants that a forward step has passed are not fired; firing continues at the next, if there is one (R64). -/
def State.trgSkip (s : State) (m now : Nat) : State :=
  let x := s.trg m
  let on := s.trgRepeats m
  let k := if on then s.firstK m (now + 1) else if s.trgStart m ≤ now then x.k + 1 else x.k
  if x.armed && decide (x.k < k) then
    (s.setTrg m { x with k := k, armed := on, skipped := x.skipped + (k - x.k) }).raiseAt 409 m 0
  else s

/-! Steps (R47, R113, R206) -/

/-- Whole periods of a ring nearest to a distance in 2^-16 ns, as that distance. -/
def State.nearPeriods (s : State) (r : Nat) (d : Int) : Int :=
  let p : Int := (max 1 ((s.cqPer r).1 * 65536) : Nat)
  let n := (2 * d * (max 1 (s.cqPer r).2 : Nat) + p) / (2 * p)
  (n * p) / (max 1 (s.cqPer r).2 : Nat)

/-- A ring's departures keep their spacing over a step of its wing's time, and move back from there: to t0 + k x Tc, or to the
nearest firings of the trigger that starts its cycles (R206, log entry 164). -/
def State.ringMove (s : State) (r : Nat) (d : Int) : Ring :=
  let x := s.rg r
  if !s.trgRing r then { x with rephase := x.rephase + d }
  else match x.trgLast with
    | none => x
    | some b =>
      let n := s.nearPeriods r (x.rephase + d)
      let e := x.rephase + d - n
      { x with
        rephase := e, trgLast := some (((b : Nat) : Int) + n).toNat
        trgNext := if e = 0 then x.trgNext.map (fun t => (((t : Nat) : Int) + d).toNat) else none }
def State.ringStep (s : State) (r : Nat) (d : Int) : State :=
  if s.rf (Reg.CQ_RING_STAT r) 30 2 = 0 then s
  else
    let y := s.ringMove r d
    let s1 := s.setRg r y
    if s.rb (Reg.CQ_RING_STAT r) 23 || y.rephase == 0 then s1
    else (s1.wb (Reg.CQ_RING_STAT r) 23 true).raiseAt (424 + 8 * r + 7) r (wingCode (ringWing r))

/-- A wing's T has moved by `d` units of 2^-16 ns: its rows, rings and triggers deal with it. -/
def State.timeMoved (s : State) (w : Wing) (d : Int) : State :=
  let s1 := s.wallStep w d
  let s2 := each 4 (fun r t => if ringWing r = w then t.ringStep r d else t) s1
  if 0 < d then each 16 (fun m t => if trgWing m = w then t.trgSkip m (t.wingT w) else t) s2 else s2

/-- How far a wing's T moves when a triple becomes active: signed, modulo the range of T. -/
def State.moveOf (s : State) (w : Wing) (t : Triple) : Int :=
  let d : Int := ((t.at_ (s.ltc w) 0 : Nat) : Int) - (s.wingT w : Nat)
  if d < -((timeMod / 2 : Nat) : Int) then d + (timeMod : Nat)
  else if ((timeMod / 2 : Nat) : Int) ≤ d then d - (timeMod : Nat)
  else d

/-- A triple moves T by more than the 2^-16 ns of a continuous commit. -/
def State.stepsBy (s : State) (w : Wing) (t : Triple) : Bool := decide (1 < (s.moveOf w t).natAbs)

/-- A triple becomes active: the steward has written it into the shadow set and committed it (R45). -/
def State.setTriple (s : State) (w : Wing) (t : Triple) : State :=
  let s1 := { s with time.act := s.time.act.set w t, time.shadow := s.time.shadow.set w t }
  if s.stepsBy w t then s1.timeMoved w (s.moveOf w t) else s1

/-- Move T of a wing by an amount in 2^-16 ns, at a rate. -/
def State.movedTriple (s : State) (w : Wing) (d : Int) (rate : Word) : Triple :=
  Triple.make ((((s.wingT w : Nat) : Int) + d) % (timeMod : Nat)).toNat (s.ltc w) rate

/-- Move T of one wing by an amount in 2^-16 ns, its rate kept. -/
def State.stepWing (s : State) (w : Wing) (d : Int) : State :=
  s.setTriple w (s.movedTriple w d (s.time.act.at_ w).rate)

/-- Step the triples of both wings by the same amount (R47); the wing beyond a link that is down is not reached (R15, R49). -/
def State.stepBoth (s : State) (d : Int) : State :=
  let w := s.timeWing
  let s1 := s.stepWing w d
  (if s1.iwlDown then s1 else s1.stepWing w.other d).raise 401

/-- A commit of a triple, with its TIME_STEP when T steps (R45, R47). -/
def State.commitTriple (s : State) (w : Wing) (t : Triple) : State := (s.setTriple w t).raiseIf (s.stepsBy w t) 401

/-- The steward runs and reaches a wing's time base: its own, or the deputy's over the inter-wing link (R15, R46, R49). -/
def State.steers (s : State) (writer target : Wing) : Bool :=
  s.steward = some writer && s.stewardRuns && (writer == target || !s.iwlDown)

/-- The steward writes a word of a shadow set (R45, R46); a fenced steward's write is discarded (R31). -/
def State.timeShadowWrite (s : State) (writer target : Wing) (word : Nat) (val : Word) : State :=
  if s.fenced writer then s.fenceHit
  else if s.steers writer target then
    { s with time.shadow := s.time.shadow.set target ((s.time.shadow.at_ target).setWord word val) }
  else s

/-- The steward writes no triple for its own wing: HOLDOVER or UNSYNC (R57). -/
def State.runsOn (s : State) : Bool := s.timeState == 3 || s.timeState == 4

/-- The steward commits a shadow set (R45-R47). The commit of its own wing's triple is a decision (R20, R21), which it does not make in
HOLDOVER and UNSYNC (R57); the deputy's is steering (R49). -/
def State.timeCommit (s : State) (writer target : Wing) : State :=
  if s.fenced writer then s.fenceHit
  else if !s.steers writer target then s
  else
    let t := s.time.shadow.at_ target
    if writer ≠ target then s.commitTriple target t
    else if s.runsOn then s
    else s.mirrorOr (.commit t) (fun u => u.commitTriple target t)

/-! Time state (R56-R58) -/

/-- The selected source (R56, R69): 0 none, 1 PTP, 2 PPS_IN, 3 IRIG-B. -/
def State.timeSource (s : State) : Nat := (Config.servoSource (s.rd Reg.TIME_SERVO)).toNat

/-- The SLAVE port, if there is one (R53, R69). -/
def State.slavePort (s : State) : Option Nat :=
  let v := s.rf Reg.TIME_STATUS 16 7
  if v = 0x7F then none else some v

/-- smpSynch that published sampled values carry (R58). -/
def State.smpSynch (s : State) : Nat :=
  let st := s.timeState
  if st = 2 ∨ st = 3 then
    match s.rf Reg.TIME_STATUS 27 2 with
    | 0 => 0
    | 1 => if s.time.gmClass = 6 ∨ s.time.gmClass = 7 then 2 else 1
    | _ => 1
  else 0

/-- SMPSYNCH follows the state and the source (R58, R69). -/
def State.showSynch (s : State) : State := s.wf Reg.TIME_STATUS 25 2 s.smpSynch

/-- HOLD_S: whole seconds of the present HOLDOVER, or of the last one (R69). -/
def State.holdS (s : State) : Nat :=
  if s.timeState = 3 then capAt 0xFFFF ((s.clk.ns - s.time.holdAt) / 1000000000) else s.rf Reg.TIME_STATUS 0 16

/-- PPS_OUT is held low: time is not armed, or PPS_QUAL asks for it in this state (R62). -/
def State.ppsHeld (s : State) : Bool :=
  !s.armed || (Config.servoPpsQual (s.rd Reg.TIME_SERVO) && !(s.timeState == 2 || s.timeState == 3))

/-- A pulse that is high ends when PPS_OUT is held low (R62). -/
def State.cutPps (s : State) : State := if s.ppsHeld then { s with time.pps := none } else s

/-- TIME_STATE changes (R56). -/
def State.setTimeState (s : State) (v : Nat) : State :=
  if s.timeState = v then s
  else
    let s1 := (s.wf Reg.TIME_STATUS 0 16 s.holdS).wf Reg.TIME_STATUS 29 3 v
    let s2 := if v = 3 then { s1 with time.holdAt := s.clk.ns } else s1
    let s3 := { s2 with
      time.lockRun := 0, time.unlockRun := 0, time.everLocked := s2.time.everLocked || v == 2 }
    s3.showSynch.cutPps.raise 400

/-- The selected source is lost (R56). -/
def State.loseSource (s : State) : State :=
  if !s.time.srcOk then s
  else
    let s1 := { s with time.srcOk := false }.raise 403
    match s1.timeState with
    | 1 => s1.setTimeState (if s1.time.everLocked then 4 else 0)
    | 2 => s1.setTimeState 3
    | _ => s1

/-- The selected source is lost (R56): PTP after three sync intervals with no Sync, at the announceReceiptTimeout, or with no SLAVE
port; PPS or IRIG-B after 3 s with no valid second marker. -/
def State.sourceGone (s : State) : Bool :=
  match s.timeSource with
  | 0 => true
  | 1 => s.slavePort.isNone || decide (s.time.markAt + 3 * s.man.syncNs ≤ s.clk.ns)
      || decide (s.time.annAt + s.man.annNs ≤ s.clk.ns)
  | _ => decide (s.time.markAt + 3000000000 ≤ s.clk.ns)

/-- The source's loss is found (R56). -/
def State.sourceLost (s : State) : State := if s.sourceGone then s.loseSource else s

/-- Time in HOLDOVER has reached HOLD_LIMIT (R56). -/
def State.holdLimitExpiry (s : State) : State :=
  if s.timeState = 3 ∧ s.time.holdAt + s.man.holdLimitS * 1000000000 ≤ s.clk.ns then s.setTimeState 4 else s

/-- A valid source leads to LOCKING from every state but LOCKED (R56). DESIGN CHOICE, log entry 137: TIME_STATUS.SOURCE follows
TIME_SERVO.SOURCE here, at the first update from the source, and keeps its value after a loss. -/
def State.gainSource (s : State) : State :=
  let s1 := ({ s with time.srcOk := true }.wf Reg.TIME_STATUS 27 2 s.timeSource).showSynch
  match s1.timeState with
  | 0 => s1.setTimeState 1
  | 3 => s1.setTimeState 1
  | 4 => s1.setTimeState 1
  | _ => s1

/-- The steward wing's triple takes a new rate, T continuous (R47). -/
def State.rateNow (s : State) (v : Word) : State := s.setTriple s.timeWing (s.movedTriple s.timeWing 0 v)

/-- The servo decides on a new rate of the steward wing's triple (R20, R21, R47). The control law is not given: the rate is a free value
(log entry 3). -/
def State.servoRate (s : State) : State := (s.mirrorOr (.rate s.freshWord) (fun u => u.rateNow s.freshWord)).used 1

/-- The steward decides on a step of device time (R20, R21, R47). -/
def State.decideStep (s : State) (d : Int) : State := s.mirrorOr (.step d) (fun u => u.stepBoth d)

/-- The offset of device time from the source, in 2^-16 ns, that a measurement shows. -/
def offsetOf (m : Nat × Nat) : Int := (m.2 : Int) - (m.1 : Nat)

/-- Whether an offset exceeds a threshold in units of `u` ns. -/
def offOver (off : Int) (thr u : Nat) : Bool := decide (thr * u < (off.natAbs + 65535) / 65536)

/-- The servo with an offset, the source being valid: a new rate or, over STEP_THR in LOCKING, a step; the runs that move TIME_STATE
(R47, R56). -/
def State.servoMove (s : State) (off : Int) : State :=
  if s.timeState = 1 then
    let s2 := if offOver off s.man.stepThr 1000 then s.decideStep (-off) else s.servoRate
    let run := if off.natAbs / 65536 < s.man.lockThr then s2.time.lockRun + 1 else 0
    let s3 := { s2 with time.lockRun := run }
    if 16 ≤ run then s3.setTimeState 2 else s3
  else
    let s2 := s.servoRate
    let run := if offOver off s.man.unlockThr 1 then s2.time.unlockRun + 1 else 0
    let s3 := { s2 with time.unlockRun := run }
    if 4 ≤ run then s3.setTimeState 1 else s3

/-- One servo update of the steward wing from the measurement that waits (R47, R56); a PTP source needs a SLAVE port. -/
def State.servoUpdate (s : State) (w : Wing) : State :=
  match s.time.servoIn with
  | none => s
  | some m =>
    if s.steward ≠ some w || !s.stewardRuns || !s.armed || s.timeSource = 0 || (s.timeSource == 1 && s.slavePort.isNone) then s
    else { s with time.servoIn := none }.gainSource.servoMove (offsetOf m)

/-- The grandmaster or the SLAVE port has changed (R53, R56). -/
def State.gmChanged (s : State) : State :=
  let s1 := s.raise 402
  if s1.timeState = 2 then s1.setTimeState 3 else s1.showSynch

/-- The host reports a new grandmaster, with its clockClass (R53, R58). -/
def State.gmChange (s : State) (fn : Nat) (clockClass : BitVec 8) : State :=
  if s.ownerCfg fn then { s with time.gmClass := clockClass }.gmChanged else s

/-- The host writes TIME_SERVO.STEP: the steward steps both wings (R47), but not in HOLDOVER and UNSYNC, where it writes no triple for
its own wing (R57, log entry 21). -/
def State.step (s : State) (fn : Nat) (amount : Int) : State :=
  if s.ownerCfg fn && s.stewardRuns && s.armed && !s.runsOn then s.decideStep (amount * 65536) else s

/-- The host writes a port's PTP state; a second SLAVE is discarded (R53, R56). -/
def State.timePortStateWrite (s : State) (fn p : Nat) (val : Word) : State :=
  if !s.ownerCfg fn then s
  else
    let was := s.slavePort
    let slave := Config.portSlave val
    if slave && was.isSome && decide (was ≠ some p) then s.wb Reg.TIME_STATUS 24 true
    else
      let s1 := s.wr (Reg.TIME_PORT_STATE p) val
      if slave && was.isNone then
        { s1.wf Reg.TIME_STATUS 16 7 p with time.markAt := s.clk.ns, time.annAt := s.clk.ns }.gmChanged
      else if !slave && decide (was = some p) then
        let s2 := { s1.wf Reg.TIME_STATUS 16 7 0x7F with time.syncWait := none }.gmChanged
        if s2.timeSource = 1 then s2.loseSource else s2
      else s1

/-! Arming and steering (R49, R482, R504) -/

/-- The steward arms time from the RTC (R504); the deputy wing's triple goes over the inter-wing link (R15). -/
def State.armTime (s : State) : State :=
  let t := s.clk.rtc.toNat * tick1s
  let w := s.timeWing
  let s1 := s.setTriple w (Triple.make t (s.ltc w) 0)
  let s2 := if s1.iwlDown then s1 else s1.setTriple w.other (Triple.make t (s1.ltc w.other) 0)
  ((s2.raise 401).setTimeState 0).wb Reg.TIME_STATUS 23 true

/-- Signed difference of two T modulo the range of T, in 2^-16 ns. -/
def timeDiff (a b : Nat) : Int :=
  let d : Int := (((a + timeMod - b) % timeMod : Nat) : Int)
  if ((timeMod / 2 : Nat) : Int) ≤ d then d - (timeMod : Nat) else d

/-- A difference in 2^-16 ns as the register holds it: ns, rounded toward zero, saturating (R505). -/
def diffField (d : Int) : Nat :=
  let m := d.natAbs / 65536
  if d < 0 then (65536 - min m 32768) % 65536 else min m 32767

/-- The steward's commit that removes a difference over the next 1 ms (R49). -/
def steerRate (rate : Word) (d : Int) : Word :=
  let x := rate.toInt - (d * 2 ^ 25 + 1000000) / 2000000
  BitVec.ofInt 32 (max (-(2 ^ 31)) (min (2 ^ 31 - 1) x))

/-- The LTC of a wing advanced by 1,000,000 plus or minus 2 counts between two strobes (R482). -/
def advanceBad (a b : BitVec 64) : Bool := let n := (b - a).toNat; decide (n < 999998 ∨ 1000002 < n)

/-- Two consecutive strobes found the wing's time base wrong (R482). -/
def twoBad : List Bool → Bool
  | true :: true :: _ => true
  | _ :: t => twoBad t
  | [] => false

/-- The captures of a strobe, and the LTC advance check of each wing (R49, R482). -/
def State.capture (s : State) : State :=
  match s.time.strobe with
  | some (e, w) =>
    { s with
      time.strobe := some (s.clk.ltcE, s.clk.ltcW)
      time.advE := (advanceBad e s.clk.ltcE :: s.time.advE).take 10
      time.advW := (advanceBad w s.clk.ltcW :: s.time.advW).take 10 }
  | none => { s with time.strobe := some (s.clk.ltcE, s.clk.ltcW) }

/-- The check's last outcomes for a wing, newest first. -/
def State.advOf (s : State) : Wing → List Bool
  | .east => s.time.advE
  | .west => s.time.advW

/-- The difference is over its limit (R482): a faulty steward wing is excluded; a second time within 1 s, or for ten checks,
the deputy wing; otherwise ALARM, and the steward steps the deputy's triple onto its own time. -/
def State.diffOver (s : State) (st : Wing) (d : Int) : State :=
  let s1 := if s.time.overRun = 0 then s.raise 404 else s
  let s2 := { s1 with time.overRun := s1.time.overRun + 1 }
  let again := match s2.time.diffStep with
    | some t => decide (s.clk.ns ≤ t + 1000000000)
    | none => false
  if twoBad (s.advOf st) then s2.exclude st 566
  else if again || 10 ≤ s2.time.overRun then s2.exclude st.other 566
  else
    let s3 := s2.setAlarm 18 true
    ({ s3 with time.diffStep := some s.clk.ns }.setTriple st.other
      (s3.movedTriple st.other (-d) (s3.time.act.at_ st).rate)).raise 401

/-- The 1 ms strobe (R49, R482). While no lane of the inter-wing link is up only the captures are taken. -/
def State.wingStrobe (s : State) : State :=
  let s1 := s.capture
  if s1.iwlDown then s1
  else
    let bad (w : Wing) : Bool := twoBad ((s1.advOf w).take 2)
    let s2 := eachIn ([Wing.east, Wing.west].filter bad) (fun w t => t.exclude w 566) s1
    match s2.steward with
    | some st =>
      if !s2.stewardRuns || !s2.armed then s2
      else
        let d := timeDiff (s2.wingT st.other) (s2.wingT st)
        let s3 := s2.wf Reg.TIME_WING_DIFF 0 16 (diffField d)
        if s3.rf Reg.TIME_WING_DIFF 16 16 * 65536 < d.natAbs then s3.diffOver st d
        else
          { s3 with time.overRun := 0 }.setTriple st.other
            (s3.movedTriple st.other 0 (steerRate (s3.time.act.at_ st).rate d))
    | none => s2

/-! Reads that latch (R48, R505) -/

/-- A read of TIME_NOW_NS (R48). -/
def State.nowRead (s : State) (fn : Nat) (w : Wing) (lane size : Nat) : State :=
  let t := s.wingT w
  s.ownerRead fn lane size (BitVec.ofNat 32 (t / 65536 % 1000000000)) (fun u =>
    { u with time.nowLatch := Tab.put u.time.nowLatch (2 * fn + w.idx) t })

/-- A read of LTC_LO (R48). -/
def State.ltcLoRead (s : State) (fn : Nat) (w : Wing) (lane size : Nat) : State :=
  s.ownerRead fn lane size ((s.ltc w).setWidth 32) (fun u =>
    { u with time.ltcLatch := Tab.put u.time.ltcLatch (2 * fn + w.idx) (BitVec.ofNat 32 ((s.ltc w).toNat / 2 ^ 32)) })

/-- A read of the first word of TIME_TRIPLE (R505). -/
def State.tripleRead (s : State) (fn : Nat) (w : Wing) (lane size : Nat) : State :=
  let t := s.time.act.at_ w
  s.ownerRead fn lane size (t.word 0) (fun u =>
    { u with time.tripleLatch := Tab.put u.time.tripleLatch (2 * fn + w.idx) t })

/-! PTP (R53, R54) -/

/-- meanLinkDelay of a port in 2^-16 ns (R53, R68). -/
def State.linkDelay (s : State) (p : Nat) : Nat := (s.rd (Reg.TIME_PORT_LINKDLY p)).toNat * 4096

/-- PTP is enabled on a port: its state is not DISABLED (R53, log entry 5). -/
def State.ptpOn (s : State) (p : Nat) : Bool := Config.portOn (s.rd (Reg.TIME_PORT_STATE p))

/-- A message of the device's own domain arrives on the SLAVE port (R52, R53). -/
def State.fromParent (s : State) (p : Nat) (h : PtpHdr) : Bool := decide (s.slavePort = some p) && h.domain == s.man.ptpDomain

/-- A measurement of a source waits for the servo if the source is the selected one (R56). -/
def State.measured (s : State) (src : Nat) (m : Nat × Nat) : State :=
  if s.timeSource = src then { s with time.servoIn := some m, time.markAt := s.clk.ns } else s

/-- A Sync's origin time goes to the servo (R53): origin, corrections and link delay against the ingress timestamp. -/
def State.toServo (s : State) (p : Nat) (origin : Nat) (corr : Int) (rx : Nat) : State :=
  let m := (((origin : Int) + corr + (s.linkDelay p : Nat)).toNat, rx)
  { s with time.syncWait := none, time.tod := some m }.measured 1 m

/-- A Sync on the SLAVE port: a one-step Sync carries its origin time, a two-step one waits for its Follow_Up (R53). Both restart the
time to the loss of the source (R56). -/
def State.syncReceive (s : State) (p : Nat) (oneStep : Bool) (h : PtpHdr) (origin : Nat) (corr : Int) (phase : Nat) : State :=
  if !s.fromParent p h then s
  else
    let rx := s.ingressT p 0 phase
    let s1 := if s.timeSource = 1 then { s with time.markAt := s.clk.ns } else s
    if oneStep then s1.toServo p origin corr rx
    else { s1 with time.syncWait := some (p, h.seq, corr, rx) }

/-- A Follow_Up on the SLAVE port completes the Sync of its sequence number (R53). -/
def State.followUpReceive (s : State) (p : Nat) (h : PtpHdr) (origin : Nat) (corr : Int) : State :=
  match s.time.syncWait with
  | some (q, n, c, rx) =>
    if q = p ∧ n = h.seq ∧ s.fromParent p h then
      let at_ := s.time.markAt
      let s1 := s.toServo p origin (corr + c) rx
      { s1 with time.markAt := at_ }
    else s
  | none => s

/-- An egress timestamp enters a port's queue; with 16 entries there, it is lost (R66, R67). -/
def State.tsqPush (s : State) (p : Nat) (x : TsRec) : State :=
  let q := Tab.get [] s.time.tsq p
  if 16 ≤ q.length then
    ((s.wb (Reg.TSQ_OVF (p / 32)) (p % 32) true).cnt (Reg.TSQ_LOST p) 0 32 1).raiseAt 407 p 0
  else { s with time.tsq := Tab.put s.time.tsq p (q ++ [x]) }

/-- A PTP event message leaves a PTP-enabled port: the MAC stamps it with its sequenceId (R66). -/
def State.stampEvent (s : State) (p t : Nat) (seq : Half) : State := if s.ptpOn p then s.tsqPush p (tsRec t seq) else s

/-- Personality 0x04 sends a Sync on a MASTER port (R53). On a one-step port the MAC writes originTimestamp; on a two-step port the
Follow_Up is built from the egress timestamp, unless that one was lost (R67). -/
def State.syncTransmit (s : State) (p : Nat) (seq : Half) (phase : Nat) : State :=
  if !Config.portMaster (s.rd (Reg.TIME_PORT_STATE p)) then s
  else
    let t := s.egressT p 0 phase
    let s1 := s.stampEvent p t seq
    let one := s.man.oneStepPorts.contains p
    let s2 := { s1 with time.sentSync := Tab.put s1.time.sentSync p (seq, if one then some t else none) }
    if one || decide (16 ≤ (Tab.get [] s.time.tsq p).length) then s2
    else { s2 with time.sentFu := Tab.put s2.time.sentFu p (seq, t) }

/-- A peer delay exchange on a port with PTP enabled (R53, R66). As the responder the port sends a stamped Pdelay_Resp. As the
requester it sent a stamped Pdelay_Req so many ns ago, at a phase, as `out` says; the answer arrives now after the neighbour's turnaround
in units of 2^-16 ns, at a phase, as `back` says: meanLinkDelay is half of what is left (IEEE 1588). -/
def State.pdelayExchange (s : State) (p : Nat) (resp : Bool) (seq : Half) (out back : Nat × Fin 16) : State :=
  if !s.ptpOn p then s
  else if resp then s.stampEvent p (s.egressT p 0 out.2.val) seq
  else
    let t1 := s.egressT p out.1 out.2.val
    let t4 := s.ingressT p 0 back.2.val
    (s.stampEvent p t1 seq).wr (Reg.TIME_PORT_LINKDLY p) (BitVec.ofInt 32 (((t4 : Int) - t1 - back.1) / 8192))

/-- TIME_UTC takes a new content; a leap second newly announced raises TIME_LEAP_PENDING (R52, R71). -/
def State.setUtc (s : State) (utc : Word) : State :=
  (s.wr Reg.TIME_UTC utc).raiseIf (Config.utcLeap utc && !Config.utcLeap (s.rd Reg.TIME_UTC)) 423

/-- The parent's Announce restarts its timeout, fills TIME_UTC and gives the C37.238 TLV (R52, R56). -/
def State.parentAnnounce (s : State) (utc : Word) (tlv : List Word) : State :=
  { s with time.annAt := s.clk.ns, time.tlv := tlv }.setUtc utc

/-- An Announce that personality 0x04 finds valid, a Signaling or a Management message goes to the host as a PTP_RX notice with its
ingress timestamp (R53, R404). -/
def State.announceReceive (s : State) (p : Nat) (valid : Bool) (m : PtpNote) (phase : Nat) : State :=
  if !s.ptpOn p || m.domain != s.man.ptpDomain || (m.kind == .announce && !valid) then s
  else
    let s1 := if m.kind == .announce && decide (s.slavePort = some p) then s.parentAnnounce m.utc m.tlv else s
    let x := tsRec (s.ingressT p 0 phase) 0
    let ws := BitVec.ofNat 32 p :: (m.body ++ m.tlv ++ [x.w0, x.w1, x.w2, x.w3])
    s1.send 0 ⟨0xF1, 0, 4 * ws.length, ws⟩

/-- The words of a C37.238 profile TLV (R52), whose contents the manual does not give (log entry 138). -/
def tlvWords (k : Nat) : List Word := (List.range 5).map (fun i => Config.freeWord (k + i))

/-- Personality 0x04 sends an Announce with the host's content and the profile TLV on a MASTER port (R52, R53). -/
def State.announceTransmit (s : State) (p : Nat) : State :=
  if Config.portMaster (s.rd (Reg.TIME_PORT_STATE p)) then
    let n := match Tab.find s.time.sentAnn p with
      | some x => x.1 + 1
      | none => 1
    { s with time.sentAnn := Tab.put s.time.sentAnn p (n, Tab.get [] s.time.announce p ++ tlvWords s.free) }.used 5
  else s

/-- Held Syncs of an ingress port that are not yet 1 s old (R54). -/
def State.freshHeld (s : State) (p : Nat) : List HeldSync :=
  (Tab.get [] s.time.held p).filter (fun h => decide (s.clk.ns < h.at_ + 1000000000))

/-- A PTP message leaves the switch on a port with a correction added (R54). -/
def State.forwardPtp (s : State) (pout : Nat) (m : PtpMsg) (add : Int) : State :=
  { s with time.transit := some (pout, { m with corr := m.corr + add }) }

/-- A PTP message crosses the switch (R54): between PTP-enabled ports an event message gets its residence time, a Sync the link
delay of its ingress port with it; for a two-step Sync the correction is held for its Follow_Up. Event messages are stamped where they
leave (R66). Otherwise the message is forwarded unchanged. -/
def State.ptpTransit (s : State) (pin pout : Nat) (kind : PtpKind) (m : PtpMsg) (age phaseIn phaseOut : Nat) : State :=
  if !(s.ptpOn pin && s.ptpOn pout && m.domain == s.man.ptpDomain) then s.forwardPtp pout m 0
  else
    let tout := s.egressT pout 0 phaseOut
    let res : Int := (tout : Int) - (s.ingressT pin age phaseIn : Nat)
    let q := s.freshHeld pin
    match kind with
    | .pdelay => (s.forwardPtp pout m res).stampEvent pout tout m.seq
    | .syncOneStep => (s.forwardPtp pout m (res + (s.linkDelay pin : Nat))).stampEvent pout tout m.seq
    | .syncTwoStep =>
      let h : HeldSync := ⟨m.port, m.seq, res + (s.linkDelay pin : Nat), s.clk.ns⟩
      ({ s with time.held := Tab.put s.time.held pin (if q.length < 64 then q ++ [h] else q) }.forwardPtp pout m 0).stampEvent
        pout tout m.seq
    | .followUp =>
      match q.find? (fun h => h.port == m.port && h.seq == m.seq) with
      | some h => { s with time.held := Tab.put s.time.held pin (q.erase h) }.forwardPtp pout m h.corr
      | none => (s.forwardPtp pout m 0).cnt Reg.TIME_PTP_CNT 0 16 1

/-- Held Syncs are dropped after 1 s (R54). -/
def State.heldSyncExpiry (s : State) (p : Nat) : State :=
  { s with time.held := Tab.put s.time.held p (s.freshHeld p) }

/-! IRIG-B and PPS (R60-R62) -/

/-- The class of an IRIG-B pulse by its width in ns: 0, 1, 2 for a marker (R60). -/
def irigClass (w : Nat) : Option Nat :=
  if 1500000 ≤ w ∧ w ≤ 2500000 then some 0
  else if 4500000 ≤ w ∧ w ≤ 5500000 then some 1
  else if 7500000 ≤ w ∧ w ≤ 8500000 then some 2
  else none

/-- A pulse stands where it may: markers at the first place and at every tenth, nowhere else (R60). -/
def irigPlaced (i w : Nat) : Bool :=
  match irigClass w with
  | some 2 => i == 0 || i % 10 == 9
  | some _ => !(i == 0 || i % 10 == 9)
  | none => false

/-- The bit that a pulse of an IRIG-B frame gives. -/
def irigBit (widths : List Nat) (i : Nat) : Nat := bitOf (irigClass (widths.getD i 0) == some 1)

/-- A binary number whose bits stand from a pulse on, least significant first. -/
def irigNum (widths : List Nat) (i : Nat) : Nat → Nat
  | 0 => 0
  | n + 1 => irigBit widths i + 2 * irigNum widths (i + 1) n

/-- Two BCD digits of an IRIG-B frame: the units at a pulse, `n` bits of tens after one unused pulse (IRIG 200, log entry 139). -/
def irigBcd (widths : List Nat) (i n : Nat) : Nat := irigNum widths i 4 + 10 * irigNum widths (i + 5) n

/-- Days from 1970 to the start of a year 2000 to 2099. -/
def daysTo (year : Nat) : Nat := 10957 + 365 * (year - 2000) + (year - 2000 + 3) / 4

/-- The second that an IRIG-B frame names, counted from 1970: BCD time of year, and the year of the century (R60, log entry 139). -/
def irigSec (widths : List Nat) : Nat :=
  let day := irigBcd widths 30 4 + 100 * irigNum widths 40 2
  (daysTo (2000 + irigBcd widths 50 4) + day - 1) * 86400 + irigBcd widths 20 2 * 3600 + irigBcd widths 10 3 * 60
    + irigBcd widths 1 3

/-- The control bits of IEEE C37.118.1: pulses 60 to 78 (R60, log entry 139). -/
def irigControl (widths : List Nat) : BitVec 19 := BitVec.ofNat 19 (irigNum widths 60 19)

/-- An IRIG-B frame of 100 pulses (R60), whose reference marker's leading edge was captured `age` ns ago: accepted as a source
when the one before was valid and one second earlier. -/
def State.irigbFrame (s : State) (widths : List Nat) (age phase : Nat) : State :=
  if widths.length = 100 ∧ (widths.zip (List.range 100)).all (fun p => irigPlaced p.2 p.1) then
    let sec := irigSec widths
    let ok := decide (s.time.irigPrev.map (fun q => q.toNat + 1) = some sec)
    let s1 := { s with time.irigPrev := some (BitVec.ofNat 48 sec) }
    if !ok then s1
    else
      let m := (sec * tick1s, s.stampAgo s.timeWing age phase)
      let s2 := { s1 with time.tod := some m }.measured 3 m
      if s2.timeSource = 3 then s2.setUtc (Config.irigUtc (irigControl widths)) else s2
  else ({ s with time.irigPrev := none }.cnt Reg.TIME_IRIG_CNT 0 16 1).raise 406

/-- The second that a PPS edge marks: the nearest one by the time of day of PTP or IRIG-B, or by device time with none (R56, R61). -/
def State.ppsSecond (s : State) (t : Nat) : Nat :=
  let d : Int := match s.time.tod with
    | some m => -offsetOf m
    | none => 0
  (((t : Int) + d + (tick1s / 2 : Nat)) / (tick1s : Nat)).toNat * tick1s

/-- A rising edge of PPS_IN with its high time in ns: a valid one is captured as the on-time point (R61). -/
def State.ppsInEdge (s : State) (x : PpsPulse) : State :=
  let ok := match s.time.ppsPrev with
    | some t => decide (t + 999900000 ≤ s.clk.ns) && decide (s.clk.ns ≤ t + 1000100000)
    | none => false
  let s1 := { s with time.ppsPrev := some s.clk.ns }
  if ok && decide (1000 ≤ x.high) && decide (x.high ≤ 500000000) then
    let t := s.stampT s.timeWing x.phase.val
    s1.measured 2 (s.ppsSecond t, t)
  else s1.raise 405

/-- A second boundary of the steward wing lies in the present nanosecond or the one before. -/
def State.atSecond (s : State) : Bool := decide (s.devT % tick1s < 2 * 65536)

/-- A second boundary of the steward wing: PPS_OUT rises (R62). -/
def State.ppsOutRise (s : State) : State :=
  let sec := s.devT / tick1s
  if s.steward.isNone || s.ppsHeld || !s.atSecond || sec = s.time.ppsSec then s
  else { s with time.pps := some s.clk.ns, time.ppsSec := sec }

/-- TIME_SERVO.PPS_WIDTH in ns: 100 ms while the register holds its reset value, and 1 us to 500 ms at all times (R62, log
entry 140). -/
def State.ppsWidth (s : State) : Nat :=
  if s.rd Reg.TIME_SERVO = 0 then 100000000 else max 1000 (min 500000000 (Config.servoPpsWidth (s.rd Reg.TIME_SERVO)))

/-- PPS_OUT falls after PPS_WIDTH (R62). -/
def State.ppsOutFall (s : State) : State :=
  match s.time.pps with
  | some t => if t + s.ppsWidth ≤ s.clk.ns then { s with time.pps := none } else s
  | none => s

/-- Level of the PPS_OUT pin (R62). -/
def State.ppsPin (s : State) : Bool := s.time.pps.isSome && !s.ppsHeld

/-! Captures and egress timestamps (R65-R67) -/

/-- The mapping of Thicket outputs, as TK_OUT_MAP words, that drives a capture input of a wing (R382). -/
def State.capMap (s : State) (c : Nat) : Option Word :=
  ((List.range 128).map (fun j => s.rd (Reg.TK_OUT_MAP (16 * (capWing c).idx + j / 8) (j % 8)))).find?
    (fun m => fld m 30 2 == 2 && fld m 22 6 == c % 4)

/-- What a capture subtracts for the way of a gated edge, in 2^-16 ns: 12.5 ns (R382). -/
def gateDelay (m : Option Word) : Nat :=
  match m with
  | some v => if fld v 28 2 = 1 then 819200 else 0
  | none => 0

/-- An edge on a capture input, at its ball or from the Thicket output mapped to it (R65, R382): a mapped input ignores its ball; pulses
shorter than 8 ns and edges not selected are ignored. -/
def State.captureEdge (s : State) (c : Nat) (e : CapEdge) (width phase : Nat) : State :=
  if e.ball == (s.capMap c).isSome || decide (width < 8) || !Config.capSelects (s.rd (Reg.CAP_CTRL (capWing c) (c % 4))) e.rising then s
  else
    let q := Tab.get [] s.time.cap c
    if 8 ≤ q.length then
      { s with time.capOvf := if s.time.capOvf.contains c then s.time.capOvf else c :: s.time.capOvf }.raiseAt 408 c 0
    else
      ({ s with time.cap := Tab.put s.time.cap c (q ++ [tsRec (s.stampT (capWing c) phase - gateDelay (s.capMap c)) 0]) }).raiseIf q.isEmpty
        (411 + c)

/-- A word of a timestamp record. -/
def TsRec.word (x : TsRec) (i : Nat) : Word :=
  match i with
  | 0 => x.w0
  | 1 => x.w1
  | 2 => x.w2
  | _ => x.w3

/-- The head of a queue of records; an empty queue reads 0, VALID with it. -/
def headRec (q : List TsRec) : TsRec := q.head?.getD TsRec.zero

/-- A read of word 3 of CAPn_FIFO pops the entry (R65). -/
def State.capTake (s : State) (c lane size : Nat) : State :=
  let q := Tab.get [] s.time.cap c
  { s with time.cap := Tab.put s.time.cap c (q.drop 1) }.answer (laneData (headRec q).w3 lane size)
def State.capPop (s : State) (fn c lane size : Nat) : State :=
  let q := Tab.get [] s.time.cap c
  s.ownerRead fn lane size (headRec q).w3 (fun u => { u with time.cap := Tab.put u.time.cap c (q.drop 1) })

/-- A read of word 3 of TSQ_ENTRY pops the entry (R66). -/
def State.tsqTake (s : State) (fn p lane size : Nat) : State :=
  let q := Tab.get [] s.time.tsq p
  s.ownerRead fn lane size (headRec q).w3 (fun u => { u with time.tsq := Tab.put u.time.tsq p (q.drop 1) })

/-! The meanings of the rows -/

/-- TIME_SHADOW_WRITE (R45): The steward writes OFFSET, ANCHOR or RATE into a wing's shadow set. -/
def execTimeShadowWrite (writer target : Wing) (word : Nat) (val : BitVec 32) (s : State) : Out :=
  live (timeShadowWriteOk word) s (s.timeShadowWrite writer target word val)

/-- TIME_COMMIT (R45): A write of TIME_CTRL.COMMIT copies the shadow set into the active triple in one cycle. -/
def execTimeCommit (writer target : Wing) (s : State) : Out :=
  live true s (s.timeCommit writer target)

/-- WING_STROBE (R49): Every 1 ms both LTCs capture a strobe, the steward computes TIME_WING_DIFF and commits the deputy's triple. -/
def execWingStrobe (s : State) : Out :=
  live true s (s.wingStrobe)

/-- SERVO_UPDATE (R56): The steward servo takes a new source measurement, commits its triple and moves TIME_STATE. -/
def execServoUpdate (w : Wing) (s : State) : Out :=
  live true s (s.servoUpdate w)

/-- SOURCE_LOST (R56): The selected time source is lost by its timeout, raising TIME_SOURCE_LOST and changing TIME_STATE. -/
def execSourceLost (s : State) : Out :=
  live true s (s.sourceLost)

/-- HOLD_LIMIT_EXPIRY (R56): Time spent in HOLDOVER reaches HOLD_LIMIT and TIME_STATE becomes UNSYNC. -/
def execHoldLimitExpiry (s : State) : Out :=
  live true s (s.holdLimitExpiry)

/-- STEP (R47): A host write of TIME_SERVO.STEP makes the steward step both wings' triples. -/
def execStep (fn : Nat) (amount : Int) (s : State) : Out :=
  checked (stepOk fn) s (s.step fn amount)

/-- GM_CHANGE (R53): The host reports a new grandmaster through TIME_SERVO.GM_CHANGE, raising TIME_GM_CHANGE. -/
def execGmChange (fn : Nat) (clockClass : BitVec 8) (s : State) : Out :=
  checked (gmChangeOk fn) s (s.gmChange fn clockClass)

/-- TIME_PORT_STATE_WRITE (R53): The host writes a PTP port state; a second SLAVE is discarded with CFG_ERR. -/
def execTimePortStateWrite (fn p : Nat) (val : BitVec 32) (s : State) : Out :=
  checked (timePortStateWriteOk fn p) s (s.timePortStateWrite fn p val)

/-- SYNC_RECEIVE (R53): A Sync arrives on the SLAVE port, is timestamped and its origin time goes to the servo. -/
def execSyncReceive (p : Nat) (oneStep : Bool) (h : PtpHdr) (origin : Nat) (corr : Int) (phase : Nat) (s : State) : Out :=
  live (syncReceiveOk p phase) s (s.syncReceive p oneStep h origin corr phase)

/-- FOLLOW_UP_RECEIVE (R53): A Follow_Up is received and handled by personality 0x04. -/
def execFollowUpReceive (p : Nat) (h : PtpHdr) (origin : Nat) (corr : Int) (s : State) : Out :=
  live (followUpReceiveOk p) s (s.followUpReceive p h origin corr)

/-- SYNC_TRANSMIT (R53): At logSyncInterval personality 0x04 sends a Sync on a MASTER port, one-step or with a Follow_Up. -/
def execSyncTransmit (p : Nat) (seq : BitVec 16) (phase : Nat) (s : State) : Out :=
  live (syncTransmitOk p phase) s (s.syncTransmit p seq phase)

/-- PDELAY_EXCHANGE (R53): A Pdelay message is sent or received and meanLinkDelay is updated. -/
def execPdelayExchange (p : Nat) (resp : Bool) (seq : BitVec 16) (out back : Nat × Fin 16) (s : State) : Out :=
  live (pdelayExchangeOk p) s (s.pdelayExchange p resp seq out back)

/-- ANNOUNCE_RECEIVE (R53): An Announce is validated and passed to the host by a PTP_RX notice. -/
def execAnnounceReceive (p : Nat) (valid : Bool) (m : PtpNote) (phase : Nat) (s : State) : Out :=
  live (announceReceiveOk p phase) s (s.announceReceive p valid m phase)

/-- ANNOUNCE_TRANSMIT (R53): Personality 0x04 sends an Announce with host-written content. -/
def execAnnounceTransmit (p : Nat) (s : State) : Out :=
  live (announceTransmitOk p) s (s.announceTransmit p)

/-- PTP_TRANSIT (R54): A PTP event message crosses the switch and the transparent clock adds residence and link delay. -/
def execPtpTransit (pin pout : Nat) (kind : PtpKind) (m : PtpMsg) (age phaseIn phaseOut : Nat) (s : State) : Out :=
  live (ptpTransitOk pin pout phaseIn phaseOut) s (s.ptpTransit pin pout kind m age phaseIn phaseOut)

/-- HELD_SYNC_EXPIRY (R54): An unmatched held Sync is dropped from the transparent clock after 1 s. -/
def execHeldSyncExpiry (p : Nat) (s : State) : Out :=
  live (heldSyncExpiryOk p) s (s.heldSyncExpiry p)

/-- IRIGB_FRAME (R60): An IRIG-B frame is decoded, accepted as a source or rejected. -/
def execIrigbFrame (widths : List Nat) (age phase : Nat) (s : State) : Out :=
  live (irigbFrameOk phase) s (s.irigbFrame widths age phase)

/-- PPS_IN_EDGE (R61): A PPS_IN rising edge is checked, timestamped and used or reported as a fault. -/
def execPpsInEdge (x : PpsPulse) (s : State) : Out :=
  live true s (s.ppsInEdge x)

/-- PPS_OUT_RISE (R62): PPS_OUT rises at a steward-wing second boundary unless held low. -/
def execPpsOutRise (s : State) : Out :=
  live true s (s.ppsOutRise)

/-- PPS_OUT_FALL (R62): PPS_OUT falls when PPS_WIDTH has elapsed. -/
def execPpsOutFall (s : State) : Out :=
  live true s (s.ppsOutFall)

/-- CAPTURE_EDGE (R65): A selected edge on a capture input is timestamped into its FIFO or dropped with OVF. -/
def execCaptureEdge (c : Nat) (e : CapEdge) (width phase : Nat) (s : State) : Out :=
  live (captureEdgeOk c phase) s (s.captureEdge c e width phase)

end Sys2Proof.Machine
end

