-- ==== Sys2Proof/Machine/Caravan.lean ====
section
/-! DEFINITION. The Caique caravan as it stands on the wire (07_caique_link.md): header, slots, checks, command records, and
the layout of a cycle's two caravans (08_caique_cycle.md). -/

namespace Sys2Proof.Machine

/-! Words -/

/-- The 16-bit words of a number, most significant first (R184). -/
def halvesOf : Nat → Nat → List Half
  | 0, _ => []
  | n + 1, v => BitVec.ofNat 16 (v / 2 ^ (16 * n)) :: halvesOf n v

/-- The octets of words, in wire order (R184). -/
def halfOctets (l : List Half) : List Octet := l.flatMap (fun (h : Half) => [(h >>> 8).setWidth 8, h.setWidth 8])

/-! Ordered sets (R183) -/

/-- What an ordered set of the line means; SOC and EOC of C10 carry octets of the caravan and are read by their own functions. -/
inductive CqSet where
  | idle
  | poison
  | echoReq (id : Half)
  | echoRsp (id : Half) (turn : BitVec 24)
deriving DecidableEq, Repr

/-- The octets of a 16-bit word and of a TURN, most significant first. -/
def idOctets (h : Half) : List Octet := [(h >>> 8).setWidth 8, h.setWidth 8]
def turnOctets (t : BitVec 24) : List Octet := [(t >>> 16).setWidth 8, (t >>> 8).setWidth 8, t.setWidth 8]

/-- A set in C3: K28.5 is 0xBC, D16.2 0x50, K30.7 0xFE, K23.7 0xF7, K28.1 0x3C (R183; the octets of the code groups are those of
IEEE 802.3 Clause 36, log entry 165). -/
def setC3 : CqSet → List (Bool × Octet)
  | .idle => [(true, 0xBC), (false, 0x50)]
  | .poison => [(true, 0xFE), (true, 0xF7)]
  | .echoReq id => (true, 0x3C) :: (false, 0x01) :: (idOctets id).map (fun o => (false, o))
  | .echoRsp id t => (true, 0x3C) :: (false, 0x02) :: (idOctets id).map (fun o => (false, o))
      ++ (true, 0x3C) :: (turnOctets t).map (fun o => (false, o))

/-- A set in C10: an idle character is 0x00 and /E/ 0x1E (R183, log entry 165). -/
def setC10 : CqSet → Block
  | .idle => ⟨0x1E, 0, 0, [], List.replicate 8 0⟩
  | .poison => ⟨0x1E, 0, 0, [], List.replicate 8 0x1E⟩
  | .echoReq id => ⟨0x4B, 0xC, 0, 0x01 :: idOctets id, List.replicate 4 0⟩
  | .echoRsp id t => ⟨0x55, 0xC, 0xC, 0x02 :: idOctets id ++ turnOctets t, []⟩

/-- A set in the mode of a ring: C10 or C3 (R182). -/
def lineSet (c10 : Bool) (x : CqSet) : LineSet := if c10 then .c10 (setC10 x) else .c3 (setC3 x)

/-- The data octets of a set after its first, in order. -/
def setData : LineSet → List Octet
  | .c3 l => (l.filter (fun p => !p.1)).map (fun p => p.2)
  | .c10 b => b.data

/-- What a set means to a receiver in a mode; a set that is none of these is ignored (R183). -/
def readSet (c10 : Bool) (x : LineSet) : Option CqSet :=
  let d (i : Nat) : Octet := (setData x).getD i 0
  let id : Half := d 1 ++ d 2
  [.idle, .poison, .echoReq id, .echoRsp id (d 3 ++ d 4 ++ d 5)].find? (fun y => x == lineSet c10 y)

/-- Block type of the terminate block with `k` data octets (R183: 0x87 to 0xFF; IEEE 802.3 Clause 49, log entry 165). -/
def termType (k : Nat) : Octet := ([0x87, 0x99, 0xAA, 0xB4, 0xCC, 0xD2, 0xE1, 0xFF] : List Octet).getD k 0xFF

/-- Octets of a caravan that its terminate block carries: seven go in the start block, eight in each block between (R183). -/
def termCount (n : Nat) : Nat := (n + 1) % 8

/-- SOC of a caravan: K27.7, or a start block with the first seven octets (R183). -/
def socSet (c10 : Bool) (octets : List Octet) : LineSet :=
  if c10 then .c10 ⟨0x78, 0, 0, octets.take 7, []⟩ else .c3 [(true, 0xFB)]

/-- EOC of a caravan: K29.7 K23.7, or a terminate block (R183). -/
def eocSet (c10 : Bool) (octets : List Octet) : LineSet :=
  let k := termCount octets.length
  if c10 then .c10 ⟨termType k, 0, 0, octets.drop (octets.length - k), List.replicate (7 - k) 0⟩
  else .c3 [(true, 0xFD), (true, 0xF7)]

/-- The set is an EOC behind a caravan of some octets (R183). -/
def isEoc (c10 : Bool) (n : Nat) : LineSet → Bool
  | .c3 l => !c10 && l == [(true, 0xFD), (true, 0xF7)]
  | .c10 b => c10 && b.typ == termType (termCount n)

/-! The header (R186) -/

/-- Header words 0 to 19 (R186). -/
def hdrHead (h : CHdr) : List Half :=
  BitVec.ofNat 16 (h.ring % 4 * 2 ^ 14 + h.ch % 2 * 2 ^ 13 + bitOf h.auth * 2 ^ 12 + bitOf h.cmdOnly * 2 ^ 11
    + bitOf h.dying * 2 ^ 10 + h.version % 16)
    :: halvesOf 3 h.cycle.toNat ++ [h.epoch, h.nextEpoch, BitVec.ofNat 16 (h.swCnt % 16 * 2 ^ 12)]
    ++ halvesOf 2 h.session.toNat ++ halvesOf 4 h.eui.toNat ++ halvesOf 3 h.sec.toNat ++ halvesOf 2 h.ns.toNat
    ++ [h.frac, h.lead]

/-- Header words 22 to 24 (R186). -/
def hdrTotal (h : CHdr) : List Half := halvesOf 2 h.total ++ [BitVec.ofNat 16 h.nslots]

/-- Header words 0 to 25 (R186). -/
def hdrWords (h : CHdr) : List Half :=
  hdrHead h ++ halvesOf 2 h.corr.toNat ++ hdrTotal h ++ [BitVec.ofNat 16 (h.hops % 64)]

/-- HCHK of a header (R186, R188). -/
def hchkOf (h : CHdr) : Word := crc32c (halfOctets (hdrWords h))

/-! Slots (R187, R188) -/

/-- The slot header and payload, words 0 to LEN + 1 (R187). -/
def slotBody (x : Slot) : List Half :=
  BitVec.ofNat 16 ((if x.bcast then 0 else x.owner % 64) * 2 ^ 10 + x.typ % 8 * 2 ^ 7 + bitOf x.dir * 2 ^ 6
    + bitOf x.bcast * 2 ^ 5 + x.prio % 4 * 2 ^ 3) :: BitVec.ofNat 16 (x.payload.length % 4096) :: x.payload

/-- The seed of SCRC (R188). -/
def scrcSeed (owner : Nat) (cycle : BitVec 48) : Word :=
  0xFFFFFFFF#32 ^^^ BitVec.ofNat 32 (owner % 64 * 65536 + cycle.toNat % 65536)

/-- SCRC of a slot (R187, R188): OWNER is the field of the slot header. -/
def scrcOf (x : Slot) (cycle : BitVec 48) : Word :=
  ~~~ crc32r 0x82F63B78#32 (halfOctets (slotBody x)) (scrcSeed (if x.bcast then 0 else x.owner) cycle)

/-- SCRC checks (R189). -/
def scrcOk (x : Slot) (cycle : BitVec 48) : Bool := x.scrc == scrcOf x cycle

/-- A DIR = 1 slot that its owner has not written: payload 0 and SCRC inverted (R211). -/
def unwritten (x : Slot) (cycle : BitVec 48) : Bool :=
  x.dir && x.payload.all (fun h => h == 0) && x.scrc == ~~~ scrcOf x cycle

/-- All words of a slot (R187). -/
def slotWords (x : Slot) : List Half := slotBody x ++ halvesOf 2 x.scrc.toNat

/-- Words of the slot area (R185). -/
def areaWords (l : List Slot) : Nat := (l.map (fun x => x.payload.length + 4)).sum

/-- HCRC: words 0-19 and 22-24 of the header, then the slot area (R194). -/
def hcrcOf (h : CHdr) (l : List Slot) : Word := crc32c (halfOctets (hdrHead h ++ hdrTotal h ++ l.flatMap slotWords))

/-! The tag (R194, R201) -/

/-- The four words of a hop mark (R194). -/
def markWords (m : HopMark) : List Half :=
  [BitVec.ofNat 16 (m.nodeId % 64 * 2 ^ 10 + bitOf m.present * 2 ^ 9 + bitOf m.inOk * 2 ^ 8 + bitOf m.authBad * 2 ^ 7
    + bitOf m.lateApply * 2 ^ 6 + bitOf m.loop * 2 ^ 5 + bitOf m.asleep * 2 ^ 4), m.badSlots ++ m.cycRef] ++ halvesOf 2 m.hcrc.toNat

/-- An unwritten hop mark (R194). -/
def HopMark.zero : HopMark := ⟨0, false, false, false, false, false, false, 0, 0, 0⟩

/-- Header word 0 to the last slot word of a caravan (R185). -/
def caravanWords (h : CHdr) (marks : List HopMark) (slots : List Slot) : List Half :=
  hdrWords h ++ halvesOf 2 h.hchk.toNat ++ (List.range 16).flatMap (fun p => markWords (marks.getD p HopMark.zero))
    ++ slots.flatMap slotWords

/-- The initialisation vector of a caravan's tag: EPOCH, CYCLE, RING, CH, HOPS, zeros (R201). -/
def caravanIv (h : CHdr) : BitVec 96 :=
  h.epoch ++ h.cycle ++ BitVec.ofNat 2 h.ring ++ BitVec.ofNat 1 h.ch ++ BitVec.ofNat 6 h.hops ++ 0#23

/-- The six tag words of a caravan under a ring key, most significant first: AES-256-GMAC over its words, which stand for their octets
in wire order (R184, R185, R201). -/
def caravanTag (key : Nat) (h : CHdr) (marks : List HopMark) (slots : List Slot) : List Half :=
  gcmTag key (caravanIv h) (caravanWords h marks slots)

/-! Schedule entries (R207) -/

/-- An entry of a schedule bank: its number and its two words. -/
structure SEnt where
  i : Nat
  w : Word
  off : Nat
deriving DecidableEq, Repr

/-- Fields of an entry (R207). -/
def entOnA (e : SEnt) : Bool := tst e.w 30
def entOnB (e : SEnt) : Bool := tst e.w 29
def entTyp (e : SEnt) : Nat := fld e.w 26 3
def entDir (e : SEnt) : Bool := tst e.w 25
def entBcast (e : SEnt) : Bool := tst e.w 24
def entPrio (e : SEnt) : Nat := fld e.w 22 2
def entOwner (e : SEnt) : Nat := fld e.w 16 6
def entLen (e : SEnt) : Nat := fld e.w 0 12

/-- The valid entries of a bank, in order (R207). -/
def State.bankOf (s : State) (r b : Nat) : List SEnt :=
  (List.range 512).filterMap (fun i =>
    let w := s.rd (Reg.CQ_SCHED r b i 0)
    if tst w 31 then some ⟨i, w, s.rf (Reg.CQ_SCHED r b i 1) 0 21⟩ else none)

/-! Rings and lanes -/

/-- A device lane of a ring (R180): the head lane, or the tail lane. -/
def laneOf (x : Ring) (tail : Bool) : Lane := if tail then x.tail else x.head

/-- A ring with one lane replaced. -/
def withLane (x : Ring) (tail : Bool) (l : Lane) : Ring := if tail then { x with tail := l } else { x with head := l }

/-- Change a lane of a ring. -/
def State.onLane (s : State) (r : Nat) (tail : Bool) (f : Lane → Lane) : State :=
  s.setRg r (withLane (s.rg r) tail (f (laneOf (s.rg r) tail)))

/-- STATE of a ring (R229): 0 STOPPED, 1 STARTING, 2 RUNNING, 3 CMD_ONLY. -/
def State.ringState (s : State) (r : Nat) : Nat := s.rf (Reg.CQ_RING_STAT r) 30 2

/-- Raise event `i` of a ring (R233). -/
def State.ringEvent (s : State) (r i : Nat) : State := s.raiseAt (424 + 8 * r + i) r (wingCode (ringWing r))

/-- Set STATE; a change raises CQ_r_STATE (R229, R233). -/
def State.setRingState (s : State) (r v : Nat) : State :=
  if s.ringState r = v then s else (s.wf (Reg.CQ_RING_STAT r) 30 2 v).ringEvent r 7

/-- Some ring runs unauthenticated (R203). -/
def State.anyUnauth (s : State) : Bool := (List.range 4).any (fun r => s.rb (Reg.CQ_RING_STAT r) 25)

/-- What CQ_RING_STAT shows of wrap, guard, deferral, rephasing and a pending switch is over when a ring stops or starts afresh (R205,
R229). -/
def State.ringClear (s : State) (r : Nat) : State :=
  let a := Reg.CQ_RING_STAT r
  ((([29, 28, 27, 26, 25, 23, 22].foldl (fun t b => t.wb a b false) s).wf a 17 5 0x1F).wf a 12 5 0x1F).wf a 5 7 0

/-- A ring stops: it is not unauthenticated any longer (R203). -/
def State.ringStop (s : State) (r : Nat) : State :=
  let s1 := (s.setRingState r 0).ringClear r
  s1.setAlarm 29 s1.anyUnauth

/-- The mode of a ring is C10 (R182, R228). -/
def State.isC10 (s : State) (r : Nat) : Bool := s.rb (Reg.CQ_RING_CTRL r) 30

/-! Cycle instants (R204) -/

/-- DEN of a period, and the period in units of 1 / DEN of a nanosecond (R204). -/
def State.cqDen (s : State) (r : Nat) : Nat := max 1 (s.cqPer r).2
def State.cqNum (s : State) (r : Nat) : Nat := (s.cqPer r).1

/-- t0 in 2^-16 ns (R204, log entry 20). -/
def State.cqT0 (s : State) (r : Nat) : Nat :=
  instant3 (s.rd (Reg.CQ_T0 r 0)) (s.rd (Reg.CQ_T0 r 1)) (s.rd (Reg.CQ_T0 r 2))

/-- Cycle instant k = t0 + k x Tc, truncated to 2^-16 ns (R204, R205). -/
def State.cqInstant (s : State) (r k : Nat) : Nat :=
  (s.cqT0 r * s.cqDen r + k * s.cqNum r * 65536) / s.cqDen r

/-- Number of the first cycle instant at or after T (R204). -/
def State.cqFirst (s : State) (r t : Nat) : Nat :=
  let d := (t - s.cqT0 r) * s.cqDen r
  let p := max 1 (s.cqNum r * 65536)
  (d + p - 1) / p

/-- The instant at which the next cycle of a ring starts, as far as it can be foreseen, in 2^-16 ns: its cycle instant, or the firing of
its trigger that waits, or the trigger's last period carried on; moved by what is left of a step (R204, R206). -/
def State.cqNext (s : State) (r : Nat) : Option Nat :=
  let x := s.rg r
  let at_ (t : Nat) : Nat := (((t : Nat) : Int) + x.rephase).toNat
  if !s.trgRing r then some (at_ (s.cqInstant r x.k))
  else match x.trgNext, x.trgLast with
    | some t, _ => some (at_ t)
    | none, some b => some (at_ (b + s.cqSpan r (x.trgN + 1)))
    | none, none => none

/-- The instant of the next departure, if it is set: a ring that follows its trigger waits for the firing, unless the trigger has stopped
or a step is being taken back (R204, R206). -/
def State.cqDue (s : State) (r : Nat) : Option Nat :=
  let x := s.rg r
  if s.trgRing r && x.rephase == 0 && !x.trgStop then x.trgNext else s.cqNext r

/-- The apply instant of a caravan that departs at T (R186). -/
def State.applyAt (s : State) (r t : Nat) : Nat := t + s.rf (Reg.CQ_APPLY_LEAD r) 0 16 * 65536

/-! Command records (R190) -/

/-- A record header with its words (R190). -/
def recWords (code : Nat) (l : List Half) : List Half := BitVec.ofNat 16 (code * 256 + l.length) :: l

/-- A record that names a node in bits [15:10] of its first word. -/
def nodeRec (code node low : Nat) : List Half := recWords code [BitVec.ofNat 16 (node % 64 * 2 ^ 10 + low)]

/-- A TRIP_PULSE record (R190). -/
def tripRec (node dout pw : Nat) : List Half :=
  recWords 1 [BitVec.ofNat 16 (node % 64 * 2 ^ 10 + dout % 64), BitVec.ofNat 16 (pw / 65536 % 32), BitVec.ofNat 16 pw]

/-- Queue a record for the CMD slots of a ring. -/
def State.cmdRec (s : State) (r : Nat) (c : CmdRec) : State :=
  s.setRg r { s.rg r with cmdQ := (s.rg r).cmdQ ++ [c] }

/-- Queue a record before all that wait (R220). -/
def State.cmdFirst (s : State) (r : Nat) (c : CmdRec) : State :=
  s.setRg r { s.rg r with cmdQ := c :: (s.rg r).cmdQ }

/-- Place records into the CMD slots of one caravan: each slot takes, in order, the records it may carry while they fit.
Answers the payload per entry and the numbers of the records placed (R190). -/
def fillCmd : List SEnt → List (Nat × CmdRec) → List (Nat × List Half) × List Nat
  | [], _ => ([], [])
  | e :: t, recs =>
    let take := recs.foldl (fun (p : List Half × List Nat) q =>
      if (entBcast e || q.2.node == some (entOwner e)) && decide (p.1.length + q.2.words.length ≤ entLen e) then
        (p.1 ++ q.2.words, q.1 :: p.2)
      else p) ([], [])
    let (l, d) := fillCmd t (recs.filter (fun q => !take.2.contains q.1))
    ((e.i, take.1 ++ List.replicate (entLen e - take.1.length) 0) :: l, take.2 ++ d)

/-! The wrapped layout (R214, R216, R220) -/

/-- Position of a NODE ID (R181). -/
def posOf (node : Nat) : Nat := node % 16

/-- The position belongs to the segment of the lane's side: what the isolated span, the looping positions seen or a break at
the device hop leave to it (R213, R214, R220). -/
def inSegment (x : Ring) (tail : Bool) (p : Nat) : Bool :=
  match x.iso with
  | some (lo, hi) => if tail then decide (hi < p) else decide (p < lo)
  | none =>
    if tail then
      match x.tail.loop, x.head.loop with
      | some d, _ => decide (d ≤ p)
      | none, some u => !x.tail.brk && decide (u < p)
      | none, none => false
    else
      match x.head.loop, x.tail.loop with
      | some u, _ => decide (p ≤ u)
      | none, some d => !x.head.brk && decide (p < d)
      | none, none => false

/-- Entries by descending PRIO, in entry order within one PRIO (R214). -/
def byPrio (l : List SEnt) : List SEnt :=
  l.filter (fun e => entPrio e == 3) ++ l.filter (fun e => entPrio e == 2) ++ l.filter (fun e => entPrio e == 1)
    ++ l.filter (fun e => entPrio e == 0)

/-- The BULK entries that go in as long as there is room, the room left, and the rest, which is deferred (R214, R216). -/
def bulkPrefix : Nat → List SEnt → List SEnt × Nat × List SEnt
  | room, [] => ([], room, [])
  | room, e :: t =>
    if entLen e + 4 ≤ room then
      let (a, b, c) := bulkPrefix (room - (entLen e + 4)) t
      (e :: a, b, c)
    else ([], room, e :: t)

/-- The deferred entries that the space left carries, in the order given (R216). -/
def bulkFit : Nat → List SEnt → List SEnt
  | _, [] => []
  | room, e :: t => if entLen e + 4 ≤ room then e :: bulkFit (room - (entLen e + 4)) t else bulkFit room t

/-- What one lane's caravan holds in the wrapped layout: its entries in entry order, the entries deferred, those of them
carried (R214, R216). -/
def wrapLayout (ents : List SEnt) (x : Ring) (tail : Bool) (room : Nat) : List SEnt × List SEnt × List SEnt :=
  let seg (e : SEnt) : Bool := inSegment x tail (posOf (entOwner e))
  let bulk := byPrio (ents.filter (fun e => entTyp e == 1 && !entBcast e && seg e))
  let (inn, left, rest) := bulkPrefix room bulk
  let rr := if tail then x.rrTail else x.rrHead
  let defer := ents.filter (fun e => rest.contains e)
  let turn := defer.filter (fun e => decide (rr < e.i)) ++ defer.filter (fun e => decide (e.i ≤ rr))
  let carried := bulkFit left turn
  let keep (e : SEnt) : Bool :=
    if entBcast e then true else if entTyp e == 1 then inn.contains e || carried.contains e else seg e
  (ents.filter keep, defer, carried)

/-! Payloads (R187, R192, R210, R211, R240, R243) -/

/-- The slot that the device sends for an entry, given the payload of CMD and ACYC entries. -/
def slotFor (x : Ring) (cycle : BitVec 48) (wake : List Half) (given : List (Nat × List Half)) (e : SEnt) : Slot :=
  let pay : List Half :=
    if entTyp e = 3 then List.replicate (entLen e) 0xFFFF
    else if entDir e then List.replicate (entLen e) 0
    else match entTyp e with
      | 0 => halvesAt x.frozen e.off (entLen e)
      | 1 => halvesAt x.frozen e.off (entLen e)
      | 5 => wake
      | _ => ((given.find? (fun p => p.1 == e.i)).map (fun p => p.2)).getD (List.replicate (entLen e) 0)
  let z : Slot := ⟨if entBcast e then 0 else entOwner e, entTyp e, entDir e, entBcast e,
    if entTyp e = 1 then entPrio e else 0, pay, 0⟩
  let c := scrcOf z cycle
  { z with scrc := if entDir e && entTyp e != 3 then ~~~c else c }

/-- The payload of a WAKE slot (R192). -/
def State.wakeWords (s : State) (r : Nat) : List Half :=
  (s.rd (Reg.CQ_WAKE r 0)).setWidth 16 :: halvesOf 2 (s.rd (Reg.CQ_WAKE r 2)).toNat
    ++ halvesOf 2 (s.rd (Reg.CQ_WAKE r 1)).toNat

/-- Fill the DIR = 0 ACYC slots of the entries given from their nodes' queues (R243). -/
def State.fillAcyc (s : State) : List SEnt → List (Nat × List Half) × State
  | [] => ([], s)
  | e :: t =>
    if entTyp e = 4 ∧ !entDir e then
      let (m, q) := takeMsgs (entLen e) 0 (s.brQueue (entOwner e))
      let ws := m.flatMap msgWords
      let (l, s1) := (s.setQueue (entOwner e) q).fillAcyc t
      ((e.i, ws ++ List.replicate (entLen e - ws.length) 0) :: l, s1)
    else s.fillAcyc t

/-- Mean of the link delays measured, in 1/16 ns (R198). -/
def linkMean (l : Lane) : Nat := l.dly.sum / max 1 l.dly.length

/-- A fuse field as it was read at power-on reset (R422). The fields are numbered in the order of R422's table, the four root
hashes as 0-3 (log entry 29). -/
def State.fuseNum (s : State) (f : Nat) : Nat := (Tab.get [] s.sec.fuseLatched f).eraseDups.foldl (fun v b => v + 2 ^ b) 0

/-- DEV_EUI (R186, R422). -/
def State.devEui (s : State) : BitVec 64 := BitVec.ofNat 64 (s.fuseNum 10)

/-- The header of the caravan that departs at T on a lane, without HCHK (R186). -/
def State.cqHeader (s : State) (r : Nat) (tail : Bool) (t : Nat) (l : List Slot) : CHdr :=
  let x := s.rg r
  { ring := r, ch := bitOf tail, auth := x.auth, cmdOnly := s.ringState r == 3, dying := decide (0 < x.dying), version := 1,
    cycle := x.cycle, epoch := (s.rd (Reg.CQ_EPOCH r)).setWidth 16,
    nextEpoch := ((s.rd (Reg.CQ_EPOCH r)) >>> 16).setWidth 16, swCnt := x.swCnt, session := s.rd (Reg.CQ_SESSION r),
    eui := s.devEui, sec := BitVec.ofNat 48 (t / tick1s), ns := BitVec.ofNat 32 (t / 65536 % 1000000000),
    frac := BitVec.ofNat 16 t, lead := (s.rd (Reg.CQ_APPLY_LEAD r)).setWidth 16,
    corr := BitVec.ofNat 32 (linkMean (laneOf x tail)), total := 92 + areaWords l, nslots := l.length, hops := 1, hchk := 0 }

/-- The caravan with its slots, the transmitter's own tag where the ring runs authenticated, and EOC (R185, R201). -/
def State.mkCaravan (s : State) (r : Nat) (tail : Bool) (t : Nat) (l : List Slot) : Caravan :=
  let h0 := s.cqHeader r tail t l
  let h := { h0 with hchk := hchkOf h0 }
  let marks := List.replicate 16 HopMark.zero
  let tag := if h.auth then caravanTag (s.rg r).key h marks l else []
  let ws := caravanWords h marks l ++ tag
  { hdr := h, marks := marks, slots := l, tag := tag, words := ws.length, ending := eocSet (s.isC10 r) (halfOctets ws)
    lineBad := false }

end Sys2Proof.Machine
end

