-- ==== Sys2Proof/Machine/Caique.lean ====
section
/-! DEFINITION. The ring generator (08_caique_cycle.md): cut-off and departure of a cycle's caravans, image rotation, ring
start, schedules and epochs. -/

namespace Sys2Proof.Machine

/-! The cut-off (R170, R171, R240) -/

/-- What is left of a host-line pulse that is routed to a target, in ns (R167, R170). -/
def State.pulseLeft (s : State) (t : Nat) : Nat :=
  let wings := s.rf (Reg.TRIP_TGT_CFG t 0) 29 2
  let mask := (if wings % 2 = 1 then s.rd (Reg.TRIP_TGT_CFG t 3) else 0)
    ||| (if wings / 2 = 1 then s.rd (Reg.TRIP_TGT_CFG t 8) else 0)
  s.trip.hcmd.foldl (fun m p => if tst mask p.1 then max m (p.2 - s.clk.ns) else m) 0

/-- PW of an active remote trip point, in us: REM_PW, or what is left of TP_MIN or of a host-line pulse that holds the
target, rounded up (R170). -/
def State.tripPw (s : State) (t : Nat) : Nat :=
  let o := Tab.get Target.zero s.trip.tgt t
  let left := max (o.rise + s.tpMin t - s.clk.ns) (s.pulseLeft t)
  min 2000000 (max (s.rf (Reg.TRIP_TGT_CFG t 1) 0 16 * 1000) ((left + 999) / 1000))

/-- The trip records of a ring (R170, R175). -/
def State.tripRecs (s : State) (r : Nat) : List CmdRec :=
  if s.dev.st.live then
    (List.range 256).filterMap (fun i =>
      let t := 16 + i
      let node := s.rf (Reg.TRIP_TGT_CFG t 1) 22 6
      if s.tgtValid t && node / 16 == r && s.rb (Reg.TRIP_TGT_STATE (t / 32)) (t % 32) then
        some ⟨true, true, some node, tripRec node (s.rf (Reg.TRIP_TGT_CFG t 1) 16 6) (s.tripPw t), false⟩
      else none)
  else []

/-- The cut-off, 2 us before departure: draft outputs and trip records are copied (R170, R240). -/
def State.cutOff (s : State) (r : Nat) : State :=
  s.setRg r { s.rg r with cut := true, frozen := s.bridge.draft, tripRecs := s.tripRecs r }

/-- CARAVAN_CUTOFF (R240): once a cycle on a ring that runs, from 2 us before its departure on. -/
def State.caravanCutoff (s : State) (r : Nat) : State :=
  if s.ringState r = 0 || (s.rg r).cut then s
  else match s.cqNext r with
    | some t => if s.wingT (ringWing r) + 2000 * 65536 < t then s else s.cutOff r
    | none => s

/-! The image instant (R211, R238) -/

/-- Load one buffer of the words that a ring's DIR = 1 entries name from another (R238). -/
def State.copyBuf (s : State) (ents : List SEnt) (src dst : Nat) : State :=
  eachIn ents (fun e t => each (entLen e) (fun j u =>
    let a := imgAt (e.off + j) src
    let b := imgAt (e.off + j) dst
    { u with
      bridge.image := Tab.store 0 u.bridge.image b (Tab.get 0 u.bridge.image a)
      bridge.badImage := (if u.bridge.badImage.contains a then [b] else []) ++ u.bridge.badImage.filter (fun x => x != b) }) t) s

/-- DIR = 1 entries with an image (R207, R210). -/
def inputEnts (l : List SEnt) : List SEnt := l.filter (fun e => entDir e && decide (entTyp e < 2))

/-- Age of a position's inputs: cycles since the last valid one (R236). -/
def ageNode (ents : List SEnt) (rxd : List Nat) (p : Nat) (n : RNode) : RNode :=
  if ents.any (fun e => entDir e && posOf (entOwner e) == p && !entBcast e && rxd.contains e.i) then { n with age := 0 }
  else { n with age := n.age + 1 }

/-- Latches of a ring's nodes on the buffer that becomes FILL hold nothing any more (R239). -/
def endLatches (snap : Tab (Nat × Nat)) (r buf : Nat) : Tab (Nat × Nat) :=
  snap.map (fun p => if p.2.1 / 16 = r ∧ p.2.2 = buf then (p.1, p.2.1, 3) else p)

/-- The buffers of a ring rotate, once a cycle; a DIR = 1 slot with no valid copy counts (R211, R238). -/
def State.rotate (s : State) (r : Nat) : State :=
  let x := s.rg r
  let ents := s.bankOf r x.bank
  let miss := (x.sentE.filter (fun i => !x.rxd.contains i)).length
  let y := { x with
    rotated := true, latest := x.fill, aging := x.latest, fill := x.aging
    bufCyc := Tab.put x.bufCyc x.fill (x.cycle - 1)
    node := (List.range 16).foldl (fun t p => Tab.put t p (ageNode ents x.rxd p (Tab.get RNode.zero t p))) x.node }
  ({ s.setRg r y with bridge.snap := endLatches s.bridge.snap r x.aging }.cnt (Reg.CQ_CNT r 3) 0 32 miss).copyBuf
    (inputEnts ents) x.fill x.aging

/-- The image instant has come: 1 us after the later of the cycle's two caravans reached its far lane; where one does not come, it is
the start of the next cycle (R238). -/
def State.imageDue (s : State) (r : Nat) : Bool :=
  match (s.rg r).head.seen, (s.rg r).tail.seen with
  | some a, some b => decide (max a b + 1000 ≤ s.clk.ns)
  | _, _ => false

/-- IMAGE_ROTATE (R238). -/
def State.imageRotate (s : State) (r : Nat) : State :=
  if s.ringState r = 0 || (s.rg r).rotated || !s.imageDue r then s else s.rotate r

/-! Schedules (R185, R199, R207, R208) -/

/-- The entries of a schedule bank, as the words that hold them. -/
def State.bankWords (s : State) (r b : Nat) : List (Word × Word) :=
  (List.range 512).map (fun i => (s.rd (Reg.CQ_SCHED r b i 0), s.rd (Reg.CQ_SCHED r b i 1)))

/-- The entries that a bank would hold. -/
def schedEnts (l : List (Word × Word)) : List SEnt :=
  ((List.range l.length).zip l).filterMap (fun p => if tst p.2.1 31 then some ⟨p.1, p.2.1, fld p.2.2 0 21⟩ else none)

/-- Tag words of a ring's caravans: six where the ring runs authenticated, or, before it runs, where the manifest asks for it
(R185, R203). -/
def State.tagLen (s : State) (r : Nat) : Nat :=
  if (if s.ringState r = 0 then s.rb (Reg.CQ_RING_CTRL r) 29 else (s.rg r).auth) then 6 else 0

/-- Time to transmit a caravan of some words with its tag, in 1/10 ns: 1.6 ns a word in C10, 6.4 ns in C3 (R182, R185). -/
def State.txTime (s : State) (r words : Nat) : Nat := (words + s.tagLen r) * (if s.isC10 r then 16 else 64)

/-- Declared hops of a ring: link delay and residence of the node behind it, in 1/16 ns (R208). -/
def State.hopsOf (s : State) (r : Nat) : List (Nat × Nat) :=
  ((s.man.hops.find? (fun p => p.1 == r)).map (fun p => p.2)).getD []

/-- CORR at the input of the last of some nodes in path order: every link on the way, and every residence but the last (R197). -/
def pathCorr (l : List (Nat × Nat)) : Nat := (l.map (fun p => p.1)).sum + ((l.dropLast).map (fun p => p.2)).sum

/-- Largest CORR of a segment whose hops are given from the device lane outwards, with the loop back to its first node
(R199, R213). -/
def loopCorr (l : List (Nat × Nat)) : Nat :=
  pathCorr l + ((l.drop 1).map (fun p => p.1)).sum + ((l.drop 1).map (fun p => p.2)).sum

/-- APPLY_LEAD and Tc hold for a caravan of some words and a CORR in 1/16 ns (R185, R199). -/
def State.limitsOk (s : State) (r words corr : Nat) : Bool :=
  let tx := s.txTime r words
  decide ((tx + 20000) * s.cqDen r ≤ s.cqNum r * 10)
    && decide (tx * 16 + corr * 10 + 320000 ≤ s.rf (Reg.CQ_APPLY_LEAD r) 0 16 * 160)

/-- The hops of the nodes of a segment, from its device lane outwards: the head's first `n` nodes, or all nodes behind them
for the tail, whose links lie on the other side of each node. -/
def segHops (hops : List (Nat × Nat)) (n : Nat) (tail : Bool) : List (Nat × Nat) :=
  if tail then
    let links := (hops.map (fun p => p.1)).drop (n + 1)
    let res := ((hops.map (fun p => p.2)).drop n).take links.length
    (links.zip res).reverse
  else hops.take n

/-- Words of the slots of some entries (R187). -/
def entWords (l : List SEnt) : Nat := (l.map (fun e => entLen e + 4)).sum

/-- Words of a lane's longest caravan in the wrapped layout of a break behind the first `n` nodes: the BULK slots that R214 puts in, and
of the deferred ones those that R216 carries, wherever the round robin stands (R208, R214, R216). -/
def State.wrapWords (s : State) (r n : Nat) (ents : List SEnt) (tail : Bool) : Nat :=
  let seg (e : SEnt) : Bool := if tail then decide (n ≤ posOf (entOwner e)) else decide (posOf (entOwner e) < n)
  let fixed := ents.filter (fun e => entBcast e || (entTyp e != 1 && seg e))
  let (inn, left, rest) :=
    bulkPrefix (s.rf (Reg.CQ_WRAP_BULK r) 0 16) (byPrio (ents.filter (fun e => !entBcast e && entTyp e == 1 && seg e)))
  let defer := ents.filter (fun e => rest.contains e)
  let more := (List.range defer.length).map (fun i => entWords (bulkFit left (defer.drop i ++ defer.take i)))
  92 + entWords fixed + entWords inn + more.foldl max 0

/-- A schedule keeps the rules of R208. -/
def State.schedOk (s : State) (r : Nat) (l : List (Word × Word)) : Bool :=
  let ents := schedEnts l
  let hops := s.hopsOf r
  let n := hops.length - 1
  let words (b : Bool) : Nat :=
    92 + entWords (ents.filter (fun e => if b then entOnB e else entOnA e))
  let corr (t : Bool) : Nat := pathCorr (segHops hops (if t then 0 else n) t)
  decide (l.length ≤ 512)
    && ents.all (fun e =>
      match entTyp e with
      | 1 => entOnA e != entOnB e
      | 4 => entOnA e != entOnB e
      | _ => entOnA e && entOnB e)
    && (match ents with
      | e :: _ => e.i == 0 && entTyp e == 2 && entBcast e && decide (64 ≤ entLen e)
      | [] => false)
    && ((ents.filter (fun e => entTyp e == 3)).map (fun e => entLen e) == [5])
    && ((ents.filter (fun e => entTyp e == 5)).isEmpty || (ents.filter (fun e => entTyp e == 5)).map (fun e => entLen e) == [5])
    && [false, true].all (fun t => s.limitsOk r (words t) (corr t))
    && (List.range (n + 1)).all (fun k => [false, true].all (fun t =>
      s.limitsOk r (s.wrapWords r k ents t) (loopCorr (segHops hops k t))))

/-- A joining node's slots are in a schedule (R223). -/
def hasSlots (ents : List SEnt) (p : Nat) : Bool := ents.any (fun e => !entBcast e && posOf (entOwner e) == p)

/-! Node states (R231) -/

/-- Set STATE of a node and count the admitted ones (R229, R231). -/
def State.nodeTo (s : State) (r p v : Nat) : State :=
  let s1 := s.wf (Reg.CQ_NODE_STAT r p) 29 3 v
  s1.wf (Reg.CQ_RING_STAT r) 0 5 ((List.range 16).filter (fun q => s1.rf (Reg.CQ_NODE_STAT r q) 29 3 == 2)).length

/-- A node leaves ADMITTED for a state other than by reset: its requests are retired (R249). -/
def State.nodeOut (s : State) (r p v : Nat) : State :=
  let s1 := s.nodeTo r p v
  if s.rf (Reg.CQ_NODE_STAT r p) 29 3 = 2 then s1.retireNode (16 * r + p) 3 else s1

/-- A node is admitted from an epoch: the ADMIT record is queued, RSEQ starts again (R193, R223, R241). -/
def State.admitNode (s : State) (r p : Nat) (eui : BitVec 64) (epoch : Nat) : State :=
  let s1 := s.cmdRec r ⟨true, true, some (16 * r + p),
    recWords 6 (halvesOf 4 eui.toNat ++ [BitVec.ofNat 16 (16 * r + p), BitVec.ofNat 16 epoch]), false⟩
  let s2 := s1.setRg r { s1.rg r with node := Tab.put (s1.rg r).node p { RNode.zero with eui := some eui } }
  (((s2.nodeTo r p 2).admitQueue (16 * r + p)).cnt (Reg.CQ_CNT r 5) 0 32 1).ringEvent r 2

/-- The steward reaches a ring's schedule registers: a ring of its own wing, or of the other over the inter-wing link (R15). -/
def State.mastersRing (s : State) (r : Nat) : Bool := s.timeWing == ringWing r || !s.iwlDown

/-- An epoch switch is committed (R207-R209): the inactive bank is written, with EPOCH + 1. A commit of a schedule that R208 refuses is
refused; one while a switch is pending is refused and tried again after the swap. Nodes that waited for their slots are admitted from
the new epoch (R223). -/
def State.commitEpoch (s : State) (r : Nat) (sched : List (Word × Word)) : State :=
  if !s.mastersRing r || s.ringState r = 0 || !s.schedOk r sched then s
  else if s.rb (Reg.CQ_RING_STAT r) 22 then s.setRg r { s.rg r with retry := some sched }
  else
    let x := s.rg r
    let b := 1 - x.bank
    let s1 := each 512 (fun i t =>
      let e := sched.getD i (0, 0)
      (t.wr (Reg.CQ_SCHED r b i 0) e.1).wr (Reg.CQ_SCHED r b i 1) e.2) s
    let next := (s.rf (Reg.CQ_EPOCH r) 0 16 + 1) % 65536
    let s2 := ((s1.wf (Reg.CQ_EPOCH r) 16 16 next).wb (Reg.CQ_RING_STAT r) 22 true).setRg r { x with swCnt := 8 }
    each 16 (fun p t =>
      match (Tab.get RNode.zero (t.rg r).node p).joining with
      | some eui => if hasSlots (schedEnts sched) p then t.admitNode r p eui next else t
      | none => t) s2

/-! Epochs (R209) -/

/-- The steward adds the slot sets of the nodes that wait for theirs, in a new epoch (R223). -/
def State.addSets (s : State) (r : Nat) : State :=
  let ws := s.bankWords r (s.rg r).bank
  let wait := (List.range 16).filter (fun p => (Tab.get RNode.zero (s.rg r).node p).joining.isSome && !hasSlots (schedEnts ws) p)
  let sets := (s.man.slotSets.filter (fun q => wait.any (fun p => q.1 == 16 * r + p))).flatMap (fun q => q.2)
  if sets.isEmpty || s.rb (Reg.CQ_RING_STAT r) 22 then s else s.commitEpoch r (ws.filter (fun e => tst e.1 31) ++ sets)

/-- After a swap, the commit refused before it is made, or the slots that nodes wait for are added (R209, R223). -/
def State.retryCommit (s : State) (r : Nat) : State :=
  match (s.rg r).retry with
  | some l => (s.setRg r { s.rg r with retry := none }).commitEpoch r l
  | none => s.addSets r

/-- The banks swap at the end of the countdown (R209). -/
def State.swapBanks (s : State) (r : Nat) : State :=
  let next := (s.rd (Reg.CQ_EPOCH r)).toNat / 65536
  ((((s.setRg r { s.rg r with bank := 1 - (s.rg r).bank }).wf (Reg.CQ_EPOCH r) 0 16 next).wb (Reg.CQ_RING_STAT r) 22
    false).ringEvent r 3).retryCommit r

/-- The countdown has ended: a switch is pending and the caravan with SW_CNT = 1 has departed (R209). -/
def State.swapDue (s : State) (r : Nat) : Bool := s.rb (Reg.CQ_RING_STAT r) 22 && (s.rg r).swCnt == 0

/-- EPOCH_SWAP (R209): at the cycle boundary, when the next cycle starts. -/
def State.epochSwap (s : State) (r : Nat) : State :=
  let due := match s.cqDue r with
    | some t => decide (t ≤ s.wingT (ringWing r))
    | none => false
  if s.ringState r ≠ 0 && s.swapDue r && due then s.swapBanks r else s

/-! Departure (R185, R204-R217, R230) -/

/-- Set CQ_CMD_RESULT (R230). -/
def State.cmdResult (s : State) (r v : Nat) : State := s.wf (Reg.CQ_CMD_RESULT r) 29 3 v

/-- Repair count of the cycle that ends: both second-pass entries have reported IN_OK, a device lane that takes the part of
a looping node reading the probes itself (R213, R217, R221). -/
def State.countRepair (s : State) (r : Nat) : State :=
  let x := s.rg r
  let ok (l : Lane) : Bool := if l.loop.isSome then l.ok2 else l.brk && l.seen.isSome && l.rx.isSome
  let n := if s.rb (Reg.CQ_RING_STAT r) 29 && ok x.head && ok x.tail then
      capAt 100 (s.rf (Reg.CQ_RING_STAT r) 5 7 + 1) else 0
  (s.wf (Reg.CQ_RING_STAT r) 5 7 n).wb (Reg.CQ_RING_STAT r) 28 (n == 100 && !s.rb (Reg.CQ_RING_STAT r) 27)

/-- The layout of a lane's caravan: all CMD slots, or the wrapped layout, or the entries marked for its channel; the WAKE
slot only while WAKE is commanded. Answers the entries, those deferred and those of them carried. -/
def State.layout (s : State) (r : Nat) (tail : Bool) (ents : List SEnt) : List SEnt × List SEnt × List SEnt :=
  let x := s.rg r
  let es := ents.filter (fun e => entTyp e != 5 || decide (0 < x.wakeLeft))
  if s.ringState r = 3 then (es.filter (fun e => entTyp e == 2), [], [])
  else if x.wrapTx then wrapLayout es x tail (s.rf (Reg.CQ_WRAP_BULK r) 0 16)
  else (es.filter (fun e => if tail then entOnB e else entOnA e), [], [])

/-- Count and show the deferred entries of a cycle (R216). -/
def State.showDefer (s : State) (r : Nat) (deferred carried : List SEnt) : State :=
  let was := s.rb (Reg.CQ_RING_STAT r) 26
  let now := !deferred.isEmpty
  let s1 := each 16 (fun p t =>
    let mine (e : SEnt) : Bool := posOf (entOwner e) == p
    let t1 := t.wb (Reg.CQ_NODE_STAT r p) 28 (deferred.any mine)
    if deferred.any (fun e => mine e && !carried.contains e) then t1.cnt (Reg.CQ_NODE_DEFER r p) 0 32 1 else t1) s
  let s2 := s1.wb (Reg.CQ_RING_STAT r) 26 now
  if was = now then s2 else s2.ringEvent r 4

/-- A BYPASS record (R190). -/
def CmdRec.isBypass (c : CmdRec) : Bool := c.words.head? == some 0x0201

/-- The records of a cycle, numbered with those that wait first: BYPASS records, which no traffic holds up, FAIL_NOW where it is due, the
trip records, then the commands that wait (R170, R190, R220, R225, R230). -/
def State.cycleRecs (s : State) (r : Nat) : List (Nat × CmdRec) :=
  let x := s.rg r
  let fail : List CmdRec := if s.ringState r = 3 || 0 < x.failNow then [⟨true, true, none, recWords 5 [], false⟩] else []
  let q := (List.range x.cmdQ.length).zip x.cmdQ
  let own := fail ++ x.tripRecs
  q.filter (fun p => p.2.isBypass) ++ ((List.range own.length).map (fun i => x.cmdQ.length + i)).zip own
    ++ q.filter (fun p => !p.2.isBypass)

/-- What of the waiting commands is still to be sent, by their numbers in the cycle. -/
def cmdLeft (placedA placedB : List Nat) : Nat → List CmdRec → List CmdRec
  | _, [] => []
  | i, c :: t =>
    let c1 := { c with onA := c.onA && !placedA.contains i, onB := c.onB && !placedB.contains i }
    if c1.onA || c1.onB then c1 :: cmdLeft placedA placedB (i + 1) t else cmdLeft placedA placedB (i + 1) t

/-- A lane sends: the caravan of the entries given goes on its outgoing channel and ends at `eoc`, unless an isolated span reaches the
lane (R220). Before the first SOC has come, the cycle's start stands for it (R212, log entry 166). -/
def laneSend (stop : Bool) (c : Caravan) (ents : List SEnt) (now eoc : Nat) (l : Lane) : Lane :=
  { l with
    sent0 := l.sent, sent := if stop then none else some c, seen := none, ok2 := false
    soc := some (l.soc.getD now), eocAt := eoc, ents := ents.map (fun e => e.i) }

/-- The number of positions of a ring: one more than the highest position listed (R181, R228). -/
def State.ringN (s : State) (r : Nat) : Nat :=
  (List.range 16).foldl (fun n p => if s.rb (Reg.CQ_NODE_LIST r p 2) 31 then p + 1 else n) 0

/-- An isolated span reaches the lane, which stops sending (R220). -/
def State.laneStopped (s : State) (r : Nat) (tail : Bool) : Bool :=
  match (s.rg r).iso with
  | some (lo, hi) => if tail then decide (s.ringN r ≤ hi + 1) else lo == 0
  | none => false

/-- Entry of the last deferred slot carried (R216). -/
def lastCarried (rr : Nat) (carried : List SEnt) : Nat :=
  let above := carried.filter (fun e => decide (e.i ≤ rr))
  let l := if above.isEmpty then carried else above
  l.foldl (fun _ e => e.i) rr

/-- Build and send both caravans of the cycle. Toll step 5 defers every BULK slot in the cycles with an odd CYCLE (R445). -/
def State.sendBoth (s : State) (r t : Nat) : State :=
  let x := s.rg r
  let ents := s.bankOf r x.bank
  let hold := s.toll.steps.contains 5 && tst x.cycle 0
  let thin (l : List SEnt) : List SEnt := if hold then l.filter (fun e => entTyp e != 1) else l
  let (ea0, da, ca0) := s.layout r false ents
  let (eb0, db, cb0) := s.layout r true ents
  let (ea, ca, eb, cb) := (thin ea0, thin ca0, thin eb0, thin cb0)
  let tolled := if s.toll.steps.contains 5 && s.ringState r != 3 then ents.filter (fun e => entTyp e == 1) else []
  let recs := s.cycleRecs r
  let cmds (l : List SEnt) : List SEnt := l.filter (fun e => entTyp e == 2)
  let (pa, ia) := fillCmd (cmds ea) (recs.filter (fun q => q.2.onA))
  let (pb, ib) := fillCmd (cmds eb) (recs.filter (fun q => q.2.onB))
  let (ac, s1) := s.fillAcyc (ea ++ eb.filter (fun e => !ea.contains e))
  let wake := s.wakeWords r
  let sa := ea.map (slotFor x x.cycle wake (pa ++ ac))
  let sb := eb.map (slotFor x x.cycle wake (pb ++ ac))
  let inn := ((ea ++ eb).filter (fun e => entDir e && entTyp e != 3)).map (fun e => e.i)
  let left := cmdLeft ia ib 0 x.cmdQ
  let apply := s.applyAt r t
  let eoc (l : List Slot) : Nat := s.clk.ns + (s.txTime r (92 + areaWords l) + 9) / 10
  let y := { x with
    head := laneSend (s.laneStopped r false) (s.mkCaravan r false t sa) ea s.clk.ns (eoc sa) x.head
    tail := laneSend (s.laneStopped r true) (s.mkCaravan r true t sb) eb s.clk.ns (eoc sb) x.tail
    cmdQ := left
    applyQ := x.applyQ.map (fun p => match p.2 with
      | none => if left.any (fun c => c.words == nodeRec 9 p.1 0) then p else (p.1, some apply)
      | some _ => p)
    rrHead := lastCarried x.rrHead ca, rrTail := lastCarried x.rrTail cb
    sentE := inn.eraseDups, rxd := [], rotated := false, cut := false, tripRecs := []
    wakeLeft := x.wakeLeft - 1 }
  (s1.setRg r y).showDefer r (da ++ db ++ tolled) (ca ++ cb ++ tolled.filter (fun e => ea.contains e || eb.contains e))

/-- A span is isolated once its BYPASS records have departed (R220): GUARD, its nodes ISOLATED, the wrapped layout. With a span already
isolated, everything between the two is cut off as well (log entry 77). Found again within 1 h of a RESTORE, the span can be restored
no more (R221). -/
def State.isolateNow (s : State) (r : Nat) (sp : Nat × Nat) : State :=
  let x := s.rg r
  let again := x.restored.any (fun q => decide ((q.1, q.2.1) = sp) && decide (s.clk.ns < q.2.2 + 3600 * 1000000000))
  let hull := match x.iso with
    | some (a, b) => (min a sp.1, max b sp.2)
    | none => sp
  let s1 := s.setRg r { x with
    iso := some hull, isoWait := none, wrapTx := true, banned := if again then sp :: x.banned else x.banned }
  let s2 := each 16 (fun p t =>
    if sp.1 ≤ p ∧ p ≤ sp.2 ∧ t.rb (Reg.CQ_NODE_LIST r p 2) 31 then (t.nodeOut r p 5).ringEvent r 2 else t)
    ((s1.wb (Reg.CQ_RING_STAT r) 27 true).wb (Reg.CQ_RING_STAT r) 28 false)
  s2.ringEvent r 1

/-- A waiting span is isolated when its records have departed (R220). -/
def State.isolateSent (s : State) (r : Nat) : State :=
  match (s.rg r).isoWait with
  | some sp => if (s.rg r).cmdQ.any (fun c => c.isBypass) then s else s.isolateNow r sp
  | none => s

/-- The trigger's part of a ring after a departure: the firing is taken, or one more period has been carried on (R204). -/
def Ring.trgTaken (x : Ring) : Ring :=
  match x.trgNext with
  | some t => if x.rephase = 0 && !x.trgStop then { x with trgLast := some t, trgN := 0, trgNext := none } else { x with trgN := x.trgN + 1, trgNext := none }
  | none => { x with trgN := x.trgN + 1 }

/-- After departure: the countdown, the command in progress, the next cycle instant, what is left of a step. -/
def State.afterDepart (s : State) (r : Nat) : State :=
  let x := s.rg r
  let unw := x.unwrapping.isNone && (x.busy == some 1 || x.busy == some 2)
    && !x.cmdQ.any (fun c => c.words.head? == some 0x0301)
  let done := x.busy.isSome && !x.cmdQ.any (fun c => c.cmd) && x.wakeLeft == 0
  let lim : Int := 500 * 65536
  let moved : Int := if x.rephase < -lim then x.rephase + lim else if lim < x.rephase then x.rephase - lim else 0
  let y := { x.trgTaken with
    cycle := x.cycle + 1, k := x.k + 1, swCnt := x.swCnt - 1, rephase := moved
    busy := if done then none else x.busy
    wrapTx := x.wrapTx && !unw
    unwrapping := if unw then some x.cycle else x.unwrapping
    head := if unw then { x.head with brk := !x.head.sig } else x.head
    tail := if unw then { x.tail with brk := !x.tail.sig } else x.tail
    dying := x.dying - 1, failNow := x.failNow - 1 }
  let s1 := (s.setRg r y).wr (Reg.CQ_CYCLE_LO r) (x.cycle.setWidth 32)
  let s2 := if done then s1.cmdResult r 0 else s1
  let s3 := if x.rephase = 0 then s2 else s2.cnt (Reg.CQ_CNT r 7) 0 32 1
  let s4 := if s3.rb (Reg.CQ_RING_STAT r) 23 && moved == 0 then (s3.wb (Reg.CQ_RING_STAT r) 23 false).ringEvent r 7 else s3
  let s5 := (s4.ageQueues r).isolateSent r
  let s6 := if s5.ringState r = 1 then s5.setRingState r 2 else s5
  if (0 < x.dying && y.dying == 0) || (0 < x.failNow && y.failNow == 0) then s6.ringStop r else s6

/-- A cycle begins: what the cycle before has left is closed, then both caravans depart (R185). -/
def State.departAt (s : State) (r t : Nat) : State :=
  let s1 := if (s.rg r).cut then s else s.cutOff r
  let s2 := if (s1.rg r).rotated then s1 else s1.rotate r
  let s3 := if s2.swapDue r then s2.swapBanks r else s2
  ((s3.countRepair r).sendBoth r t).afterDepart r

/-- A caravan departs (R185): at the ring's departure instant. -/
def State.cqDepart (s : State) (r : Nat) : State :=
  if s.ringState r = 0 then s
  else
    match s.cqDue r with
    | some t => if s.wingT (ringWing r) < t then s else s.departAt r t
    | none => s

/-- The trigger of a ring stops firing: the ring carries on at its last period (R204). -/
def State.triggerSourceStop (s : State) (r : Nat) : State :=
  let x := s.rg r
  if s.ringState r ≠ 0 && s.trgRing r && x.trgLast.isSome && !x.trgStop then
    (s.setRg r { x with trgStop := true }).ringEvent r 7
  else s

/-! Ring start (R202, R203, R205) -/

/-- A ring master key: the octets of the Boxwood slot that the manifest assigns to the ring (R202). -/
def State.ringMaster (s : State) (r : Nat) : List Octet :=
  match s.man.ringKey.find? (fun p => p.1 == r) with
  | some p => ((Tab.find s.sec.box p.2).map (fun k => k.key)).getD []
  | none => []

/-- The octets that the PRF takes (R202): the counter block 1, the label CQRK, the octet 0, the context DEV_EUI, RING and SESSION, and the
length of the output in bits; the octet 0 and the length are those of SP 800-108 (log entry 167). -/
def kdfOctets (eui : BitVec 64) (r : Nat) (ses : Word) : List Octet :=
  [0, 0, 0, 1, 0x43, 0x51, 0x52, 0x4B, 0] ++ halvesOctets (halvesOf 4 eui.toNat) ++ [BitVec.ofNat 8 r]
    ++ halvesOctets (halvesOf 2 ses.toNat) ++ [0, 0, 1, 0]

/-- The key of a ring for a session (R202). -/
def State.ringKeyFor (s : State) (r : Nat) (ses : Word) : Nat :=
  Machine.keyNum (Config.hmacSha256 (s.ringMaster r) (kdfOctets s.devEui r ses))

/-- A lane at the start of a ring: nothing sent or received yet; its signal and link delays stay. -/
def Lane.fresh (l : Lane) : Lane := { Lane.zero with sig := l.sig, brk := !l.sig, dly := l.dly, echo := l.echo, setTx := l.setTx }

/-- A ring starts (R203, R205): the session advances, the key is derived, bank 0 and EPOCH 0 are loaded, and the first caravan is set
for the first cycle instant at least 200 us ahead. -/
def State.ringBegin (s : State) (r : Nat) (mramOk : Bool) : State :=
  if s.ringState r ≠ 0 || !s.rb (Reg.CQ_RING_CTRL r) 31 then s
  else
    let ctr := Tab.get 0 s.mram.session r
    let ok := mramOk && !s.mram.sessBad.contains r && ctr != 0xFFFFFFFF
    let want := s.rb (Reg.CQ_RING_CTRL r) 29
    if !ok && !s.rb (Reg.CQ_RING_CTRL r) 28 then s
    else
      let ses := if ok then ctr + 1 else ctr
      let key := s.ringKeyFor r ses
      let x := s.rg r
      let first := s.cqFirst r (s.wingT (ringWing r) + 200000 * 65536)
      let y := { Ring.zero with
        auth := want && ok, key := key, k := first, notBefore := s.clk.ns + 200000, banned := x.banned, restored := x.restored
        echoId := x.echoId, node := x.node, head := x.head.fresh, tail := x.tail.fresh }
      let s1 := ((({ s with mram.session := Tab.put s.mram.session r ses }.setRg r y).wr (Reg.CQ_SESSION r) ses).wr
        (Reg.CQ_EPOCH r) 0).ringClear r
      let s2 := if ok then s1
        else ((s1.wb (Reg.CQ_RING_STAT r) 25 true).setAlarm 29 true).ringEvent r 6
      s2.setRingState r 1

/-- RING_START (R205): a step of CONFIGURING that the running steward takes. -/
def State.ringStart (s : State) (r : Nat) (mramOk : Bool) : State :=
  if s.dev.st == .configuring && s.stewardRuns then s.ringBegin r mramOk else s

/-- EPOCH_COMMIT (R207-R209): the steward's writes of the schedule and its commit, a decision (R20, R21). Each write of a fenced steward
is discarded and counted: two words for each entry, and the commit (R31). -/
def State.epochCommit (s : State) (r : Nat) (w : Wing) (sched : List (Word × Word)) : State :=
  if !s.stewUp w then s
  else if s.fenced w then s.fenceHits (2 * sched.length + 1)
  else if s.steward = some w then s.mirrorOr (.epoch r sched) (fun u => u.commitEpoch r sched)
  else s

/-! The meanings of the rows -/

/-- CARAVAN_CUTOFF (R240): 2 µs before departure the ring generator copies draft outputs and trip records into the caravan. -/
def execCaravanCutoff (r : Nat) (s : State) : Out :=
  live (caravanCutoffOk r) s (s.caravanCutoff r)

/-- IMAGE_ROTATE (R238): At the ring's image instant the input buffers rotate FILL, LATEST and AGING. -/
def execImageRotate (r : Nat) (s : State) : Out :=
  live (imageRotateOk r) s (s.imageRotate r)

/-- RING_START (R205): The steward advances the session, loads bank 0 and sends the first caravan at least 200 µs ahead. -/
def execRingStart (r : Nat) (mramOk : Bool) (s : State) : Out :=
  live (ringStartOk r) s (s.ringStart r mramOk)

/-- EPOCH_COMMIT (R209): The steward commits the inactive schedule bank with EPOCH + 1 and the countdown begins. -/
def execEpochCommit (r : Nat) (w : Wing) (sched : List (BitVec 32 × BitVec 32)) (s : State) : Out :=
  live (epochCommitOk r) s (s.epochCommit r w sched)

/-- EPOCH_SWAP (R209): The SW_CNT countdown ends and the banks swap at the cycle boundary. -/
def execEpochSwap (r : Nat) (s : State) : Out :=
  live (epochSwapOk r) s (s.epochSwap r)

/-- TRIGGER_SOURCE_STOP (R204): A ring's trigger stops firing and the ring carries on at the last period, raising CQ_r_STATE. -/
def execTriggerSourceStop (r : Nat) (s : State) : Out :=
  live (triggerSourceStopOk r) s (s.triggerSourceStop r)

end Sys2Proof.Machine
end

