-- ==== Sys2Proof/Machine/CaiqueRx.lean ====
section
/-! DEFINITION. What a device lane receives and what the device makes of it (07_caique_link.md, 08_caique_cycle.md): validity,
slots, hop marks, wrap, the Quickset guard, membership, echoes and the ring commands. -/

namespace Sys2Proof.Machine

/-! Validity (R195) -/

/-- EOC follows the last slot word, or the tag where there is one, and no poisoned end (R183, R195). -/
def eocGood (c10 : Bool) (c : Caravan) : Bool :=
  c.words == c.hdr.total + (if c.hdr.auth then 6 else 0) && isEoc c10 (2 * c.words) c.ending

/-- The conditions of R195 that do not depend on what came before and are not the tag's. -/
def State.wellFormedCaravan (s : State) (r : Nat) (c : Caravan) : Bool :=
  c.hdr.version == 1 && c.hdr.ring == r && c.hdr.hchk == hchkOf c.hdr && !c.lineBad && eocGood (s.isC10 r) c
    && decide (92 + areaWords c.slots ≤ c.hdr.total)

/-- The tag checks under the ring's key, when there is one (R195, R201). -/
def State.tagGood (s : State) (r : Nat) (c : Caravan) : Bool :=
  !c.hdr.auth || c.tag == caravanTag (s.rg r).key c.hdr c.marks c.slots

/-- SOC and CYCLE follow the previous valid caravan, if one has come since signal was lost; every invalid or missing caravan since then
counts as one cycle, so that it loses that cycle alone (R195, R215, log entry 168). -/
def State.inSequence (s : State) (r : Nat) (l : Lane) (c : Caravan) : Bool :=
  match l.last with
  | some (cyc, at_) =>
    let n := l.inv + 1
    let (p, d) := s.cqPer r
    c.hdr.cycle == cyc + BitVec.ofNat 48 n && decide (at_ * d + n * p ≤ (s.clk.ns + 1000) * d)
      && decide (s.clk.ns * d ≤ (at_ + 1000) * d + n * p)
  | none => true

/-- A probe: a copy that a looping node sends out of the port that faces the break shows at the lane the channel that the lane itself
sends (R180, R213). -/
def isProbe (tail : Bool) (c : Caravan) : Bool := c.hdr.ch != bitOf (!tail)

/-- The caravan came back to the lane that sent it: a node looped it (R213). -/
def cameBack (tail : Bool) (c : Caravan) : Bool :=
  !isProbe tail c && (List.range 16).any (fun p => let m := c.marks.getD p HopMark.zero; m.present && m.loop)

/-! Wrap (R213, R214, R217) -/

/-- WRAPPED, WRAP_U and WRAP_D follow the looping positions seen at the lanes and breaks at the device hops; a change of
WRAPPED raises CQ_r_WRAP, and the wrapped layout is sent from the next cycle (R214, R217). -/
def State.showWrap (s : State) (r : Nat) : State :=
  let x := s.rg r
  let code (l : Lane) : Nat := match l.loop with
    | some p => p
    | none => if l.brk then 0x10 else 0x1F
  let wrapped := x.head.loop.isSome || x.tail.loop.isSome
  let was := s.rb (Reg.CQ_RING_STAT r) 29
  let s1 := ((s.wb (Reg.CQ_RING_STAT r) 29 wrapped).wf (Reg.CQ_RING_STAT r) 17 5 (if wrapped then code x.head else 0x1F)).wf
    (Reg.CQ_RING_STAT r) 12 5 (if wrapped then code x.tail else 0x1F)
  if wrapped = was then s1
  else
    (s1.setRg r { x with
      wrapTx := wrapped || x.iso.isSome, unwrapping := if wrapped then x.unwrapping else none }).ringEvent r 0

/-- The looping position that a caravan shows at a lane, if any (R213). -/
def loopMark (c : Caravan) : Option Nat :=
  (List.range 16).find? (fun p => let m := c.marks.getD p HopMark.zero; m.present && m.loop)

/-- Read the LOOP bits of a caravan (R214): the position that loops, and what its second-pass entry reports (R217). A ring
that loops after an UNWRAP has taken effect has broken again (R217). -/
def State.readLoop (s : State) (r : Nat) (tail : Bool) (c : Caravan) : State :=
  let x := s.rg r
  let p := loopMark c
  let l := { laneOf x tail with
    loop := p, ok2 := match p with
      | some q => (c.marks.getD q HopMark.zero).inOk
      | none => false }
  let again := p.isSome && (match x.unwrapping with
    | some k => decide (k.toNat < c.hdr.cycle.toNat)
    | none => false)
  let y := withLane x tail l
  (s.setRg r (if again then { y with wrapTx := true, unwrapping := none } else y)).showWrap r

/-! Invalid caravans and breaks (R212, R232) -/

/-- No entry with PRESENT = 1 has come from a position in one more caravan of the lane's channel, or one has (R224). -/
def missMark (tail present : Bool) (n : RNode) : RNode :=
  if tail then { n with missA := if present then 0 else n.missA + 1 }
  else { n with missB := if present then 0 else n.missB + 1 }

/-- Count marks for all positions of a ring. -/
def Ring.marked (x : Ring) (tail : Bool) (present : Nat → Bool) : Ring :=
  { x with node := (List.range 16).foldl (fun t p =>
      Tab.put t p (missMark tail (present p) (Tab.get RNode.zero t p))) x.node }

/-- A caravan at a lane is invalid or missing: three in a row are a break, after which the next caravan is judged as a first one (R212,
R232, log entry 168). -/
def State.invalidAt (s : State) (r : Nat) (tail : Bool) : State :=
  let x := s.rg r
  let l := laneOf x tail
  let off := decide (3 ≤ l.inv + 1)
  let l1 := { l with inv := l.inv + 1, last := if off then none else l.last, brk := l.brk || off, rx := none }
  ((s.setRg r (Ring.marked (withLane x tail l1) tail (fun _ => false))).cnt (Reg.CQ_CNT r (if tail then 0 else 1)) 0 32
    1).showWrap r

/-- CARAVAN_MISSING (R212): 1 us after one Tc from the previous SOC, or from where a missing one was due. -/
def State.caravanMissing (s : State) (r : Nat) (tail : Bool) : State :=
  if s.ringState r = 0 then s
  else
    match (laneOf (s.rg r) tail).soc with
    | some a =>
      if s.cqPassed r 1 a 1000 then
        (s.onLane r tail (fun l => { l with soc := some (a + (s.cqPer r).1 / max 1 (s.cqPer r).2) })).invalidAt r tail
      else s
    | none => s

/-- LANE_SIGNAL_LOSS (R182, R212). -/
def State.laneSignalLoss (s : State) (r : Nat) (tail : Bool) : State :=
  if s.rb (Reg.CQ_RING_CTRL r) 31 then
    (s.onLane r tail (fun l => { l with sig := false, brk := true, last := none, rx := none })).showWrap r
  else s

/-- LANE_SIGNAL_RETURN (R195): the next caravan is judged as the first since signal was lost. -/
def State.laneSignalReturn (s : State) (r : Nat) (tail : Bool) : State :=
  if s.rb (Reg.CQ_RING_CTRL r) 31 then s.onLane r tail (fun l => { l with sig := true, last := none, inv := 0 }) else s

/-! Slots (R189, R210, R211, R243) -/

/-- Walk the messages of a DIR = 1 ACYC payload (R243). -/
def State.acycParse : Nat → State → Nat → List Half → State
  | 0, s, _, _ => s
  | fuel + 1, s, node, l =>
    match l with
    | [] => s
    | h :: t =>
      if fld h 12 4 = 8 then State.acycParse fuel (s.ack node (BitVec.ofNat 11 (fld h 0 11))) node t
      else if fld h 12 4 = 9 then
        match t with
        | tag :: st :: d =>
          let n := fld st 0 9
          if d.length < n then s
          else
            State.acycParse fuel (s.rdata node (BitVec.ofNat 11 (fld h 0 11)) (BitVec.ofNat 11 (fld tag 0 11))
              (BitVec.ofNat 4 (fld st 12 4)) (d.take n)) node (d.drop n)
        | _ => s
      else s

/-- A valid copy of a DIR = 1 slot arrives first in its cycle: its payload goes to the FILL buffer, or to the bridge (R210,
R238, R243). -/
def State.takeSlot (s : State) (r : Nat) (e : SEnt) (l : List Half) : State :=
  let x := s.rg r
  let s1 := s.setRg r { x with rxd := e.i :: x.rxd }
  if entTyp e = 4 then State.acycParse l.length s1 (entOwner e) l
  else if entTyp e < 2 then
    eachIn ((List.range l.length).zip l) (fun p t => t.imageWrite (imgAt (e.off + p.1) x.fill) p.2) s1
  else s1

/-- One slot of a valid caravan, with the entry that the device sent in its place. A failed check counts, but for a slot that its owner
has not written; a DIR = 1 slot whose header is the entry's is taken (R189, R210, R211, R232). -/
def State.readSlot (s : State) (r : Nat) (cycle : BitVec 48) (e : Option SEnt) (x : Slot) : State :=
  if !scrcOk x cycle then (if unwritten x cycle then s else s.cnt (Reg.CQ_CNT r 2) 0 32 1)
  else match e with
    | some y =>
      if x.dir && !x.bcast && entDir y && entOwner y == x.owner && entTyp y == x.typ && entLen y == x.payload.length
          && !(s.rg r).rxd.contains y.i then s.takeSlot r y x.payload
      else s
    | none => s

/-- The entries whose slots a caravan carries, in order: those of the caravan of its CYCLE that the far lane sent, or, where a node looped
it, the lane itself (R210, R213). -/
def State.entsOf (s : State) (r : Nat) (tail : Bool) (c : Caravan) : List SEnt :=
  let o := laneOf (s.rg r) (if cameBack tail c then tail else !tail)
  let bank := s.bankOf r (s.rg r).bank
  match o.sent with
  | some d => if d.hdr.cycle = c.hdr.cycle then o.ents.filterMap (fun i => bank.find? (fun e => e.i == i)) else []
  | none => []

/-- The slots of a valid caravan in order, each with its entry: nodes forward them in place (R189). -/
def State.takeSlots (r : Nat) (cycle : BitVec 48) : State → List SEnt → List Slot → State
  | s, _, [] => s
  | s, ents, x :: t => State.takeSlots r cycle (s.readSlot r cycle ents.head? x) (ents.drop 1) t

/-! JOIN (R192, R223) -/

/-- The EUI-64 of a JOIN in a used and valid JOIN slot (R192). -/
def joinEui (cycle : BitVec 48) (x : Slot) : Option (BitVec 64) :=
  match x.payload with
  | [a, b, c, d, v] =>
    if x.typ = 3 && x.dir && scrcOk x cycle && fld v 12 4 == 1 then some (a ++ b ++ c ++ d) else none
  | _ => none

/-- Note the JOINs of a caravan, each once (R223). -/
def State.readJoins (s : State) (r : Nat) (c : Caravan) (tagBad : Bool) : State :=
  eachIn (c.slots.filterMap (joinEui c.hdr.cycle)) (fun e t =>
    let x := t.rg r
    if x.joins.any (fun j => j.1 == e) then t else t.setRg r { x with joins := x.joins ++ [(e, tagBad)] }) s

/-- Position that the node list gives an EUI-64 (R223, R228, log entry 22). -/
def State.listedAt (s : State) (r : Nat) (eui : BitVec 64) : Option Nat :=
  (List.range 16).find? (fun p => s.rb (Reg.CQ_NODE_LIST r p 2) 31
    && s.rd (Reg.CQ_NODE_LIST r p 1) ++ s.rd (Reg.CQ_NODE_LIST r p 0) == eui)

/-- Adding a node's slot set breaks R185, R199 or the 512-entry limit (R223). A manifest that gives the set's entries says where they
lie; of one that gives its words alone, they are taken to lie on each channel. -/
def State.noSlots (s : State) (r p : Nat) : Bool :=
  let ents := s.bankOf r (s.rg r).bank
  let hops := s.hopsOf r
  let n := hops.length - 1
  let set := schedEnts ((s.man.slotSets.filter (fun q => q.1 == 16 * r + p)).flatMap (fun q => q.2))
  let on (b : Bool) (l : List SEnt) : Nat := entWords (l.filter (fun e => if b then entOnB e else entOnA e))
  let words (b : Bool) : Nat :=
    92 + on b ents + (if set.isEmpty then s.rf (Reg.CQ_NODE_LIST r p 2) 0 16 else on b set)
  decide (512 < ents.length + max 1 set.length)
    || [false, true].any (fun t => !s.limitsOk r (words t) (pathCorr (segHops hops (if t then 0 else n) t)))

/-- Refuse a JOIN (R190, R223). -/
def State.refuseJoin (s : State) (r : Nat) (eui : BitVec 64) (reason : Nat) : State :=
  let s1 := s.cmdRec r ⟨true, true, none, recWords 7 (halvesOf 4 eui.toNat ++ [BitVec.ofNat 16 reason]), false⟩
  let s2 := match s.listedAt r eui with
    | some p => (s1.nodeOut r p 6).wf (Reg.CQ_NODE_STAT r p) 20 4 reason
    | none => s1
  (s2.cnt (Reg.CQ_CNT r 6) 0 32 1).ringEvent r 2

/-- Another node is admitted at a position than the one with this EUI-64 (R223). -/
def State.heldByOther (s : State) (r p : Nat) (eui : BitVec 64) : Bool :=
  let v := s.rf (Reg.CQ_NODE_STAT r p) 29 3
  (v == 2 || v == 3) && (Tab.get RNode.zero (s.rg r).node p).eui != some eui

/-- JOIN_ANSWER (R223): the oldest JOIN read and not answered. A node whose slots are not in the schedule waits for the epoch in which the
steward adds them. -/
def State.joinAnswer (s : State) (r : Nat) : State :=
  let x := s.rg r
  match x.joins with
  | [] => s
  | (eui, tagBad) :: t =>
    let s1 := s.setRg r { x with joins := t }
    if s.ringState r = 0 then s
    else if tagBad then s1.refuseJoin r eui 4
    else
      match s.listedAt r eui with
      | none => s1.refuseJoin r eui 1
      | some p =>
        if s.rf (Reg.CQ_RING_STAT r) 0 5 = 16 || s.heldByOther r p eui then s1.refuseJoin r eui 3
        else if hasSlots (s.bankOf r x.bank) p then s1.admitNode r p eui (s.rf (Reg.CQ_EPOCH r) 0 16)
        else if s.noSlots r p then s1.refuseJoin r eui 2
        else
          let n := Tab.get RNode.zero x.node p
          ((s1.setRg r { s1.rg r with node := Tab.put x.node p { n with joining := some eui } }).nodeOut r p 1).addSets r

/-! Hop marks (R194, R199, R226, R231) -/

/-- A bit of a register sets; an event is raised when it was 0. -/
def State.setOnce (s : State) (a b : Nat) (ev : State → State) : State :=
  if s.rb a b then s else ev (s.wb a b true)

/-- One position's entry of a valid caravan (R194, R231). -/
def State.readMark (s : State) (r : Nat) (tail : Bool) (p : Nat) (m : HopMark) : State :=
  if !m.present then s
  else
    let a := Reg.CQ_NODE_STAT r p
    let s1 := (s.wf a 8 8 m.badSlots.toNat).wb a (if tail then 26 else 27) m.loop
    let s2 := if m.lateApply then (s1.wb a 25 true).setOnce (Reg.CQ_RING_STAT r) 24 (fun t => t.ringEvent r 5) else s1
    let s3 := if m.authBad then s2.setOnce a 24 (fun t => t.ringEvent r 6) else s2
    if m.asleep && s3.rf a 29 3 == 2 then (s3.nodeOut r p 3).ringEvent r 2 else s3

/-- The apply-lead check with the CORR of a caravan at its far end (R199). -/
def State.leadCheck (s : State) (r : Nat) (c : Caravan) : State :=
  if decide (s.txTime r c.hdr.total * 16 + c.hdr.corr.toNat * 10 + 320000 ≤ s.rf (Reg.CQ_APPLY_LEAD r) 0 16 * 160) then s
  else s.setOnce (Reg.CQ_RING_STAT r) 24 (fun t => t.ringEvent r 5)

/-! The Quickset guard (R219-R221) -/

/-- Positions whose nodes write hop marks, in the order in which the lane's channel passes them (R219). -/
def State.guardOrder (s : State) (r : Nat) (tail : Bool) : List Nat :=
  let l := (List.range 16).filter (fun p => let v := s.rf (Reg.CQ_NODE_STAT r p) 29 3; v == 2 || v == 3)
  if tail then l else l.reverse

/-- The slots of a caravan as they were at the input of position p: what the device sent, with the DIR = 1 slots of nodes
passed before p as they came to the far end (R194, R219). A caravan that a node looped has passed all its nodes before it comes back to p
(R213). -/
def State.slotsAt (s : State) (r : Nat) (tail back : Bool) (p : Nat) (sent rx : List Slot) : List Slot :=
  (sent.zip rx).map (fun q =>
    let before (o : Nat) : Bool := back || (if tail then decide (posOf o < p) else decide (p < posOf o))
    let came : Bool := if q.1.typ = 3 then
        (match q.2.payload with
          | [a, b, c, d, _] => (match s.listedAt r (a ++ b ++ c ++ d) with
            | some o => before o
            | none => false)
          | _ => false)
      else q.1.dir && !q.1.bcast && before q.1.owner
    if came then q.2 else q.1)

/-- A position's input was good for the caravan before (R219). The looping node has set CH of a caravan that came back (R213). -/
def State.inputGood (s : State) (r : Nat) (tail back : Bool) (c sent rx : Caravan) (p : Nat) : Bool :=
  let m := c.marks.getD p HopMark.zero
  m.present && m.inOk
    && m.hcrc == hcrcOf { sent.hdr with ch := if back then c.hdr.ch else sent.hdr.ch } (s.slotsAt r tail back p sent.slots rx.slots)

/-- The suspect and the next position of the order: the last good input, if every later one is bad. `none` in the second
place: no position fits (R219). -/
def suspectOf (good : Nat → Bool) : List Nat → Option (Nat × Nat)
  | p :: q :: t =>
    match suspectOf good (q :: t) with
    | some x => some x
    | none => if good p && !good q && t.all (fun y => !good y) then some (p, q) else none
  | _ => none

/-- The span from a suspect up to, but not including, the next admitted position (R219). -/
def spanOf (tail : Bool) (p q : Nat) : Nat × Nat := if tail then (p, q - 1) else (q + 1, p)

/-- Begin to isolate a span (R220): its two BYPASS records go into the next caravans, before all other records. -/
def State.isolate (s : State) (r : Nat) (sp : Nat × Nat) : State :=
  if (s.rg r).isoWait.isSome then s
  else
    let s1 := if sp.1 = 0 then s
      else s.cmdFirst r ⟨true, false, some (16 * r + sp.1 - 1), nodeRec 2 (16 * r + sp.1 - 1) 2, false⟩
    let s2 := if s.ringN r ≤ sp.2 + 1 then s1
      else s1.cmdFirst r ⟨false, true, some (16 * r + sp.2 + 1), nodeRec 2 (16 * r + sp.2 + 1) 1, false⟩
    s2.setRg r { s2.rg r with isoWait := some sp }

/-- Positions that a caravan which a node looped passes on its way back, in order: those on the lane's side of the looping node
(R213, R219). -/
def backOrder (tail : Bool) (loop : Option Nat) (l : List Nat) : List Nat :=
  match loop with
  | some q => l.filter (fun p => if tail then decide (q < p) else decide (p < q))
  | none => l

/-- Run the guard on a valid caravan that is no probe (R219). Its hop marks report on the caravan before, which must have taken the same
way and be known as it was sent and as it came. -/
def State.guardRun (s : State) (r : Nat) (tail : Bool) (c : Caravan) : State :=
  let x := s.rg r
  let back := cameBack tail c
  let out := laneOf x (if back then tail else !tail)
  match out.sent0, (laneOf x tail).rx with
  | some sent, some rx =>
    if rx.hdr.cycle + 1 ≠ c.hdr.cycle || sent.hdr.cycle ≠ rx.hdr.cycle || rx.slots.length ≠ sent.slots.length
        || loopMark rx != loopMark c || isProbe tail rx then s
    else
      let l := backOrder tail (if back then loopMark c else none) (s.guardOrder r tail)
      let good := s.inputGood r tail back c sent rx
      if l.all good then s.onLane r tail (fun z => { z with span := none })
      else
        match suspectOf good l with
        | none => (s.onLane r tail (fun z => { z with span := none })).cnt (Reg.CQ_CNT r 4) 0 32 1
        | some (p, q) =>
          let sp := spanOf tail p q
          let s1 := s.onLane r tail (fun z => { z with span := some sp })
          match (laneOf x tail).span with
          | some o => if o = sp then s1.isolate r sp else s1.cnt (Reg.CQ_CNT r 4) 0 32 1
          | none => s1
  | _, _ => s

/-! Receiving (R195) -/

/-- What a valid caravan that is no probe tells: the guard, LOOP, the hop marks, the slots, JOINs, the lead (R194, R199, R210, R214,
R219). -/
def State.readCaravan (s : State) (r : Nat) (tail : Bool) (c : Caravan) : State :=
  let s1 := s.setRg r (Ring.marked (s.rg r) tail (fun p => (c.marks.getD p HopMark.zero).present))
  let s2 := ((s1.guardRun r tail c).onLane r tail (fun l => { l with rx := some c })).readLoop r tail c
  let s3 := each 16 (fun p t => t.readMark r tail p (c.marks.getD p HopMark.zero)) s2
  let s4 := State.takeSlots r c.hdr.cycle s3 (s3.entsOf r tail c) c.slots
  (s4.readJoins r c false).leadCheck r c

/-- A valid caravan at a lane (R195). A probe shows only that it crosses the hop (R213). -/
def State.validAt (s : State) (r : Nat) (tail : Bool) (c : Caravan) : State :=
  let brk := (laneOf (s.rg r) tail).brk && s.rb (Reg.CQ_RING_STAT r) 29
  let s1 := s.onLane r tail (fun l => { l with inv := 0, last := some (c.hdr.cycle, s.clk.ns), brk := brk })
  if isProbe tail c then s1.onLane r tail (fun l => { l with rx := some c }) else s1.readCaravan r tail c

/-- CARAVAN_RECEIVE (R195). Of a caravan that is invalid because of its place in the sequence alone, the LOOP bits are still
read (R214); of one whose tag alone fails, the JOINs (R223). -/
def State.caravanReceive (s : State) (r : Nat) (tail : Bool) (c : Caravan) : State :=
  if s.ringState r = 0 then s
  else
    let form := s.wellFormedCaravan r c
    let seq := s.inSequence r (laneOf (s.rg r) tail) c
    let s0 := s.onLane r tail (fun l => { l with soc := some s.clk.ns, seen := some s.clk.ns })
    if form && seq && s.tagGood r c then s0.validAt r tail c
    else
      let s1 := s0.invalidAt r tail
      if form && s.tagGood r c then (if isProbe tail c then s1 else s1.readLoop r tail c)
      else if form && seq && (s.rg r).auth then s1.readJoins r c true
      else s1

/-- NODE_LOST (R224): three caravans without a present entry on both channels. -/
def State.nodeLost (s : State) (r n : Nat) : State :=
  let x := Tab.get RNode.zero (s.rg r).node n
  let v := s.rf (Reg.CQ_NODE_STAT r n) 29 3
  if (v == 2 || v == 3) && decide (3 ≤ x.missA) && decide (3 ≤ x.missB) then (s.nodeOut r n 4).ringEvent r 2 else s

/-- APPLY_INSTANT (R224, R249): the apply instant of a caravan that carried a NODE_RESET record is reached. The node goes to
LISTEN: it is no longer admitted. -/
def State.applyInstant (s : State) (r : Nat) : State :=
  let x := s.rg r
  let now := s.wingT (ringWing r)
  let due (p : Nat × Option Nat) : Bool := match p.2 with
    | some t => decide (t ≤ now)
    | none => false
  eachIn (x.applyQ.filter due) (fun p t => (t.retireNode p.1 2).nodeTo r (posOf p.1) 0)
    (s.setRg r { x with applyQ := x.applyQ.filter (fun p => !due p) })

/-! Echoes (R198) -/

/-- A lane may send an ECHO_REQ: the last EOC lies 500 ns back and the next SOC 500 ns ahead, and no request is out (R198). -/
def State.echoGap (s : State) (r : Nat) (tail : Bool) : Bool :=
  let l := laneOf (s.rg r) tail
  let idle := match l.echo with
    | some (_, a) => decide (a + 10000 ≤ s.clk.ns)
    | none => true
  let ahead := match s.cqNext r with
    | some t => decide (s.wingT (ringWing r) + 500 * 65536 ≤ t)
    | none => true
  idle && (s.ringState r == 0 || (decide (l.eocAt + 500 ≤ s.clk.ns) && ahead))

/-- A port sends an ECHO_REQ between caravans (R183, R198). -/
def State.echoReqSend (s : State) (r : Nat) (tail : Bool) : State :=
  if s.rb (Reg.CQ_RING_CTRL r) 31 && s.echoGap r tail then
    let x := s.rg r
    s.setRg r { withLane x tail { laneOf x tail with
        echo := some (x.echoId, s.clk.ns), setTx := some (lineSet (s.isC10 r) (.echoReq x.echoId)) } with echoId := x.echoId + 1 }
  else s

/-- A set arrives outside a caravan: an ECHO_REQ is answered with an ECHO_RSP of the same ID, any other is ignored here (R183, R198). -/
def State.echoReqReceive (s : State) (r : Nat) (tail : Bool) (x : LineSet) (turn : BitVec 24) : State :=
  match readSet (s.isC10 r) x with
  | some (.echoReq id) =>
    if s.rb (Reg.CQ_RING_CTRL r) 31 then s.onLane r tail (fun l => { l with setTx := some (lineSet (s.isC10 r) (.echoRsp id turn)) }) else s
  | _ => s

/-- A set arrives outside a caravan: an ECHO_RSP gives the link delay over the last 16 answered exchanges, the round trip in ns and
1/16 ns (R183, R198). One that answers no
outstanding request within 10 us is ignored, as is any other set. -/
def State.echoRspReceive (s : State) (r : Nat) (tail : Bool) (x : LineSet) (ns : Nat) (sub : Fin 16) : State :=
  let l := laneOf (s.rg r) tail
  match readSet (s.isC10 r) x, l.echo with
  | some (.echoRsp id turn), some (i, at_) =>
    if i = id ∧ s.clk.ns ≤ at_ + 10000 then
      s.onLane r tail (fun z => { z with echo := none, dly := ((16 * ns + sub.val - turn.toNat) / 2 :: z.dly).take 16 })
    else s
  | _, _ => s

/-- A request without answer for 10 us is abandoned (R198). -/
def State.echoTimeout (s : State) (r : Nat) (tail : Bool) : State :=
  match (laneOf (s.rg r) tail).echo with
  | some (_, at_) => if s.clk.ns < at_ + 10000 then s else s.onLane r tail (fun l => { l with echo := none })
  | none => s

/-! Ring commands (R230) -/

/-- A write of CQ_RING_CMD: the refusals in the order of their values, then the command's own condition, then its effect
(R228, R230, log entry 23). `deny` gives the command's refusal, 0 for none. -/
def State.ringCmd (s : State) (fn r op deny : Nat) (go : State → State) : State :=
  if !s.ownerIn fn then s
  else if !s.pCfg fn then s.cmdResult r 1
  else if (s.rg r).busy.isSome || s.rb (Reg.CQ_RING_STAT r) 22 then s.cmdResult r 2
  else if s.ringState r ≠ 2 then s.cmdResult r 5
  else if deny ≠ 0 then s.cmdResult r deny
  else go (s.setRg r { s.rg r with busy := some op })

/-- UNWRAP records for the nodes named, on A for the head side and on B for the tail side (R217, R221). -/
def State.unwrapRecs (s : State) (r : Nat) (u d : Option Nat) : State :=
  let rec1 (a : Bool) (p : Nat) (t : State) : State :=
    t.cmdRec r ⟨a, !a, some (16 * r + p), nodeRec 3 (16 * r + p) 0, true⟩
  let s1 := match u with
    | some p => rec1 true p s
    | none => s
  match d with
  | some p => rec1 false p s1
  | none => s1

/-- UNWRAP (R217): needs REPAIR_OK. -/
def State.unwrap (s : State) (fn r : Nat) : State :=
  let x := s.rg r
  s.ringCmd fn r 1 (if s.rb (Reg.CQ_RING_STAT r) 28 then 0 else 3) (fun t => t.unwrapRecs r x.head.loop x.tail.loop)

/-- RESTORE (R221): needs GUARD; a span that came back within 1 h is refused with BAD_ARG. Its nodes hold no caravan yet, and
show LOST until they rejoin. -/
def State.restore (s : State) (fn r : Nat) : State :=
  let x := s.rg r
  let deny := if !s.rb (Reg.CQ_RING_STAT r) 27 then 3 else match x.iso with
    | some sp => if x.banned.contains sp then 4 else 0
    | none => 0
  s.ringCmd fn r 2 deny (fun t =>
    match x.iso with
    | some (lo, hi) =>
      let t1 := t.setRg r { t.rg r with iso := none, restored := (lo, hi, s.clk.ns) :: x.restored }
      let t2 := t1.unwrapRecs r (if lo = 0 then none else some (lo - 1)) (if s.ringN r ≤ hi + 1 then none else some (hi + 1))
      let t3 := each 16 (fun p u => if u.rf (Reg.CQ_NODE_STAT r p) 29 3 = 5 then (u.nodeTo r p 4).ringEvent r 2 else u) t2
      (t3.wb (Reg.CQ_RING_STAT r) 27 false).ringEvent r 1
    | none => t)

/-- SLEEP (R226, R230). -/
def State.sleep (s : State) (fn r : Nat) : State :=
  s.ringCmd fn r 3 0 (fun t => t.cmdRec r ⟨true, true, none, recWords 4 (halvesOf 2 (t.rd (Reg.CQ_CMD_ARG r)).toNat), true⟩)

/-- WAKE (R227, R230): in the next 4 caravans. What a schedule without a WAKE entry answers is not stated: some refusal, free
(log entry 3). -/
def State.wake (s : State) (fn r : Nat) : State :=
  let has := (s.bankOf r (s.rg r).bank).any (fun e => entTyp e == 5)
  let deny := if has then 0 else 1 + fld s.freshWord 0 8 % 5
  (s.ringCmd fn r 4 deny (fun t => t.setRg r { t.rg r with wakeLeft := 4 })).used 1

/-- A command that names a node of the ring's node list (R230). -/
def State.nodeArg (s : State) (r node : Nat) : Nat :=
  if node / 16 = r && s.rb (Reg.CQ_NODE_LIST r (posOf node) 2) 31 then 0 else 4

/-- NODE_RESET (R224, R230). -/
def State.nodeReset (s : State) (fn r node : Nat) : State :=
  s.ringCmd fn r 5 (s.nodeArg r node) (fun t =>
    let t1 := t.cmdRec r ⟨true, true, some node, nodeRec 9 node 0, true⟩
    t1.setRg r { t1.rg r with applyQ := (t1.rg r).applyQ ++ [(node, none)] })

/-- CLEAR_FALSE_WAKE (R227, R230). -/
def State.clearFalseWake (s : State) (fn r node : Nat) : State :=
  s.ringCmd fn r 6 (s.nodeArg r node) (fun t => t.cmdRec r ⟨true, true, some node, nodeRec 8 node 0, true⟩)

/-- CQ_CYCLE_READ (R228): a read of CQ_CYCLE_LO latches CQ_CYCLE_HI; the owner is the one reader of the block. -/
def State.cycleRead (s : State) (fn r lane size : Nat) : State :=
  let c := (s.rg r).cycle
  let last : BitVec 48 := if c = 0 then 0 else c - 1
  s.ownerRead fn lane size (s.rd (Reg.CQ_CYCLE_LO r)) (fun t => t.wr (Reg.CQ_CYCLE_HI r) ((last >>> 32).setWidth 32))

/-! The meanings of the rows -/

/-- CARAVAN_RECEIVE (R195): A caravan reaches a device lane and is checked, its slots and hop marks read and the guard run. -/
def execCaravanReceive (r : Nat) (tail : Bool) (c : Caravan) (s : State) : Out :=
  live (caravanReceiveOk r) s (s.caravanReceive r tail c)

/-- CARAVAN_MISSING (R212): An expected caravan has not arrived 1 µs after one Tc and counts as invalid. -/
def execCaravanMissing (r : Nat) (tail : Bool) (s : State) : Out :=
  live (caravanMissingOk r) s (s.caravanMissing r tail)

/-- LANE_SIGNAL_LOSS (R212): A ring device lane loses signal and a break is detected. -/
def execLaneSignalLoss (r : Nat) (tail : Bool) (s : State) : Out :=
  live (laneSignalLossOk r) s (s.laneSignalLoss r tail)

/-- NODE_LOST (R224): No present entry from a node for three caravans, so the node is LOST and its requests retired. -/
def execNodeLost (r n : Nat) (s : State) : Out :=
  live (nodeLostOk r n) s (s.nodeLost r n)

/-- JOIN_ANSWER (R223): The device answers a JOIN with an ADMIT or REFUSE record in the CMD slot. -/
def execJoinAnswer (r : Nat) (s : State) : Out :=
  live (joinAnswerOk r) s (s.joinAnswer r)

/-- ECHO_REQ_SEND (R198): A port sends an ECHO_REQ between caravans at least every 1 ms. -/
def execEchoReqSend (r : Nat) (tail : Bool) (s : State) : Out :=
  live (echoReqSendOk r) s (s.echoReqSend r tail)

/-- ECHO_REQ_RECEIVE (R198): An ECHO_REQ arrives and is answered within 10 µs with an ECHO_RSP. -/
def execEchoReqReceive (r : Nat) (tail : Bool) (x : LineSet) (turn : BitVec 24) (s : State) : Out :=
  live (echoReqReceiveOk r) s (s.echoReqReceive r tail x turn)

/-- ECHO_RSP_RECEIVE (R198): An ECHO_RSP arrives and the link delay average is updated. -/
def execEchoRspReceive (r : Nat) (tail : Bool) (x : LineSet) (ns : Nat) (sub : Fin 16) (s : State) : Out :=
  live (echoRspReceiveOk r) s (s.echoRspReceive r tail x ns sub)

/-- ECHO_TIMEOUT (R198): An ECHO_REQ gets no answer within 10 µs and is abandoned. -/
def execEchoTimeout (r : Nat) (tail : Bool) (s : State) : Out :=
  live (echoTimeoutOk r) s (s.echoTimeout r tail)

/-- UNWRAP (R217): The UNWRAP ring command sends UNWRAP records to the looping nodes if REPAIR_OK is set. -/
def execUnwrap (fn r : Nat) (s : State) : Out :=
  checked (unwrapOk fn r) s (s.unwrap fn r)

/-- RESTORE (R221): The RESTORE ring command ends a guard bypass if GUARD is set. -/
def execRestore (fn r : Nat) (s : State) : Out :=
  checked (restoreOk fn r) s (s.restore fn r)

/-- SLEEP (R226): The SLEEP ring command sends a SLEEP record with the group mask. -/
def execSleep (fn r : Nat) (s : State) : Out :=
  checked (sleepOk fn r) s (s.sleep fn r)

/-- WAKE (R227): The WAKE ring command sends a WAKE slot in the next 4 caravans. -/
def execWake (fn r : Nat) (s : State) : Out :=
  checked (wakeOk fn r) s (s.wake fn r)

/-- NODE_RESET (R224): The NODE_RESET ring command sends a NODE_RESET record to a node. -/
def execNodeReset (fn r node : Nat) (s : State) : Out :=
  checked (nodeResetOk fn r node) s (s.nodeReset fn r node)

/-- CLEAR_FALSE_WAKE (R227): The CLEAR_FALSE_WAKE ring command sends its record to a node. -/
def execClearFalseWake (fn r node : Nat) (s : State) : Out :=
  checked (clearFalseWakeOk fn r node) s (s.clearFalseWake fn r node)

/-- APPLY_INSTANT (R249): The apply instant of a caravan that carried a NODE_RESET record is reached, and the device retires that node's outstanding reads and unacknowledged writes. -/
def execApplyInstant (r : Nat) (s : State) : Out :=
  live (applyInstantOk r) s (s.applyInstant r)

/-- LANE_SIGNAL_RETURN (R195): A ring device lane regains lock and signal after a loss, so its next caravan is judged as the first since signal was lost. -/
def execLaneSignalReturn (r : Nat) (tail : Bool) (s : State) : Out :=
  live (laneSignalReturnOk r) s (s.laneSignalReturn r tail)

end Sys2Proof.Machine
end

