-- ==== Sys2Proof/Machine/Msec.lean ====
section
/-! DEFINITION. MACsec on the uplinks (R427, R428): the receive checks and the transmit SA. -/

namespace Sys2Proof.Machine

/-- The uplink of a MAC port. -/
def uplinkOf (p : Nat) : Option Nat := if 32 ≤ p ∧ p < 40 then some (p - 32) else none

/-- A Boxwood slot holds a key for MACsec: USAGE MACSEC, AES-256 (R424, R427). -/
def State.msecKey (s : State) (slot : Nat) : Bool :=
  match Tab.find s.sec.box slot with
  | some k => k.usage == 0 && k.typ == 2
  | none => false

/-! Reception (R427) -/

/-- Word `i` of a receive SC: SCI in words 0 and 1, window in word 2, then SA a in words 3 + 3a: slot, nextPN (log entry 28). -/
def State.rxSc (s : State) (u c i : Nat) : Word := s.rd (Reg.MSEC_RXSC u c i)

/-- The receive SC of an SCI; an SCI of 0 is not set up. -/
def State.rxScOf (s : State) (u : Nat) (sci : BitVec 64) : Option Nat :=
  (List.range 16).find? (fun c => (s.rxSc u c 1 ++ s.rxSc u c 0 : BitVec 64) == sci && sci != 0)

/-- nextPN of a receive SA. -/
def State.rxNextPn (s : State) (u c a : Nat) : Nat :=
  (s.rxSc u c (4 + 3 * a)).toNat + (s.rxSc u c (5 + 3 * a)).toNat * 2 ^ 32

/-- The receive SA that accepts a frame: its SC is known, the SA's slot holds a MACsec key, the ICV checks, and the PN is within the
replay window (R427). -/
def State.rxSaOf (s : State) (u : Nat) (m : MacSec) : Option Nat :=
  match s.rxScOf u m.sci with
  | some c =>
    let a := m.an % 4
    if m.icvOk && s.msecKey (fld (s.rxSc u c (3 + 3 * a)) 0 8) && decide (s.rxNextPn u c a ≤ m.pn + (s.rxSc u c 2).toNat) then
      some c
    else none
  | none => none

/-- A MACsec frame of uplink u passes, its SA's nextPN following it, or is discarded, counted and reported (R427). -/
def State.msecRx (s : State) (u : Nat) (m : MacSec) : Bool × State :=
  match s.rxSaOf u m with
  | some c =>
    let a := m.an % 4
    let n := max (s.rxNextPn u c a) (m.pn + 1)
    (true, (s.wr (Reg.MSEC_RXSC u c (4 + 3 * a)) (BitVec.ofNat 32 n)).wr (Reg.MSEC_RXSC u c (5 + 3 * a))
      (BitVec.ofNat 32 (n / 2 ^ 32)))
  | none => (false, (s.cnt (Reg.MSEC_RX_DROP u) 0 32 1).raiseAt 524 (32 + u) 0)

/-- The frame inside a MACsec frame: without its SecTAG and ICV. -/
def bareSec (f : Frame) : Frame := { f with msec := none, len := f.len - 32 }

/-! Transmission (R428) -/

/-- A 64-bit value of two words of a transmit SA, low word first. -/
def State.txSaLong (s : State) (u a i : Nat) : Nat :=
  (s.rd (Reg.MSEC_TXSA u a i)).toNat + (s.rd (Reg.MSEC_TXSA u a (i + 1))).toNat * 2 ^ 32

/-- The last PN of an SA: 2^32 - 1, or 2^64 - 1 under XPN (R428). -/
def State.lastPn (s : State) (u : Nat) : Nat := if s.rb (Reg.MSEC_TX_CTRL u) 30 then 2 ^ 64 - 1 else 2 ^ 32 - 1

/-- Octets that protection adds to a frame: SecTAG of 16 octets with the SCI or 8 without, and an ICV of 16. -/
def State.secOctets (s : State) (u : Nat) : Nat := (if s.rb (Reg.MSEC_TX_CTRL u) 25 then 16 else 8) + 16

/-- An exhausted SA drops a frame: counted, reported on the first (R428). -/
def State.exhDrop (s : State) (u a : Nat) : State :=
  let s1 := s.cnt (Reg.MSEC_TX_EXH_DROP u) 0 32 1
  if Tab.get false s.sec.exh (4 * u + a) then s1
  else { s1 with sec.exh := Tab.put s1.sec.exh (4 * u + a) true }.raiseAt 523 (32 + u) 0

/-- The active SA, as TX_AN stands at the frame's boundary, spends a PN: nextPN passing the threshold is reported once; after the last
PN the SA is exhausted (R428). -/
def State.spendPn (s : State) (u a : Nat) : State :=
  let pn := s.txSaLong u a 1
  let s1 := (s.wr (Reg.MSEC_TXSA u a 1) (BitVec.ofNat 32 (pn + 1))).wr (Reg.MSEC_TXSA u a 2)
    (BitVec.ofNat 32 ((pn + 1) / 2 ^ 32))
  let s2 := if s.lastPn u ≤ pn then { s1 with sec.exh := Tab.put s1.sec.exh (4 * u + a) false } else s1
  if s.txSaLong u a 3 < pn + 1 && !Tab.get false s.sec.thr (4 * u + a) then
    { s2 with sec.thr := Tab.put s2.sec.thr (4 * u + a) true }.raiseAt 522 (32 + u) 0
  else s2

/-- A frame leaves on port p: the octets that protection adds, or none where it cannot be sent: its SA is exhausted, or its slot
holds no MACsec key (R424, R427, R428). -/
def State.msecTx (s : State) (p : Nat) : Option Nat × State :=
  match uplinkOf p with
  | none => (some 0, s)
  | some u =>
    let ctl := Reg.MSEC_TX_CTRL u
    if !s.rb ctl 31 then (some 0, s)
    else
      let a := s.rf ctl 0 2
      if (Tab.find s.sec.exh (4 * u + a)).isSome then (none, s.exhDrop u a)
      else if !s.msecKey (s.rf (Reg.MSEC_TXSA u a 0) 0 8) then (none, s)
      else (some (s.secOctets u), s.spendPn u a)

/-- The SA is set up anew by a write of its words: its reports start again (R428). -/
def State.freshSa (s : State) (u a : Nat) : State :=
  { s with sec.thr := Tab.del s.sec.thr (4 * u + a), sec.exh := Tab.del s.sec.exh (4 * u + a) }

end Sys2Proof.Machine
end

