-- ==== Sys2Proof/Machine/Switch.lean ====
section
/-! DEFINITION. Reception at the MACs, classification, forwarding, learning, policing, redundancy and admission to the Serai
(10_ports_switch.md). -/

namespace Sys2Proof.Machine

/-! Ports (R254-R258) -/

/-- MODE of a MAC (R286). -/
def State.macMode (s : State) (p : Nat) : Nat := s.rf (Reg.MAC_CFG p) 27 4

/-- The ring to which a field lane belongs (R180). -/
def ringOfLane (p : Nat) : Option Nat :=
  if 12 ≤ p ∧ p < 16 then some ((p - 12) / 2) else if 28 ≤ p ∧ p < 32 then some (2 + (p - 28) / 2) else none

/-- A ring that the manifest enables uses the lane, whose MAC is disabled (R180, R228). -/
def State.laneTaken (s : State) (p : Nat) : Bool :=
  match ringOfLane p with
  | some r => s.rb (Reg.CQ_RING_CTRL r) 31
  | none => false

/-- An enabled MAC of an uplink bonds some lanes (R256). -/
def State.bonds (s : State) (p mode : Nat) : Bool := s.rb (Reg.MAC_CFG p) 31 && s.macMode p == mode

/-- The lane of an uplink's MAC is bonded to the 100 Gbit/s MAC of UP(2m) or the 200 Gbit/s MAC of UP(4m), which disables it (R256). -/
def State.bonded (s : State) (p : Nat) : Bool :=
  decide (32 ≤ p) && ((p % 2 == 1 && s.bonds (p - 1) 8) || (p % 4 != 0 && s.bonds (p - p % 4) 9))

/-- The MAC of a port takes part in forwarding: enabled, and not disabled by its mode, by a ring or by a bond (R180, R255, R256, R286). -/
def State.macOn (s : State) (p : Nat) : Bool :=
  s.rb (Reg.MAC_CFG p) 31 && decide (s.macMode p ≠ 0) && decide (s.macMode p < 10) && !s.laneTaken p && !s.bonded p

/-- LINK of a MAC (R287). -/
def State.macUp (s : State) (p : Nat) : Bool := s.rb (Reg.MAC_STAT p) 31

/-- Add to a counter of a MAC: 48-bit counters are RX_OCTETS, RX_ALL_OCTETS and TX_OCTETS; passing half range sets the half
bit and raises MAC_p_CNT_HALF (R283, R284). -/
def State.macCnt (s : State) (p j k : Nat) : State :=
  let wide := j == 1 || j == 13 || j == 25
  let top := if wide then 2 ^ 48 else 2 ^ 32
  let v := (s.rd (Reg.MAC_CNT p j 0)).toNat + 2 ^ 32 * (s.rd (Reg.MAC_CNT p j 1)).toNat
  let x := (v + k) % top
  let s1 := (s.wr (Reg.MAC_CNT p j 0) (BitVec.ofNat 32 x)).wr (Reg.MAC_CNT p j 1) (BitVec.ofNat 32 (x / 2 ^ 32))
  if v < top / 2 ∧ top / 2 ≤ x then
    (s1.wb (Reg.MAC_CNT_HALF p (j / 32)) (j % 32) true).raiseAt (128 + 4 * p + 1) p 0
  else s1

/-- Add one to a counter of a switch port, if it is a MAC. -/
def State.portCnt (s : State) (p j : Nat) : State := if p < 40 then s.macCnt p j 1 else s

/-- Group address (multicast or broadcast), broadcast. -/
def isGroup (a : BitVec 48) : Bool := tst a 40
def isBcast (a : BitVec 48) : Bool := a == BitVec.allOnes 48

/-- Counters of every frame on the wire: packets, octets, size classes (R284 13-20). -/
def State.countAll (s : State) (p : Nat) (len : Nat) : State :=
  let s1 := (s.macCnt p 14 1).macCnt p 13 len
  if len < 64 then s1
  else s1.macCnt p (if len = 64 then 15 else if len < 128 then 16 else if len < 256 then 17 else if len < 512 then 18
    else if len < 1024 then 19 else 20) 1

/-- A receive error is seen: RX_ERR, and its event when it was 0 (R287, R290). -/
def State.rxErr (s : State) (p : Nat) : State := s.setOnce (Reg.MAC_STAT p) 18 (fun t => t.raiseAt (128 + 4 * p + 2) p 0)

/-- The checks of R257: the counter of the condition that discards the frame, if one does. -/
def macCheck (f : Frame) (maxFrame : Nat) : Option Nat :=
  if f.codeBad then some 6
  else if f.len < 64 then some (if f.fcsBad then 8 else 7)
  else if maxFrame < f.len then some (if f.fcsBad then 10 else 9)
  else if f.fcsBad then some 4
  else none

/-- The error bits of a discarded frame: FCS, symbol and jabber errors (R287). -/
def isRxErr (j : Nat) : Bool := j == 4 || j == 6 || j == 10

/-- Counters of a good frame: frames, octets of data (the frame less addresses, type and FCS), broadcast, multicast (R284). -/
def State.countOk (s : State) (p : Nat) (f : Frame) : State :=
  let s1 := (s.macCnt p 0 1).macCnt p 1 (f.len - 18)
  if isBcast f.dst then s1.macCnt p 2 1 else if isGroup f.dst then s1.macCnt p 3 1 else s1

/-! Rates -/

/-- Rate of a port in Mbit/s (R254, R255, R287). -/
def State.rateMbps (s : State) (p : Nat) : Nat :=
  if 48 ≤ p then 100000
  else if 40 ≤ p then 60000
  else match s.macMode p with
    | 1 => 100
    | 2 => 1000
    | 3 => (match s.rf (Reg.MAC_STAT p) 29 2 with
      | 0 => 10
      | 1 => 100
      | _ => 1000)
    | 4 => 2500
    | 5 => 10000
    | 6 => 25000
    | 7 => 50000
    | 8 => 100000
    | _ => 200000

/-- Time of some bits at a port's rate, in ns, rounded up. -/
def State.bitsNs (s : State) (p bits : Nat) : Nat := (bits * 1000 + s.rateMbps p - 1) / s.rateMbps p

/-! PAUSE and per-class pause (R276-R278) -/

/-- PAUSED of a port; a change raises MAC_p_PAUSE (R276, R290). -/
def State.setPaused (s : State) (p : Nat) (v : Bool) : State :=
  if s.rb (Reg.MAC_STAT p) 28 = v then s else (s.wb (Reg.MAC_STAT p) 28 v).raiseAt (128 + 4 * p + 3) p 0

/-- A MAC takes a PAUSE frame: it is counted, and with RX_PAUSE_EN = 1 its quanta replace the time remaining (R276). -/
def State.takePause (s : State) (p : Nat) (quanta : Half) : State :=
  let s1 := s.macCnt p 11 1
  if !s.rb (Reg.MAC_CFG p) 23 then s1
  else if quanta = 0 then { s1 with sw.pause := Tab.del s1.sw.pause p }.setPaused p false
  else { s1 with sw.pause := Tab.put s1.sw.pause p (s.clk.ns + s.bitsNs p (quanta.toNat * 512)) }.setPaused p true

/-- PAUSE_RECEIVE (R276): a PAUSE frame of 64 octets. -/
def State.pauseReceive (s : State) (p : Nat) (quanta : Half) : State :=
  if !s.macOn p || !s.macUp p then s else (s.countAll p 64).takePause p quanta

/-- Queue that a PCP maps to (R260, R278). -/
def State.pcpQueue (s : State) (p c : Nat) : Nat := s.rf (Reg.SW_PORT_PMAP p) (3 * c) 3

/-- A queue is stopped by per-class pause: some class that maps to it is (R278). -/
def State.pfcStopped (s : State) (p q : Nat) : Bool :=
  (List.range 8).any (fun c => s.pcpQueue p c == q && (Tab.find s.sw.pfc (8 * p + c)).isSome)

/-- PFC_PAUSED shows the stopped queues (R287). -/
def State.showPfc (s : State) (p : Nat) : State :=
  s.wf (Reg.MAC_STAT p) 20 8 ((List.range 8).foldl (fun v q => v + if s.pfcStopped p q then 2 ^ q else 0) 0)

/-- A MAC takes a per-class pause frame: it is counted, and with PFC_EN = 1 each class enabled in it stops its queue (R278). -/
def State.takePfc (s : State) (p : Nat) (vec : Octet) (quanta : List Half) : State :=
  let s1 := s.macCnt p 12 1
  if !s.rb (Reg.MAC_CFG p) 21 then s1
  else
    (each 8 (fun c t =>
      if !tst vec c then t
      else if t.pcpQueue p c = 7 && !t.rb (Reg.MAC_CFG p) 20 then
        t.setOnce (Reg.MAC_STAT p) 17 (fun u => u.raiseAt (128 + 4 * p + 3) p 0)
      else
        let n := (quanta.getD c 0).toNat
        if n = 0 then { t with sw.pfc := Tab.del t.sw.pfc (8 * p + c) }
        else { t with sw.pfc := Tab.put t.sw.pfc (8 * p + c) (s.clk.ns + s.bitsNs p (n * 512)) }) s1).showPfc p

/-- PFC_RECEIVE (R278): a per-class pause frame of 64 octets. -/
def State.pfcReceive (s : State) (p : Nat) (vec : Octet) (quanta : List Half) : State :=
  if !s.macOn p || !s.macUp p then s else (s.countAll p 64).takePfc p vec quanta

/-- A MAC control frame (EtherType 0x8808) by its opcode, 0x0001 PAUSE or 0x0101 per-class pause; with another it is consumed without a
count (R257, log entry 173). -/
def State.macControl (s : State) (p : Nat) (f : Frame) : State :=
  let h (i : Nat) : Half := f.pay.getD (2 * i) 0 ++ f.pay.getD (2 * i + 1) 0
  if h 0 = 0x0001 then s.takePause p (h 1)
  else if h 0 = 0x0101 then s.takePfc p ((h 1).setWidth 8) ((List.range 8).map (fun c => h (c + 2)))
  else s

/-! Redundancy pairs (R279-R282, R289) -/

/-- EntryForgetTime and NodeForgetTime of a pair in ns; 400 ms and 60 s unless the manifest sets them (R282). -/
def State.forgetNs (s : State) (k : Nat) : Nat × Nat :=
  match s.man.forget.find? (fun p => p.1 == k) with
  | some p => (p.2.1 * 1000000, p.2.2 * 1000000000)
  | none => (400000000, 60000000000)

/-- Count in a word of a pair: 0 DUP_A, 1 DUP_B, 2 WRONG_LAN_A, 3 WRONG_LAN_B, 4 UNIQUE_A, 5 UNIQUE_B, 6 NODE_FULL (R288). -/
def State.pairCnt (s : State) (k i : Nat) : State := s.cnt (Reg.SW_PAIR_CNT k i) 0 32 1

/-- The duplicate-discard table of a direction holds a frame (R282). -/
def State.dupHas (s : State) (k d : Nat) (src : BitVec 48) (seq : Half) : Bool :=
  (Tab.get [] s.sw.dup (2 * k + d)).any (fun e => e.src == src && e.seq == seq)

/-- Note a frame in a direction's table: a duplicate counts for the port it came on; a full table of 4,096 overwrites its
oldest entry (R282). -/
def State.dupNote (s : State) (k d : Nat) (b : Bool) (src : BitVec 48) (seq : Half) : State :=
  let l := Tab.get [] s.sw.dup (2 * k + d)
  if s.dupHas k d src seq then
    ({ s with sw.dup := Tab.put s.sw.dup (2 * k + d) (l.map (fun (e : DupEnt) =>
        if e.src = src ∧ e.seq = seq then { e with dup := true } else e)) }).pairCnt k (if b then 1 else 0)
  else
    let l1 := if 4096 ≤ l.length then l.drop 1 else l
    { s with sw.dup := Tab.put s.sw.dup (2 * k + d) (l1 ++ [⟨src, seq, s.clk.ns, b, false⟩]) }

/-- ENTRY_FORGET (R282): the oldest entry of a table reaches EntryForgetTime. One without a duplicate counts as unique
(IEC 62439-3). -/
def State.entryForget (s : State) (k dir : Nat) : State :=
  match Tab.get [] s.sw.dup (2 * k + dir) with
  | e :: t =>
    if s.clk.ns < e.at_ + (s.forgetNs k).1 then s
    else
      let s1 := { s with sw.dup := Tab.put s.sw.dup (2 * k + dir) t }
      if e.dup then s1 else s1.pairCnt k (if e.b then 5 else 4)
  | [] => s

/-- Refresh or add a node of a table of limited size; `false`: the table is full and refuses it (R282). -/
def noteNode (lim : Nat) (l : List (BitVec 48 × Nat)) (a : BitVec 48) (now : Nat) : Option (List (BitVec 48 × Nat)) :=
  if l.any (fun p => p.1 == a) then some (l.map (fun p => if p.1 = a then (a, now) else p))
  else if lim ≤ l.length then none
  else some (l ++ [(a, now)])

/-- A full node table counts, and raises SW_NODE_TABLE_FULL on the first refusal since the counter was read (R282, R291). -/
def State.nodeFull (s : State) (k : Nat) : State :=
  (s.pairCnt k 6).raiseIf (s.rd (Reg.SW_PAIR_CNT k 6) == 0) 390

/-- Note the source of a received frame in the NodesTable of a pair (R282). -/
def State.noteSource (s : State) (k : Nat) (a : BitVec 48) : State :=
  match noteNode 1024 (Tab.get [] s.sw.nodes k) a s.clk.ns with
  | some l => { s with sw.nodes := Tab.put s.sw.nodes k l }
  | none => s.nodeFull k

/-- A node is proxied by a RedBox (R281). -/
def State.proxied (s : State) (k : Nat) (a : BitVec 48) : Bool := (Tab.get [] s.sw.proxy k).any (fun p => p.1 == a)

/-- NODE_FORGET (R282). -/
def State.nodeForget (s : State) (k : Nat) (mac : BitVec 48) : State :=
  let keep (l : List (BitVec 48 × Nat)) : List (BitVec 48 × Nat) :=
    l.filter (fun p => !(p.1 == mac && decide (p.2 + (s.forgetNs k).2 ≤ s.clk.ns)))
  { s with
    sw.nodes := Tab.put s.sw.nodes k (keep (Tab.get [] s.sw.nodes k))
    sw.proxy := Tab.put s.sw.proxy k (keep (Tab.get [] s.sw.proxy k)) }

/-! The MAC table (R262-R265) -/

/-- Key of an address in a VLAN. -/
def fdbKey (vid : Nat) (a : BitVec 48) : Nat := vid * 2 ^ 48 + a.toNat

/-- Bucket of an address: bits [12:0] of the CRC-32C of eight octets (R263). -/
def fdbBucket (vid : Nat) (a : BitVec 48) : Nat :=
  fld (crc32c (halfOctets (BitVec.ofNat 16 (vid % 4096) :: halvesOf 3 a.toNat))) 0 13

/-- The port set of a static entry (R262, R263). -/
def State.staticPorts (s : State) (vid : Nat) (a : BitVec 48) : Option (BitVec 52) :=
  (s.man.staticFdb.find? (fun e => e.1 == vid && e.2.1 == a)).map (fun e => e.2.2)

/-- Entries in the MAC table (R263, R288). -/
def State.fdbCount (s : State) : Nat := s.sw.fdb.length + s.man.staticFdb.length

/-- A bucket is full of other entries (R263). -/
def State.bucketFull (s : State) (vid : Nat) (a : BitVec 48) : Bool :=
  let b := fdbBucket vid a
  let dyn := s.sw.fdb.filter (fun e => fdbBucket (e.1 / 2 ^ 48) (BitVec.ofNat 48 e.1) == b)
  let sta := s.man.staticFdb.filter (fun e => fdbBucket e.1 e.2.1 == b)
  decide (4 ≤ dyn.length + sta.length)

/-- A frame with a unicast source makes a learn request; a port of a pair reports the pair; a full FIFO of 256 drops it
(R264). -/
def State.learnAsk (s : State) (vid : Nat) (a : BitVec 48) (port : Nat) : State :=
  if isGroup a then s
  else if 256 ≤ s.sw.learn.length then s.cnt Reg.SW_LEARN_OVR 0 32 1
  else
    let (n, pr) := match s.pairOf port with
      | some (k, _) => (k, true)
      | none => (port, false)
    { s with sw.learn := s.sw.learn ++ [(vid, a, n, pr)] }

/-- Put an entry into the MAC table. -/
def State.fdbPut (s : State) (key : Nat) (e : Fdb) : State := { s with sw.fdb := Tab.put s.sw.fdb key e }

/-- A request moves a learned entry: the window of moves, the fifth of which locks it (R264, R265). -/
def State.fdbMove (s : State) (key : Nat) (e : Fdb) (port : Nat) (pr : Bool) : State :=
  let fresh := e.moves == 0 || decide (e.winAt + 1000000000 < s.clk.ns)
  let code (p : Nat) (b : Bool) : Nat := p + if b then 64 else 0
  let n := if fresh then 1 else e.moves + 1
  let win := if fresh then code e.port e.pair else e.winPort
  if n < 5 then
    (s.fdbPut key { e with
      port := port, pair := pr, last := s.clk.ns, moves := n, winAt := if fresh then s.clk.ns else e.winAt
      winPort := win }).cnt Reg.SW_MOVES 0 32 1
  else
    (s.fdbPut key { e with port := win % 64, pair := decide (64 ≤ win), locked := some s.clk.ns, moves := n }).raise 386

/-- LEARN_REQUEST (R263-R265): the learning engine takes the oldest request. -/
def State.learnRequest (s : State) : State :=
  match s.sw.learn with
  | [] => s
  | (vid, a, port, pr) :: t =>
    let s1 := { s with sw.learn := t }
    let key := fdbKey vid a
    match s1.staticPorts vid a with
    | some m =>
      let mine := if pr then tst m (s1.pairPort port false) || tst m (s1.pairPort port true) else tst m port
      if mine then s1 else s1.cnt Reg.SW_MOVE_BLOCKED 0 32 1
    | none =>
      match Tab.find s1.sw.fdb key with
      | some e =>
        if e.locked.isSome then s1.cnt Reg.SW_MOVE_BLOCKED 0 32 1
        else if e.port = port ∧ e.pair = pr then s1.fdbPut key { e with last := s.clk.ns }
        else s1.fdbMove key e port pr
      | none =>
        if s1.bucketFull vid a then (s1.cnt Reg.SW_LEARN_FULL 0 32 1).raiseIf (s1.rd Reg.SW_LEARN_FULL == 0) 387
        else s1.fdbPut key ⟨port, pr, none, s.clk.ns, 0, 0, 0⟩

/-- MOVE_LOCK_END (R265): 10 s after it began. -/
def State.moveLockEnd (s : State) (vid : Nat) (mac : BitVec 48) : State :=
  match Tab.find s.sw.fdb (fdbKey vid mac) with
  | some e =>
    match e.locked with
    | some t => if s.clk.ns < t + 10000000000 then s else s.fdbPut (fdbKey vid mac) { e with locked := none, moves := 0 }
    | none => s
  | none => s

/-- AGE_TIME in ns: 300 s unless set (R263). -/
def State.ageNs (s : State) : Nat :=
  let v := s.rf Reg.SW_AGE_CFG 0 20
  (if v = 0 then 300 else v) * 1000000000

/-- MAC_AGE_OUT (R263). -/
def State.macAgeOut (s : State) (vid : Nat) (mac : BitVec 48) : State :=
  match Tab.find s.sw.fdb (fdbKey vid mac) with
  | some e => if s.clk.ns < e.last + s.ageNs then s else { s with sw.fdb := Tab.del s.sw.fdb (fdbKey vid mac) }
  | none => s

/-- The lookup that a write of SW_FDB_KEY_HI runs (R288). -/
def State.fdbResult (s : State) (vid : Nat) (a : BitVec 48) : Word :=
  let word (st lk pr : Bool) (port age : Nat) : Word :=
    BitVec.ofNat 32 (2 ^ 31 + bitOf st * 2 ^ 30 + bitOf lk * 2 ^ 29 + bitOf pr * 2 ^ 28 + port % 64 * 2 ^ 22 + capAt 65535 age)
  match s.staticPorts vid a with
  | some m => word true false false (((List.range 52).find? (fun p => tst m p)).getD 0) 0
  | none =>
    match Tab.find s.sw.fdb (fdbKey vid a) with
    | some e => word false e.locked.isSome e.pair e.port ((s.clk.ns - e.last) / 1000000000)
    | none => 0

/-- FDB_LOOKUP (R288): a write of SW_FDB_KEY_HI. -/
def State.fdbLookup (s : State) (fn : Nat) (val : Word) : State :=
  if s.ownerIn fn then
    let v := val &&& 0x0FFFFFFF#32
    let s1 := s.wr (Reg.SW_FDB_KEY 1) v
    s1.wr Reg.SW_FDB_RESULT (s1.fdbResult (fld v 16 12) ((v.setWidth 16 : Half) ++ s1.rd (Reg.SW_FDB_KEY 0)))
  else s

/-! Destinations (R259-R262, R279-R281) -/

/-- The EC port of the cluster whose engine runs a personality (R11, R261). -/
def State.ecOf (s : State) (pers : Octet) : Option Nat :=
  ((List.range 32).find? (fun n => match (Tab.get Engine.zero s.eng n).pkg with
    | some k => k.pers == pers
    | none => false)).map (fun n => 40 + n / 4)

/-- Members of a VLAN, and the ports that send it untagged (R259). -/
def State.vlanOf (s : State) (vid : Nat) : BitVec 52 × BitVec 52 :=
  match s.man.vlans.find? (fun v => v.1 == vid) with
  | some v => v.2
  | none => (0, 0)

/-- Ports of a set, in rising order. -/
def portList (m : BitVec 52) : List Nat := (List.range 52).filter (fun p => tst m p)

/-- Both ports of a pair. -/
def State.pairPorts (s : State) (k : Nat) : List Nat := [s.pairPort k false, s.pairPort k true]

/-- What the MAC table says of a destination: the ports, and whether the frame is of a class that a policer takes: 0 BC, 1 MC,
2 UU, 3 none (R262, R266). -/
def State.fdbDest (s : State) (vid : Nat) (dst : BitVec 48) : List Nat × Nat :=
  let flood := portList (s.vlanOf vid).1
  if isBcast dst then (flood, 0)
  else
    match s.staticPorts vid dst with
    | some m => (portList m, 3)
    | none =>
      if isGroup dst then (flood, 1)
      else
        match Tab.find s.sw.fdb (fdbKey vid dst) with
        | some e => (if e.pair then s.pairPorts e.port else [e.port], 3)
        | none => (flood, 2)

/-- An internal port: EC or H (R280). -/
def isInternal (p : Nat) : Bool := decide (40 ≤ p)

/-- Link-local addresses (R261). -/
def linkLocal (a : BitVec 48) : Bool := a.toNat / 16 == 0x0180C200000

/-- Destinations fixed by R261, if it fixes them: link-local addresses and supervision frames (EtherType 0x88FB). -/
def State.fixedDest (s : State) (f : Frame) : Option (List Nat) :=
  if linkLocal f.dst then
    if fld f.dst 0 4 = 1 then some []
    else if fld f.dst 0 4 = 0xE then some (s.ecOf 4).toList else some s.man.linkLocal.toList
  else if f.etype = 0x88FB then some (s.ecOf 5).toList
  else none

/-- Ports that a frame from outside a pair may leave by: a PRP pair and an HSR_DAN pair take frames from internal ports, a
RedBox from inside or its interlink, a QuadBox from inside (R280, R281). -/
def State.pairTakes (s : State) (k ingress : Nat) : Bool :=
  match s.pairMode k with
  | 0 => true
  | 2 => isInternal ingress || s.rf (Reg.SW_PAIR_CFG k) 10 6 == ingress
  | _ => isInternal ingress

/-- A destination that the pair rules leave to a frame from a port outside that destination's pair. -/
def State.mayLeave (s : State) (ingress d : Nat) : Bool :=
  match s.pairOf d with
  | some (k, _) => s.pairTakes k ingress
  | none => true

/-- The ports that an HSR pair delivers to inside (R281): internal ports, the interlink, or the ports of the partner ring. -/
def State.hsrInside (s : State) (k : Nat) (d : Nat) : Bool :=
  match s.pairMode k with
  | 2 => let i := s.rf (Reg.SW_PAIR_CFG k) 10 6; if i = 0x3F then isInternal d else d == i
  | 3 => (s.pairPorts (s.rf (Reg.SW_PAIR_CFG k) 7 3)).contains d
  | _ => isInternal d

/-- The address is the device's own: the MAC table has it at an internal port (R281, log entry 25). -/
def State.ownAddr (s : State) (vid : Nat) (a : BitVec 48) : Bool :=
  match s.staticPorts vid a with
  | some m => (portList m).any isInternal && !isGroup a
  | none =>
    match Tab.find s.sw.fdb (fdbKey vid a) with
    | some e => !e.pair && isInternal e.port
    | none => false

/-! Admission (R267-R269) -/

/-- A queue (s, q) of the Serai. -/
def State.swQueue (s : State) (d q : Nat) : List QFrame := Tab.get [] s.sw.queue (8 * d + q)

/-- Q(s, q): cells of the frames a queue holds (R268, R288). -/
def State.qLen (s : State) (d q : Nat) : Nat := ((s.swQueue d q).map (fun f => f.cells)).sum

/-- MIN(s, q) (R267). -/
def State.qMin (s : State) (d q : Nat) : Nat := s.rf (Reg.SW_PORT_MIN d (q / 2)) (16 * (q % 2)) 16

/-- Every frame copy in the Serai: queued, or staged and not yet sent. -/
def State.inSerai (s : State) : List QFrame :=
  s.sw.queue.flatMap (fun p => p.2) ++ s.sw.staged.flatMap (fun p => p.2.map (fun x => x.2))

/-- Shared cells taken, each frame once (R269). -/
def sharedSum : List Nat → List QFrame → Nat
  | _, [] => 0
  | seen, f :: t => if seen.contains f.id then sharedSum seen t else f.shared + sharedSum (f.id :: seen) t

/-- F: shared cells free (R267). -/
def State.swFree (s : State) : Nat := s.rf Reg.SW_SHARED_SIZE 0 19 - sharedSum [] s.inSerai

/-- e(q), from -6 to 3 (R268, R288). -/
def State.alphaExp (s : State) (q : Nat) : Int := (BitVec.ofNat 4 (s.rf (Reg.SW_ALPHA q) 0 4)).toInt

/-- Q + n <= MIN + 2^e x F, exactly (R268). -/
def admits (qlen n mn free : Nat) (e : Int) : Bool :=
  if 0 ≤ e then decide (qlen + n ≤ mn + 2 ^ e.toNat * free)
  else decide ((qlen + n) * 2 ^ (-e).toNat ≤ mn * 2 ^ (-e).toNat + free)

/-- Cells of a frame beyond what remains of MIN (R268). -/
def beyondMin (qlen n mn : Nat) : Nat := n - (mn - qlen)

/-- A queue admits a frame of n cells (R268). -/
def State.queueAdmits (s : State) (d q n free : Nat) : Bool :=
  admits (s.qLen d q) n (s.qMin d q) free (s.alphaExp q) && decide (beyondMin (s.qLen d q) n (s.qMin d q) ≤ free)

/-- A destination takes frames: its port is enabled (R288); its MAC is on and up (R255, R258); its cluster is not in reset (R310). -/
def State.portReady (s : State) (d : Nat) : Bool :=
  decide (d < 52) && s.rb (Reg.SW_PORT_CFG d) 31
    && (if d < 40 then s.macOn d && s.macUp d else !(decide (d < 48) && s.rf (Reg.PE_CL_STAT (d - 40)) 30 2 != 0))

/-- Refusal of a frame at a destination (R255, R258, R268): counters, and the event on the first since they were read; at a cluster in
reset PE_CL_REFUSED (R310); at a MAC whose link is down TX_FLUSHED. A port that the switch does not have counts nothing (log entry
176). -/
def State.refuseAt (s : State) (d q src : Nat) : State :=
  if 52 ≤ d then s
  else if d < 40 && s.macOn d && !s.macUp d then s.macCnt d 30 1
  else if 40 ≤ d && d < 48 && s.rb (Reg.SW_PORT_CFG d) 31 && s.rf (Reg.PE_CL_STAT (d - 40)) 30 2 != 0 then
    s.cnt (Reg.PE_CL_REFUSED (d - 40)) 0 32 1
  else
    let first := s.rd (Reg.SW_ADMIT_DROP d q) == 0
    ((s.cnt (Reg.SW_ADMIT_DROP d q) 0 32 1).portCnt src 21).raiseIf first 384

/-- One destination of a frame: egress port, queue, the frame as it leaves. -/
structure Dest where
  port : Nat
  q : Nat
  frame : Frame
deriving DecidableEq, Repr

/-- The copy of a frame for one destination port: tagged or untagged by the VLAN (R259). -/
def State.egressFrame (s : State) (vid pcp d : Nat) (f : Frame) : Frame :=
  let bare := if f.vlan.isSome then f.len - 4 else f.len
  if tst (s.vlanOf vid).2 d then { f with vlan := none, len := max 64 bare }
  else { f with vlan := some (pcp, vid), len := bare + 4 }

/-- Cells of a frame (R267). -/
def cellsOf (len : Nat) : Nat := (len + 63) / 64

/-- Put a frame into the queues that admit it; F is taken before the admission and falls once (R268, R269). -/
def State.admitAll (s : State) (src pcp n : Nat) (buf : Option (Nat × Half × Bool)) (ds : List Dest) : State :=
  let free := s.swFree
  let ok (d : Dest) : Bool := s.portReady d.port && s.queueAdmits d.port d.q n free
  let inn := ds.filter ok
  let shared := if ds.length = 1 then (inn.map (fun d => beyondMin (s.qLen d.port d.q) n (s.qMin d.port d.q))).sum else n
  let s1 := eachIn (ds.filter (fun d => !ok d)) (fun d t => t.refuseAt d.port d.q src) s
  let s2 := eachIn inn (fun d t =>
    { t with sw.queue := Tab.put t.sw.queue (8 * d.port + d.q) (t.swQueue d.port d.q
        ++ [⟨src, pcp, n, d.frame, shared, s.sw.nextId, buf⟩]) }) { s1 with sw.nextId := s1.sw.nextId + 1 }
  s2.wf Reg.SW_SHARED_LOW 0 19 (min (s2.rf Reg.SW_SHARED_LOW 0 19) s2.swFree)

/-! Policers (R266) -/

/-- Take a token of a policer: the bucket fills at RATE frames a second up to BURST; it begins full. `none`: no token. Tokens
in units of 10^-9 frames. -/
def State.takeToken (s : State) (p i : Nat) : Option State :=
  let rate := s.rf (Reg.SW_POL p i) 12 20
  let burst := s.rf (Reg.SW_POL p i) 0 12 * 1000000000
  if rate = 0 then some s
  else
    let (tok, at_) := Tab.get (burst, s.clk.ns) s.sw.pol (3 * p + i)
    let now := min burst (tok + rate * (s.clk.ns - at_))
    let s1 (v : Nat) : State := { s with sw.pol := Tab.put s.sw.pol (3 * p + i) (v, s.clk.ns) }
    if 1000000000 ≤ now then some (s1 (now - 1000000000)) else none

/-- A frame that finds no token (R266). -/
def State.policeDrop (s : State) (p i : Nat) : State :=
  let first := s.rd (Reg.SW_POL_DROP p i) == 0
  ((s.cnt (Reg.SW_POL_DROP p i) 0 32 1).portCnt p 22).raiseIf first 385

/-! Queue choice (R260) -/

/-- Priority of a frame at its port: its PCP, DEF_PCP when untagged, the descriptor's queue from an EC or H port (R260). -/
def State.priorityOf (s : State) (p : Nat) (f : Frame) : Nat :=
  if p < 40 then match f.vlan with
    | some (pcp, _) => pcp % 8
    | none => s.rf (Reg.SW_PORT_CFG p) 27 3
  else f.queue.getD 0 % 8

/-- The queue that a frame's priority maps to (R260). -/
def State.mappedQueue (s : State) (p : Nat) (f : Frame) : Nat :=
  let pr := s.priorityOf p f
  if p < 40 then s.rf (Reg.SW_PORT_PMAP p) (3 * pr) 3 else pr

/-- Egress queue of a frame: a port that may not use queue 7 gets queue 6 (R260). -/
def State.queueOf (s : State) (p : Nat) (f : Frame) : Nat :=
  let q := s.mappedQueue p f
  let trusted :=
    if p < 40 then s.rb (Reg.MAC_CFG p) 19
    else if p < 48 then true
    else match f.fn with
      | some t => s.pCfg t
      | none => false
  if q = 7 && !trusted then 6 else q

/-! Forwarding (R259-R262, R266, R280, R281) -/

/-- A redundancy tag or trailer adds six octets (R257, R280, R281). -/
def withRed (f : Frame) (r : RedTag) : Frame :=
  if f.red = .none then { f with red := r, len := f.len + 6 } else { f with red := r }

/-- A frame without its tag or trailer. -/
def bareRed (f : Frame) : Frame := if f.red = .none then f else { f with red := .none, len := f.len - 6 }

/-- The copies for a list of ports: the pair ports of a frame that carries no tag yet get the pair's next sequence number, one
for both copies (R280, R281). -/
def State.copies (q : Nat) (mk : Nat → Frame) : State → List (Nat × Half) → List Nat → List Dest × State
  | s, _, [] => ([], s)
  | s, seqs, d :: t =>
    match s.pairOf d with
    | some (k, b) =>
      let f := mk d
      if f.red ≠ .none then
        let (l, s1) := State.copies q mk s seqs t
        (⟨d, q, f⟩ :: l, s1)
      else
        let (n, s1, seqs1) := match seqs.find? (fun x => x.1 == k) with
          | some x => (x.2, s, seqs)
          | none => let (n, u) := s.nextSeq k; (n, u, (k, n) :: seqs)
        let (l, s2) := State.copies q mk s1 seqs1 t
        (⟨d, q, withRed f (s.redTag k b n)⟩ :: l, s2)
    | none =>
      let (l, s1) := State.copies q mk s seqs t
      (⟨d, q, mk d⟩ :: l, s1)

/-- Send a classified frame to queue `q` of a list of ports (R259, R268, R269, R280, R281). -/
def State.sendQ (s : State) (q p vid : Nat) (f : Frame) (buf : Option (Nat × Half × Bool)) (ports : List Nat) : State :=
  let pr := s.priorityOf p f
  let (ds, s1) := State.copies q (fun d => s.egressFrame vid pr d f) s [] ports
  s1.admitAll p pr (cellsOf f.len) buf ds

/-- Send it to the queue of R260. -/
def State.sendTo (s : State) (p vid : Nat) (f : Frame) (buf : Option (Nat × Half × Bool)) (ports : List Nat) : State :=
  s.sendQ (s.queueOf p f) p vid f buf ports

/-- A frame of an HSR ring goes on to ring ports: one that carries a queue-7 priority keeps queue 7 (R281). -/
def State.ringSend (s : State) (p vid : Nat) (f : Frame) (ports : List Nat) : State :=
  s.sendQ (s.mappedQueue p f) p vid f none ports

/-- A list of destinations with both ports of every pair of which it names one (R280, R281). -/
def State.wholePairs (s : State) (l : List Nat) : List Nat :=
  l ++ (List.range 8).flatMap (fun k =>
    if l.any (fun p => (s.pairOf p).any (fun x => x.1 == k)) then (s.pairPorts k).filter (fun p => !l.contains p) else [])

/-- A RedBox learns a source that comes from its interlink; one that its ProxyNodeTable refuses is not sent into the ring
(R281, R282). -/
def State.noteProxy (s : State) (p : Nat) (f : Frame) : State × List Nat :=
  (List.range 8).foldl (fun (a : State × List Nat) k =>
    let i := a.1.rf (Reg.SW_PAIR_CFG k) 10 6
    if a.1.rb (Reg.SW_PAIR_CFG k) 31 && a.1.pairMode k == 2 && (i == p || (i == 0x3F && isInternal p)) then
      match noteNode 512 (Tab.get [] a.1.sw.proxy k) f.src s.clk.ns with
      | some l => ({ a.1 with sw.proxy := Tab.put a.1.sw.proxy k l }, a.2)
      | none => (a.1.nodeFull k, a.1.pairPorts k ++ a.2)
    else a) (s, [])

/-- Forward a frame by the tables, to those destinations that `keep` leaves (R261, R262). -/
def State.forward (s : State) (p vid : Nat) (f : Frame) (buf : Option (Nat × Half × Bool)) (keep : Nat → Bool) : State :=
  let partner : List Nat := match s.pairOf p with
    | some (k, _) => s.pairPorts k
    | none => [p]
  let (s0, barred) := s.noteProxy p f
  match f.direct, s0.fixedDest f with
  | some d, _ => s0.sendTo p vid f buf [d]
  | none, some l => s0.sendTo p vid f buf (l.filter (fun d => d != p))
  | none, none =>
    let l := s0.wholePairs (s0.fdbDest vid f.dst).1
    s0.sendTo p vid f buf (l.filter (fun d => !partner.contains d && s0.mayLeave p d && keep d && !barred.contains d))

/-- A frame received on a port of a PRP pair: duplicate discard, trailer removed, the first copy to internal ports; without a
trailer it is forwarded as it is (R280). -/
def State.prpReceive (s : State) (p k : Nat) (b : Bool) (vid : Nat) (f : Frame) : State :=
  match f.red with
  | .prp lan seq =>
    let wrong := s.rb (Reg.SW_PAIR_CFG k) 6 && lan == (if b then 0xA else 0xB)
    let i := if b then 3 else 2
    let s0 := if wrong then (s.pairCnt k i).raiseIf (s.rd (Reg.SW_PAIR_CNT k i) == 0) 389 else s
    let dup := s0.dupHas k 0 f.src seq
    let s1 := (s0.dupNote k 0 b f.src seq).noteSource k f.src
    if dup then s1 else s1.forward p vid (bareRed f) none isInternal
  | _ => (s.noteSource k f.src).forward p vid f none (fun _ => true)

/-- Note in a direction's table a frame that is sent in it without having come from the ring (R281, R282). -/
def State.dupSent (s : State) (k d : Nat) (b : Bool) (src : BitVec 48) (seq : Half) : State :=
  if s.dupHas k d src seq then s else s.dupNote k d b src seq

/-- A QuadBox passes a frame of one ring to the other: out of both ring ports, but not in a direction in which it has been sent, with its
tag (R281). -/
def State.quadPass (s : State) (p vid k : Nat) (src : BitVec 48) (seq : Half) (f : Frame) : State :=
  let outs := ([false, true] : List Bool).filter (fun b => !s.dupHas k (bitOf (!b)) src seq)
  let s1 := eachIn outs (fun b t => t.dupSent k (bitOf (!b)) (!b) src seq) s
  s1.ringSend p vid f (outs.map (fun b => s.pairPort k b))

/-- A frame received on a ring port of an HSR pair: forwarded out of the other ring port, and its first copy delivered inside
(R281). The table of direction 0 is that of frames from port A to port B. A frame without an HSR tag does not belong to the
ring: IEC 62439-3 has it discarded. -/
def State.hsrReceive (s : State) (p k : Nat) (b : Bool) (vid : Nat) (f : Frame) : State :=
  match f.red with
  | .hsr seq =>
    let d := bitOf b
    let sent := s.dupHas k d f.src seq
    let came := sent || s.dupHas k (1 - d) f.src seq
    let own := s.ownAddr vid f.src || (s.pairMode k == 2 && s.proxied k f.src)
    let mine := !isGroup f.dst && (s.ownAddr vid f.dst || (s.pairMode k == 2 && s.proxied k f.dst))
    let s1 := (s.dupNote k d b f.src seq).noteSource k f.src
    let s2 := if sent || own || mine then s1 else s1.ringSend p vid f [s.pairPort k (!b)]
    if came || own then s2
    else if s.pairMode k = 3 then s2.quadPass p vid (s.rf (Reg.SW_PAIR_CFG k) 7 3) f.src seq f
    else s2.forward p vid (bareRed f) none (s.hsrInside k)
  | _ => s

/-- A policer takes the forwarding copy of a frame: it goes on with a token, or is discarded (R266). -/
def State.police (s : State) (p c : Nat) (go : State → State) : State :=
  if c < 3 then
    match s.takeToken p c with
    | some t => go t
    | none => s.policeDrop p c
  else go s

/-- A frame in the switch, from any port: classification, ingress filter, learning, policing, forwarding (R259-R266); none in SAFE TALK
(R467). -/
def State.ingress (s : State) (p : Nat) (f : Frame) (buf : Option (Nat × Half × Bool)) : State :=
  let cfg := Reg.SW_PORT_CFG p
  if !s.rb cfg 31 || s.dev.st == .safeTalk then s
  else
    let vid := match f.vlan with
      | some (_, v) => if v = 0 then s.rf cfg 0 12 else v
      | none => s.rf cfg 0 12
    if s.rb cfg 30 && !tst (s.vlanOf vid).1 p then s.portCnt p 23
    else
      (s.learnAsk vid f.src p).police p (s.fdbDest vid f.dst).2 (fun t =>
        match t.pairOf p with
        | some (k, b) => if t.pairMode k = 0 then t.prpReceive p k b vid f else t.hsrReceive p k b vid f
        | none => t.forward p vid f buf (fun _ => true))

/-- A good frame enters the switch, which delivers a copy of a sampled-value frame to an intake beside what its tables do (R73). -/
def State.toSwitch (s : State) (p : Nat) (f : Frame) : State :=
  if s.rb (Reg.SW_PORT_CFG p) 31 && s.dev.st != .safeTalk then (s.svCopy p f).ingress p f none else s

/-- A good frame of a MAC goes to the switch; a MACsec frame of an uplink only once it has passed (R427). -/
def State.fromMac (s : State) (p : Nat) (f : Frame) : State :=
  match f.msec, uplinkOf p with
  | some m, some u =>
    match s.msecRx u m with
    | (true, s1) => s1.toSwitch p (bareSec f)
    | (false, s1) => s1
  | _, _ => s.toSwitch p f

/-- FRAME_RECEIVE (R257): a MAC checks the frame before the switch sees it; a MAC control frame goes no further. The MAC stamps the
frame (R50, R51). Frames of EC and H ports enter the switch as they are. -/
def State.frameReceive (s : State) (p : Nat) (x : Arrival) : State :=
  let f : Frame := if p < 40 then { x.frame with ts := s.ingressT p x.age x.phase.val } else x.frame
  if 40 ≤ p then s.ingress p f none
  else if !s.macOn p || !s.macUp p then s
  else
    let s1 := s.countAll p f.len
    match macCheck f (s.rf (Reg.MAC_CFG p) 0 11) with
    | some j =>
      let s2 := s1.macCnt p j 1
      let s3 := if j = 4 ∧ f.oddOctet ∧ s.macMode p = 1 then s2.macCnt p 5 1 else s2
      if isRxErr j then s3.rxErr p else s3
    | none => if f.etype = 0x8808 then s1.macControl p f else (s1.countOk p f).fromMac p f

/-! The meanings of the rows -/

/-- FRAME_RECEIVE (R257): A MAC receives a frame, checks it, classifies, polices, learns and admits it to egress queues. -/
def execFrameReceive (sn : Nat) (x : Arrival) (s : State) : Out :=
  live (frameReceiveOk sn) s (s.frameReceive sn x)

/-- PAUSE_RECEIVE (R276): A PAUSE frame is consumed and stops the transmitter for its quanta. -/
def execPauseReceive (p : Nat) (quanta : BitVec 16) (s : State) : Out :=
  live (pauseReceiveOk p) s (s.pauseReceive p quanta)

/-- PFC_RECEIVE (R278): A per-class pause frame stops the mapped egress queues. -/
def execPfcReceive (p : Nat) (vec : BitVec 8) (quanta : List (BitVec 16)) (s : State) : Out :=
  live (pfcReceiveOk p) s (s.pfcReceive p vec quanta)

/-- LEARN_REQUEST (R264): The learning engine takes a learn request from its FIFO and adds, moves or blocks the entry. -/
def execLearnRequest (s : State) : Out :=
  live true s (s.learnRequest)

/-- MOVE_LOCK_END (R265): 10 s after a lock began the entry unlocks and its move count clears. -/
def execMoveLockEnd (vid : Nat) (mac : BitVec 48) (s : State) : Out :=
  live (moveLockEndOk vid) s (s.moveLockEnd vid mac)

/-- MAC_AGE_OUT (R263): A learned entry idle for AGE_TIME is removed. -/
def execMacAgeOut (vid : Nat) (mac : BitVec 48) (s : State) : Out :=
  live (macAgeOutOk vid) s (s.macAgeOut vid mac)

/-- ENTRY_FORGET (R282): A duplicate-discard entry reaches EntryForgetTime and is forgotten. -/
def execEntryForget (k : Nat) (dir : Nat) (s : State) : Out :=
  live (entryForgetOk k dir) s (s.entryForget k dir)

/-- NODE_FORGET (R282): A NodesTable or ProxyNodeTable entry reaches NodeForgetTime and is forgotten. -/
def execNodeForget (k : Nat) (mac : BitVec 48) (s : State) : Out :=
  live (nodeForgetOk k) s (s.nodeForget k mac)

/-- FDB_LOOKUP (R288): A write of SW_FDB_KEY_HI runs a MAC-table lookup into SW_FDB_RESULT. -/
def execFdbLookup (fn : Nat) (val : BitVec 32) (s : State) : Out :=
  checked (fdbLookupOk fn) s (s.fdbLookup fn val)

end Sys2Proof.Machine
end

