-- ==== Sys2Proof/Machine/SwitchTx.lean ====
section
/-! DEFINITION. The egress side of the switch (10_ports_switch.md): PAUSE and per-class pause, links, the crossbar, transmission;
and the unsupported PTP frames of R55. -/

namespace Sys2Proof.Machine

/-! Links (R258) -/

/-- LINK of a MAC changes (R258, R287, R290, R291): a pair port raises SW_PAIR_LAN. -/
def State.linkChange (s : State) (p : Nat) (up : Bool) : State :=
  if s.macUp p = up then s
  else
    let s1 := ((s.wb (Reg.MAC_STAT p) 31 up).wb (Reg.MAC_STAT p) 19 true).raiseAt (128 + 4 * p) p 0
    s1.raiseIf (s1.pairOf p).isSome 388

/-- The engine's transmit buffer of a frame that has left the Serai is given back (R332): to its pool, or to DONE. -/
def State.bufBack (s : State) (f : QFrame) : State :=
  match f.buf with
  | some (n, base, rel) =>
    if s.inSerai.any (fun g => g.id == f.id) then s
    else
      let e := Tab.get Engine.zero s.eng n
      let e1 := if rel then { e with used := e.used.filter (fun b => b != base) }
        else { e with fp := { e.fp with done := e.fp.done ++ [base] } }
      { s with eng := Tab.put s.eng n e1 }
  | none => s

/-- Everything queued for a port leaves the Serai (R258). -/
def State.flushPort (s : State) (p : Nat) : State :=
  let gone := (List.range 8).flatMap (fun q => s.swQueue p q) ++ (Tab.get [] s.sw.staged p).map (fun x => x.2)
  let trips := (s.trip.frames.filter (fun f => f.port == p)).length
  let s1 := { s with
    sw.queue := s.sw.queue.filter (fun x => x.1 / 8 != p), sw.staged := Tab.del s.sw.staged p
    trip.frames := s.trip.frames.filter (fun f => f.port != p) }
  let s2 := eachIn gone (fun f t => t.bufBack f) s1
  if p < 40 then s2.macCnt p 30 (gone.length + trips) else s2

/-- LINK_DOWN (R258). -/
def State.linkDown (s : State) (p : Nat) : State :=
  if s.macOn p && s.macUp p then (s.linkChange p false).flushPort p else s

/-- LINK_UP (R258, R287): SPEED of an SGMII port, AN_DONE. -/
def State.linkUp (s : State) (p : Nat) (speed : BitVec 2) (anDone : Bool) : State :=
  if s.macOn p then
    ((s.linkChange p true).wf (Reg.MAC_STAT p) 29 2 (if s.macMode p = 3 then speed.toNat else 3)).wb (Reg.MAC_STAT p) 16 anDone
  else s

/-! The end of a pause, and the sending of PAUSE (R276-R278) -/

/-- PAUSE_EXPIRY (R276, R278): of the port, or of one class. -/
def State.pauseExpiry (s : State) (p : Nat) (cls : Option Nat) : State :=
  match cls with
  | none =>
    match Tab.find s.sw.pause p with
    | some t => if s.clk.ns < t then s else { s with sw.pause := Tab.del s.sw.pause p }.setPaused p false
    | none => s
  | some c =>
    match Tab.find s.sw.pfc (8 * p + c) with
    | some t => if s.clk.ns < t then s else { s with sw.pfc := Tab.del s.sw.pfc (8 * p + c) }.showPfc p
    | none => s

/-- MAC_PAUSE_LEFT: remaining PAUSE time in units of 512 bit times (R285). -/
def State.pauseLeft (s : State) (p : Nat) : Word :=
  match Tab.find s.sw.pause p with
  | some t => BitVec.ofNat 32 ((t - s.clk.ns) * s.rateMbps p / 512000)
  | none => 0

/-- Cells held in the Serai for frames received on a port, of one priority or of all (R277). -/
def State.heldCells (s : State) (p pcp : Nat) : Nat :=
  let rec go (seen : List Nat) : List QFrame → Nat
    | [] => 0
    | f :: t =>
      if f.src = p ∧ (pcp = 8 ∨ f.pcp = pcp) ∧ !seen.contains f.id then f.cells + go (f.id :: seen) t else go seen t
  go [] s.inSerai

/-- PAUSE_SEND (R277): over XOFF, or still above XON when the repeat interval ends, quanta 0xFFFF; below XON, quanta 0. `pcp` 8
stands for PAUSE, which a port with PFC_EN = 1 does not send. -/
def State.pauseSend (s : State) (p pcp : Nat) : State :=
  let pfc := s.rb (Reg.MAC_CFG p) 21
  if !s.macOn p || !s.rb (Reg.MAC_CFG p) 22 || pfc != decide (pcp < 8) then s
  else
    let key := 9 * p + pcp
    let held := s.heldCells p pcp
    let sent := Tab.find s.sw.xoff key
    let cls : Option Nat := if pcp < 8 then some pcp else none
    let tx (v : Half) (t : State) : State :=
      { t with sw.pauseTx := Tab.put t.sw.pauseTx p (cls, v) }.macCnt p (if pfc then 29 else 28) 1
    let again : State := tx 0xFFFF { s with sw.xoff := Tab.put s.sw.xoff key s.clk.ns }
    match sent with
    | none => if s.rf (Reg.MAC_PAUSE_CFG p) 16 16 < held then again else s
    | some t =>
      if held < s.rf (Reg.MAC_PAUSE_CFG p) 0 16 then tx 0 { s with sw.xoff := Tab.del s.sw.xoff key }
      else if s.rf (Reg.MAC_PAUSE_CFG p) 0 16 < held && decide (t + s.bitsNs p (0xFFFF * 256) ≤ s.clk.ns) then again
      else s

/-! The crossbar (R272-R275) -/

/-- The port of a crossbar lane: a 200 Gbit/s uplink UP(4m) takes the lanes of UP(4m) and UP(4m + 1) (R256, R272). Lanes 52
and 53 are the trip publishers TPE and TPW. -/
def State.laneOfPort (s : State) (l : Nat) : Nat :=
  if 32 ≤ l ∧ l < 40 ∧ l % 4 = 1 ∧ s.macMode (l - 1) = 9 ∧ s.rb (Reg.MAC_CFG (l - 1)) 31 then l - 1 else l

/-- The wing whose trip publisher is an input lane. -/
def tripInput (i : Nat) : Option Wing := if i = 52 then some .east else if i = 53 then some .west else none

/-- Trip frames of a publisher that wait at a port, in order of building (R270, R274). -/
def State.tripVoq (s : State) (w : Wing) (p : Nat) : List TripFrame := s.trip.frames.filter (fun f => f.wing == w && f.port == p)

/-- VOQ(i, o, q): frames from an input for a queue of an output, in arrival order (R274). -/
def State.voq (s : State) (i p q : Nat) : List QFrame :=
  (s.swQueue p q).filter (fun f => f.src == s.laneOfPort i)

/-- VOQ(i, o, q) holds a frame; trip publishers take part for queue 7 only (R272, R274). -/
def State.voqHas (s : State) (i p q : Nat) : Bool :=
  match tripInput i with
  | some w => q == 7 && !(s.tripVoq w p).isEmpty
  | none => !(s.voq i p q).isEmpty

/-- Rate limit of a queue: rate in Mbit/s and burst in units of 1/8000 octet; queue 7 and internal ports have none (R275,
R285). Toll step 8 holds queues 0-4 of every uplink to half its line rate (R445). -/
def State.qRate (s : State) (p q : Nat) : Nat × Nat :=
  if p < 40 && q < 7 then
    let r := s.rf (Reg.MAC_QRATE p q) 0 18
    let half := s.rateMbps p / 2
    if s.toll.steps.contains 8 && 32 ≤ p && q < 5 then
      (if r = 0 then half else min r half, max (s.rf (Reg.MAC_QRATE p q) 24 8) 2 * 1024 * 8000)
    else (r, s.rf (Reg.MAC_QRATE p q) 24 8 * 1024 * 8000)
  else (0, 0)

/-- Credit of a queue now, in units of 1/8000 octet: a rate of 1 Mbit/s adds one unit a nanosecond (R275). -/
def State.creditNow (s : State) (p q : Nat) : Nat :=
  let (rate, burst) := s.qRate p q
  let (c, at_) := Tab.get (burst, s.clk.ns) s.sw.credit (8 * p + q)
  min burst (c + rate * (s.clk.ns - at_))

/-- The first frame of a queue is within its rate limit (R273, R275). -/
def State.inCredit (s : State) (p q : Nat) : Bool :=
  (s.qRate p q).1 == 0 || (match s.swQueue p q with
    | f :: _ => decide (f.frame.len * 8000 ≤ s.creditNow p q)
    | [] => true)

/-- A queue holds an eligible frame for an output (R273). -/
def State.eligible (s : State) (p q : Nat) : Bool :=
  (!(s.swQueue p q).isEmpty || (q == 7 && s.trip.frames.any (fun f => f.port == p)))
    && !s.pfcStopped p q && s.inCredit p q

/-- q*(o): the highest queue holding an eligible frame (R274). -/
def State.topQueue (s : State) (p : Nat) : Option Nat := [7, 6, 5, 4, 3, 2, 1, 0].find? (s.eligible p)

/-- An output requests a new frame: nothing staged, idle or at most 64 ns of wire time left, not stopped by PAUSE; the second lane of a
port only while the port is idle, as a port holds two frames at most (R272, R273, R276). -/
def State.requests (s : State) (o : Nat) : Bool :=
  let p := s.laneOfPort o
  (Tab.get [] s.sw.staged p).isEmpty && decide (Tab.get 0 s.sw.wire p ≤ s.clk.ns + 64)
    && (Tab.find s.sw.pause p).isNone && s.portReady p && (o == p || decide (Tab.get 0 s.sw.wire p ≤ s.clk.ns))

/-- An input lane is free: no transfer holds it (R272). -/
def State.inputFree (s : State) (i : Nat) : Bool := decide (Tab.get 0 s.sw.busyIn i ≤ s.clk.ns)

/-- The first member at or after a pointer, cyclically. -/
def firstFrom (n ptr : Nat) (ok : Nat → Bool) : Option Nat :=
  ((List.range n).map (fun j => (ptr + j) % n)).find? ok

/-- The grant of an output: a trip input whose head frame was built first, TPE on a tie; else the first requesting input at or
after the grant pointer (R274). -/
def State.grantOf (s : State) (o q : Nat) (asks : Nat → Bool) : Option Nat :=
  let p := s.laneOfPort o
  match s.trip.frames.find? (fun f => f.port == p && asks (52 + f.wing.idx)) with
  | some f => if q = 7 then some (52 + f.wing.idx) else firstFrom 54 (Tab.get 0 s.sw.grant (8 * o + q)) asks
  | none => firstFrom 54 (Tab.get 0 s.sw.grant (8 * o + q)) asks

/-- A state of the matching: pairs of input and output, and the pointers. -/
structure Match where
  pairs : List (Nat × Nat)
  grant : Tab Nat
  accept : Tab Nat
deriving DecidableEq, Repr

/-- One iteration of the matching over the requesting outputs with their q* (R274). -/
def State.matchIter (s : State) (first : Bool) (outs : List (Nat × Nat)) (m : Match) : Match :=
  let freeIn (i : Nat) : Bool := s.inputFree i && !m.pairs.any (fun p => p.1 == i)
  let open_ := outs.filter (fun o => !m.pairs.any (fun p => p.2 == o.1))
  let sg := { s with sw.grant := m.grant }
  let grants := open_.filterMap (fun o =>
    (sg.grantOf o.1 o.2 (fun i => freeIn i && s.voqHas i (s.laneOfPort o.1) o.2)).map (fun i => (i, o)))
  let accepted := (List.range 54).filterMap (fun i =>
    let mine := (grants.filter (fun g => g.1 == i)).map (fun g => g.2)
    let top := mine.foldl (fun q o => max q o.2) 0
    (firstFrom 52 (Tab.get 0 m.accept i) (fun o => mine.any (fun x => x.1 == o && x.2 == top))).map (fun o => (i, o, top)))
  accepted.foldl (fun a x =>
    { pairs := a.pairs ++ [(x.1, x.2.1)]
      grant := if first then Tab.put a.grant (8 * x.2.1 + x.2.2) ((x.1 + 1) % 54) else a.grant
      accept := if first then Tab.put a.accept x.1 ((x.2.1 + 1) % 52) else a.accept }) m

/-- A trip frame as it goes to its port: on queue 7, with the addresses, tag and length of the manifest's template, its content, and the
redundancy tag of its port's pair (R172, R173, R280). -/
def State.tripQFrame (s : State) (i : Nat) (f : TripFrame) (c : TripPubCfg) : QFrame :=
  { src := i, pcp := 7, cells := (c.len + 63) / 64, shared := 0, id := s.sw.nextId, buf := none
    frame := withRed {
      dst := c.dst, src := c.src, vlan := some (c.pcp, c.vid), etype := 0x88B8, len := c.len, red := .none, fcsBad := false
      oddOctet := false, codeBad := false, queue := some 7, fn := none, direct := none, stamp := none, pay := [], cls := (0, 0)
      ts := 0, msec := none, goose := some f.msg } f.red }

/-- The head frame of a matched pair crosses to the output's staging buffer; its input lane is held one cell time a cell, from
the next cell time on (R272, R273). -/
def State.transfer (s : State) (i o q : Nat) : State :=
  let p := s.laneOfPort o
  let put (t : State) (f : QFrame) : State :=
    { t with
      sw.staged := Tab.put t.sw.staged p (Tab.get [] t.sw.staged p ++ [(q, f)])
      sw.busyIn := Tab.put t.sw.busyIn i (t.clk.ns + (16 * (f.cells + 1) + 4) / 5) }
  match tripInput i with
  | some w =>
    match s.tripVoq w p with
    | f :: _ =>
      let s1 := { s with trip.frames := s.trip.frames.erase f, sw.nextId := s.sw.nextId + 1 }
      match s.pubOf f.g with
      | some c => put s1 (s.tripQFrame i f c)
      | none => s1
    | [] => s
  | none =>
    match s.voq i p q with
    | f :: _ =>
      let s1 := { s with sw.queue := Tab.put s.sw.queue (8 * p + q) ((s.swQueue p q).erase f) }
      let s2 := if (s.qRate p q).1 = 0 then s1
        else { s1 with sw.credit := Tab.put s1.sw.credit (8 * p + q) (s.creditNow p q - f.frame.len * 8000, s.clk.ns) }
      put s2 f
    | [] => s

/-- CROSSBAR_MATCH (R274): three iterations, then the transfers. -/
def State.crossbarMatch (s : State) : State :=
  let outs := (List.range 52).filterMap (fun o =>
    if s.requests o then (s.topQueue (s.laneOfPort o)).map (fun q => (o, q)) else none)
  let m := s.matchIter false outs (s.matchIter false outs (s.matchIter true outs ⟨[], s.sw.grant, s.sw.accept⟩))
  eachIn m.pairs (fun p t => t.transfer p.1 p.2 (((outs.find? (fun o => o.1 == p.2)).map (fun o => o.2)).getD 0))
    { s with sw.grant := m.grant, sw.accept := m.accept }

/-! Transmission (R66, R271, R273) -/

/-- Counters of a frame sent by a MAC (R284). -/
def State.countTx (s : State) (p : Nat) (f : Frame) : State :=
  let s1 := (s.macCnt p 24 1).macCnt p 25 (f.len - 18)
  if isBcast f.dst then s1.macCnt p 26 1 else if isGroup f.dst then s1.macCnt p 27 1 else s1

/-- Octets of a frame from its destination address on, without its FCS, as words (R331). -/
def frameWords (f : Frame) : List Half :=
  let tag : List Half := match f.vlan with
    | some (pcp, vid) => [0x8100, BitVec.ofNat 16 (pcp % 8 * 2 ^ 13 + vid % 4096)]
    | none => []
  let rec pairUp : List Octet → List Half
    | a :: b :: t => (a ++ b) :: pairUp t
    | [a] => [a ++ (0 : Octet)]
    | [] => []
  halvesOf 3 f.dst.toNat ++ halvesOf 3 f.src.toNat ++ tag ++ [f.etype] ++ pairUp f.pay

/-- Receive buffers of an engine: 768 words each, from the base of each QUEUE region on (R331). -/
def rxBuffers (k : Package) : List Half :=
  (k.regions.filter (fun g => g.owner == 3)).flatMap (fun g =>
    (List.range ((g.limit + 1 - g.base) / 768)).map (fun j => BitVec.ofNat 16 (g.base + 768 * j)))

/-- The first receive buffer that is free. -/
def Engine.freeBuf (e : Engine) : Option Half :=
  match e.pkg with
  | some k => (rxBuffers k).find? (fun b => !e.used.contains b)
  | none => none

/-- A frame reaches the engine that the classification gives it, in a free buffer with a free timestamp handle (R331, R334). -/
def State.toEngine (s : State) (n : Nat) (x : QFrame) (base : Half) : State :=
  let e := Tab.get Engine.zero s.eng n
  let h := ((List.range 64).find? (fun j => (Tab.find e.handles j).isNone)).getD 0
  let d : RxDesc := ⟨base, BitVec.ofNat 16 (x.frame.len - 4), x.src, x.pcp, h, tsRec x.frame.ts 0⟩
  let q := x.frame.cls.2 % 4
  let ws := frameWords x.frame
  { s with eng := Tab.put s.eng n { e with
      data := putHalves e.data base.toNat ws
      badData := e.badData.filter (fun a => !(decide (base.toNat ≤ a) && decide (a < base.toNat + ws.length)))
      used := base :: e.used, handles := Tab.put e.handles h (d.ts, base)
      rxq := Tab.put e.rxq q (Tab.get [] e.rxq q ++ [d]) } }

/-- An uncorrectable error in a frame's cells: discarded before it begins, ended with an inverted FCS after (R271). -/
def State.eccDrop (s : State) (p : Nat) : State :=
  ((((s.portCnt p 32).raise 391).setAlarm 21 true).raise 563).safeLast 563 1 3

/-- FRAME_TRANSMIT (R66, R271, R273): the staged frame goes out, if the wire is free and no PAUSE holds the port (R276); a frame for an engine waits for a free
buffer (R331); an uplink protects it under MACsec (R427, R428). `phase` is that of its timestamp (R50). -/
def State.frameTransmit (s : State) (p : Nat) (ecc begun : Bool) (phase : Nat) : State :=
  match Tab.get [] s.sw.staged p with
  | [] => s
  | (_, x) :: t =>
    if s.clk.ns < Tab.get 0 s.sw.wire p || (Tab.find s.sw.pause p).isSome then s
    else
      let s0 := { s with sw.staged := Tab.put s.sw.staged p t }
      let wire (more : Nat) (u : State) : State :=
        { u with
          sw.wire := Tab.put u.sw.wire p (s.clk.ns + s.bitsNs p ((x.frame.len + more + 20) * 8))
          sw.lastTx := some (p, { x.frame with fcsBad := ecc }) }
      if ecc && !begun then (s0.bufBack x).eccDrop p
      else if ecc then ((wire 0 s0).bufBack x).eccDrop p
      else if 48 ≤ p then (wire 0 s0).bufBack x
      else if 40 ≤ p then
        let n := 4 * (p - 40) + x.frame.cls.1 % 4
        match (Tab.get Engine.zero s.eng n).freeBuf with
        | some b => ((wire 0 s0).toEngine n x b).bufBack x
        | none => s
      else if 1528 < x.frame.len then (s0.bufBack x).macCnt p 31 1
      else
        match s0.msecTx p with
        | (none, s1) => s1.bufBack x
        | (some n, s1) =>
          let s2 := ((wire n s1).bufBack x).countTx p x.frame
          match x.frame.stamp with
          | some id => s2.tsqPush p (tsRec (s2.egressT p 0 phase) id)
          | none => s2

/-! PTP messages that the device does not support (R55) -/

/-- PTP_UNSUPPORTED (R55): counted on a PTP-enabled port, the first since the count was read raising TIME_PTP_UNSUP; Delay_Req and
Delay_Resp are discarded, the others forwarded as ordinary traffic. -/
def State.ptpUnsupported (s : State) (p : Nat) (delayMsg : Bool) (x : Arrival) : State :=
  if !s.macOn p || !s.macUp p || !s.rb (Reg.MAC_CFG p) 18 then s.frameReceive p x
  else
    let first := s.rf Reg.TIME_PTP_CNT 16 16 == 0
    let s1 := (s.cnt Reg.TIME_PTP_CNT 16 16 1).raiseIf first 410
    if delayMsg then (s1.countAll p x.frame.len).countOk p x.frame else s1.frameReceive p x

/-! The meanings of the rows -/

/-- PTP_UNSUPPORTED (R55): An unsupported PTP message on a PTP port is counted, discarded or forwarded without correction. -/
def execPtpUnsupported (p : Nat) (delayMsg : Bool) (x : Arrival) (s : State) : Out :=
  live (ptpUnsupportedOk p) s (s.ptpUnsupported p delayMsg x)

/-- PAUSE_EXPIRY (R276): A PAUSE or per-class pause time runs out and transmission resumes. -/
def execPauseExpiry (p : Nat) (cls : Option Nat) (s : State) : Out :=
  live (pauseExpiryOk p) s (s.pauseExpiry p cls)

/-- PAUSE_SEND (R277): Received-frame cells cross XOFF or XON, or the repeat interval expires, and a PAUSE or PFC frame is sent. -/
def execPauseSend (p : Nat) (pcp : Nat) (s : State) : Out :=
  live (pauseSendOk p pcp) s (s.pauseSend p pcp)

/-- LINK_DOWN (R258): A MAC's link goes down and its queued frames are flushed. -/
def execLinkDown (p : Nat) (s : State) : Out :=
  live (linkDownOk p) s (s.linkDown p)

/-- LINK_UP (R258): A MAC's link comes up and it is admitted to forwarding again. -/
def execLinkUp (p : Nat) (speed : BitVec 2) (anDone : Bool) (s : State) : Out :=
  live (linkUpOk p) s (s.linkUp p speed anDone)

/-- CROSSBAR_MATCH (R274): Once per cell time the crossbar matches requesting outputs to inputs in three iterations. -/
def execCrossbarMatch (s : State) : Out :=
  live true s (s.crossbarMatch)

/-- FRAME_TRANSMIT (R273): A staged frame is sent from an egress port, stamped if required. -/
def execFrameTransmit (sn : Nat) (ecc begun : Bool) (phase : Nat) (s : State) : Out :=
  live (frameTransmitOk sn phase) s (s.frameTransmit sn ecc begun phase)

end Sys2Proof.Machine
end

