-- ==== Sys2Proof/Machine/Operands.lean ====
section
/-! DEFINITION. The operands of the engines' processors (11_engines.md): the four spaces of R294, the I/O registers of R295, the
one-master rule of R296, and the addressing modes of the session processor (R347). A processor's access answers a trap cause, or
its value and the state after it. -/

namespace Sys2Proof.Machine

/-! Engines -/

/-- Engine n. -/
def State.en (s : State) (n : Nat) : Engine := Tab.get Engine.zero s.eng n

/-- Replace engine n. -/
def State.setEn (s : State) (n : Nat) (e : Engine) : State := { s with eng := Tab.put s.eng n e }

/-- Change the frame processor, the session processor of an engine. -/
def State.onFp (s : State) (n : Nat) (f : Fp → Fp) : State := s.setEn n { s.en n with fp := f (s.en n).fp }
def State.onSp (s : State) (n : Nat) (f : Sp → Sp) : State := s.setEn n { s.en n with sp := f (s.en n).sp }

/-- PE_STAT.STATE (R317): 0 STOPPED, 1 LOADING, 2 RUNNING, 3 TRAPPED, 4 HALTED. -/
def State.peState (s : State) (n : Nat) : Nat := s.rf (Reg.PE_STAT n) 29 3

/-- STATE changes, with its event (R313, R317). -/
def State.setPe (s : State) (n v : Nat) : State :=
  if s.peState n = v then s else (s.wf (Reg.PE_STAT n) 29 3 v).raiseAt (4 * n + 1) n (wingCode (engWing n))

/-- Raise an event of an engine (R313). -/
def State.peEvent (s : State) (n i : Nat) : State := s.raiseAt (4 * n + i) n (wingCode (engWing n))

/-- PE_PERS_CAUSE and its event (R295, R313, R316). -/
def State.persCause (s : State) (n : Nat) (arg cause : Half) : State :=
  (s.wr (Reg.PE_PERS_CAUSE n) (arg ++ cause)).peEvent n 2

/-- The identity under which a processor reaches the image bank: 256 + n for the SP, 288 + n for the FP (R41, R292). -/
def procMid (n : Nat) : Proc → Nat
  | .fp => 288 + n
  | .sp => 256 + n

/-- The code partition of a processor: base and length (R293, R314). -/
def partition (k : Package) : Proc → Nat × Nat
  | .fp => (k.fpBase, k.fpLen)
  | .sp => (k.spBase, k.spLen)

/-- A fetch lies in the processor's own partition (R293). -/
def State.fetchOk (s : State) (n : Nat) (p : Proc) (a : Nat) : Bool :=
  match (s.en n).pkg with
  | some k => let (b, l) := partition k p; decide (b ≤ a) && decide (a < b + l)
  | none => false

/-! LOCAL (R294, R296, R299) -/

/-- Owner of a data-bank word: 0 FP, 1 SP, 2 COP, 3 QUEUE; words in no region are the SP's (R296, R314). -/
def ownerOf (l : List Region) (a : Nat) : Nat :=
  match l.find? (fun g => decide (g.base ≤ a) && decide (a ≤ g.limit)) with
  | some g => g.owner
  | none => 1

/-- Regions of the package in force. -/
def State.regionsOf (s : State) (n : Nat) : List Region :=
  match (s.en n).pkg with
  | some k => k.regions
  | none => []

/-- Read a word of the data bank; an uncorrectable error traps with ECC_UE (R299). -/
def State.localRead (s : State) (n : Nat) (a : Half) : Except Nat Half :=
  if (s.en n).badData.contains a.toNat then .error 0x05 else .ok (Tab.get 0 (s.en n).data a.toNat)

/-- Store a word of the data bank, whoever writes it. -/
def State.localPut (s : State) (n a : Nat) (v : Half) : State :=
  let e := s.en n
  s.setEn n { e with data := Tab.store 0 e.data a v, badData := e.badData.filter (fun x => x != a) }

/-- Owner code of a processor (R314). -/
def procOwner : Proc → Nat
  | .fp => 0
  | .sp => 1

/-- A processor writes a word of the data bank: one that it does not own traps with WR_OWNER (R296). -/
def State.localWrite (s : State) (n : Nat) (p : Proc) (a v : Half) : Except Nat State :=
  if ownerOf (s.regionsOf n) a.toNat = procOwner p then .ok (s.localPut n a.toNat v) else .error 0x02

/-! Reservations (R352) -/

/-- A write to a word of HOST or IMAGE loses every reservation on it (R352). -/
def State.killResv (s : State) (sp : Space) (a : Nat) : State :=
  { s with eng := s.eng.map (fun p => match p.2.sp.resv with
      | some r => if r.1 = sp ∧ r.2.1 = a then (p.1, { p.2 with sp := { p.2.sp with resv := none } }) else p
      | none => p) }

/-! IMAGE (R294, R237, R239, R240) -/

/-- The bases of a processor's far spaces (R294). -/
def State.imgBaseOf (s : State) (n : Nat) : Proc → Half
  | .fp => (s.en n).fp.imgBase
  | .sp => (s.en n).sp.imgBase
def State.hostBaseOf (s : State) (n : Nat) : Proc → Half
  | .fp => (s.en n).fp.hostBase
  | .sp => (s.en n).sp.hostBase

/-- Word address in the image bank (R294). -/
def State.imageAt (s : State) (n : Nat) (p : Proc) (a : Half) : Nat := (s.imgBaseOf n p).toNat * 1024 + a.toNat

/-- Word of the logical image (R294): below 0x08_0000. -/
def isLogical (w : Nat) : Bool := decide (w < 0x80000)

/-- Word of the snapshot area (R294). -/
def isSnapshot (w : Nat) : Bool := decide (0x180000 ≤ w) && decide (w < 0x200000)

/-- The node word that lies at a logical image offset (R207, R236). -/
def State.imageWord (s : State) (off : Nat) : Option NodeWord := s.man.nodeWords.find? (fun w => w.img == some off)

/-- Read a word of IMAGE (R239, R294): a logical word as a cyclic input, one that no profile defines all-ones. -/
def State.farImageRead (s : State) (n : Nat) (p : Proc) (a : Half) : Except Nat (Half × State) :=
  let w := s.imageAt n p a
  if isLogical w then
    match s.imageWord w with
    | some x => .ok (s.cyclicRead (procMid n p) x.addr)
    | none => .ok (0xFFFF, s)
  else if isSnapshot w then .ok (s.imageRead w)
  else .error 0x03

/-- Write a word of IMAGE (R240, R294). -/
def State.farImageWrite (s : State) (n : Nat) (p : Proc) (a v : Half) : Except Nat State :=
  let w := s.imageAt n p a
  if isLogical w then
    match s.imageWord w with
    | some x => .ok (s.cyclicWrite (procMid n p) x.addr v)
    | none => .ok s
  else if isSnapshot w then .ok ((s.imageWrite w v).killResv .image w)
  else .error 0x03

/-! HOST (R294, R298) -/

/-- Word address in the host bank (R294). -/
def State.hostAt (s : State) (n : Nat) (p : Proc) (a : Half) : Nat := (s.hostBaseOf n p).toNat * 1024 + a.toNat

/-- Word w holds host bytes 2w and 2w + 1, the first in [7:0] (R298). -/
def State.hostWord (s : State) (w : Nat) : Half := Tab.get 0 s.host.bank (2 * w + 1) ++ Tab.get 0 s.host.bank (2 * w)

/-- Store a word of the host bank. -/
def State.hostPut (s : State) (w : Nat) (v : Half) : State :=
  { s with host.bank := putBytes s.host.bank (2 * w) [v.setWidth 8, (v >>> (8 : Nat)).setWidth 8] }.killResv .host w

/-- Read, write a word of HOST (R294). -/
def State.farHostRead (s : State) (n : Nat) (p : Proc) (a : Half) : Except Nat (Half × State) :=
  let w := s.hostAt n p a
  if w < 0x100000 then .ok (s.hostWord w, s) else .error 0x03
def State.farHostWrite (s : State) (n : Nat) (p : Proc) (a v : Half) : Except Nat State :=
  let w := s.hostAt n p a
  if w < 0x100000 then .ok (s.hostPut w v) else .error 0x03

/-! IO (R295) -/

/-- Read an I/O word; a write-only one reads as 0 (R5, R295). -/
def State.ioRead (s : State) (n : Nat) (p : Proc) (a : Half) : Except Nat (Half × State) :=
  match a.toNat with
  | 0 => .ok (BitVec.ofNat 16 (n / 4 * 256 + n), s)
  | 1 => .ok (s.imgBaseOf n p, s)
  | 2 => .ok (s.hostBaseOf n p, s)
  | 3 => .ok (0, s)
  | 4 => .ok (0, s)
  | 5 => .ok (BitVec.ofNat 16 s.dev.st.code, s)
  | 6 => .ok (BitVec.ofNat 16 (s.nowNs / 1000), s)
  | 7 => .ok (0, s)
  | _ => .error 0x04

/-- Set the I/O registers that each processor has of its own (R294, R295). -/
def State.setImgBase (s : State) (n : Nat) (v : Half) : Proc → State
  | .fp => s.onFp n (fun f => { f with imgBase := v &&& 0x07FF })
  | .sp => s.onSp n (fun f => { f with imgBase := v &&& 0x07FF })
def State.setHostBase (s : State) (n : Nat) (v : Half) : Proc → State
  | .fp => s.onFp n (fun f => { f with hostBase := v &&& 0x03FF })
  | .sp => s.onSp n (fun f => { f with hostBase := v &&& 0x03FF })
def State.setPersArg (s : State) (n : Nat) (v : Half) : Proc → State
  | .fp => s.onFp n (fun f => { f with persArg := v })
  | .sp => s.onSp n (fun f => { f with persArg := v })

/-- The last PERS_ARG of a processor (R295). -/
def State.persArgOf (s : State) (n : Nat) : Proc → Half
  | .fp => (s.en n).fp.persArg
  | .sp => (s.en n).sp.persArg

/-- Write an I/O word (R295, R309). -/
def State.ioWrite (s : State) (n : Nat) (p : Proc) (a v : Half) : Except Nat State :=
  match a.toNat with
  | 0 => .ok s
  | 1 => .ok (s.setImgBase n v p)
  | 2 => .ok (s.setHostBase n v p)
  | 3 => .ok (s.setEn n { s.en n with kickAt := s.clk.ns })
  | 4 => .ok (s.persCause n (s.persArgOf n p) v)
  | 5 => .ok s
  | 6 => .ok s
  | 7 => .ok (s.setPersArg n v p)
  | _ => .error 0x04

/-! Every space (R294) -/

/-- A processor reads a word of a space. -/
def State.memRead (s : State) (n : Nat) (p : Proc) (sp : Space) (a : Half) : Except Nat (Half × State) :=
  match sp with
  | .loc => (s.localRead n a).map (fun v => (v, s))
  | .image => s.farImageRead n p a
  | .host => s.farHostRead n p a
  | .io => s.ioRead n p a

/-- A processor writes a word of a space. -/
def State.memWrite (s : State) (n : Nat) (p : Proc) (sp : Space) (a v : Half) : Except Nat State :=
  match sp with
  | .loc => s.localWrite n p a v
  | .image => s.farImageWrite n p a v
  | .host => s.farHostWrite n p a v
  | .io => s.ioWrite n p a v

/-! Registers and addressing modes of the session processor (R343, R347) -/

/-- Data, address registers. -/
def State.dReg (s : State) (n d : Nat) : Half := Tab.get 0 (s.en n).sp.d d
def State.aReg (s : State) (n a : Nat) : Half := Tab.get 0 (s.en n).sp.a a
def State.setD (s : State) (n d : Nat) (v : Half) : State := s.onSp n (fun f => { f with d := Tab.store 0 f.d d v })
def State.setA (s : State) (n a : Nat) (v : Half) : State := s.onSp n (fun f => { f with a := Tab.store 0 f.a a v })

/-- A register of either class. -/
def State.spReg (s : State) (n : Nat) : SpReg → Half
  | .d k => s.dReg n k
  | .a k => s.aReg n k
def State.setSpReg (s : State) (n : Nat) (v : Half) : SpReg → State
  | .d k => s.setD n k v
  | .a k => s.setA n k v

/-- Effective address of a stepping or indexed mode (R347). -/
def State.effAddr (s : State) (n am : Nat) : SpMode → Half
  | .base => s.aReg n am
  | .post _ => s.aReg n am
  | .pre k => s.aReg n am + k.signExtend 16
  | .indexed dm => s.aReg n am + s.dReg n dm

/-- Am after the access (R347). -/
def State.stepAddr (s : State) (n am : Nat) : SpMode → Half
  | .base => s.aReg n am
  | .post k => s.aReg n am + k.signExtend 16
  | .pre k => s.aReg n am + k.signExtend 16
  | .indexed _ => s.aReg n am

/-- A source operand of an ALU instruction (R349, R350). -/
def State.srcVal (s : State) (n : Nat) : SpSrc → Half
  | .reg d => s.dReg n d
  | .imm6 u => u.setWidth 16
  | .imm16 v => v

/-- Words of an instruction with this source: the 16-bit immediate takes the long form (R349, R350). -/
def srcWords : SpSrc → Nat
  | .imm16 _ => 2
  | _ => 1

end Sys2Proof.Machine
end

