-- ==== Sys2Proof/Machine/Flags.lean ====
section
/-! DEFINITION. Arithmetic of the engines' processors and the flags of the session processor (R327, R328, R345, R349). -/

namespace Sys2Proof.Machine

/-! The frame processor (R327, R328) -/

/-- Operations of an FP ALU, in the order of its trigger ports (R325, R327). -/
inductive FpAlu where
  | add | sub | and | or | xor | andn | adc | sbb
deriving DecidableEq, Repr

/-- Result and carry flag of an FP ALU operation from O, T and the flag: the carry out, or the borrow (R327). -/
def fpAlu (op : FpAlu) (o t : Half) (c : Bool) : Half × Bool :=
  match op with
  | .add => (o + t, decide (65536 ≤ o.toNat + t.toNat))
  | .sub => (o - t, decide (o.toNat < t.toNat))
  | .and => (o &&& t, c)
  | .or => (o ||| t, c)
  | .xor => (o ^^^ t, c)
  | .andn => (o &&& ~~~t, c)
  | .adc => (o + t + BitVec.ofNat 16 (bitOf c), decide (65536 ≤ o.toNat + t.toNat + bitOf c))
  | .sbb => (o - t - BitVec.ofNat 16 (bitOf c), decide (o.toNat < t.toNat + bitOf c))

/-- Operations of the FP shifter, in the order of its trigger ports (R325, R327). -/
inductive FpShift where
  | shl | shr | sar | rol | ror | swap
deriving DecidableEq, Repr

/-- Result of the FP shifter (R327). -/
def fpShift (op : FpShift) (o t : Half) : Half :=
  let k := fld t 0 4
  match op with
  | .shl => o <<< k
  | .shr => o >>> k
  | .sar => o.sshiftRight k
  | .rol => o.rotateLeft k
  | .ror => o.rotateRight k
  | .swap => (t <<< (8 : Nat)) ||| (t >>> (8 : Nat))

/-- Comparisons of the FP, in the order of their trigger ports (R325, R328). -/
inductive FpCmp where
  | eq | ne | ltu | leu | lt | le | bit | any
deriving DecidableEq, Repr

/-- Result of an FP comparison (R328). -/
def fpCmp (op : FpCmp) (o t : Half) : Bool :=
  match op with
  | .eq => o == t
  | .ne => o != t
  | .ltu => decide (o.toNat < t.toNat)
  | .leu => decide (o.toNat ≤ t.toNat)
  | .lt => decide (o.toInt < t.toInt)
  | .le => decide (o.toInt ≤ t.toInt)
  | .bit => tst o (fld t 0 4)
  | .any => decide (o &&& t ≠ 0)

/-- Ones'-complement addition with end-around carry (R330). -/
def onesAdd (a b : Half) : Half :=
  let x := a.toNat + b.toNat
  BitVec.ofNat 16 (if 65536 ≤ x then x - 65535 else x)

/-! The session processor (R345, R349) -/

/-- SP ALU operations, in the order of their codes (R349). -/
inductive SpAlu where
  | mov | add | adc | sub | sbb | cmp | and | or | xor | andn | tst | shl | shr | sar | rol | bit
deriving DecidableEq, Repr

/-- Flags N, Z, C, V of SR (R344). -/
structure Nzcv where
  n : Bool
  z : Bool
  c : Bool
  v : Bool
deriving DecidableEq, Repr

/-- The flags that SR holds (R344). -/
def flagsOf (sr : Half) : Nzcv := ⟨tst sr 3, tst sr 2, tst sr 1, tst sr 0⟩

/-- SR with other flags (R344). -/
def withFlags (sr : Half) (f : Nzcv) : Half :=
  (sr &&& 0xFFF0) ||| BitVec.ofNat 16 (bitOf f.n * 8 + bitOf f.z * 4 + bitOf f.c * 2 + bitOf f.v)

/-- Signed overflow: the exact signed result is not the 16-bit one. -/
def overflows (exact : Int) (r : Half) : Bool := decide (exact ≠ r.toInt)

/-- N and Z of a result. -/
def nzOf (r : Half) (c v : Bool) : Nzcv := ⟨r.msb, r == 0, c, v⟩

/-- Flags of an addition with a carry in (R345). -/
def addFlags (a b : Half) (ci : Nat) : Half × Nzcv :=
  let r := a + b + BitVec.ofNat 16 ci
  (r, nzOf r (decide (65536 ≤ a.toNat + b.toNat + ci)) (overflows (a.toInt + b.toInt + ci) r))

/-- Flags of a subtraction with a borrow in (R345). -/
def subFlags (a b : Half) (bi : Nat) : Half × Nzcv :=
  let r := a - b - BitVec.ofNat 16 bi
  (r, nzOf r (decide (a.toNat < b.toNat + bi)) (overflows (a.toInt - b.toInt - bi) r))

/-- Flags of a shift: C is the last bit shifted out, unchanged for a count of 0 (R345). -/
def shiftFlags (r : Half) (k : Nat) (out c : Bool) : Half × Nzcv := (r, nzOf r (if k = 0 then c else out) false)

/-- Result and flags of an SP ALU operation from Dd, the source and the flags (R345, R349). -/
def spAlu (op : SpAlu) (a b : Half) (f : Nzcv) : Half × Nzcv :=
  let k := fld b 0 4
  match op with
  | .mov => (b, nzOf b f.c false)
  | .add => addFlags a b 0
  | .adc => addFlags a b (bitOf f.c)
  | .sub => subFlags a b 0
  | .sbb => subFlags a b (bitOf f.c)
  | .cmp => subFlags a b 0
  | .and => (a &&& b, nzOf (a &&& b) f.c false)
  | .or => (a ||| b, nzOf (a ||| b) f.c false)
  | .xor => (a ^^^ b, nzOf (a ^^^ b) f.c false)
  | .andn => (a &&& ~~~b, nzOf (a &&& ~~~b) f.c false)
  | .tst => (a &&& b, nzOf (a &&& b) f.c false)
  | .shl => shiftFlags (a <<< k) k (tst a (16 - k)) f.c
  | .shr => shiftFlags (a >>> k) k (tst a (k - 1)) f.c
  | .sar => shiftFlags (a.sshiftRight k) k (tst a (k - 1)) f.c
  | .rol => shiftFlags (a.rotateLeft k) k (tst a (16 - k)) f.c
  | .bit => (a, { f with z := !tst a k })

/-- The operation writes flags only (R349). -/
def SpAlu.flagsOnly : SpAlu → Bool
  | .cmp => true
  | .tst => true
  | .bit => true
  | _ => false

/-- Branch conditions; 15, CALL0, is always taken (R349). -/
def condHolds (c : BitVec 4) (f : Nzcv) : Bool :=
  match c.toNat with
  | 1 => f.z
  | 2 => !f.z
  | 3 => f.c
  | 4 => !f.c
  | 5 => f.n
  | 6 => !f.n
  | 7 => f.v
  | 8 => !f.v
  | 9 => !f.c && !f.z
  | 10 => f.c || f.z
  | 11 => f.n != f.v
  | 12 => f.n == f.v
  | 13 => !f.z && f.n == f.v
  | 14 => f.z || f.n != f.v
  | _ => true

end Sys2Proof.Machine
end

