-- ==== Sys2Proof/Machine/Engine.lean ====
section
/-! DEFINITION. What both processors of an engine share (11_engines.md): traps, the coprocessor, the watchdog, and the
data-bank window of the owner. A command is one move or one instruction of a processor of a running engine; on a processor
that does not run it does nothing. -/

namespace Sys2Proof.Machine

/-! Effects that may trap -/

/-- A state with the cause of a trap taken in it, if one was. What was done before the trap stands. -/
abbrev Eff := State × Option Nat

/-- An effect without a trap. -/
def eff (s : State) : Eff := (s, none)

/-- One effect after another; a trap ends the sequence. -/
def Eff.bind (r : Eff) (f : State → Eff) : Eff :=
  match r.2 with
  | none => f r.1
  | some _ => r

/-- An access that either traps, leaving the state, or has its effect. -/
def effOf (s : State) (x : Except Nat State) : Eff :=
  match x with
  | .ok t => (t, none)
  | .error c => (s, some c)

/-- A read that either traps or hands its value on. -/
def effRead (s : State) (x : Except Nat (Half × State)) (f : Half → State → Eff) : Eff :=
  match x with
  | .ok (v, t) => f v t
  | .error c => (s, some c)

/-! Ports of the coprocessor (R300, R336, R349) -/

/-- The coprocessor port of a processor. -/
def State.cop (s : State) (n : Nat) : Proc → CopPort
  | .fp => (s.en n).fp.cop
  | .sp => (s.en n).sp.cop

/-- Replace it. -/
def State.setCop (s : State) (n : Nat) (p : Proc) (c : CopPort) : State :=
  match p with
  | .fp => s.onFp n (fun f => { f with cop := c })
  | .sp => s.onSp n (fun f => { f with cop := c })

/-- Set edge bits of a processor's pending events (R340, R356). -/
def State.fpEdge (s : State) (n e : Nat) : State :=
  s.onFp n (fun f => { f with ipend := f.ipend ||| BitVec.ofNat 8 (2 ^ e) })
def State.spEdge (s : State) (n e : Nat) : State :=
  s.onSp n (fun f => { f with ipend := f.ipend ||| BitVec.ofNat 16 (2 ^ e) })

/-- An operation of the processor ended with a STATUS other than CANCELLED (R340, R356). -/
def State.copEdge (s : State) (n : Nat) : Proc → State
  | .fp => s.fpEdge n 2
  | .sp => s.spEdge n 1

/-- Store words in the data bank. -/
def State.localPuts (s : State) (n a : Nat) (l : List Half) : State :=
  eachIn (l.zip (List.range l.length)) (fun p t => t.localPut n (a + p.2) p.1) s

/-- The operation in progress finishes: results, status and stores (R300, R301). -/
def State.copFinish (s : State) (n : Nat) (p : Proc) : State :=
  let c := s.cop n p
  match c.op with
  | none => s
  | some (_, res, st, stores) =>
    ((s.setCop n p { c with op := none, busy := false, status := st, res := res, resIdx := 0 }).localPuts n
      c.dst.toNat stores).copEdge n p

/-- Kinds of operation (R301): CRC, SHA_BLOCK and GMAC_CHECK are pure. -/
def copPure (op : Nat) : Bool := op == 1 || op == 2 || op == 3

/-- An event or a trap (R304): a pure operation is cancelled, a side-effecting one that has been sent runs to completion. -/
def State.copSettle (s : State) (n : Nat) (p : Proc) : State :=
  let c := s.cop n p
  match c.op with
  | none => s
  | some (op, _, _, _) =>
    if copPure op then s.setCop n p { c with op := none, busy := false, status := 3 } else s.copFinish n p

/-! Traps (R311-R313, R318) -/

/-- A processor traps: both stop after R304, the trap is recorded, the engine is TRAPPED, and the sources it feeds are held
(R163, R312). -/
def State.engineTrapWith (s : State) (n : Nat) (w : Word) : State :=
  let s1 := ((s.copSettle n .fp).copSettle n .sp).wr (Reg.PE_TRAP n) w
  let s2 := s1.setEn n { s1.en n with trapAt := s.clk.ns }
  (((s2.setPe n 3).peEvent n 0).holdSources n)

/-- PE_TRAP (R318). -/
def trapWord (p : Proc) (cause : Nat) (pc : Half) : Word :=
  BitVec.ofNat 32 (2 ^ 31 + (match p with
    | .fp => 0
    | .sp => 2 ^ 30) + cause % 128 * 2 ^ 16 + pc.toNat)

/-- A trap of a processor with its cause and program address. -/
def State.engineTrap (s : State) (n : Nat) (p : Proc) (cause : Nat) (pc : Half) : State :=
  s.engineTrapWith n (trapWord p cause pc)

/-- The engine watchdog (R309): no kick within the period. A HOLD suspends it (R361). The manual does not say which
processor and program address the trap then records (log entry 3). -/
def State.watchdog (s : State) (n : Nat) : State :=
  match (s.en n).pkg with
  | none => s
  | some k =>
    if k.wdtMs = 0 || s.peState n ≠ 2 || decide (s.clk.ns < (s.en n).kickAt + k.wdtMs * 1000000) then s
    else
      let w := (s.freshWord &&& 0x4000FFFF#32) ||| 0x80060000#32
      (s.used 1).engineTrapWith n w

/-! The operations (R301, R302, R336) -/

/-- Input words: LEN words from LOCAL at SRC; an uncorrectable error traps (R299, R336). -/
def State.copInput (s : State) (n : Nat) (a : Half) : Nat → Except Nat (List Half)
  | 0 => .ok []
  | k + 1 =>
    match s.localRead n a with
    | .error c => .error c
    | .ok v => (s.copInput n (a + 1) k).map (fun l => v :: l)

/-- A destination of some words lies wholly in one COP region (R296). -/
def State.inCop (s : State) (n a len : Nat) : Bool :=
  (s.regionsOf n).any (fun g => g.owner == 2 && decide (g.base ≤ a) && decide (a + len ≤ g.limit + 1))

/-- A CRC of R330 from an initial register value, with its final XOR. -/
def copCrc (sel : Nat) (init : Word) (l : List Half) : Word :=
  match sel with
  | 0 => (crc16 (halvesOctets l) (init.setWidth 16)).setWidth 32
  | 1 => ~~~ crc32r 0xEDB88320#32 (halvesOctets l) init
  | _ => ~~~ crc32r 0x82F63B78#32 (halvesOctets l) init

/-- A context of an engine (R302). -/
def State.copCtx (s : State) (n x : Nat) : CopCtx := Tab.get CopCtx.zero (s.en n).ctx x
def State.setCtx (s : State) (n x : Nat) (c : CopCtx) : State :=
  s.setEn n { s.en n with ctx := Tab.put (s.en n).ctx x c }

/-- Six words of a tag (R336). -/
def tagWords (k : CopCtx) (iv : Nat) (l : List Half) : List Half :=
  gcmTag (keyNum k.key) (BitVec.ofNat 96 iv) l

/-- As many words of cipher or plain text as went in. -/
def cipherWords (k : CopCtx) (iv : Nat) (l : List Half) : List Half :=
  fitHalves l.length (Config.gcmCipher (keyNum k.key) (BitVec.ofNat 96 iv) l)

/-- An operation that a coprocessor port accepts: its kind, its results, its status, and the words it stores at DST. The trap
cause of one that it refuses at issue. -/
abbrev CopRes := Except Nat (Nat × List Half × Nat × List Half)

/-- A context that a forced erase has unbound acts as a denied key (R426). -/
def State.ctxDenied (s : State) (n x : Nat) : Bool := (s.copCtx n x).denied

/-- Use of the context counter (R302, R308, R429): the counter advances, and reaching the threshold LIMIT - 2^20 is reported; at LIMIT,
or without a binding, EXHAUSTED. -/
def State.ctxExhausted (c : CopCtx) : Bool := c.slot.isNone || decide (c.limit.toNat ≤ c.ctr.toNat)

/-- The counter after one use, with its reports. -/
def State.ctxUse (s : State) (n x : Nat) : State :=
  let c := s.copCtx n x
  if State.ctxExhausted c then
    let s1 := s.peEvent n 3
    if c.slot.isSome then s1.raiseAt 526 n (wingCode (engWing n)) else s1
  else
    let s1 := s.setCtx n x { c with ctr := c.ctr + 1 }
    if c.ctr.toNat + 1 + 2 ^ 20 = c.limit.toNat then (s1.peEvent n 3).raiseAt 525 n (wingCode (engWing n)) else s1

/-- KEY_LOAD may use a Boxwood slot (R302, R424): the manifest grants it to the personality, and it holds an AES key for
engines. -/
def State.slotGranted (s : State) (n slot : Nat) : Bool :=
  s.man.engineKeys.contains (s.rf (Reg.PE_STAT n) 16 8, slot) && decide (slot < 248)
    && (match Tab.find s.sec.box slot with
      | some k => (k.typ == 1 || k.typ == 2) && k.usage == 3
      | none => false)

/-- Bind a slot to a context with its counter and LIMIT (R302). -/
def State.bindCtx (s : State) (n x slot start limit : Nat) : State :=
  s.setCtx n x { s.copCtx n x with
    slot := some slot, key := ((Tab.find s.sec.box slot).map (fun k => k.key)).getD []
    denied := false, ctr := BitVec.ofNat 64 start, limit := BitVec.ofNat 64 limit }

/-- Take words from the DRBG (R301, R430): it reseeds after every 2^20 requests. -/
def State.drbgWords (s : State) (k : Nat) : List Half × State :=
  ((List.range k).map (fun i => Config.drbgWord (s.sec.drbg + i)), { s with sec.drbg := s.sec.drbg + k })

/-- What an operation does at issue (R301, R302, R336): `t` is the value of COP.T. -/
def State.copIssue (s : State) (n : Nat) (p : Proc) (op : Nat) (t : Half) : CopRes × State :=
  let c := s.cop n p
  let x := fld t 4 4
  let k := s.copCtx n x
  let len := c.len.toNat
  let bad : CopRes × State := (.error 0x07, s)
  let input (m : Nat) (f : List Half → CopRes × State) : CopRes × State :=
    match s.copInput n c.src m with
    | .ok l => f l
    | .error e => (.error e, s)
  match op with
  | 1 =>
    if len = 0 ∨ 256 < len ∨ fld t 8 2 = 3 then bad
    else input len (fun l =>
      if fld t 8 2 = 0 then (.ok (1, [(copCrc 0 ((c.arg.getD 0 0).setWidth 32) l).setWidth 16], 0, []), s)
      else (.ok (1, natHalves 2 (copCrc (fld t 8 2) (c.arg.getD 0 0 ++ c.arg.getD 1 0) l).toNat, 0, []), s))
  | 2 =>
    if !s.inCop n c.dst.toNat 16 then bad
    else
      match s.copInput n c.dst 16 with
      | .error e => (.error e, s)
      | .ok st => input len (fun l =>
        let r := fitHalves 16 (Config.shaCompress st l)
        (.ok (2, r, 0, r), s))
  | 3 =>
    if len = 0 ∨ 2048 < len then bad
    else if s.ctxDenied n x then (.error 0x08, s.peEvent n 3)
    else input len (fun l =>
      let good := k.slot.isSome && tagWords k (halvesNat (fitHalves 6 c.arg)) l == fitHalves 6 (c.arg.drop 6)
      (.ok (3, [], if good then 0 else 1, []), s))
  | 4 =>
    if len = 0 ∨ 2048 < len then bad
    else if s.ctxDenied n x then (.error 0x08, s.peEvent n 3)
    else input len (fun l =>
      if State.ctxExhausted k then (.ok (4, [], 2, []), s.ctxUse n x)
      else
        let iv := halvesNat (fitHalves 2 c.arg) * 2 ^ 64 + k.ctr.toNat
        (.ok (4, tagWords k iv l ++ natHalves 4 k.ctr.toNat, 0, []), s.ctxUse n x))
  | 5 =>
    if len = 0 ∨ 2048 < len ∨ !s.inCop n c.dst.toNat len then bad
    else if s.ctxDenied n x then (.error 0x08, s.peEvent n 3)
    else input len (fun l =>
      if State.ctxExhausted k then (.ok (5, [], 2, []), s.ctxUse n x)
      else
        let iv := halvesNat (fitHalves 2 c.arg) * 2 ^ 64 + k.ctr.toNat
        let ct := cipherWords k iv l
        (.ok (5, tagWords k iv ct ++ natHalves 4 k.ctr.toNat, 0, ct), s.ctxUse n x))
  | 6 =>
    if len = 0 ∨ 2048 < len ∨ !s.inCop n c.dst.toNat len then bad
    else if s.ctxDenied n x then (.error 0x08, s.peEvent n 3)
    else input len (fun l =>
      let iv := halvesNat (fitHalves 6 c.arg)
      let good := k.slot.isSome && tagWords k iv l == fitHalves 6 (c.arg.drop 6)
      if k.slot.isNone then (.ok (6, [], 1, []), s)
      else (.ok (6, [], if good then 0 else 1, cipherWords k iv l), s))
  | 7 =>
    let slot := (c.arg.getD 0 0).toNat
    let start := halvesNat (fitHalves 4 (c.arg.drop 1))
    let limit := halvesNat (fitHalves 4 (c.arg.drop 5))
    if !s.slotGranted n slot then (.error 0x08, s.peEvent n 3)
    else if k.slot = some slot ∧ start < k.ctr.toNat then bad
    else (.ok (7, [], 0, []), s.bindCtx n x slot start limit)
  | 8 =>
    if len = 0 ∨ 16 < len then bad
    else if !s.sec.trngOk then (.ok (8, [], 1, []), s)
    else
      let (l, s1) := s.drbgWords len
      (.ok (8, l, 0, []), s1)
  | _ => bad

/-- COP.T, COPGO (R300, R336): an operation still outstanding finishes first; the port is BUSY until the new one completes, and the next
operand goes to the first words of ARG and R again (R321). -/
def State.copGo (s : State) (n : Nat) (p : Proc) (op : Nat) (t : Half) : Eff :=
  let s1 := s.copFinish n p
  match s1.copIssue n p op t with
  | (.ok o, s2) => eff (s2.setCop n p { s2.cop n p with op := some o, busy := true, argIdx := 0, resIdx := 0 })
  | (.error c, s2) => (s2, some c)

/-- COP.ST: BUSY in [15], STATUS in [14:12] (R336). -/
def CopPort.st (c : CopPort) : Half := BitVec.ofNat 16 (bitOf c.busy * 2 ^ 15 + c.status % 8 * 2 ^ 12)

/-- COP_COMPLETE (R300): the operation outstanding at a processor's port finishes. -/
def State.copComplete (s : State) (n : Nat) (p : Proc) : State := s.copFinish n p

/-! Semaphores (R333, R353) -/

/-- A semaphore's state. -/
def State.sem (s : State) (n i : Nat) : Bool := tst (s.en n).sem (i % 32)

/-- Set or clear it. -/
def State.setSem (s : State) (n i : Nat) (v : Bool) : State :=
  s.setEn n { s.en n with sem := setFld (s.en n).sem (i % 32) 1 (bitOf v) }

/-! The owner's window to the data bank (R316) -/

/-- PE_DBANK_DATA: the addressed word, and whether it has an uncorrectable error (R316). -/
def State.dbankData (s : State) (n : Nat) : Word :=
  let a := s.rf (Reg.PE_DBANK_ADDR n) 0 16
  BitVec.ofNat 32 ((Tab.get 0 (s.en n).data a).toNat + bitOf ((s.en n).badData.contains a) * 2 ^ 31)

/-- A write of PE_DBANK_ADDR by the owner (R316): PE_DBANK_DATA then shows the word addressed. -/
def State.peDbankAddrWrite (s : State) (fn n : Nat) (val : Word) : State :=
  if s.ownerIn fn then s.wf (Reg.PE_DBANK_ADDR n) 0 16 (fld val 0 16) else s

/-! The meanings of the rows -/

/-- WATCHDOG (R309): No WDT_KICK arrives within the watchdog period and the engine traps. -/
def execWatchdog (n : Nat) (s : State) : Out :=
  live (watchdogOk n) s (s.watchdog n)

/-- PE_DBANK_ADDR_WRITE (R316): The owner writes PE_DBANK_ADDR and the addressed data-bank word appears in PE_DBANK_DATA. -/
def execPeDbankAddrWrite (fn n : Nat) (val : BitVec 32) (s : State) : Out :=
  checked (peDbankAddrWriteOk fn n) s (s.peDbankAddrWrite fn n val)

/-- COP_COMPLETE (R300): A coprocessor operation finishes and writes its result words and status. -/
def execCopComplete (n : Nat) (p : Proc) (s : State) : Out :=
  live (copCompleteOk n) s (s.copComplete n p)

end Sys2Proof.Machine
end

