-- ==== Sys2Proof/Machine/Fp.lean ====
section
/-! DEFINITION. The frame processor (12_move_isa.md): its ports and units, and the move that every row of the chapter is. Each
command is one move, or one repetition of it; the rows differ in the port they name. -/

namespace Sys2Proof.Machine

/-! Ports (R322, R325) -/

/-- A general register's port (R325). -/
def fpVReg (p : Nat) : Option Nat := if p < 16 then some p else if 192 ≤ p ∧ p < 240 then some (p - 176) else none

/-- Ports that a move may read, that a move may write; a port of neither is reserved (R325). -/
def fpReadable (p : Nat) : Bool :=
  (fpVReg p).isSome || [17, 27, 37, 45, 54, 55, 56, 57, 58, 59, 62, 63, 64, 65, 66, 67, 70, 74, 75, 78, 80, 81, 85, 86, 91,
    92, 93, 94, 95, 98, 104, 108, 109, 115, 116, 128, 129, 130].contains p
def fpWritable (p : Nat) : Bool :=
  (fpVReg p).isSome || p == 16 || (decide (18 ≤ p) && decide (p < 27)) || (decide (28 ≤ p) && decide (p < 37))
    || (decide (38 ≤ p) && decide (p < 58)) || [60, 61, 63, 64, 65, 68, 69, 71, 72, 73, 76, 77, 79, 82, 83, 84, 87, 88, 89,
      90, 91, 92, 96, 97, 99, 100, 101, 102, 103, 105, 106, 107, 110, 111, 112, 113, 114].contains p
def fpReserved (p : Nat) : Bool := !fpReadable p && !fpWritable p

/-! Sequential ports (R321) -/

/-- The next word of a buffer of `cap` words, with the index after it; past the last, 0. -/
def seqRead (l : List Half) (cap i : Nat) : Half × Nat := if i < cap then (l.getD i 0, i + 1) else (0, i)

/-- Write the next word of a buffer; past the last, the write is discarded. -/
def seqWrite (l : List Half) (cap i : Nat) (v : Half) : List Half × Nat :=
  if i < cap then ((List.range cap).map (fun j => if j = i then v else l.getD j 0), i + 1) else (l, i)

/-! Events (R340) -/

/-- QIN.LVL (R331). -/
def State.qinLvl (s : State) (n : Nat) : Half :=
  BitVec.ofNat 16 ((List.range 4).foldl (fun v q => v + (if (Tab.get [] (s.en n).rxq q).isEmpty then 0 else 2 ^ q)) 0)

/-- PC.IPEND: the levels, and the edge bits held (R340). -/
def State.fpPending (s : State) (n : Nat) : Half :=
  let f := (s.en n).fp
  f.ipend.setWidth 16 ||| BitVec.ofNat 16 (bitOf (s.qinLvl n != 0) + bitOf (!f.done.isEmpty) * 2
    + bitOf (!(Tab.get [] s.time.tsq f.tsqPort.toNat).isEmpty) * 8)

/-! Cursors (R329) -/

/-- The space of a cursor. -/
def spaceOf (v : Half) : Space :=
  match fld v 0 2 with
  | 0 => .loc
  | 1 => .image
  | 2 => .host
  | _ => .io

/-- Cursor A or B of the FP. -/
def State.cursor (s : State) (n c : Nat) : Cursor := (s.en n).fp.cur.at_ (wingOf c)
def State.setCursor (s : State) (n c : Nat) (x : Cursor) : State :=
  s.onFp n (fun f => { f with cur := f.cur.set (wingOf c) x })

/-- The word in which an octet position lies. -/
def Cursor.word (x : Cursor) (pos : Half) : Half := x.base + (pos >>> (1 : Nat))

/-- The octet of a word at a position: an even one is [15:8], in HOST [7:0]. -/
def octetOf (sp : Space) (pos w : Half) : Octet :=
  if tst pos 0 = (sp == .host) then (w >>> (8 : Nat)).setWidth 8 else w.setWidth 8

/-- A word with the octet at a position replaced. -/
def putOctet (sp : Space) (pos w : Half) (o : Octet) : Half :=
  if tst pos 0 = (sp == .host) then o ++ w.setWidth 8 else (w >>> (8 : Nat)).setWidth 8 ++ o

/-- Two octets, at rising positions, as a word of the space. -/
def joinOctets (sp : Space) (a b : Octet) : Half := if sp == .host then b ++ a else a ++ b

/-- The first and second octet of a word of the space. -/
def splitOctets (sp : Space) (v : Half) : Octet × Octet :=
  if sp == .host then (v.setWidth 8, (v >>> (8 : Nat)).setWidth 8) else ((v >>> (8 : Nat)).setWidth 8, v.setWidth 8)

/-- A word read at the cursor: stored, or assembled from two octets at an odd position. In IO an odd one traps with ALIGN. -/
def State.curWord (s : State) (n c : Nat) (f : Half → State → Eff) : Eff :=
  let x := s.cursor n c
  let sp := spaceOf x.space
  if !tst x.pos 0 then effRead s (s.memRead n .fp sp (x.word x.pos)) f
  else if sp == .io then (s, some 0x24)
  else effRead s (s.memRead n .fp sp (x.word x.pos)) (fun a s1 =>
    effRead s1 (s1.memRead n .fp sp (x.word (x.pos + 1))) (fun b s2 =>
      f (joinOctets sp (octetOf sp x.pos a) (octetOf sp (x.pos + 1) b)) s2))

/-- An octet read at the cursor. -/
def State.curOctet (s : State) (n c : Nat) (f : Half → State → Eff) : Eff :=
  let x := s.cursor n c
  let sp := spaceOf x.space
  if sp == .io then (s, some 0x24)
  else effRead s (s.memRead n .fp sp (x.word x.pos)) (fun a s1 => f ((octetOf sp x.pos a).setWidth 16) s1)

/-- The word into which an octet is stored, as it stands: of a cyclic output the draft (R240). -/
def State.standing (s : State) (n : Nat) (sp : Space) (a : Half) : Except Nat Half :=
  match sp with
  | .loc => s.localRead n a
  | .image =>
    let w := s.imageAt n .fp a
    if isLogical w then .ok (Tab.get 0 s.bridge.draft w)
    else if isSnapshot w then .ok (Tab.get 0 s.bridge.image w)
    else .error 0x03
  | .host => (s.farHostRead n .fp a).map (fun p => p.1)
  | .io => .error 0x24

/-- Store an octet at a position of a cursor. -/
def State.octetWrite (s : State) (n : Nat) (x : Cursor) (pos : Half) (o : Octet) : Eff :=
  let sp := spaceOf x.space
  match s.standing n sp (x.word pos) with
  | .error e => (s, some e)
  | .ok w => effOf s (s.memWrite n .fp sp (x.word pos) (putOctet sp pos w o))

/-- A word written at the cursor. -/
def State.curPut (s : State) (n c : Nat) (v : Half) : Eff :=
  let x := s.cursor n c
  let sp := spaceOf x.space
  if !tst x.pos 0 then effOf s (s.memWrite n .fp sp (x.word x.pos) v)
  else if sp == .io then (s, some 0x24)
  else
    let (a, b) := splitOctets sp v
    (s.octetWrite n x x.pos a).bind (fun s1 => s1.octetWrite n x (x.pos + 1) b)

/-- An octet written at the cursor: T[7:0]. -/
def State.curByte (s : State) (n c : Nat) (v : Half) : Eff :=
  let x := s.cursor n c
  if spaceOf x.space == .io then (s, some 0x24) else s.octetWrite n x x.pos (v.setWidth 8)

/-- The cursor advances. -/
def State.advance (s : State) (n c : Nat) (k : Half) : State :=
  let x := s.cursor n c
  s.setCursor n c { x with pos := x.pos + k }

/-! Units with a read (R325) -/

/-- A value with no effect. -/
def give (v : Half) (s : State) (f : Half → State → Eff) : Eff := f v s

/-- RL, RH of the CRC unit (R330); a selection of 3 has no CRC stated (log entry 3). -/
def State.crcOut (s : State) (n : Nat) : Word × State :=
  let f := (s.en n).fp
  match f.crcSel with
  | 0 => (f.crcV &&& 0xFFFF#32, s)
  | 3 => (s.freshWord, s.used 1)
  | _ => (~~~ f.crcV, s)

/-- Read a port, with the effects of reading it (R319, R322). -/
def State.fpRead (s : State) (n p : Nat) (k : Half → State → Eff) : Eff :=
  let f := (s.en n).fp
  match fpVReg p with
  | some r => k (Tab.get 0 f.v r) s
  | none =>
    match p with
    | 17 => k f.aluR.e s
    | 27 => k f.aluR.w s
    | 37 => k f.shR s
    | 45 => k f.cmpG s
    | 54 => k (f.grd.setWidth 16) s
    | 55 => k f.cur.e.base s
    | 56 => k f.cur.e.pos s
    | 57 => k f.cur.e.space s
    | 58 => s.curWord n 0 (fun v t => k v (t.advance n 0 2))
    | 59 => s.curOctet n 0 (fun v t => k v (t.advance n 0 1))
    | 62 => s.curWord n 0 k
    | 63 => k f.cur.w.base s
    | 64 => k f.cur.w.pos s
    | 65 => k f.cur.w.space s
    | 66 => s.curWord n 1 (fun v t => k v (t.advance n 1 2))
    | 67 => s.curOctet n 1 (fun v t => k v (t.advance n 1 1))
    | 70 => s.curWord n 1 k
    | 74 => let (v, t) := s.crcOut n; k (v.setWidth 16) t
    | 75 => let (v, t) := s.crcOut n; k ((v >>> (16 : Nat)).setWidth 16) t
    | 78 => k f.sum s
    | 80 => let (v, i) := seqRead f.qin 4 f.qinIdx; k v (s.onFp n (fun g => { g with qinIdx := i }))
    | 81 => k (s.qinLvl n) s
    | 85 => k 16 s
    | 86 => k (f.done.headD 0xFFFF) (s.onFp n (fun g => { g with done := g.done.drop 1 }))
    | 91 => k f.ien s
    | 92 => k (s.fpPending n) s
    | 93 => k f.epc s
    | 94 => k (f.rs.headD 0xFFFF) s
    | 95 => k (BitVec.ofNat 16 f.rs.length) s
    | 98 => k f.semR s
    | 104 => let (v, i) := seqRead f.tsqR 8 f.tsqIdx; k v (s.onFp n (fun g => { g with tsqIdx := i }))
    | 108 => k f.lutR s
    | 109 => k f.lutSt s
    | 115 =>
      let t := s.copFinish n .fp
      let c := t.cop n .fp
      let (v, i) := seqRead c.res 16 c.resIdx
      k v (t.setCop n .fp { c with resIdx := i })
    | 116 => k (f.cop.st) s
    | 128 => k ((s.en n).sem.setWidth 16) s
    | 129 => k (((s.en n).sem >>> (16 : Nat)).setWidth 16) s
    | 130 => k f.erpt s
    | _ => (s, some 0x20)

/-! Units with a write (R325-R339) -/

/-- An ALU trigger (R327). -/
def State.fpAluGo (s : State) (n alu : Nat) (op : FpAlu) (t : Half) : State :=
  s.onFp n (fun f =>
    let w := wingOf alu
    let (r, c) := fpAlu op (f.aluO.at_ w) t (f.aluC.at_ w)
    { f with aluR := f.aluR.set w r, aluC := f.aluC.set w c })

/-- A shifter trigger (R327). -/
def State.fpShiftGo (s : State) (n : Nat) (op : FpShift) (t : Half) : State :=
  s.onFp n (fun f => { f with shR := fpShift op f.shO t })

/-- A comparison trigger: its result goes to the guard that CMP.G names (R328). -/
def State.fpCmpGo (s : State) (n : Nat) (op : FpCmp) (t : Half) : State :=
  s.onFp n (fun f => { f with grd := setFld f.grd (fld f.cmpG 0 3) 1 (bitOf (fpCmp op f.cmpO t)) })

/-- CRC.CFG: the selection and its initial value (R330). -/
def State.crcCfgGo (s : State) (n : Nat) (v : Half) : State :=
  s.onFp n (fun f => { f with crcSel := fld v 0 2, crcV := if fld v 0 2 = 0 then 0xFFFF#32 else 0xFFFFFFFF#32 })

/-- Feed octets into the CRC (R330). -/
def State.crcFeed (s : State) (n : Nat) (l : List Octet) : State :=
  s.onFp n (fun f => { f with
    crcV := match f.crcSel with
      | 0 => (crc16 l (f.crcV.setWidth 16)).setWidth 32
      | 1 => crc32r 0xEDB88320#32 l f.crcV
      | 2 => crc32r 0x82F63B78#32 l f.crcV
      | _ => f.crcV })

/-- QIN.POP (R331): the descriptor of the head of a queue; of an empty one, word 0 is 0xFFFF and the others are not stated (log
entry 3). -/
def State.qinPopGo (s : State) (n : Nat) (q : Half) : State :=
  match Tab.get [] (s.en n).rxq q.toNat with
  | [] =>
    (s.onFp n (fun f => { f with
      qin := [0xFFFF, (Config.freeWord s.free).setWidth 16, (Config.freeWord (s.free + 1)).setWidth 16,
        (Config.freeWord (s.free + 2)).setWidth 16]
      qinIdx := 0 })).used 3
  | d :: t =>
    let s1 := s.setEn n { s.en n with rxq := Tab.put (s.en n).rxq q.toNat t }
    s1.onFp n (fun f => { f with
      qin := [d.base, d.len, BitVec.ofNat 16 (d.port * 1024 + d.prio), BitVec.ofNat 16 d.handle], qinIdx := 0 })

/-- QIN.FREE (R331): a buffer returns to the pool, and its timestamp handle with it (R334). -/
def State.qinFreeGo (s : State) (n : Nat) (b : Half) : Eff :=
  let e := s.en n
  match e.pkg with
  | none => (s, some 0x27)
  | some k =>
    if (rxBuffers k).contains b && e.used.contains b then
      eff (s.setEn n { e with
        used := e.used.filter (fun x => x != b), handles := e.handles.filter (fun h => h.2.2 != b) })
    else (s, some 0x27)

/-- Octets of LOCAL words, [15:8] first. -/
def State.localOctets (s : State) (n : Nat) (a : Half) (len : Nat) : List Octet :=
  (halvesOctets (halvesAt (s.en n).data a.toNat ((len + 1) / 2))).take len

/-- A number of octets, most significant first. -/
def octetsNat (l : List Octet) : Nat := l.foldl (fun a o => 256 * a + o.toNat) 0

/-- The frame that a transmit descriptor gives (R332): `len` octets without FCS from a buffer on. -/
def State.txFrame (s : State) (n : Nat) (base : Half) (len : Nat) (w2 w3 : Half) : Frame :=
  let l := s.localOctets n base len
  let ty := octetsNat ((l.drop 12).take 2)
  let tagged := ty == 0x8100 && decide (18 ≤ len)
  let tci := octetsNat ((l.drop 14).take 2)
  { dst := BitVec.ofNat 48 (octetsNat (l.take 6)), src := BitVec.ofNat 48 (octetsNat ((l.drop 6).take 6))
    vlan := if tagged then some (tci / 8192, tci % 4096) else none
    etype := BitVec.ofNat 16 (if tagged then octetsNat ((l.drop 16).take 2) else ty)
    len := max 64 (len + 4), red := .none, fcsBad := false, oddOctet := false, codeBad := false
    queue := some (fld w2 13 3), fn := none
    direct := if tst w2 10 then some (fld w2 0 6) else none
    stamp := if tst w2 12 then some w3 else none
    pay := l.drop (if tagged then 18 else 14), cls := (0, 0), ts := 0, msec := none }

/-- QOUT.PUSH (R332): the descriptor is checked and its frame handed to the cluster's EC port; a buffer whose frame the switch has
refused is given back at once. -/
def State.qoutPushGo (s : State) (n : Nat) : Eff :=
  let e := s.en n
  let w (i : Nat) : Half := e.fp.qout.getD i 0
  let base := w 0
  let len := (w 1).toNat
  let rel := tst (w 2) 11
  let s0 := s.onFp n (fun f => { f with qoutIdx := 0 })
  if len < 14 ∨ 1524 < len ∨ 65536 < base.toNat + (len + 1) / 2 ∨ (ownerOf (s.regionsOf n) base.toNat = 3 ∧ !rel) then
    (s0, some 0x27)
  else if (List.range ((len + 1) / 2)).any (fun i => e.badData.contains (base.toNat + i)) then (s0, some 0x05)
  else
    let f := s0.txFrame n base len (w 2) (w 3)
    let id := s0.sw.nextId
    let s1 := s0.ingress (40 + n / 4) f (some (n, base, rel))
    eff (if s1.inSerai.any (fun g => g.buf == some (n, base, rel)) then s1
      else s1.bufBack ⟨40 + n / 4, 0, 0, f, 0, id, some (n, base, rel)⟩)

/-- A timestamp record as eight words, low half first (R334). -/
def tsHalves (r : TsRec) : List Half :=
  [r.w0, r.w1, r.w2, r.w3].flatMap (fun (w : Word) => [w.setWidth 16, (w >>> (16 : Nat)).setWidth 16])

/-- Eight words go to TSQ.R. -/
def State.setTsqR (s : State) (n : Nat) (l : List Half) : State := s.onFp n (fun f => { f with tsqR := l, tsqIdx := 0 })

/-- TSQ.POP (R66, R334). -/
def State.tsqPopGo (s : State) (n : Nat) : State :=
  let p := (s.en n).fp.tsqPort.toNat
  let q := Tab.get [] s.time.tsq p
  { s with time.tsq := Tab.put s.time.tsq p (q.drop 1) }.setTsqR n (tsHalves (headRec q))

/-- TSQ.NOW (R334). -/
def State.tsqNowGo (s : State) (n : Nat) : State := s.setTsqR n (tsHalves (tsRec (s.stampT (engWing n) 0) 0))

/-- TSQ.RX (R334); of a handle that no frame owns, nothing is stated (log entry 3). -/
def State.tsqRxGo (s : State) (n : Nat) (h : Half) : State :=
  match Tab.find (s.en n).handles h.toNat with
  | some (r, _) => s.setTsqR n (tsHalves r)
  | none => (s.setTsqR n ((List.range 8).map (fun i => (Config.freeWord (s.free + i)).setWidth 16))).used 8

/-- Lookup among the entries of a bucket, in order (R335). -/
def State.lutFind (s : State) (n a kw : Nat) (key : List Half) : Nat → Except Nat (Option Half)
  | 0 => .ok none
  | left + 1 =>
    if 65536 < a + kw + 1 then .ok none
    else
      match s.copInput n (BitVec.ofNat 16 a) (kw + 1) with
      | .error c => .error c
      | .ok l => if l.take kw == key then .ok (some (l.getD kw 0)) else s.lutFind n (a + kw + 1) kw key left

/-- LUT.T (R335). -/
def State.lutGo (s : State) (n : Nat) : Eff :=
  let f := (s.en n).fp
  let s0 := s.onFp n (fun g => { g with lutKIdx := 0 })
  match s.localRead n f.lutTbl with
  | .error c => (s0, some c)
  | .ok h =>
    let kw := fld h 12 4
    let key := fitHalves kw f.lutK
    let b := (crc32c (halvesOctets key)).toNat % 2 ^ fld h 0 4
    match s.lutFind n (f.lutTbl.toNat + 1 + 4 * b * (kw + 1)) kw key 4 with
    | .error c => (s0, some c)
    | .ok (some v) => eff (s0.onFp n (fun g => { g with lutR := v, lutSt := 1 }))
    | .ok none => eff (s0.onFp n (fun g => { g with lutR := 0xFFFF, lutSt := 0 }))

/-- SEM.TAS, SEM.CLR (R333): a clear by the FP is an event of the SP (R356). -/
def State.fpTas (s : State) (n : Nat) (v : Half) : State :=
  let i := fld v 0 5
  (s.onFp n (fun f => { f with semR := BitVec.ofNat 16 (bitOf (s.sem n i)) })).setSem n i true
def State.fpSemClr (s : State) (n : Nat) (v : Half) : State := (s.setSem n (fld v 0 5) false).spEdge n 2

/-- PC.JMP (R337). -/
def State.fpGoto (s : State) (n : Nat) (a : Half) : State := s.onFp n (fun f => { f with pc := a })

/-- PC.CALL (R337, R338): PC is already past the call. -/
def State.fpCallGo (s : State) (n : Nat) (a : Half) : Eff :=
  let f := (s.en n).fp
  if f.rs.length < 8 then eff (s.onFp n (fun g => { g with rs := g.pc :: g.rs, pc := a }))
  else
    let trap := match (s.en n).pkg with
      | some k => k.rsTrap
      | none => false
    if trap then (s, some 0x21) else eff (s.onFp n (fun g => { g with rs := g.pc :: g.rs.take 7, pc := a }))

/-- PC.RET (R337, R338). -/
def State.fpRetGo (s : State) (n : Nat) : Eff :=
  match (s.en n).fp.rs with
  | [] => (s, some 0x22)
  | a :: t => eff (s.onFp n (fun f => { f with rs := t, pc := a }))

/-- PC.ERET (R341). -/
def State.fpEretGo (s : State) (n : Nat) : Eff :=
  if !(s.en n).fp.inEv then (s, some 0x26)
  else eff (s.onFp n (fun f => { f with
    grd := f.savG, ien := f.ien ||| 0x8000, inEv := false, pc := f.epc, rptLeft := fld f.erpt 0 11, rptHard := tst f.erpt 15 }))

/-- RPT.T (R339). -/
def State.fpRptGo (s : State) (n : Nat) (v : Half) : Eff :=
  let k := fld v 0 11
  if k = 0 ∨ 1024 < k ∨ fld v 11 4 ≠ 0 then (s, some 0x25)
  else eff (s.onFp n (fun f => { f with rptLeft := k, rptHard := tst v 15 }))

/-- Change a cursor. -/
def State.setCur (s : State) (n c : Nat) (g : Cursor → Cursor) : State := s.setCursor n c (g (s.cursor n c))

/-- Operands of the coprocessor port (R321, R336). -/
def State.copOperand (s : State) (n : Nat) (p : Proc) (g : CopPort → CopPort) : State := s.setCop n p (g (s.cop n p))

/-- Write a port, with the effect of writing it (R319, R325). `op` is the operation that a write of COP.T starts, if the row names
one; otherwise the value does (R336). -/
def State.fpWrite (s : State) (n p : Nat) (v : Half) (op : Option Nat) : Eff :=
  match fpVReg p with
  | some r => eff (s.onFp n (fun f => { f with v := Tab.store 0 f.v r v }))
  | none =>
    match p with
    | 16 => eff (s.onFp n (fun f => { f with aluO := f.aluO.set .east v }))
    | 18 => eff (s.fpAluGo n 0 .add v)
    | 19 => eff (s.fpAluGo n 0 .sub v)
    | 20 => eff (s.fpAluGo n 0 .and v)
    | 21 => eff (s.fpAluGo n 0 .or v)
    | 22 => eff (s.fpAluGo n 0 .xor v)
    | 23 => eff (s.fpAluGo n 0 .andn v)
    | 24 => eff (s.fpAluGo n 0 .adc v)
    | 25 => eff (s.fpAluGo n 0 .sbb v)
    | 26 => eff (s.onFp n (fun f => { f with aluO := f.aluO.set .west v }))
    | 28 => eff (s.fpAluGo n 1 .add v)
    | 29 => eff (s.fpAluGo n 1 .sub v)
    | 30 => eff (s.fpAluGo n 1 .and v)
    | 31 => eff (s.fpAluGo n 1 .or v)
    | 32 => eff (s.fpAluGo n 1 .xor v)
    | 33 => eff (s.fpAluGo n 1 .andn v)
    | 34 => eff (s.fpAluGo n 1 .adc v)
    | 35 => eff (s.fpAluGo n 1 .sbb v)
    | 36 => eff (s.onFp n (fun f => { f with shO := v }))
    | 38 => eff (s.fpShiftGo n .shl v)
    | 39 => eff (s.fpShiftGo n .shr v)
    | 40 => eff (s.fpShiftGo n .sar v)
    | 41 => eff (s.fpShiftGo n .rol v)
    | 42 => eff (s.fpShiftGo n .ror v)
    | 43 => eff (s.fpShiftGo n .swap v)
    | 44 => eff (s.onFp n (fun f => { f with cmpO := v }))
    | 45 => eff (s.onFp n (fun f => { f with cmpG := v }))
    | 46 => eff (s.fpCmpGo n .eq v)
    | 47 => eff (s.fpCmpGo n .ne v)
    | 48 => eff (s.fpCmpGo n .ltu v)
    | 49 => eff (s.fpCmpGo n .leu v)
    | 50 => eff (s.fpCmpGo n .lt v)
    | 51 => eff (s.fpCmpGo n .le v)
    | 52 => eff (s.fpCmpGo n .bit v)
    | 53 => eff (s.fpCmpGo n .any v)
    | 54 => eff (s.onFp n (fun f => { f with grd := v.setWidth 8 }))
    | 55 => eff (s.setCur n 0 (fun x => { x with base := v }))
    | 56 => eff (s.setCur n 0 (fun x => { x with pos := v }))
    | 57 => eff (s.setCur n 0 (fun x => { x with space := v &&& 3 }))
    | 60 => (s.curPut n 0 v).bind (fun t => eff (t.advance n 0 2))
    | 61 => (s.curByte n 0 v).bind (fun t => eff (t.advance n 0 1))
    | 63 => eff (s.setCur n 1 (fun x => { x with base := v }))
    | 64 => eff (s.setCur n 1 (fun x => { x with pos := v }))
    | 65 => eff (s.setCur n 1 (fun x => { x with space := v &&& 3 }))
    | 68 => (s.curPut n 1 v).bind (fun t => eff (t.advance n 1 2))
    | 69 => (s.curByte n 1 v).bind (fun t => eff (t.advance n 1 1))
    | 71 => eff (s.crcCfgGo n v)
    | 72 => eff (s.crcFeed n (halvesOctets [v]))
    | 73 => eff (s.crcFeed n [v.setWidth 8])
    | 76 => eff (s.onFp n (fun f => { f with sum := v }))
    | 77 => eff (s.onFp n (fun f => { f with sum := onesAdd f.sum v }))
    | 79 => eff (s.qinPopGo n v)
    | 82 => s.qinFreeGo n v
    | 83 => eff (s.onFp n (fun f =>
        let (l, i) := seqWrite f.qout 4 f.qoutIdx v
        { f with qout := l, qoutIdx := i }))
    | 84 => s.qoutPushGo n
    | 87 => eff (s.fpGoto n v)
    | 88 => s.fpCallGo n v
    | 89 => s.fpRetGo n
    | 90 => s.fpEretGo n
    | 91 => eff (s.onFp n (fun f => { f with ien := v &&& 0x80FF }))
    | 92 => eff (s.onFp n (fun f => { f with ipend := f.ipend &&& ~~~ v.setWidth 8 }))
    | 96 => s.fpRptGo n v
    | 97 => eff (s.fpTas n v)
    | 99 => eff (s.fpSemClr n v)
    | 100 => eff (s.onFp n (fun f => { f with tsqPort := v }))
    | 101 => eff (s.tsqPopGo n)
    | 102 => eff (s.tsqNowGo n)
    | 103 => eff (s.tsqRxGo n v)
    | 105 => eff (s.onFp n (fun f => { f with lutTbl := v }))
    | 106 => eff (s.onFp n (fun f =>
        let (l, i) := seqWrite f.lutK 4 f.lutKIdx v
        { f with lutK := l, lutKIdx := i }))
    | 107 => s.lutGo n
    | 110 => eff (s.copOperand n .fp (fun c => { c with src := v }))
    | 111 => eff (s.copOperand n .fp (fun c => { c with len := v }))
    | 112 => eff (s.copOperand n .fp (fun c => { c with dst := v }))
    | 113 => eff (s.copOperand n .fp (fun c =>
        let (l, i) := seqWrite c.arg 12 c.argIdx v
        { c with arg := l, argIdx := i }))
    | 114 => s.copGo n .fp (op.getD (fld v 0 4)) v
    | _ => (s, some 0x20)

/-! The move (R319, R322-R324, R339) -/

/-- The FP runs: its engine is RUNNING, or only its SP is halted (R317, R361). -/
def State.fpRuns (s : State) (n : Nat) : Bool := s.peState n == 2 || s.peState n == 4

/-- PC after the move: it stays while repetitions are left (R339). -/
def State.fpAdvance (s : State) (n len : Nat) : State :=
  s.onFp n (fun f =>
    if 1 < f.rptLeft then { f with rptLeft := f.rptLeft - 1 }
    else { f with rptLeft := 0, rptHard := false, pc := f.pc + BitVec.ofNat 16 len })

/-- A guard passes (R324). -/
def guardHolds (g : FpGuard) (grd : Octet) : Bool :=
  match g with
  | .always => true
  | .ifOne k => tst grd k
  | .ifZero k => !tst grd k

/-- A move that a repetition may not make: into a PC port or RPT.T (R339). -/
def rptForbids (dst : Nat) : Bool := (decide (87 ≤ dst) && decide (dst ≤ 93)) || dst == 96

/-- The next fetch: outside the partition it traps with the target address (R293, R337). -/
def State.fpFetchNext (s : State) (n : Nat) : State :=
  let pc := (s.en n).fp.pc
  if s.fetchOk n .fp pc.toNat then s else s.engineTrap n .fp 0x01 pc

/-- Complete an effect of the FP: the trap, or the next fetch. -/
def State.fpEnd (n : Nat) (pc : Half) (r : Eff) : State :=
  match r.2 with
  | some c => r.1.engineTrap n .fp c pc
  | none => r.1.fpFetchNext n

/-- The source of a move is a port that cannot be read. -/
def srcBad (ok : Nat → Bool) : FpSrc → Bool
  | .port p => ok p
  | .imm _ => false

/-- Read the source of a move. -/
def State.fpSrcRead (s : State) (n : Nat) (src : FpSrc) (k : Half → State → Eff) : Eff :=
  match src with
  | .port p => s.fpRead n p k
  | .imm v => k v s

/-- One move, or one repetition of it. -/
def State.fpMv (s : State) (n : Nat) (src : FpSrc) (g : FpGuard) (long : Bool) (dst : Nat) (op : Option Nat) : State :=
  let f := (s.en n).fp
  let len := if long then 2 else 1
  if !s.fpRuns n then s
  else if !s.fetchOk n .fp f.pc.toNat || (long && !s.fetchOk n .fp (f.pc + 1).toNat) then s.engineTrap n .fp 0x01 f.pc
  else if !guardHolds g f.grd then (s.fpAdvance n len).fpFetchNext n
  else if fpReserved dst || srcBad fpReserved src then s.engineTrap n .fp 0x20 f.pc
  else if !fpWritable dst || srcBad (fun p => !fpReadable p) src then s.engineTrap n .fp 0x23 f.pc
  else if decide (0 < f.rptLeft) && rptForbids dst then s.engineTrap n .fp 0x25 f.pc
  else State.fpEnd n f.pc (s.fpSrcRead n src (fun v t => (t.fpAdvance n len).fpWrite n dst v op))

/-- FP_MOVE: a move as its words encode it (R323, R324); the second word is used by a long move alone. -/
def State.fpMove (s : State) (n : Nat) (w0 w1 : Half) : State :=
  if !tst w0 15 then
    s.fpMv n (if tst w0 7 then .imm (BitVec.ofNat 16 (fld w0 0 7)) else .port (fld w0 0 7)) .always false (fld w0 8 7) none
  else
    let gs := fld w0 11 3
    let mode := fld w0 9 2
    let imm := tst w0 14
    if s.fpRuns n && (decide (mode = 3) || tst w0 8 || (!imm && decide (fld w1 8 8 ≠ 0))) then
      s.engineTrap n .fp 0x20 (s.en n).fp.pc
    else
      s.fpMv n (if imm then .imm w1 else .port (fld w1 0 8))
        (if mode = 1 then .ifOne gs else if mode = 2 then .ifZero gs else .always) true (fld w0 0 8) none

/-- A row that names the destination port. -/
def State.fpTo (s : State) (n dst : Nat) (m : FpMv) : State := s.fpMv n m.src m.guard m.long dst none

/-- A row that names the source port. -/
def State.fpFrom (s : State) (n src dst : Nat) (m : FpGd) : State := s.fpMv n (.port src) m.guard m.long dst none

/-- An event is taken (R340, R341): the lowest pending and enabled source. -/
def State.fpEventEntry (s : State) (n : Nat) : State :=
  let f := (s.en n).fp
  let take := (s.fpPending n &&& f.ien &&& 0xFF)
  if !s.fpRuns n || !tst f.ien 15 || f.inEv || take == 0 || (decide (0 < f.rptLeft) && f.rptHard) then s
  else
    match ((List.range 8).find? (fun e => tst take e)), (s.en n).pkg with
    | some e, some k =>
      ((s.copSettle n .fp).onFp n (fun h => { h with
        epc := h.pc, savG := h.grd
        erpt := if h.rptLeft = 0 then 0 else BitVec.ofNat 16 (h.rptLeft + bitOf h.rptHard * 2 ^ 15)
        rptLeft := 0, rptHard := false, ien := h.ien &&& 0x7FFF, inEv := true
        pc := BitVec.ofNat 16 (k.fpBase + 2 * e) })).fpFetchNext n
    | _, _ => s

/-! The rows of the chapter: each names its port (R325) -/

/-- ADD of ALU0 or ALU1 (R327). -/
def State.fpAdd (s : State) (n alu : Nat) (m : FpMv) : State := s.fpTo n (18 + 10 * alu) m

/-- SUB of ALU0 or ALU1 (R327). -/
def State.fpSub (s : State) (n alu : Nat) (m : FpMv) : State := s.fpTo n (19 + 10 * alu) m

/-- AND of ALU0 or ALU1 (R327). -/
def State.fpAnd (s : State) (n alu : Nat) (m : FpMv) : State := s.fpTo n (20 + 10 * alu) m

/-- OR of ALU0 or ALU1 (R327). -/
def State.fpOr (s : State) (n alu : Nat) (m : FpMv) : State := s.fpTo n (21 + 10 * alu) m

/-- XOR of ALU0 or ALU1 (R327). -/
def State.fpXor (s : State) (n alu : Nat) (m : FpMv) : State := s.fpTo n (22 + 10 * alu) m

/-- ANDN of ALU0 or ALU1 (R327). -/
def State.fpAndn (s : State) (n alu : Nat) (m : FpMv) : State := s.fpTo n (23 + 10 * alu) m

/-- ADC of ALU0 or ALU1 (R327). -/
def State.fpAdc (s : State) (n alu : Nat) (m : FpMv) : State := s.fpTo n (24 + 10 * alu) m

/-- SBB of ALU0 or ALU1 (R327). -/
def State.fpSbb (s : State) (n alu : Nat) (m : FpMv) : State := s.fpTo n (25 + 10 * alu) m

/-- SHL (R327). -/
def State.fpShl (s : State) (n : Nat) (m : FpMv) : State := s.fpTo n 38 m

/-- SHR (R327). -/
def State.fpShr (s : State) (n : Nat) (m : FpMv) : State := s.fpTo n 39 m

/-- SAR (R327). -/
def State.fpSar (s : State) (n : Nat) (m : FpMv) : State := s.fpTo n 40 m

/-- ROL (R327). -/
def State.fpRol (s : State) (n : Nat) (m : FpMv) : State := s.fpTo n 41 m

/-- ROR (R327). -/
def State.fpRor (s : State) (n : Nat) (m : FpMv) : State := s.fpTo n 42 m

/-- SWAP (R327). -/
def State.fpSwap (s : State) (n : Nat) (m : FpMv) : State := s.fpTo n 43 m

/-- EQ (R328). -/
def State.fpEq (s : State) (n : Nat) (m : FpMv) : State := s.fpTo n 46 m

/-- NE (R328). -/
def State.fpNe (s : State) (n : Nat) (m : FpMv) : State := s.fpTo n 47 m

/-- LTU (R328). -/
def State.fpLtu (s : State) (n : Nat) (m : FpMv) : State := s.fpTo n 48 m

/-- LEU (R328). -/
def State.fpLeu (s : State) (n : Nat) (m : FpMv) : State := s.fpTo n 49 m

/-- LT (R328). -/
def State.fpLt (s : State) (n : Nat) (m : FpMv) : State := s.fpTo n 50 m

/-- LE (R328). -/
def State.fpLe (s : State) (n : Nat) (m : FpMv) : State := s.fpTo n 51 m

/-- BIT (R328). -/
def State.fpBit (s : State) (n : Nat) (m : FpMv) : State := s.fpTo n 52 m

/-- ANY (R328). -/
def State.fpAny (s : State) (n : Nat) (m : FpMv) : State := s.fpTo n 53 m

/-- GRD (R328). -/
def State.fpGrd (s : State) (n : Nat) (m : FpMv) : State := s.fpTo n 54 m

/-- CRC_CFG (R330). -/
def State.crcCfg (s : State) (n : Nat) (m : FpMv) : State := s.fpTo n 71 m

/-- CRC_T (R330). -/
def State.crcT (s : State) (n : Nat) (m : FpMv) : State := s.fpTo n 72 m

/-- CRC_TB (R330). -/
def State.crcTb (s : State) (n : Nat) (m : FpMv) : State := s.fpTo n 73 m

/-- SUM_SET (R330). -/
def State.sumSet (s : State) (n : Nat) (m : FpMv) : State := s.fpTo n 76 m

/-- SUM_T (R330). -/
def State.sumT (s : State) (n : Nat) (m : FpMv) : State := s.fpTo n 77 m

/-- QIN_POP (R331). -/
def State.qinPop (s : State) (n : Nat) (m : FpMv) : State := s.fpTo n 79 m

/-- QIN_FREE (R331). -/
def State.qinFree (s : State) (n : Nat) (m : FpMv) : State := s.fpTo n 82 m

/-- QOUT_PUSH (R332). -/
def State.qoutPush (s : State) (n : Nat) (m : FpMv) : State := s.fpTo n 84 m

/-- JMP (R337). -/
def State.jmp (s : State) (n : Nat) (m : FpMv) : State := s.fpTo n 87 m

/-- CALL (R337). -/
def State.call (s : State) (n : Nat) (m : FpMv) : State := s.fpTo n 88 m

/-- RET (R338). -/
def State.ret (s : State) (n : Nat) (m : FpMv) : State := s.fpTo n 89 m

/-- ERET (R341). -/
def State.eret (s : State) (n : Nat) (m : FpMv) : State := s.fpTo n 90 m

/-- IPEND_CLEAR (R340). -/
def State.ipendClear (s : State) (n : Nat) (m : FpMv) : State := s.fpTo n 92 m

/-- RPT (R339). -/
def State.rpt (s : State) (n : Nat) (m : FpMv) : State := s.fpTo n 96 m

/-- TAS (R333). -/
def State.tas (s : State) (n : Nat) (m : FpMv) : State := s.fpTo n 97 m

/-- SEM_CLR (R333). -/
def State.semClr (s : State) (n : Nat) (m : FpMv) : State := s.fpTo n 99 m

/-- TSQ_POP (R334). -/
def State.tsqPop (s : State) (n : Nat) (m : FpMv) : State := s.fpTo n 101 m

/-- NOW (R334). -/
def State.now (s : State) (n : Nat) (m : FpMv) : State := s.fpTo n 102 m

/-- RX (R334). -/
def State.rx (s : State) (n : Nat) (m : FpMv) : State := s.fpTo n 103 m

/-- LUT_T (R335). -/
def State.lutT (s : State) (n : Nat) (m : FpMv) : State := s.fpTo n 107 m

/-- CA_RW (R329). -/
def State.caRw (s : State) (n cur dst : Nat) (m : FpGd) : State := s.fpFrom n (58 + 8 * cur) dst m

/-- CA_RB (R329). -/
def State.caRb (s : State) (n cur dst : Nat) (m : FpGd) : State := s.fpFrom n (59 + 8 * cur) dst m

/-- CA_PK (R329). -/
def State.caPk (s : State) (n cur dst : Nat) (m : FpGd) : State := s.fpFrom n (62 + 8 * cur) dst m

/-- CA_WW (R329). -/
def State.caWw (s : State) (n cur : Nat) (m : FpMv) : State := s.fpTo n (60 + 8 * cur) m

/-- CA_WB (R329). -/
def State.caWb (s : State) (n cur : Nat) (m : FpMv) : State := s.fpTo n (61 + 8 * cur) m

/-- QOUT_DONE (R332). -/
def State.qoutDone (s : State) (n dst : Nat) (m : FpGd) : State := s.fpFrom n 86 dst m

/-! The meanings of the rows -/

/-- FP_MOVE (R319): A frame-processor move with no unit trigger reads its source port and writes its destination. -/
def execFpMove (n : Nat) (w0 w1 : BitVec 16) (s : State) : Out :=
  live (fpMoveOk n) s (s.fpMove n w0 w1)

/-- ADD (R327): FP ALU trigger computing O + T and the carry. -/
def execFpAdd (n alu : Nat) (m : FpMv) (s : State) : Out :=
  live (fpAddOk n alu m) s (s.fpAdd n alu m)

/-- SUB (R327): FP ALU trigger computing O − T and the borrow. -/
def execFpSub (n alu : Nat) (m : FpMv) (s : State) : Out :=
  live (fpSubOk n alu m) s (s.fpSub n alu m)

/-- AND (R327): FP ALU trigger computing O AND T. -/
def execFpAnd (n alu : Nat) (m : FpMv) (s : State) : Out :=
  live (fpAndOk n alu m) s (s.fpAnd n alu m)

/-- OR (R327): FP ALU trigger computing O OR T. -/
def execFpOr (n alu : Nat) (m : FpMv) (s : State) : Out :=
  live (fpOrOk n alu m) s (s.fpOr n alu m)

/-- XOR (R327): FP ALU trigger computing O XOR T. -/
def execFpXor (n alu : Nat) (m : FpMv) (s : State) : Out :=
  live (fpXorOk n alu m) s (s.fpXor n alu m)

/-- ANDN (R327): FP ALU trigger computing O AND NOT T. -/
def execFpAndn (n alu : Nat) (m : FpMv) (s : State) : Out :=
  live (fpAndnOk n alu m) s (s.fpAndn n alu m)

/-- ADC (R327): FP ALU trigger adding O, T and the carry. -/
def execFpAdc (n alu : Nat) (m : FpMv) (s : State) : Out :=
  live (fpAdcOk n alu m) s (s.fpAdc n alu m)

/-- SBB (R327): FP ALU trigger subtracting T and the borrow from O. -/
def execFpSbb (n alu : Nat) (m : FpMv) (s : State) : Out :=
  live (fpSbbOk n alu m) s (s.fpSbb n alu m)

/-- SHL (R327): FP shifter trigger shifting O left by T[3:0]. -/
def execFpShl (n : Nat) (m : FpMv) (s : State) : Out :=
  live (fpShlOk n m) s (s.fpShl n m)

/-- SHR (R327): FP shifter trigger shifting O right logically by T[3:0]. -/
def execFpShr (n : Nat) (m : FpMv) (s : State) : Out :=
  live (fpShrOk n m) s (s.fpShr n m)

/-- SAR (R327): FP shifter trigger shifting O right arithmetically by T[3:0]. -/
def execFpSar (n : Nat) (m : FpMv) (s : State) : Out :=
  live (fpSarOk n m) s (s.fpSar n m)

/-- ROL (R327): FP shifter trigger rotating O left by T[3:0]. -/
def execFpRol (n : Nat) (m : FpMv) (s : State) : Out :=
  live (fpRolOk n m) s (s.fpRol n m)

/-- ROR (R327): FP shifter trigger rotating O right by T[3:0]. -/
def execFpRor (n : Nat) (m : FpMv) (s : State) : Out :=
  live (fpRorOk n m) s (s.fpRor n m)

/-- SWAP (R327): FP shifter trigger exchanging the octets of T. -/
def execFpSwap (n : Nat) (m : FpMv) (s : State) : Out :=
  live (fpSwapOk n m) s (s.fpSwap n m)

/-- EQ (R328): FP compare trigger writing O = T into the selected guard. -/
def execFpEq (n : Nat) (m : FpMv) (s : State) : Out :=
  live (fpEqOk n m) s (s.fpEq n m)

/-- NE (R328): FP compare trigger writing O ≠ T into the selected guard. -/
def execFpNe (n : Nat) (m : FpMv) (s : State) : Out :=
  live (fpNeOk n m) s (s.fpNe n m)

/-- LTU (R328): FP compare trigger writing unsigned O < T. -/
def execFpLtu (n : Nat) (m : FpMv) (s : State) : Out :=
  live (fpLtuOk n m) s (s.fpLtu n m)

/-- LEU (R328): FP compare trigger writing unsigned O ≤ T. -/
def execFpLeu (n : Nat) (m : FpMv) (s : State) : Out :=
  live (fpLeuOk n m) s (s.fpLeu n m)

/-- LT (R328): FP compare trigger writing signed O < T. -/
def execFpLt (n : Nat) (m : FpMv) (s : State) : Out :=
  live (fpLtOk n m) s (s.fpLt n m)

/-- LE (R328): FP compare trigger writing signed O ≤ T. -/
def execFpLe (n : Nat) (m : FpMv) (s : State) : Out :=
  live (fpLeOk n m) s (s.fpLe n m)

/-- BIT (R328): FP compare trigger testing bit T[3:0] of O. -/
def execFpBit (n : Nat) (m : FpMv) (s : State) : Out :=
  live (fpBitOk n m) s (s.fpBit n m)

/-- ANY (R328): FP compare trigger testing O AND T ≠ 0. -/
def execFpAny (n : Nat) (m : FpMv) (s : State) : Out :=
  live (fpAnyOk n m) s (s.fpAny n m)

/-- GRD (R328): A move writing CMP.GRD sets all eight guards. -/
def execFpGrd (n : Nat) (m : FpMv) (s : State) : Out :=
  live (fpGrdOk n m) s (s.fpGrd n m)

/-- CA_RW (R329): A cursor word read at POS, advancing POS by 2. -/
def execCaRw (n cur dst : Nat) (m : FpGd) (s : State) : Out :=
  live (caRwOk n cur dst m) s (s.caRw n cur dst m)

/-- CA_RB (R329): A cursor octet read at POS, advancing POS by 1. -/
def execCaRb (n cur dst : Nat) (m : FpGd) (s : State) : Out :=
  live (caRbOk n cur dst m) s (s.caRb n cur dst m)

/-- CA_WW (R329): A cursor word write at POS, advancing POS by 2. -/
def execCaWw (n cur : Nat) (m : FpMv) (s : State) : Out :=
  live (caWwOk n cur m) s (s.caWw n cur m)

/-- CA_WB (R329): A cursor octet write at POS, advancing POS by 1. -/
def execCaWb (n cur : Nat) (m : FpMv) (s : State) : Out :=
  live (caWbOk n cur m) s (s.caWb n cur m)

/-- CA_PK (R329): A cursor word peek at POS without advancing. -/
def execCaPk (n cur dst : Nat) (m : FpGd) (s : State) : Out :=
  live (caPkOk n cur dst m) s (s.caPk n cur dst m)

/-- CRC_CFG (R330): A write of CRC.CFG selects the CRC and loads its initial value. -/
def execCrcCfg (n : Nat) (m : FpMv) (s : State) : Out :=
  live (crcCfgOk n m) s (s.crcCfg n m)

/-- CRC_T (R330): A write of CRC.T feeds a word into the CRC. -/
def execCrcT (n : Nat) (m : FpMv) (s : State) : Out :=
  live (crcTOk n m) s (s.crcT n m)

/-- CRC_TB (R330): A write of CRC.TB feeds an octet into the CRC. -/
def execCrcTb (n : Nat) (m : FpMv) (s : State) : Out :=
  live (crcTbOk n m) s (s.crcTb n m)

/-- SUM_SET (R330): A write of SUM.SET loads the ones'-complement accumulator. -/
def execSumSet (n : Nat) (m : FpMv) (s : State) : Out :=
  live (sumSetOk n m) s (s.sumSet n m)

/-- SUM_T (R330): A write of SUM.T adds a word with end-around carry. -/
def execSumT (n : Nat) (m : FpMv) (s : State) : Out :=
  live (sumTOk n m) s (s.sumT n m)

/-- QIN_POP (R331): A write of a queue number to QIN.POP pops the head receive descriptor. -/
def execQinPop (n : Nat) (m : FpMv) (s : State) : Out :=
  live (qinPopOk n m) s (s.qinPop n m)

/-- QIN_FREE (R331): A write to QIN.FREE returns a receive buffer to the pool. -/
def execQinFree (n : Nat) (m : FpMv) (s : State) : Out :=
  live (qinFreeOk n m) s (s.qinFree n m)

/-- QOUT_PUSH (R332): A write to QOUT.PUSH hands a transmit descriptor to port EC c. -/
def execQoutPush (n : Nat) (m : FpMv) (s : State) : Out :=
  live (qoutPushOk n m) s (s.qoutPush n m)

/-- QOUT_DONE (R332): A read of QOUT.DONE pops the base of a completed RELEASE = 0 buffer. -/
def execQoutDone (n dst : Nat) (m : FpGd) (s : State) : Out :=
  live (qoutDoneOk n dst m) s (s.qoutDone n dst m)

/-- JMP (R337): A move into PC.JMP jumps to the code address moved. -/
def execJmp (n : Nat) (m : FpMv) (s : State) : Out :=
  live (jmpOk n m) s (s.jmp n m)

/-- CALL (R337): A move into PC.CALL pushes the return address and jumps. -/
def execCall (n : Nat) (m : FpMv) (s : State) : Out :=
  live (callOk n m) s (s.call n m)

/-- RET (R338): A move into PC.RET pops the return stack and jumps. -/
def execRet (n : Nat) (m : FpMv) (s : State) : Out :=
  live (retOk n m) s (s.ret n m)

/-- ERET (R341): A move into PC.ERET restores guards and repeat state and resumes at EPC. -/
def execEret (n : Nat) (m : FpMv) (s : State) : Out :=
  live (eretOk n m) s (s.eret n m)

/-- IPEND_CLEAR (R340): Writing 1 to an edge bit of PC.IPEND clears the pending event. -/
def execIpendClear (n : Nat) (m : FpMv) (s : State) : Out :=
  live (ipendClearOk n m) s (s.ipendClear n m)

/-- RPT (R339): A move into RPT.T repeats the following move n times. -/
def execRpt (n : Nat) (m : FpMv) (s : State) : Out :=
  live (rptOk n m) s (s.rpt n m)

/-- TAS (R333): A write of an index to SEM.TAS test-and-sets a semaphore. -/
def execTas (n : Nat) (m : FpMv) (s : State) : Out :=
  live (tasOk n m) s (s.tas n m)

/-- SEM_CLR (R333): A write of an index to SEM.CLR clears a semaphore. -/
def execSemClr (n : Nat) (m : FpMv) (s : State) : Out :=
  live (semClrOk n m) s (s.semClr n m)

/-- TSQ_POP (R334): A write to TSQ.POP pops the head of a MAC port's egress timestamp queue into TSQ.R. -/
def execTsqPop (n : Nat) (m : FpMv) (s : State) : Out :=
  live (tsqPopOk n m) s (s.tsqPop n m)

/-- NOW (R334): A write to TSQ.NOW records the wing's device time. -/
def execNow (n : Nat) (m : FpMv) (s : State) : Out :=
  live (nowOk n m) s (s.now n m)

/-- RX (R334): A write of a handle to TSQ.RX records that frame's ingress timestamp. -/
def execRx (n : Nat) (m : FpMv) (s : State) : Out :=
  live (rxOk n m) s (s.rx n m)

/-- LUT_T (R335): A write to LUT.T looks up the key in a LOCAL table. -/
def execLutT (n : Nat) (m : FpMv) (s : State) : Out :=
  live (lutTOk n m) s (s.lutT n m)

/-- FP_EVENT_ENTRY (R341): A pending enabled FP event is taken between moves and the handler vector entered. -/
def execFpEventEntry (n : Nat) (s : State) : Out :=
  live (fpEventEntryOk n) s (s.fpEventEntry n)

end Sys2Proof.Machine
end

