-- ==== Sys2Proof/Machine/Sp.lean ====
section
/-! DEFINITION. The session processor (13_session_isa.md, R343-R357). Each command is one instruction, or one repetition of it. -/

namespace Sys2Proof.Machine

/-! Issue (R349, R354-R356) -/

/-- Status register of an SP (R344). -/
def State.sr (s : State) (n : Nat) : Half := (s.en n).sp.sr
def State.setSr (s : State) (n : Nat) (v : Half) : State := s.onSp n (fun f => { f with sr := v })

/-- The program counter, the stack pointer of an SP. -/
def State.spPc (s : State) (n : Nat) : Half := (s.en n).sp.pc
def State.setSpPc (s : State) (n : Nat) (a : Half) : State := s.onSp n (fun f => { f with pc := a })
def State.sk (s : State) (n : Nat) : Half := (s.en n).sp.sk
def State.setSk (s : State) (n : Nat) (a : Half) : State := s.onSp n (fun f => { f with sk := a })

/-- An enabled event is pending (R356). -/
def State.spWants (s : State) (n : Nat) : Half := (s.en n).sp.ipend &&& (s.en n).sp.imask &&& 7

/-- The SP issues: its engine is RUNNING, it is not suspended in ENDCYC (R360), and it does not wait in WAIT without an enabled event
pending (R349). -/
def State.spRuns (s : State) (n : Nat) : Bool :=
  s.peState n == 2 && !(s.en n).sp.susp && (!(s.en n).sp.waiting || s.spWants n != 0)

/-- PC after the instruction: it stays while repetitions are left (R355). -/
def State.spAdvance (s : State) (n len : Nat) : State :=
  s.onSp n (fun f =>
    if 1 < f.repLeft then { f with repLeft := f.repLeft - 1, waiting := false }
    else { f with repLeft := 0, repI := false, waiting := false, pc := f.pc + BitVec.ofNat 16 len })

/-- The next fetch: outside the partition it traps with the target address (R293). -/
def State.spFetchNext (s : State) (n : Nat) : State :=
  if s.fetchOk n .sp (s.spPc n).toNat then s else s.engineTrap n .sp 0x01 (s.spPc n)

/-- Complete an effect of the SP: the trap, which ends a repetition, or the next fetch. -/
def State.spEnd (n : Nat) (pc : Half) (r : Eff) : State :=
  match r.2 with
  | some c => (r.1.onSp n (fun f => { f with repLeft := 0, repI := false })).engineTrap n .sp c pc
  | none => r.1.spFetchNext n

/-- One instruction of `len` words; `rep` says that it may be repeated (R355). -/
def State.spIssue (s : State) (n len : Nat) (rep : Bool) (go : State → Eff) : State :=
  let pc := s.spPc n
  if !s.spRuns n then s
  else if !s.fetchOk n .sp pc.toNat || (decide (len = 2) && !s.fetchOk n .sp (pc + 1).toNat) then s.engineTrap n .sp 0x01 pc
  else if decide (0 < (s.en n).sp.repLeft) && !rep then State.spEnd n pc (s, some 0x41)
  else State.spEnd n pc (go (s.spAdvance n len))

/-! ALU (R345, R349, R350) -/

/-- An ALU instruction: Dd and the flags, or the flags alone. -/
def State.spAluGo (s : State) (n d : Nat) (op : SpAlu) (src : SpSrc) : Eff :=
  let (r, f) := spAlu op (s.dReg n d) (s.srcVal n src) (flagsOf (s.sr n))
  let s1 := s.setSr n (withFlags (s.sr n) f)
  eff (if op.flagsOnly then s1 else s1.setD n d r)

/-- The instruction in any of its forms. -/
def State.spAluOp (s : State) (n d : Nat) (op : SpAlu) (src : SpSrc) : State :=
  s.spIssue n (srcWords src) true (fun t => t.spAluGo n d op src)

/-! Loads and stores (R346, R347, R349, R350) -/

/-- Load a register from an effective address; Am takes its step unless the load is into Am itself (R347). -/
def State.spLoad (s : State) (n : Nat) (sp : Space) (x : SpReg) (ea : Half) (am : Nat) (am' : Half) : Eff :=
  effRead s (s.memRead n .sp sp ea) (fun v t => eff ((t.setA n am am').setSpReg n v x))

/-- Store a register: the value is that before the step (R347). -/
def State.spStore (s : State) (n : Nat) (sp : Space) (x : SpReg) (ea : Half) (am : Nat) (am' : Half) : Eff :=
  (effOf s (s.memWrite n .sp sp ea (s.spReg n x))).bind (fun t => eff (t.setA n am am'))

/-- Address with a displacement (R347). -/
def State.dispAddr (s : State) (n am : Nat) (d16 : Half) : Half := s.aReg n am + d16

/-! The stack (R343, R351) -/

/-- A push: SK falls by 1, then the word is written at SK. -/
def State.pushWord (s : State) (n : Nat) (v : Half) : Eff :=
  let s1 := s.setSk n (s.sk n - 1)
  effOf s1 (s1.localWrite n .sp (s1.sk n) v)

/-- A pop: the word at SK is read, then SK rises by 1. Outside an SP-owned region it traps (R351). -/
def State.popWord (s : State) (n : Nat) (f : Half → State → Eff) : Eff :=
  if ownerOf (s.regionsOf n) (s.sk n).toNat ≠ 1 then (s, some 0x02)
  else
    match s.localRead n (s.sk n) with
    | .ok v => f v (s.setSk n (s.sk n + 1))
    | .error c => (s, some c)

/-- Push words in order. -/
def State.pushAll (s : State) (n : Nat) : List Half → Eff
  | [] => eff s
  | v :: t => (s.pushWord n v).bind (fun u => u.pushAll n t)

/-- Pop into registers in order. -/
def State.popAll (s : State) (n : Nat) : List (Half → State → State) → Eff
  | [] => eff s
  | g :: t => s.popWord n (fun v u => (g v u).popAll n t)

/-- An accumulator (R343). -/
def State.acc (s : State) (n k : Nat) : BitVec 40 := Tab.get 0 (s.en n).sp.ac k
def State.setAcc (s : State) (n k : Nat) (v : BitVec 40) : State := s.onSp n (fun f => { f with ac := Tab.store 0 f.ac k v })

/-- The registers of a MASK, D0-D7 then A0-A7 (R351). -/
def maskRegs (mask : Half) : List SpReg :=
  ((List.range 8).map SpReg.d ++ (List.range 8).map SpReg.a).zip (List.range 16)
    |>.filterMap (fun p => if tst mask p.2 then some p.1 else none)

/-- The words of an accumulator in push order: guard bits, [31:16], [15:0] (R351). -/
def accWords (v : BitVec 40) : List Half :=
  [((v >>> (32 : Nat)).setWidth 8 : Octet).setWidth 16, (v >>> (16 : Nat)).setWidth 16, v.setWidth 16]

/-- What a call pushes, in order (R351). -/
def State.callWords (s : State) (n : Nat) (ra : Half) (acs : Bool) (mask : Half) : List Half :=
  [ra] ++ (maskRegs mask).map (s.spReg n)
    ++ (if acs then accWords (s.acc n 0) ++ accWords (s.acc n 1) else [])
    ++ [BitVec.ofNat 16 (bitOf acs), mask]

/-- A call: the pushes, then the jump (R351). PC is already past the call. -/
def State.callGo (s : State) (n : Nat) (target : Half) (acs : Bool) (mask : Half) : Eff :=
  (s.pushAll n (s.callWords n (s.spPc n) acs mask)).bind (fun t => eff (t.setSpPc n target))

/-- Pops of an accumulator: [15:0], [31:16], guard bits (R351). -/
def accPops (n k : Nat) : List (Half → State → State) :=
  [fun v t => t.setAcc n k (v.setWidth 40), fun v t => t.setAcc n k (t.acc n k ||| (v.setWidth 40 <<< (16 : Nat))),
    fun v t => t.setAcc n k (t.acc n k ||| (((v.setWidth 8 : Octet).setWidth 40 : BitVec 40) <<< (32 : Nat)))]

/-- RET (R351): MASK, the ACS word, the registers in the reverse of the push order, the return address. -/
def State.retGo (s : State) (n : Nat) : Eff :=
  s.popWord n (fun mask s1 => s1.popWord n (fun acs s2 =>
    (s2.popAll n ((if tst acs 0 then accPops n 1 ++ accPops n 0 else [])
        ++ (maskRegs mask).reverse.map (fun r => fun v (t : State) => t.setSpReg n v r))).bind
      (fun s3 => s3.popWord n (fun ra s4 => eff (s4.setSpPc n ra)))))

/-! Accumulators (R343, R349) -/

/-- Store an exact result: wrapped, or with SATM saturated to 40 bits, which sets SAT (R343). -/
def State.accPut (s : State) (n k : Nat) (x : Int) : State :=
  let lim : Int := 2 ^ 39
  if tst (s.sr n) 14 && (decide (x < -lim) || decide (lim ≤ x)) then
    (s.setAcc n k (if x < 0 then BitVec.ofInt 40 (-lim) else BitVec.ofInt 40 (lim - 1))).setSr n (s.sr n ||| 0x2000)
  else s.setAcc n k (BitVec.ofInt 40 x)

/-- The sticky SAT (R344). -/
def State.setSat (s : State) (n : Nat) : State := s.setSr n (s.sr n ||| 0x2000)

/-- A value outside the 32-bit signed range. -/
def out32 (x : Int) : Bool := decide (x < -(2 ^ 31)) || decide ((2 ^ 31 : Int) ≤ x)

/-- The left shift that makes bits [31:30] differ (R349): 0 for 0 and outside the 32-bit range. -/
def normShift (v : BitVec 40) : Nat :=
  if v = 0 ∨ out32 v.toInt then 0
  else ((List.range 32).find? (fun k => tst (v <<< k) 31 != tst (v <<< k) 30)).getD 0

/-- A signed, an unsigned product (R349). -/
def State.mulS (s : State) (n da db : Nat) : Int := (s.dReg n da).toInt * (s.dReg n db).toInt
def State.mulU (s : State) (n da db : Nat) : Int := ((s.dReg n da).toNat * (s.dReg n db).toNat : Nat)

/-- An accumulator instruction: one word, repeatable. -/
def State.accOp (s : State) (n : Nat) (go : State → State) : State := s.spIssue n 1 true (fun t => eff (go t))

/-! Flags of a tested result (R345) -/

/-- N := 0, Z, with C and V unchanged. -/
def State.setZ (s : State) (n : Nat) (z : Bool) : State :=
  s.setSr n (withFlags (s.sr n) { flagsOf (s.sr n) with n := false, z := z })

/-! Reservations (R352) -/

/-- The word that LDRES and STCOND name: HOST, or the snapshot area. -/
def State.resvWord (s : State) (n : Nat) (sp : Space) (a : Half) : Option Nat :=
  match sp with
  | .host => if s.hostAt n .sp a < 0x100000 then some (s.hostAt n .sp a) else none
  | .image => if isSnapshot (s.imageAt n .sp a) then some (s.imageAt n .sp a) else none
  | _ => none

/-- The reservation held now: it lapses 256 SP cycles, 512 ns, after the LDRES. -/
def State.resvHeld (s : State) (n : Nat) : Option (Space × Nat) :=
  match (s.en n).sp.resv with
  | some (sp, w, t) => if s.clk.ns < t + 512 then some (sp, w) else none
  | none => none

/-- LDRES (R352). -/
def State.ldresGo (s : State) (n : Nat) (sp : Space) (am dn : Nat) : Eff :=
  match s.resvWord n sp (s.aReg n am) with
  | none => (s, some 0x42)
  | some w =>
    effRead s (s.memRead n .sp sp (s.aReg n am)) (fun v t =>
      eff ((t.onSp n (fun f => { f with resv := some (sp, w, t.clk.ns) })).setD n dn v))

/-- STCOND (R352). -/
def State.stcondGo (s : State) (n : Nat) (sp : Space) (am dn : Nat) : Eff :=
  match s.resvWord n sp (s.aReg n am) with
  | none => (s, some 0x42)
  | some w =>
    let ok := s.resvHeld n == some (sp, w)
    let s1 := s.onSp n (fun f => { f with resv := none })
    if ok then (effOf s1 (s1.memWrite n .sp sp (s.aReg n am) (s.dReg n dn))).bind (fun t => eff (t.setZ n true))
    else eff (s1.setZ n false)

/-! Control registers (R344) -/

/-- SR bits that software writes; IN_EV is read-only and the rest are not defined. -/
def srMask : Half := 0xE00F

/-- Read a control register. -/
def State.crRead (s : State) (n k : Nat) : Option Half :=
  let f := (s.en n).sp
  match k with
  | 0 => some f.sr
  | 1 => some f.epc
  | 2 => some f.esr
  | 3 => some f.erpt
  | 4 => some f.imask
  | 5 => some f.ipend
  | 6 => some (BitVec.ofNat 16 (bitOf (s.resvHeld n).isSome * 2 ^ 15))
  | 7 => some (f.imgBase &&& 0x07FF)
  | 8 => some f.sk
  | _ => none

/-- Write a control register. -/
def State.crWrite (s : State) (n k : Nat) (v : Half) : Eff :=
  match k with
  | 0 => eff (s.setSr n ((s.sr n &&& ~~~srMask) ||| (v &&& srMask)))
  | 4 => eff (s.onSp n (fun f => { f with imask := v }))
  | 5 => eff (s.onSp n (fun f => { f with ipend := f.ipend &&& ~~~v }))
  | 8 => eff (s.setSk n v)
  | _ => (s, some 0x40)

/-! Events (R356) -/

/-- An event is taken between instructions. -/
def State.spEventEntry (s : State) (n : Nat) : State :=
  let f := (s.en n).sp
  let take := s.spWants n
  if s.peState n ≠ 2 || f.susp || !tst f.sr 15 || tst f.sr 12 || take == 0 || (decide (0 < f.repLeft) && !f.repI) then s
  else
    match ((List.range 8).find? (fun e => tst take e)), (s.en n).pkg with
    | some e, some k =>
      ((s.copSettle n .sp).onSp n (fun h => { h with
        epc := h.pc, esr := h.sr
        erpt := if h.repLeft = 0 then 0 else BitVec.ofNat 16 (h.repLeft + bitOf h.repI * 2 ^ 15)
        repLeft := 0, repI := false, resv := none, waiting := false
        sr := (h.sr &&& 0x7FFF) ||| 0x1000, pc := BitVec.ofNat 16 (k.spBase + 2 * e) })).spFetchNext n
    | _, _ => s

/-- ERET (R356). -/
def State.spEretGo (s : State) (n : Nat) : Eff :=
  if !tst (s.sr n) 12 then (s, some 0x43)
  else eff (s.onSp n (fun f => { f with
    sr := f.esr &&& 0xEFFF, pc := f.epc, repLeft := fld f.erpt 0 11, repI := tst f.erpt 15 }))

/-- REP, REPI (R355): the count in its short or long form; a bad one traps. -/
def State.repGo (s : State) (n : Nat) (repi : Bool) (cnt : SpRep) : Eff :=
  let set (k : Nat) : Eff := eff (s.onSp n (fun f => { f with repLeft := k, repI := repi }))
  match cnt with
  | .short m => set (m.toNat + 1)
  | .long w =>
    let k := fld w 0 11
    if k = 0 ∨ 1024 < k ∨ fld w 11 4 ≠ 0 then (s, some 0x41) else set k

/-- Words of a repeat, of a branch. -/
def repWords : SpRep → Nat
  | .short _ => 1
  | .long _ => 2
def dispWords : SpDisp → Nat
  | .short _ => 1
  | .far _ => 2

/-- Displacement in words from the following instruction (R349, R350). -/
def dispOf : SpDisp → Half
  | .short d => d.signExtend 16
  | .far d => d

/-! The rows (R349, R350) -/

/-- MOV (R345, R349, R350). -/
def State.mov (s : State) (n d : Nat) (src : SpSrc) : State := s.spAluOp n d .mov src

/-- ADD (R345, R349, R350). -/
def State.spAdd (s : State) (n d : Nat) (src : SpSrc) : State := s.spAluOp n d .add src

/-- ADC (R345, R349, R350). -/
def State.spAdc (s : State) (n d : Nat) (src : SpSrc) : State := s.spAluOp n d .adc src

/-- SUB (R345, R349, R350). -/
def State.spSub (s : State) (n d : Nat) (src : SpSrc) : State := s.spAluOp n d .sub src

/-- SBB (R345, R349, R350). -/
def State.spSbb (s : State) (n d : Nat) (src : SpSrc) : State := s.spAluOp n d .sbb src

/-- CMP (R345, R349, R350). -/
def State.cmp (s : State) (n d : Nat) (src : SpSrc) : State := s.spAluOp n d .cmp src

/-- AND (R345, R349, R350). -/
def State.spAnd (s : State) (n d : Nat) (src : SpSrc) : State := s.spAluOp n d .and src

/-- OR (R345, R349, R350). -/
def State.spOr (s : State) (n d : Nat) (src : SpSrc) : State := s.spAluOp n d .or src

/-- XOR (R345, R349, R350). -/
def State.spXor (s : State) (n d : Nat) (src : SpSrc) : State := s.spAluOp n d .xor src

/-- ANDN (R345, R349, R350). -/
def State.spAndn (s : State) (n d : Nat) (src : SpSrc) : State := s.spAluOp n d .andn src

/-- TST (R345, R349, R350). -/
def State.spTst (s : State) (n d : Nat) (src : SpSrc) : State := s.spAluOp n d .tst src

/-- SHL (R345, R349, R350). -/
def State.spShl (s : State) (n d : Nat) (src : SpSrc) : State := s.spAluOp n d .shl src

/-- SHR (R345, R349, R350). -/
def State.spShr (s : State) (n d : Nat) (src : SpSrc) : State := s.spAluOp n d .shr src

/-- SAR (R345, R349, R350). -/
def State.spSar (s : State) (n d : Nat) (src : SpSrc) : State := s.spAluOp n d .sar src

/-- ROL (R345, R349, R350). -/
def State.spRol (s : State) (n d : Nat) (src : SpSrc) : State := s.spAluOp n d .rol src

/-- BIT (R345, R349, R350). -/
def State.spBit (s : State) (n d : Nat) (src : SpSrc) : State := s.spAluOp n d .bit src

/-- LOCAL load, short form (R349). -/
def State.localLoad (s : State) (n : Nat) (x : SpReg) (am : Nat) (mode : SpMode) : State :=
  s.spIssue n 1 true (fun t => t.spLoad n .loc x (t.effAddr n am mode) am (t.stepAddr n am mode))

/-- LOCAL store, short form (R349). -/
def State.localStore (s : State) (n : Nat) (x : SpReg) (am : Nat) (mode : SpMode) : State :=
  s.spIssue n 1 true (fun t => t.spStore n .loc x (t.effAddr n am mode) am (t.stepAddr n am mode))

/-- LD.D, LD.A, ST.D, ST.A (R350). -/
def State.ldD (s : State) (n : Nat) (sp : Space) (am dn : Nat) (d16 : Half) : State :=
  s.spIssue n 2 true (fun t => t.spLoad n sp (.d dn) (t.dispAddr n am d16) am (t.aReg n am))
def State.ldA (s : State) (n : Nat) (sp : Space) (am an : Nat) (d16 : Half) : State :=
  s.spIssue n 2 true (fun t => t.spLoad n sp (.a an) (t.dispAddr n am d16) am (t.aReg n am))
def State.stD (s : State) (n : Nat) (sp : Space) (am dn : Nat) (d16 : Half) : State :=
  s.spIssue n 2 true (fun t => t.spStore n sp (.d dn) (t.dispAddr n am d16) am (t.aReg n am))
def State.stA (s : State) (n : Nat) (sp : Space) (am an : Nat) (d16 : Half) : State :=
  s.spIssue n 2 true (fun t => t.spStore n sp (.a an) (t.dispAddr n am d16) am (t.aReg n am))

/-- LDX, STX (R350). -/
def State.ldx (s : State) (n : Nat) (sp : Space) (am dn : Nat) (mode : SpMode) : State :=
  s.spIssue n 2 true (fun t => t.spLoad n sp (.d dn) (t.effAddr n am mode) am (t.stepAddr n am mode))
def State.stx (s : State) (n : Nat) (sp : Space) (am dn : Nat) (mode : SpMode) : State :=
  s.spIssue n 2 true (fun t => t.spStore n sp (.d dn) (t.effAddr n am mode) am (t.stepAddr n am mode))

/-- LDABS, STABS (R350). -/
def State.ldabs (s : State) (n : Nat) (sp : Space) (dn : Nat) (a : Half) : State :=
  s.spIssue n 2 true (fun t => effRead t (t.memRead n .sp sp a) (fun v u => eff (u.setD n dn v)))
def State.stabs (s : State) (n : Nat) (sp : Space) (dn : Nat) (a : Half) : State :=
  s.spIssue n 2 true (fun t => effOf t (t.memWrite n .sp sp a (t.dReg n dn)))

/-- AADD short (R349). -/
def State.aaddShort (s : State) (n an : Nat) (s9 : BitVec 9) : State :=
  s.spIssue n 1 true (fun t => eff (t.setA n an (t.aReg n an + s9.signExtend 16)))

/-- XMOV (R349). -/
def State.xmov (s : State) (n : Nat) (dst src : SpReg) : State :=
  s.spIssue n 1 true (fun t => eff (t.setSpReg n (t.spReg n src) dst))

/-- AMOV, AADD, ASUB (R350). -/
def State.amov (s : State) (n an : Nat) (v : Half) : State := s.spIssue n 2 true (fun t => eff (t.setA n an v))
def State.aadd (s : State) (n an : Nat) (v : Half) : State := s.spIssue n 2 true (fun t => eff (t.setA n an (t.aReg n an + v)))
def State.asub (s : State) (n an : Nat) (v : Half) : State := s.spIssue n 2 true (fun t => eff (t.setA n an (t.aReg n an - v)))

/-- Bcc (R349, R350, R354). -/
def State.bcc (s : State) (n : Nat) (cond : BitVec 4) (disp : SpDisp) : State :=
  s.spIssue n (dispWords disp) false (fun t =>
    eff (if condHolds cond (flagsOf (t.sr n)) then t.setSpPc n (t.spPc n + dispOf disp) else t))

/-- CALL0 (R349, R351). -/
def State.call0 (s : State) (n : Nat) (disp : SpDisp) : State :=
  s.spIssue n (dispWords disp) false (fun t => t.callGo n (t.spPc n + dispOf disp) false 0)

/-- CALL (R351). -/
def State.spCall (s : State) (n an : Nat) (acs : Bool) (mask : Half) : State :=
  s.spIssue n 2 false (fun t => t.callGo n (t.aReg n an) acs mask)

/-- RET (R351). -/
def State.spRet (s : State) (n : Nat) : State := s.spIssue n 1 false (fun t => t.retGo n)

/-- ERET (R356). -/
def State.spEret (s : State) (n : Nat) : State := s.spIssue n 1 false (fun t => t.spEretGo n)

/-- REP, REPI (R355). -/
def State.rep (s : State) (n : Nat) (cnt : SpRep) : State := s.spIssue n (repWords cnt) false (fun t => t.repGo n false cnt)
def State.repi (s : State) (n : Nat) (cnt : SpRep) : State := s.spIssue n (repWords cnt) false (fun t => t.repGo n true cnt)

/-- SEMTAS (R333, R353). -/
def State.semtas (s : State) (n d i : Nat) : State :=
  s.spIssue n 1 true (fun t =>
    let old := t.sem n i
    eff (((t.setSem n i true).setD n d (BitVec.ofNat 16 (bitOf old))).setZ n (!old)))

/-- SEMCLR (R333, R353): an event of the FP (R340). -/
def State.semclr (s : State) (n i : Nat) : State :=
  s.spIssue n 1 true (fun t => eff ((t.setSem n i false).fpEdge n 4))

/-- JMP [An] (R349). -/
def State.jmpAn (s : State) (n an : Nat) : State := s.spIssue n 1 false (fun t => eff (t.setSpPc n (t.aReg n an)))

/-- WAIT (R349). -/
def State.wait (s : State) (n : Nat) : State :=
  s.spIssue n 1 false (fun t => eff (t.onSp n (fun f => { f with waiting := true })))

/-- DI, EI (R349). -/
def State.di (s : State) (n : Nat) : State := s.spIssue n 1 true (fun t => eff (t.setSr n (t.sr n &&& 0x7FFF)))
def State.ei (s : State) (n : Nat) : State := s.spIssue n 1 true (fun t => eff (t.setSr n (t.sr n ||| 0x8000)))

/-- PUSH, POP (R343, R349). -/
def State.push (s : State) (n : Nat) (x : SpReg) : State := s.spIssue n 1 true (fun t => t.pushWord n (t.spReg n x))
def State.pop (s : State) (n : Nat) (x : SpReg) : State :=
  s.spIssue n 1 true (fun t => t.popWord n (fun v u => eff (u.setSpReg n v x)))

/-- MFC, MTC (R344). -/
def State.mfc (s : State) (n d k : Nat) : State :=
  s.spIssue n 1 true (fun t => match t.crRead n k with
    | some v => eff (t.setD n d v)
    | none => (t, some 0x40))
def State.mtc (s : State) (n k d : Nat) : State := s.spIssue n 1 true (fun t => t.crWrite n k (t.dReg n d))

/-- COPR (R349): the result words of the operation, which finishes first (R300). -/
def State.copr (s : State) (n d k : Nat) : State :=
  s.spIssue n 1 true (fun t =>
    let u := t.copFinish n .sp
    eff (u.setD n d ((u.cop n .sp).res.getD k 0)))

/-- COPW (R349). -/
def State.copw (s : State) (n k d : Nat) : State :=
  s.spIssue n 1 true (fun t =>
    let v := t.dReg n d
    match k with
    | 0 => eff (t.copOperand n .sp (fun c => { c with src := v }))
    | 1 => eff (t.copOperand n .sp (fun c => { c with len := v }))
    | 2 => eff (t.copOperand n .sp (fun c => { c with dst := v }))
    | 15 => (t, some 0x40)
    | _ => eff (t.copOperand n .sp (fun c => { c with arg := (seqWrite c.arg 12 (k - 3) v).1 })))

/-- COPST (R336, R349). -/
def State.copst (s : State) (n d : Nat) : State := s.spIssue n 1 true (fun t => eff (t.setD n d (t.cop n .sp).st))

/-- NOP (R349). -/
def State.nop (s : State) (n : Nat) : State := s.spIssue n 1 true eff

/-- LDRES, STCOND (R352). -/
def State.ldres (s : State) (n : Nat) (sp : Space) (am dn : Nat) : State :=
  s.spIssue n 2 false (fun t => t.ldresGo n sp am dn)
def State.stcond (s : State) (n : Nat) (sp : Space) (am dn : Nat) : State :=
  s.spIssue n 2 false (fun t => t.stcondGo n sp am dn)

/-- MUL, MAC, MSU, MULU, MACU (R349). -/
def State.mul (s : State) (n ac da db : Nat) : State := s.accOp n (fun t => t.accPut n ac (t.mulS n da db))
def State.mac (s : State) (n ac da db : Nat) : State :=
  s.accOp n (fun t => t.accPut n ac ((t.acc n ac).toInt + t.mulS n da db))
def State.msu (s : State) (n ac da db : Nat) : State :=
  s.accOp n (fun t => t.accPut n ac ((t.acc n ac).toInt - t.mulS n da db))
def State.mulu (s : State) (n ac da db : Nat) : State := s.accOp n (fun t => t.accPut n ac (t.mulU n da db))
def State.macu (s : State) (n ac da db : Nat) : State :=
  s.accOp n (fun t => t.accPut n ac ((t.acc n ac).toInt + t.mulU n da db))

/-- CLR (R349). -/
def State.accClr (s : State) (n ac : Nat) : State := s.accOp n (fun t => t.setAcc n ac 0)

/-- SAT: clipped to 32 bits (R349). -/
def State.sat (s : State) (n ac : Nat) : State :=
  s.accOp n (fun t =>
    let x := (t.acc n ac).toInt
    if out32 x then (t.setAcc n ac (BitVec.ofInt 40 (if x < 0 then -(2 ^ 31) else 2 ^ 31 - 1))).setSat n else t)

/-- NORM (R349). -/
def State.norm (s : State) (n ac da : Nat) : State :=
  s.accOp n (fun t =>
    let k := normShift (t.acc n ac)
    (t.setAcc n ac (t.acc n ac <<< k)).setD n da (BitVec.ofNat 16 k))

/-- RND (R349). -/
def State.rnd (s : State) (n ac : Nat) : State := s.accOp n (fun t => t.accPut n ac ((t.acc n ac).toInt + 0x8000))

/-- MOVH, MOVL (R349). -/
def State.movh (s : State) (n ac da : Nat) : State :=
  s.accOp n (fun t =>
    let x := (t.acc n ac).toInt
    if out32 x then (t.setD n da (if x < 0 then 0x8000 else 0x7FFF)).setSat n
    else t.setD n da ((t.acc n ac >>> (16 : Nat)).setWidth 16))
def State.movl (s : State) (n ac da : Nat) : State := s.accOp n (fun t => t.setD n da ((t.acc n ac).setWidth 16))

/-- LDH (R349). -/
def State.ldh (s : State) (n ac da : Nat) : State :=
  s.accOp n (fun t => t.setAcc n ac (BitVec.ofInt 40 ((t.dReg n da).toInt * 65536)))

/-- ASR (R349). -/
def State.asr (s : State) (n ac db : Nat) : State :=
  s.accOp n (fun t => t.setAcc n ac ((t.acc n ac).sshiftRight (fld (t.dReg n db) 0 5)))

/-- ADDAC (R349). -/
def State.addac (s : State) (n ac : Nat) : State :=
  s.accOp n (fun t => t.accPut n ac ((t.acc n ac).toInt + (t.acc n (1 - ac)).toInt))

/-! The meanings of the rows -/

/-- MOV (R349): SP ALU operation copying the source into Dd. -/
def execMov (n d : Nat) (src : SpSrc) (s : State) : Out :=
  live (movOk n d src) s (s.mov n d src)

/-- SP_ADD (R349): SP ALU ADD. -/
def execSpAdd (n d : Nat) (src : SpSrc) (s : State) : Out :=
  live (spAddOk n d src) s (s.spAdd n d src)

/-- SP_ADC (R349): SP ALU ADC. -/
def execSpAdc (n d : Nat) (src : SpSrc) (s : State) : Out :=
  live (spAdcOk n d src) s (s.spAdc n d src)

/-- SP_SUB (R349): SP ALU SUB. -/
def execSpSub (n d : Nat) (src : SpSrc) (s : State) : Out :=
  live (spSubOk n d src) s (s.spSub n d src)

/-- SP_SBB (R349): SP ALU SBB. -/
def execSpSbb (n d : Nat) (src : SpSrc) (s : State) : Out :=
  live (spSbbOk n d src) s (s.spSbb n d src)

/-- CMP (R349): SP ALU compare setting flags only. -/
def execCmp (n d : Nat) (src : SpSrc) (s : State) : Out :=
  live (cmpOk n d src) s (s.cmp n d src)

/-- SP_AND (R349): SP ALU AND. -/
def execSpAnd (n d : Nat) (src : SpSrc) (s : State) : Out :=
  live (spAndOk n d src) s (s.spAnd n d src)

/-- SP_OR (R349): SP ALU OR. -/
def execSpOr (n d : Nat) (src : SpSrc) (s : State) : Out :=
  live (spOrOk n d src) s (s.spOr n d src)

/-- SP_XOR (R349): SP ALU XOR. -/
def execSpXor (n d : Nat) (src : SpSrc) (s : State) : Out :=
  live (spXorOk n d src) s (s.spXor n d src)

/-- SP_ANDN (R349): SP ALU ANDN. -/
def execSpAndn (n d : Nat) (src : SpSrc) (s : State) : Out :=
  live (spAndnOk n d src) s (s.spAndn n d src)

/-- TST (R349): SP ALU AND setting flags only. -/
def execTst (n d : Nat) (src : SpSrc) (s : State) : Out :=
  live (tstOk n d src) s (s.spTst n d src)

/-- SP_SHL (R349): SP ALU shift left. -/
def execSpShl (n d : Nat) (src : SpSrc) (s : State) : Out :=
  live (spShlOk n d src) s (s.spShl n d src)

/-- SP_SHR (R349): SP ALU logical shift right. -/
def execSpShr (n d : Nat) (src : SpSrc) (s : State) : Out :=
  live (spShrOk n d src) s (s.spShr n d src)

/-- SP_SAR (R349): SP ALU arithmetic shift right. -/
def execSpSar (n d : Nat) (src : SpSrc) (s : State) : Out :=
  live (spSarOk n d src) s (s.spSar n d src)

/-- SP_ROL (R349): SP ALU rotate left. -/
def execSpRol (n d : Nat) (src : SpSrc) (s : State) : Out :=
  live (spRolOk n d src) s (s.spRol n d src)

/-- SP_BIT (R349): SP ALU bit test setting Z. -/
def execSpBit (n d : Nat) (src : SpSrc) (s : State) : Out :=
  live (spBitOk n d src) s (s.spBit n d src)

/-- LOCAL_LOAD (R349): Short-form SP load from LOCAL with a stepping or indexed mode. -/
def execLocalLoad (n : Nat) (x : SpReg) (am : Nat) (mode : SpMode) (s : State) : Out :=
  live (localLoadOk n x am mode) s (s.localLoad n x am mode)

/-- LOCAL_STORE (R349): Short-form SP store to LOCAL with a stepping or indexed mode. -/
def execLocalStore (n : Nat) (x : SpReg) (am : Nat) (mode : SpMode) (s : State) : Out :=
  live (localStoreOk n x am mode) s (s.localStore n x am mode)

/-- LD_D (R350): Long-form load of Dn from [Am+d16] in any space. -/
def execLdD (n : Nat) (sp : Space) (am dn : Nat) (d16 : BitVec 16) (s : State) : Out :=
  live (ldDOk n am dn) s (s.ldD n sp am dn d16)

/-- LD_A (R350): Long-form load of An from [Am+d16] in any space. -/
def execLdA (n : Nat) (sp : Space) (am an : Nat) (d16 : BitVec 16) (s : State) : Out :=
  live (ldAOk n am an) s (s.ldA n sp am an d16)

/-- ST_D (R350): Long-form store of Dn to [Am+d16] in any space. -/
def execStD (n : Nat) (sp : Space) (am dn : Nat) (d16 : BitVec 16) (s : State) : Out :=
  live (stDOk n am dn) s (s.stD n sp am dn d16)

/-- ST_A (R350): Long-form store of An to [Am+d16] in any space. -/
def execStA (n : Nat) (sp : Space) (am an : Nat) (d16 : BitVec 16) (s : State) : Out :=
  live (stAOk n am an) s (s.stA n sp am an d16)

/-- LDX (R350): Long-form load with a stepping or indexed mode in any space. -/
def execLdx (n : Nat) (sp : Space) (am dn : Nat) (mode : SpMode) (s : State) : Out :=
  live (ldxOk n am dn mode) s (s.ldx n sp am dn mode)

/-- STX (R350): Long-form store with a stepping or indexed mode in any space. -/
def execStx (n : Nat) (sp : Space) (am dn : Nat) (mode : SpMode) (s : State) : Out :=
  live (stxOk n am dn mode) s (s.stx n sp am dn mode)

/-- LDABS (R350): Load of Dn from an absolute address in any space. -/
def execLdabs (n : Nat) (sp : Space) (dn : Nat) (a : BitVec 16) (s : State) : Out :=
  live (ldabsOk n dn) s (s.ldabs n sp dn a)

/-- STABS (R350): Store of Dn to an absolute address in any space. -/
def execStabs (n : Nat) (sp : Space) (dn : Nat) (a : BitVec 16) (s : State) : Out :=
  live (stabsOk n dn) s (s.stabs n sp dn a)

/-- AADD_SHORT (R349): Short-form add of a 9-bit signed immediate to An. -/
def execAaddShort (n an : Nat) (s9 : BitVec 9) (s : State) : Out :=
  live (aaddShortOk n an) s (s.aaddShort n an s9)

/-- XMOV (R349): Copy between any two data or address registers. -/
def execXmov (n : Nat) (dst src : SpReg) (s : State) : Out :=
  live (xmovOk n dst src) s (s.xmov n dst src)

/-- AMOV (R350): Load a 16-bit immediate into An. -/
def execAmov (n an : Nat) (v : BitVec 16) (s : State) : Out :=
  live (amovOk n an) s (s.amov n an v)

/-- AADD (R350): Add a 16-bit immediate to An. -/
def execAadd (n an : Nat) (v : BitVec 16) (s : State) : Out :=
  live (aaddOk n an) s (s.aadd n an v)

/-- ASUB (R350): Subtract a 16-bit immediate from An. -/
def execAsub (n an : Nat) (v : BitVec 16) (s : State) : Out :=
  live (asubOk n an) s (s.asub n an v)

/-- BCC (R354): Conditional branch, short or far, predicted statically with misprediction squash. -/
def execBcc (n : Nat) (cond : BitVec 4) (disp : SpDisp) (s : State) : Out :=
  live (bccOk n cond) s (s.bcc n cond disp)

/-- CALL0 (R351): Unconditional call saving only the return address, an ACS word and MASK. -/
def execCall0 (n : Nat) (disp : SpDisp) (s : State) : Out :=
  live (call0Ok n) s (s.call0 n disp)

/-- SP_CALL (R351): CALL [An] pushing the return address, selected registers, ACS word and MASK. -/
def execSpCall (n an : Nat) (acs : Bool) (mask : BitVec 16) (s : State) : Out :=
  live (spCallOk n an) s (s.spCall n an acs mask)

/-- SP_RET (R351): RET pops MASK and ACS, restores registers and returns. -/
def execSpRet (n : Nat) (s : State) : Out :=
  live (spRetOk n) s (s.spRet n)

/-- SP_ERET (R356): ERET restores SR from ESR and resumes at EPC. -/
def execSpEret (n : Nat) (s : State) : Out :=
  live (spEretOk n) s (s.spEret n)

/-- REP (R355): REP repeats the next instruction n times without events. -/
def execRep (n : Nat) (cnt : SpRep) (s : State) : Out :=
  live (repOk n cnt) s (s.rep n cnt)

/-- REPI (R355): REPI repeats the next instruction n times with events allowed between repetitions. -/
def execRepi (n : Nat) (cnt : SpRep) (s : State) : Out :=
  live (repiOk n cnt) s (s.repi n cnt)

/-- SEMTAS (R353): SP test-and-set of a semaphore into Dd. -/
def execSemtas (n d ix : Nat) (s : State) : Out :=
  live (semtasOk n d ix) s (s.semtas n d ix)

/-- SEMCLR (R353): SP clear of a semaphore. -/
def execSemclr (n ix : Nat) (s : State) : Out :=
  live (semclrOk n ix) s (s.semclr n ix)

/-- JMP_AN (R349): SP jump to the address in An. -/
def execJmpAn (n an : Nat) (s : State) : Out :=
  live (jmpAnOk n an) s (s.jmpAn n an)

/-- WAIT (R349): SP stops issuing until an enabled event is pending. -/
def execWait (n : Nat) (s : State) : Out :=
  live (waitOk n) s (s.wait n)

/-- DI (R349): SP clears SR.IE. -/
def execDi (n : Nat) (s : State) : Out :=
  live (diOk n) s (s.di n)

/-- EI (R349): SP sets SR.IE. -/
def execEi (n : Nat) (s : State) : Out :=
  live (eiOk n) s (s.ei n)

/-- PUSH (R343): SP pushes one register through SK. -/
def execPush (n : Nat) (x : SpReg) (s : State) : Out :=
  live (pushOk n x) s (s.push n x)

/-- POP (R343): SP pops one register through SK. -/
def execPop (n : Nat) (x : SpReg) (s : State) : Out :=
  live (popOk n x) s (s.pop n x)

/-- MFC (R344): SP reads a control register into Dd. -/
def execMfc (n d k : Nat) (s : State) : Out :=
  live (mfcOk n d k) s (s.mfc n d k)

/-- MTC (R344): SP writes a control register from Ds. -/
def execMtc (n k d : Nat) (s : State) : Out :=
  live (mtcOk n k d) s (s.mtc n k d)

/-- COPR (R349): SP reads a coprocessor result word into Dd. -/
def execCopr (n d k : Nat) (s : State) : Out :=
  live (coprOk n d k) s (s.copr n d k)

/-- COPW (R349): SP writes a coprocessor operand word. -/
def execCopw (n k d : Nat) (s : State) : Out :=
  live (copwOk n k d) s (s.copw n k d)

/-- COPST (R349): SP reads coprocessor status into Dd. -/
def execCopst (n d : Nat) (s : State) : Out :=
  live (copstOk n d) s (s.copst n d)

/-- NOP (R349): SP no operation. -/
def execNop (n : Nat) (s : State) : Out :=
  live (nopOk n) s (s.nop n)

/-- LDRES (R352): Load with a reservation on a HOST or snapshot-area word. -/
def execLdres (n : Nat) (sp : Space) (am dn : Nat) (s : State) : Out :=
  live (ldresOk n am dn) s (s.ldres n sp am dn)

/-- STCOND (R352): Store only while the reservation holds, setting Z on success. -/
def execStcond (n : Nat) (sp : Space) (am dn : Nat) (s : State) : Out :=
  live (stcondOk n am dn) s (s.stcond n sp am dn)

/-- MUL (R349): Accumulator signed multiply. -/
def execMul (n ac da db : Nat) (s : State) : Out :=
  live (mulOk n ac da db) s (s.mul n ac da db)

/-- MAC (R349): Accumulator signed multiply-accumulate. -/
def execMac (n ac da db : Nat) (s : State) : Out :=
  live (macOk n ac da db) s (s.mac n ac da db)

/-- MSU (R349): Accumulator signed multiply-subtract. -/
def execMsu (n ac da db : Nat) (s : State) : Out :=
  live (msuOk n ac da db) s (s.msu n ac da db)

/-- MULU (R349): Accumulator unsigned multiply. -/
def execMulu (n ac da db : Nat) (s : State) : Out :=
  live (muluOk n ac da db) s (s.mulu n ac da db)

/-- MACU (R349): Accumulator unsigned multiply-accumulate. -/
def execMacu (n ac da db : Nat) (s : State) : Out :=
  live (macuOk n ac da db) s (s.macu n ac da db)

/-- ACC_CLR (R349): Accumulator CLR sets ACd to 0. -/
def execAccClr (n ac : Nat) (s : State) : Out :=
  live (accClrOk n ac) s (s.accClr n ac)

/-- SAT (R349): Accumulator clipped to the 32-bit range. -/
def execSat (n ac : Nat) (s : State) : Out :=
  live (satOk n ac) s (s.sat n ac)

/-- NORM (R349): Accumulator normalise with the shift into Da. -/
def execNorm (n ac da : Nat) (s : State) : Out :=
  live (normOk n ac da) s (s.norm n ac da)

/-- RND (R349): Accumulator rounding by adding 0x8000. -/
def execRnd (n ac : Nat) (s : State) : Out :=
  live (rndOk n ac) s (s.rnd n ac)

/-- MOVH (R349): Moves ACd[31:16] into Da with saturation. -/
def execMovh (n ac da : Nat) (s : State) : Out :=
  live (movhOk n ac da) s (s.movh n ac da)

/-- MOVL (R349): Moves ACd[15:0] into Da. -/
def execMovl (n ac da : Nat) (s : State) : Out :=
  live (movlOk n ac da) s (s.movl n ac da)

/-- LDH (R349): Loads ACd with Da × 2^16. -/
def execLdh (n ac da : Nat) (s : State) : Out :=
  live (ldhOk n ac da) s (s.ldh n ac da)

/-- ASR (R349): Accumulator arithmetic shift right by Db[4:0]. -/
def execAsr (n ac db : Nat) (s : State) : Out :=
  live (asrOk n ac db) s (s.asr n ac db)

/-- ADDAC (R349): Adds the other accumulator into ACd. -/
def execAddac (n ac : Nat) (s : State) : Out :=
  live (addacOk n ac) s (s.addac n ac)

/-- SP_EVENT_ENTRY (R356): A pending enabled SP event is taken between instructions and its vector entered. -/
def execSpEventEntry (n : Nat) (s : State) : Out :=
  live (spEventEntryOk n) s (s.spEventEntry n)

end Sys2Proof.Machine
end

