-- ==== Sys2Proof/Machine/Ilk.lean ====
section
/-! DEFINITION. The interlock sequencer of an engine (13_session_isa.md, R358-R367), with ENDCYC, RISE and FALL; the rows that start the
coprocessor and that store to the engine's I/O space. -/

namespace Sys2Proof.Machine

/-! The window and the descriptor (R358) -/

/-- Word W of an engine's interlock window in the image bank. -/
def winBase (n : Nat) : Nat := 0x180000 + 0x4000 * n

/-- The sequencer or the steward writes a word of the window; a reservation on it is lost (R352). -/
def State.winPut (s : State) (n a : Nat) (v : Half) : State := (s.imageWrite (winBase n + a) v).killResv .image (winBase n + a)

/-- A word of the interlock descriptor, which begins the package's data image. -/
def descWord (k : Package) (i : Nat) : Nat := (k.data.getD i 0).toNat

/-- NIN, NOUT, TMAX in us, TRG, NTOL, CYC_MIN in us. -/
def ilkNin (k : Package) : Nat := descWord k 0
def ilkNout (k : Package) : Nat := descWord k 1
def ilkTmax (k : Package) : Nat := descWord k 2
def ilkTrg (k : Package) : Bool := tst (k.data.getD 3 0) 8
def ilkNtol (k : Package) : Nat := fld (k.data.getD 3 0) 0 4
def ilkCycMin (k : Package) : Nat := descWord k 4

/-- An entry: node, and offset in the logical image. -/
def ilkEntry (k : Package) (at_ : Nat) : Nat × Nat :=
  (descWord k at_ % 64, descWord k (at_ + 1) % 8 * 65536 + descWord k (at_ + 2))

/-- Input entry k; the entry of OUT word w, from word 2 on; the stop value of output word w. -/
def ilkInput (k : Package) (i : Nat) : Nat × Nat := ilkEntry k (8 + 3 * i)
def ilkOutput (k : Package) (w : Nat) : Nat × Nat := ilkEntry k (8 + 3 * ilkNin k + 3 * (w - 2))
def ilkStopValue (k : Package) (w : Nat) : Half := k.data.getD (8 + 3 * ilkNin k + 3 * (ilkNout k - 2) + w) 0

/-- The engine runs personality 0x20. -/
def State.isIlk (s : State) (n : Nat) : Bool := s.rf (Reg.PE_STAT n) 16 8 == 0x20

/-- The package of an interlock engine. -/
def State.ilkPkg (s : State) (n : Nat) : Option Package := if s.isIlk n then (s.en n).pkg else none

/-- Change the sequencer of an engine. -/
def State.onIlk (s : State) (n : Nat) (f : Ilk → Ilk) : State := s.setEn n { s.en n with ilk := f (s.en n).ilk }

/-- ILK_STAT.MODE (R361, R367). -/
def State.ilkMode (s : State) (n : Nat) : Nat := s.rf (Reg.ILK_STAT n) 30 2

/-! Forces (R363, R364) -/

/-- The forces an engine holds, with their numbers in the force table. -/
def State.forces (s : State) (n : Nat) : List (Nat × Force) := (s.en n).ilk.forces

/-- Some engine holds a force. -/
def State.anyForce (s : State) : Bool := s.eng.any (fun p => !p.2.ilk.forces.isEmpty)

/-- A value with the force on a word applied: FMASK bits take their FVAL bits. -/
def forced (l : List Force) (out : Bool) (i : Nat) (v : Half) : Half :=
  l.foldl (fun x f => if f.out == out && f.idx == i then (x &&& ~~~f.mask) ||| (f.val &&& f.mask) else x) v

/-- ILK_STAT.FORCED and FORCES follow the force entries (R364, R367). -/
def State.showForces (s : State) (n : Nat) : State :=
  let k := (s.forces n).length
  (s.wb (Reg.ILK_STAT n) 29 (k != 0)).wf (Reg.ILK_STAT n) 16 8 k

/-- FORCED_N at a snapshot or publication that applies these forces: low from the first that applies one, released at the first
after the last force in the device is removed (R364). -/
def State.forcedPin (s : State) (applied : List Force) : State :=
  if !s.anyForce then { s with dev.forcedLow := false }
  else if applied.isEmpty then s
  else { s with dev.forcedLow := true }

/-- The force table holds a changed entry: eight words whose layout the manual does not give (R358, R363, log entry 3). -/
def State.forceEntry (s : State) (n slot : Nat) : State :=
  (each 8 (fun i t => t.winPut n (0x2200 + 8 * slot + i) ((Config.freeWord (s.free + i)).setWidth 16)) s).used 8

/-! Publication (R360, R364) -/

/-- The ILK bits that words 0 and 1 feed, all in one step; each becomes live (R161, R163, R360). -/
def State.ilkBits (s : State) (n : Nat) (w0 w1 : Half) : State :=
  let w := engWing n
  let mine := s.man.ilkMap.filter (fun m => m.2.1 == n)
  if mine.isEmpty then s
  else
    (eachIn mine (fun m t =>
      let key := 160 * w.idx + m.1
      { t with trip.hold := Tab.del t.trip.hold key, trip.stale := Tab.del t.trip.stale key }.setSource w m.1
        (tst (w1 ++ w0) m.2.2)) s).evalTargets

/-- OUTQ: every output word of an engine that holds a force carries the test flag (R364). -/
def State.showOutq (s : State) (n nout : Nat) : State :=
  let on := !(s.forces n).isEmpty
  each 16 (fun i t => t.winPut n (0x2100 + i) (BitVec.ofNat 16 ((List.range 16).foldl (fun v b =>
    if on && decide (16 * i + b < nout) then v + 2 ^ b else v) 0))) s

/-- Publish the words `val w`: the ILK bits, then the outputs of every node together into the draft images, then OUTQ. -/
def State.publish (s : State) (n : Nat) (k : Package) (val : Nat → Half) : State :=
  let nout := ilkNout k
  let s1 := s.ilkBits n (val 0) (val 1)
  let s2 := eachIn ((List.range nout).drop 2) (fun w t =>
    match t.imageWord (ilkOutput k w).2 with
    | some x => t.cyclicWrite (256 + n) x.addr (val w)
    | none => t) s1
  (s2.onIlk n (fun q => { q with pub := (List.range nout).foldl (fun t w => Tab.store 0 t w (val w)) q.pub })).showOutq n nout

/-- Publication of OUT with its forces. -/
def State.publishOut (s : State) (n : Nat) (k : Package) : State :=
  let l := (s.forces n).map (fun p => p.2)
  let out (w : Nat) : Half := Tab.get 0 s.bridge.image (winBase n + 0x2000 + w)
  let s1 := (s.publish n k (fun w => forced l true w (out w))).onIlk n (fun q => { q with outForces := l.filter (fun f => f.out) })
  s1.forcedPin (l.filter (fun f => f.out))

/-- Publication of the stop values, once on entry to STOP (R361). No force acts on them (log entry 27). -/
def State.publishStop (s : State) (n : Nat) : State :=
  match (s.en n).pkg with
  | some k => ((s.publish n k (ilkStopValue k)).onIlk n (fun q => { q with outForces := [] })).forcedPin []
  | none => s

/-! Modes (R361) -/

/-- PE_PERS_CAUSE and its event, written by the sequencer with an argument of 0 (R316, R364). -/
def State.ilkCause (s : State) (n : Nat) (c : Half) : State := s.persCause n 0 c

/-- The mode changes, with its cause (R364). -/
def State.setMode_ (s : State) (n m : Nat) : State :=
  if s.ilkMode n = m then s else (s.wf (Reg.ILK_STAT n) 30 2 m).ilkCause n 0x0005

/-- A HOLD ends: the SP runs again where it halted, and the watchdog and overrun timing go on (R361). -/
def State.unhold (s : State) (n : Nat) : State :=
  match (s.en n).ilk.holdAt with
  | none => s
  | some t =>
    let d := s.clk.ns - t
    let e := s.en n
    let s1 := s.setEn n { e with
      kickAt := e.kickAt + d, ilk := { e.ilk with holdAt := none, started := e.ilk.started.map (fun x => x + d) } }
    if s.peState n = 4 then s1.setPe n 2 else s1

/-- Entry to STOP: no cycle starts, and the stop values are published (R361). -/
def State.toStop (s : State) (n : Nat) : State :=
  if s.ilkMode n = 0 then s
  else
    let s1 := (s.unhold n).setMode_ n 0
    ((s1.wb (Reg.ILK_STAT n) 28 false).onIlk n (fun q => { q with fire := false })).publishStop n

/-- Entry to RUN (R361): from HOLD the SP goes on; from STOP the next cycle is a first one. Only a RUN command leaves an overrun STOP
(R362). -/
def State.toRun (s : State) (n : Nat) : State :=
  match s.ilkMode n with
  | 1 => s
  | 2 => (s.unhold n).setMode_ n 1
  | _ => ((s.setMode_ n 1).wb (Reg.ILK_STAT n) 27 false).onIlk n (fun q => { q with fresh := true })

/-- Entry to HOLD (R361). -/
def State.toHold (s : State) (n : Nat) : State :=
  if s.ilkMode n = 2 then s
  else
    let s1 := (s.setMode_ n 2).onIlk n (fun q => { q with holdAt := some s.clk.ns })
    if s.peState n = 2 then s1.setPe n 4 else s1

/-! Cycles (R359, R360, R362) -/

/-- A trigger firing reaches an engine's sequencer (R359): ignored and counted while the previous cycle has not finished
publishing. -/
def State.ilkTrigger (s : State) (n : Nat) : State :=
  match s.ilkPkg n with
  | none => s
  | some k =>
    if !ilkTrg k || s.ilkMode n ≠ 1 || s.peState n ≠ 2 then s
    else if s.rb (Reg.ILK_STAT n) 28 || (s.en n).ilk.fire then s.cnt (Reg.ILK_SKIPPED n) 0 32 1
    else s.onIlk n (fun q => { q with fire := true })

/-- Every CUR word moves to PREV (R359). -/
def State.curToPrev (s : State) (n : Nat) : State :=
  let W := winBase n
  let cur := s.bridge.image.filter (fun p => decide (W ≤ p.1) && decide (p.1 < W + 0x1000))
  let rest := s.bridge.image.filter (fun p => !(decide (W + 0x1000 ≤ p.1) && decide (p.1 < W + 0x2000)))
  { s with
    bridge.image := cur.foldl (fun t p => Tab.put t (p.1 + 0x1000) p.2) rest
    bridge.badImage := s.bridge.badImage.filter (fun a => !(decide (W + 0x1000 ≤ a) && decide (a < W + 0x2000))) }

/-- The input snapshot (R359): each node's latched copy, its validity, the input forces. -/
def State.snapshot (s : State) (n : Nat) (k : Package) : State :=
  let l := ((s.forces n).map (fun p => p.2)).filter (fun f => !f.out)
  let s1 := eachIn (List.range (ilkNin k)) (fun i t =>
    let (node, off) := ilkInput k i
    let (v, t1) := t.imageRead (imgAt off (t.ringOf node).latest)
    t1.winPut n i (forced l false i v)) (s.curToPrev n)
  let valid (j : Nat) : Bool :=
    s.nodeState j == 2 && decide ((Tab.get RNode.zero (s.ringOf j).node (j % 16)).age ≤ 2)
  let s2 := each 4 (fun i t => t.winPut n (0x0FFC + i)
    (BitVec.ofNat 16 ((List.range 16).foldl (fun v b => if valid (16 * i + b) then v + 2 ^ b else v) 0))) s1
  let s3 := if (s.en n).ilk.fresh then s2.curToPrev n else s2
  (s3.onIlk n (fun q => { q with fresh := false, inForces := l })).forcedPin l

/-- A cycle may start now (R359): the SP stands in ENDCYC; a firing waits, or CYC_MIN has passed since the previous start. -/
def State.cycleDue (s : State) (n : Nat) (k : Package) : Bool :=
  let q := (s.en n).ilk
  s.ilkMode n == 1 && s.peState n == 2 && (s.en n).sp.susp && !q.first
    && (if ilkTrg k then q.fire else match q.started with
      | some t => decide (t + ilkCycMin k * 1000 ≤ s.clk.ns)
      | none => true)

/-- ILK_CYCLE_START (R359): the snapshot, then the SP resumes after its ENDCYC and CYCLE is raised. -/
def State.ilkCycleStart (s : State) (n : Nat) : State :=
  match s.ilkPkg n with
  | none => s
  | some k =>
    if !s.cycleDue n k then s
    else
      let s1 := (s.snapshot n k).wb (Reg.ILK_STAT n) 28 true
      let s2 := s1.onIlk n (fun q => { q with started := some s.clk.ns, overran := false, fire := false })
      (s2.onSp n (fun f => { f with susp := false })).spEdge n 0

/-- A cycle overruns (R362): counted; at NTOL + 1 in a row the engine goes to STOP at once. -/
def State.overrunNow (s : State) (n : Nat) (k : Package) : State :=
  let run := s.rf (Reg.ILK_STAT n) 11 5 + 1
  let s1 := ((s.wf (Reg.ILK_STAT n) 11 5 (capAt 16 run)).cnt (Reg.ILK_OVERRUNS n) 0 32 1).onIlk n (fun q => { q with overran := true })
  if ilkNtol k + 1 ≤ run then ((s1.toStop n).wb (Reg.ILK_STAT n) 27 true).ilkCause n 0x0004 else s1.ilkCause n 0x0007

/-- The cycle in progress is past TMAX (R362). -/
def State.pastTmax (s : State) (n : Nat) (k : Package) : Bool :=
  match (s.en n).ilk.started with
  | some t => decide (t + ilkTmax k * 1000 < s.clk.ns)
  | none => false

/-- ILK_OVERRUN (R362); HOLD suspends the timing. -/
def State.ilkOverrun (s : State) (n : Nat) : State :=
  match s.ilkPkg n with
  | none => s
  | some k =>
    if s.ilkMode n = 1 && s.rb (Reg.ILK_STAT n) 28 && !(s.en n).ilk.overran && s.pastTmax n k then s.overrunNow n k else s

/-- ILK_CYC_LAST and ILK_CYC_MAX (R366). -/
def State.cycTime (s : State) (n : Nat) : State :=
  match (s.en n).ilk.started with
  | none => s
  | some t =>
    let us := capAt 0xFFFF ((s.clk.ns - t) / 1000)
    (s.wf (Reg.ILK_CYC_LAST n) 0 16 us).wf (Reg.ILK_CYC_MAX n) 0 16 (max us (s.rf (Reg.ILK_CYC_MAX n) 0 16))

/-- ENDCYC (R360-R362): the SP is suspended until the next snapshot; a cycle in RUN is published; the first since load, and one in
STOP, publish nothing. -/
def State.endcycGo (s : State) (n : Nat) : Eff :=
  match s.ilkPkg n with
  | none => (s, some 0x44)
  | some k =>
    let s0 := s.ilkOverrun n
    let s1 := s0.onSp n (fun f => { f with susp := true })
    if (s.en n).ilk.first then eff (s1.onIlk n (fun q => { q with first := false }))
    else if s0.ilkMode n ≠ 1 || !s0.rb (Reg.ILK_STAT n) 28 then eff s1
    else
      let s2 := (s1.cycTime n).wb (Reg.ILK_STAT n) 28 false
      let s3 := if (s0.en n).ilk.overran then s2 else s2.wf (Reg.ILK_STAT n) 11 5 0
      eff (s3.publishOut n k)

/-- ENDCYC (R349, R360): not to be repeated (R355). -/
def State.endcyc (s : State) (n : Nat) : State := s.spIssue n 1 false (fun t => t.endcycGo n)

/-- A bit of CUR or PREV of the engine's own window (R365). -/
def State.curBit (s : State) (n k b : Nat) (prev : Bool) : Bool × State :=
  let (v, t) := s.imageRead (winBase n + (if prev then 0x1000 else 0) + k)
  (tst v b, t)

/-- RISE, FALL (R350, R365): k above 4,091 is a reserved field. -/
def State.edgeGo (s : State) (n d k b : Nat) (rise : Bool) : Eff :=
  if 4091 < k then (s, some 0x40)
  else if !s.isIlk n then (s, some 0x44)
  else
    let (c, s1) := s.curBit n k b false
    let (p, s2) := s1.curBit n k b true
    let hit := (c == rise) && (p == !rise)
    eff ((s2.setD n d (BitVec.ofNat 16 (bitOf hit))).setZ n (!hit))
def State.rise (s : State) (n d k b : Nat) : State := s.spIssue n 2 true (fun t => t.edgeGo n d k b true)
def State.fall (s : State) (n d k b : Nat) : State := s.spIssue n 2 true (fun t => t.edgeGo n d k b false)

/-! Commands (R363) -/

/-- What an ILK_CMD does: its privilege, its states and its arguments are checked in the order of the results, then it acts. -/
def State.ilkAct (t : State) (ch n priv : Nat) (allowed : Bool) (badArg : Bool) (go : State → Nat × State) : State :=
  if !t.chanPriv ch priv then t.reply ch [1]
  else if !allowed then t.reply ch [2]
  else if !t.isIlk n || badArg then t.reply ch [3]
  else
    let (r, u) := go t
    u.reply ch [BitVec.ofNat 32 r]

/-- Word 0 of an ILK_CMD message (R363). -/
def ilkWord (op n : Nat) : Word := BitVec.ofNat 32 (op * 2 ^ 24 + n % 32 * 2 ^ 16)

/-- An ILK_CMD request (TYPE 0x11) of one OP, with the words it needs: engine, word 1, word 2. An unknown OP gets BAD_ARG; one that another
row handles is left to it (R363, R401). -/
def State.ilkCmd (s : State) (ch op need : Nat) (given : List Word) (go : Nat → Word → Word → State → State) : State :=
  s.request ch 0x11 (fun t =>
    let m := t.msg ch (given.flatMap wordBytes)
    let o := fld (msgWord m 0) 24 8
    if o = 0 || 6 < o then t.reply ch [3]
    else if o ≠ op then t
    else if !msgHas m need then t.reply ch [0xFE]
    else go (fld (msgWord m 0) 16 5) (msgWord m 1) (msgWord m 2) t)

/-- States in which forces may be set (R363). -/
def State.forceState (s : State) : Bool := s.dev.st == .test || s.dev.st == .maintenance

/-- ILK_RUN, ILK_STOP, HOLD (R361, R363): RUN from HOLD takes P_FORCE; RUN and STOP go into the journal (R461). -/
def State.ilkRun (s : State) (ch n : Nat) : State :=
  s.ilkCmd ch 1 1 [ilkWord 1 n] (fun n _ _ t =>
    t.ilkAct ch n (if t.ilkMode n = 2 then 4 else 2) (t.dev.st != .safeTalk) false (fun u => (0, (u.toRun n).journalAdd [] (some (n, 1)))))
def State.ilkStop (s : State) (ch n : Nat) : State :=
  s.ilkCmd ch 2 1 [ilkWord 2 n] (fun n _ _ t =>
    t.ilkAct ch n 2 (t.dev.st != .safeTalk) false (fun u => (0, (u.toStop n).journalAdd [] (some (n, 0)))))
def State.hold (s : State) (ch n : Nat) : State :=
  s.ilkCmd ch 3 1 [ilkWord 3 n] (fun n _ _ t => t.ilkAct ch n 4 (t.dev.st == .maintenance) false (fun u => (0, u.toHold n)))

/-- The index that word 1 names, and whether it is out of range (R363). -/
def forceIdx (w1 : Word) : Bool × Nat := (tst w1 31, fld w1 16 12)
def forceBad (w1 : Word) : Bool := if tst w1 31 then decide (255 < fld w1 16 12) else decide (4091 < fld w1 16 12)

/-- The force entries change (R363, R364). -/
def State.forcesChanged (s : State) (n slot : Nat) (l : List (Nat × Force)) : State :=
  (((s.onIlk n (fun q => { q with forces := l })).forceEntry n slot).showForces n).ilkCause n 0x0006

/-- FORCE_SET (R363): an index already forced has its entry replaced; with 64 held, FULL. -/
def State.forceSet (s : State) (ch n : Nat) (w1 w2 : Word) : State :=
  s.ilkCmd ch 4 3 [ilkWord 4 n, w1, w2] (fun n w1 w2 s => s.ilkAct ch n 4 s.forceState (forceBad w1) (fun t =>
    let (out, idx) := forceIdx w1
    let f : Force := ⟨out, idx, (w2 >>> (16 : Nat)).setWidth 16, w2.setWidth 16⟩
    match (t.forces n).find? (fun p => p.2.out == out && p.2.idx == idx) with
    | some (k, _) => (0, t.forcesChanged n k ((t.forces n).map (fun p => if p.1 = k then (k, f) else p)))
    | none =>
      match (List.range 64).find? (fun k => !(t.forces n).any (fun p => p.1 == k)) with
      | some k => (0, t.forcesChanged n k ((t.forces n) ++ [(k, f)]))
      | none => (4, t)))

/-- FORCE_CLEAR (R363). -/
def State.forceClear (s : State) (ch n : Nat) (w1 : Word) : State :=
  s.ilkCmd ch 5 2 [ilkWord 5 n, w1] (fun n w1 _ s => s.ilkAct ch n 4 (s.forceState || s.dev.st == .testBlocked) (forceBad w1) (fun t =>
    let (out, idx) := forceIdx w1
    match (t.forces n).find? (fun p => p.2.out == out && p.2.idx == idx) with
    | some (k, _) => (0, t.forcesChanged n k ((t.forces n).filter (fun p => p.1 != k)))
    | none => (0, t)))

/-- Every force of an engine is removed (R363). -/
def State.dropForces (s : State) (n : Nat) : State :=
  if (s.forces n).isEmpty then s
  else
    let s1 := eachIn (s.forces n) (fun p t => t.forceEntry n p.1) s
    ((s1.onIlk n (fun q => { q with forces := [] })).showForces n).ilkCause n 0x0006

/-- FORCE_CLEAR_ALL (R363). -/
def State.forceClearAll (s : State) (ch n : Nat) : State :=
  s.ilkCmd ch 6 1 [ilkWord 6 n] (fun n _ _ t => t.ilkAct ch n 4 true false (fun u => (0, u.dropForces n)))

/-- The device changes state (R361, R363, R443): an engine in HOLD goes to STOP when MAINTENANCE is left; forces are removed on entry to
any state but TEST, TEST-BLOCKED and MAINTENANCE. -/
def State.toState (s : State) (d : DevState) : State :=
  let s1 := s.enter d
  let s2 := if s.dev.st = .maintenance ∧ d ≠ .maintenance then
      each 32 (fun n t => if t.ilkMode n = 2 then t.toStop n else t) s1 else s1
  if d = .test ∨ d = .testBlocked ∨ d = .maintenance then s2 else each 32 (fun n t => t.dropForces n) s2

/-! Rows that start the coprocessor (R301, R336, R349) and that store to the I/O space (R295) -/

/-- A move into COP.T, or COPGO, for the operation that the row names. -/
def State.copRow (s : State) (n op : Nat) (st : CopStart) : State :=
  match st with
  | .fp m => s.fpMv n m.src m.guard m.long 114 (some op)
  | .sp ds => s.spIssue n 1 true (fun t => t.copGo n .sp op (t.dReg n ds))

/-- CRC, SHA_BLOCK, GMAC_CHECK, GMAC_SIGN, GCM_SEAL, GCM_OPEN, KEY_LOAD, RNG (R301). -/
def State.crc (s : State) (n : Nat) (st : CopStart) : State := s.copRow n 1 st
def State.shaBlock (s : State) (n : Nat) (st : CopStart) : State := s.copRow n 2 st
def State.gmacCheck (s : State) (n : Nat) (st : CopStart) : State := s.copRow n 3 st
def State.gmacSign (s : State) (n : Nat) (st : CopStart) : State := s.copRow n 4 st
def State.gcmSeal (s : State) (n : Nat) (st : CopStart) : State := s.copRow n 5 st
def State.gcmOpen (s : State) (n : Nat) (st : CopStart) : State := s.copRow n 6 st
def State.keyLoad (s : State) (n : Nat) (st : CopStart) : State := s.copRow n 7 st
def State.rng (s : State) (n : Nat) (st : CopStart) : State := s.copRow n 8 st

/-- A store of a processor: a cursor write of the FP, ST.D or STABS of the SP in IO (R329, R350). -/
def State.engStore (s : State) (n : Nat) (p : EngStore) : State :=
  match p with
  | .fp cur m => s.fpTo n (60 + 8 * cur) m
  | .spBased am dn d16 => s.stD n .io am dn d16
  | .spAbs dn a => s.stabs n .io dn a

/-- WDT_KICK (R295, R309), PERS_EVENT (R295, R313): the store's address names the I/O register. -/
def State.wdtKick (s : State) (n : Nat) (p : EngStore) : State := s.engStore n p
def State.persEvent (s : State) (n : Nat) (p : EngStore) : State := s.engStore n p

/-! Loading an engine (R307, R308, R312, R315) -/

/-- A slot's key epoch advances (R308): not from 0xFFFF_FFFF, nor where MRAM does not hold it any more (R465). -/
def State.epochNext (s : State) (slot : Nat) : Option Nat :=
  let e := (Tab.get 0 s.mram.epoch slot).toNat
  if e = 0xFFFFFFFF ∨ s.mram.epochBad.contains slot then none else some (e + 1)

/-- Handle one context request (R308): a binding to the slot of its role stays; otherwise a fresh epoch and KEY_LOAD. -/
def State.requestCtx (s : State) (n x role : Nat) : State :=
  match s.man.keyRoles.find? (fun r => r.1 == role) with
  | none => s
  | some (_, slot, span) =>
    let c := s.copCtx n x
    if c.slot = some slot ∧ !c.denied then s.setCtx n x { c with role := role }
    else
      match s.epochNext slot with
      | none => s.setCtx n x { CopCtx.zero with role := role }
      | some e =>
        let s1 := { s with mram.epoch := Tab.put s.mram.epoch slot (BitVec.ofNat 32 e) }
        if s1.slotGranted n slot then
          (s1.setCtx n x { c with role := role }).bindCtx n x slot (e * 2 ^ 32) (e * 2 ^ 32 + span)
        else s1.setCtx n x { CopCtx.zero with role := role }

/-- Two word ranges, base and length, overlap. -/
def rangesMeet (b l b' l' : Nat) : Bool := decide (b < b' + l') && decide (b' < b + l)

/-- A range of words contains an address. -/
def wordIn (b l a : Nat) : Bool := decide (b ≤ a) && decide (a < b + l)

/-- Regions of a list overlap. -/
def regionsMeet : List Region → Bool
  | [] => false
  | g :: t => t.any (fun h => decide (g.base ≤ h.limit) && decide (h.base ≤ g.limit)) || regionsMeet t

/-- The steward may load a verified package (R315). -/
def pkgOk (k : Package) : Bool :=
  k.major == 1
    && decide (k.fpBase + k.fpLen ≤ 65536) && decide (k.spBase + k.spLen ≤ 65536)
    && !rangesMeet k.fpBase k.fpLen k.spBase k.spLen
    && wordIn k.fpBase k.fpLen k.fpEntry.toNat && wordIn k.spBase k.spLen k.spEntry.toNat
    && !regionsMeet k.regions && decide (k.dataBase + k.data.length ≤ 65536)

/-- The settings of a wing: those that an activation brings to the wing it loads, else the stored ones (R461, R470). -/
def State.wingSet (s : State) (w : Wing) : Option SettingsImage :=
  if s.safe.actExcl.at_ w then s.upd.actSet.or s.upd.stored else s.upd.stored

/-- The interlock mode that the settings give an engine; without usable settings STOP (R361, R462). -/
def State.ilkStartMode (s : State) (n : Nat) : Nat :=
  match s.wingSet (engWing n) with
  | some i => ((i.ilkModes.find? (fun m => m.1 == n)).map (fun m => m.2)).getD 0
  | none => 0

/-- The sequencer of an interlock engine starts: ILK_CFG, and the mode at a start (R361, R366). -/
def State.ilkInit (s : State) (n : Nat) (k : Package) : State :=
  if k.pers.toNat ≠ 0x20 then s
  else
    let s1 := s.wr (Reg.ILK_CFG n) (BitVec.ofNat 32 (ilkTmax k * 65536 + ilkNtol k * 4096 + bitOf (ilkTrg k) * 256))
    let s2 := (s1.wr (Reg.ILK_STAT n) (BitVec.ofNat 32 (s.ilkStartMode n % 4 * 2 ^ 30))).showForces n
    if s.ilkStartMode n = 0 then s2.publishStop n else s2

/-- The steward loads an engine (R307, R308): code, data image with the rest of the bank at zero, regions, contexts; then both
processors run from their entries. -/
def State.loadEngine (s : State) (n : Nat) (k : Package) : State :=
  let e := s.en n
  let s1 := s.setPe n 1
  let s2 := s1.setEn n { Engine.zero with
    fp := { Fp.zero with pc := k.fpEntry }
    sp := { Sp.zero with pc := k.spEntry, sk := k.skInit }
    code := putHalves [] 0 k.code, data := putHalves [] k.dataBase k.data
    pkg := some k, ctx := e.ctx, restarts := e.restarts, kickAt := s.clk.ns }
  let s3 := s2.wr (Reg.PE_STAT n) (BitVec.ofNat 32 (2 ^ 29 + bitOf (k.wdtMs != 0) * 2 ^ 28 + bitOf k.autoRestart * 2 ^ 27
    + k.pers.toNat * 2 ^ 16 + k.version.toNat % 65536))
  let s4 := k.contexts.foldl (fun t c => t.requestCtx n c.1 c.2) s3
  let s5 := { s4.ilkInit n k with sec.svn := Tab.put s4.sec.svn (8 + n) k.svn }
  s5.setPe n 2

/-- ENGINE_RESTART (R312): the steward of the wing reloads the engine 1 ms after a trap, at most three times in any 10 s; `restarts` holds
the instants of the traps so answered. After a fourth trap within 10 s the engine stays TRAPPED. -/
def State.engineRestart (s : State) (n : Nat) : State :=
  let e := s.en n
  match e.pkg with
  | none => s
  | some k =>
    let recent := e.restarts.filter (fun t => decide (e.trapAt < t + 10000000000))
    if s.peState n ≠ 3 || !k.autoRestart || !s.stewUp (engWing n) || decide (s.clk.ns < e.trapAt + 1000000)
      || decide (3 ≤ recent.length) then s
    else
      ((s.setEn n { e with restarts := e.trapAt :: recent }).cnt (Reg.PE_RESTARTS n) 0 32 1).loadEngine n k

/-! The meanings of the rows -/

/-- ENGINE_RESTART (R312): 1 ms after a trap with AUTO_RESTART the steward reloads that engine. -/
def execEngineRestart (n : Nat) (s : State) : Out :=
  live (engineRestartOk n) s (s.engineRestart n)

/-- WDT_KICK (R295): A write to WDT_KICK restarts the engine watchdog. -/
def execWdtKick (n : Nat) (p : EngStore) (s : State) : Out :=
  live (wdtKickOk n p) s (s.wdtKick n p)

/-- PERS_EVENT (R295): A write to PERS_EVENT sets PE_PERS_CAUSE and raises PE_n_PERS. -/
def execPersEvent (n : Nat) (p : EngStore) (s : State) : Out :=
  live (persEventOk n p) s (s.persEvent n p)

/-- CRC (R301): Coprocessor operation CRC over 1–256 words. -/
def execCrc (n : Nat) (st : CopStart) (s : State) : Out :=
  live (crcOk n st) s (s.crc n st)

/-- SHA_BLOCK (R301): Coprocessor operation of one SHA-256 compression. -/
def execShaBlock (n : Nat) (st : CopStart) (s : State) : Out :=
  live (shaBlockOk n st) s (s.shaBlock n st)

/-- GMAC_CHECK (R301): Coprocessor operation verifying a GMAC tag. -/
def execGmacCheck (n : Nat) (st : CopStart) (s : State) : Out :=
  live (gmacCheckOk n st) s (s.gmacCheck n st)

/-- GMAC_SIGN (R302): Coprocessor operation tagging with the context counter as IV and advancing it. -/
def execGmacSign (n : Nat) (st : CopStart) (s : State) : Out :=
  live (gmacSignOk n st) s (s.gmacSign n st)

/-- GCM_SEAL (R302): Coprocessor operation encrypting and tagging, advancing the context counter. -/
def execGcmSeal (n : Nat) (st : CopStart) (s : State) : Out :=
  live (gcmSealOk n st) s (s.gcmSeal n st)

/-- GCM_OPEN (R301): Coprocessor operation decrypting and verifying. -/
def execGcmOpen (n : Nat) (st : CopStart) (s : State) : Out :=
  live (gcmOpenOk n st) s (s.gcmOpen n st)

/-- KEY_LOAD (R302): Coprocessor operation binding a Boxwood slot and START to a context. -/
def execKeyLoad (n : Nat) (st : CopStart) (s : State) : Out :=
  live (keyLoadOk n st) s (s.keyLoad n st)

/-- RNG (R301): Coprocessor operation returning 1–16 DRBG words. -/
def execRng (n : Nat) (st : CopStart) (s : State) : Out :=
  live (rngOk n st) s (s.rng n st)

/-- ENDCYC (R360): ENDCYC publishes the interlock outputs and suspends the SP until the next snapshot. -/
def execEndcyc (n : Nat) (s : State) : Out :=
  live (endcycOk n) s (s.endcyc n)

/-- RISE (R365): Sets Dd when a CUR bit is 1 and its PREV bit is 0. -/
def execRise (n d k b : Nat) (s : State) : Out :=
  live (riseOk n d k b) s (s.rise n d k b)

/-- FALL (R365): Sets Dd when a CUR bit is 0 and its PREV bit is 1. -/
def execFall (n d k b : Nat) (s : State) : Out :=
  live (fallOk n d k b) s (s.fall n d k b)

/-- ILK_CYCLE_START (R359): An interlock cycle starts by trigger or CYC_MIN and the sequencer takes the input snapshot. -/
def execIlkCycleStart (n : Nat) (s : State) : Out :=
  live (ilkCycleStartOk n) s (s.ilkCycleStart n)

/-- ILK_OVERRUN (R362): A cycle has not reached ENDCYC by TMAX; OVR_RUN counts and NTOL + 1 forces STOP. -/
def execIlkOverrun (n : Nat) (s : State) : Out :=
  live (ilkOverrunOk n) s (s.ilkOverrun n)

/-- ILK_RUN (R363): ILK_CMD RUN puts an interlock engine into RUN. -/
def execIlkRun (ch n : Nat) (s : State) : Out :=
  live (ilkRunOk ch n) s (s.ilkRun ch n)

/-- ILK_STOP (R363): ILK_CMD STOP puts an interlock engine into STOP and publishes stop values. -/
def execIlkStop (ch n : Nat) (s : State) : Out :=
  live (ilkStopOk ch n) s (s.ilkStop ch n)

/-- HOLD (R363): ILK_CMD HOLD halts the interlock SP in MAINTENANCE. -/
def execHold (ch n : Nat) (s : State) : Out :=
  live (holdOk ch n) s (s.hold ch n)

/-- FORCE_SET (R363): ILK_CMD FORCE_SET adds or replaces a force entry. -/
def execForceSet (ch n : Nat) (w1 w2 : BitVec 32) (s : State) : Out :=
  live (forceSetOk ch n) s (s.forceSet ch n w1 w2)

/-- FORCE_CLEAR (R363): ILK_CMD FORCE_CLEAR removes one force entry. -/
def execForceClear (ch n : Nat) (w1 : BitVec 32) (s : State) : Out :=
  live (forceClearOk ch n) s (s.forceClear ch n w1)

/-- FORCE_CLEAR_ALL (R363): ILK_CMD FORCE_CLEAR_ALL removes every force entry of an engine. -/
def execForceClearAll (ch n : Nat) (s : State) : Out :=
  live (forceClearAllOk ch n) s (s.forceClearAll ch n)

end Sys2Proof.Machine
end

