-- ==== Sys2Proof/Machine/Image.lean ====
section
/-! DEFINITION. The flash and what the device reads from it: the boot record, signed images, the firmware directory, packages, manifest
headers and settings images (R314, R419, R420, R456-R462). -/

namespace Sys2Proof.Machine

/-! Octets of the flash (R456) -/

/-- An octet of the flash; an erased one reads 0xFF (log entry 35). -/
def State.flashByte (s : State) (a : Nat) : Octet := Tab.get 0xFF s.upd.flash a

/-- Octets of the flash from an address on. -/
def State.flashAt (s : State) (a n : Nat) : List Octet := (List.range n).map (fun i => s.flashByte (a + i))

/-- A word of the flash, little-endian (R458, log entry 182). -/
def State.flashWord (s : State) (a : Nat) : Word := bytesWord (s.flashAt a 4)

/-- Store octets in the flash. -/
def putFlash (m : Tab Octet) (a : Nat) : List Octet → Tab Octet
  | [] => m
  | b :: bs => putFlash (Tab.store 0xFF m a b) (a + 1) bs

/-- Erase a range of the flash. -/
def State.eraseFlash (s : State) (a n : Nat) : State :=
  { s with upd.flash := s.upd.flash.filter (fun p => !(decide (a ≤ p.1) && decide (p.1 < a + n))) }

/-- Where a slot or half lies, and its size: target 0 firmware, 1 manifest, 2 settings (R456). -/
def slotBase (target slot : Nat) : Nat :=
  match target with
  | 0 => 0x00100000 + 0x2000000 * slot
  | 1 => 0x04100000 + 0x800000 * slot
  | _ => 0x05100000 + 0x80000 * slot
def slotSize (target : Nat) : Nat :=
  match target with
  | 0 => 0x2000000
  | 1 => 0x800000
  | _ => 0x80000

/-! The boot record (R457) -/

/-- A copy of the boot record, if its check holds: SEQ, word 2, PREV. -/
def State.bootCopy (s : State) (c : Nat) : Option (Word × Word × Word) :=
  let a := 0x1000 * c
  if s.flashWord a = 0x42545243#32 && s.flashWord (a + 16) = crc32c (s.flashAt a 16) then
    some (s.flashWord (a + 4), s.flashWord (a + 8), s.flashWord (a + 12))
  else none

/-- The record of a copy is taken into use. -/
def State.useBoot (s : State) (c : Nat) (r : Word × Word × Word) : State :=
  { s with upd.copy := c, upd.seq := r.1, upd.word2 := r.2.1, upd.prev := r.2.2 }

/-- The boot ROM takes the copy whose check holds and whose SEQ is the higher, modulo 2^32; with none, a record of zeros (log
entry 182). -/
def State.readBoot (s : State) : State :=
  match s.bootCopy 0, s.bootCopy 1 with
  | some a, some b => if (a.1 - b.1).toNat < 2 ^ 31 && a.1 != b.1 then s.useBoot 0 a else s.useBoot 1 b
  | some a, none => s.useBoot 0 a
  | none, some b => s.useBoot 1 b
  | none, none => s.useBoot 1 (0, 0, 0)

/-- The octets of a boot record. -/
def bootOctets (seq w2 prev : Word) : List Octet :=
  let l := ([0x42545243#32, seq, w2, prev] : List Word).flatMap wordBytes
  l ++ wordBytes (crc32c l)

/-- Write the boot record: into the copy that is not in use, with SEQ incremented; it is then the one in use. -/
def State.writeBoot (s : State) (w2 : Word) : State :=
  let c := 1 - s.upd.copy
  ({ s with upd.flash := putFlash s.upd.flash (0x1000 * c) (bootOctets (s.upd.seq + 1) w2 s.upd.prev) }).useBoot c
    (s.upd.seq + 1, w2, s.upd.prev)

/-! Signed images (R419, R420) -/

/-- A signature trailer (R419): its fields and its first 16 octets, which the signature covers. -/
structure Trailer where
  keyIdx : Nat
  kind : Nat
  svn : Nat
  len : Nat
  head : List Octet
  pub : List Octet
  sig : List Octet
deriving DecidableEq, Repr

/-- The magic of a trailer, 0x53494731, big-endian. -/
def sigMagic : List Octet := [0x53, 0x49, 0x47, 0x31]

/-- A trailer read from its 208 octets; none where the magic or the reserved octets are wrong. -/
def trailerOf (l : List Octet) : Option Trailer :=
  let n (i k : Nat) : Nat := keyNum ((l.drop i).take k)
  if l.take 4 == sigMagic && n 12 4 == 0 then
    some { keyIdx := n 4 1, kind := n 5 1, svn := n 6 2, len := n 8 4, head := l.take 16, pub := (l.drop 16).take 96, sig := (l.drop 112).take 96 }
  else none

/-- The fuse counter for a KIND: 0 firmware, 1 manifest and settings, 2 packages and Thicket images (R422). -/
def svnOf (kind : Nat) : Nat :=
  match kind with
  | 1 => 0
  | 2 => 1
  | 5 => 1
  | _ => 2

/-- A fuse counter as it took effect: the number of blown bits (R422, R423). -/
def State.svnLatched (s : State) (c : Nat) : Nat := (Tab.get [] s.sec.fuseLatched (5 + c)).eraseDups.length

/-- A public key is root key k: its hash is ROOT_HASH k and the key is not revoked; while no hash is programmed, Quinferun's key 0 alone
(R420, R421). -/
def State.rootOk (s : State) (k : Nat) (pub : List Octet) : Bool :=
  let blank := (List.range 4).all (fun i => s.fuseNum i == 0)
  let root := if blank && k == 0 then Config.quinferunHash else s.fuseNum k
  decide (k < 4) && !tst (BitVec.ofNat 32 (s.fuseNum 4)) k && (blank && k == 0 || root != 0) && sha384 pub == root

/-- The first check of R420 that an image of n octets, trailer included, fails: 1 key, 2 signature, 3 KIND, 4 SVN (log entry 182). -/
def State.imageFault (s : State) (kind a n : Nat) : Option Nat :=
  match trailerOf (if n < 208 then [] else s.flashAt (a + n - 208) 208) with
  | none => some 1
  | some t =>
    if !s.rootOk t.keyIdx t.pub then some 1
    else if t.len ≠ n - 208 || !ecdsaOk t.pub (sha384 (s.flashAt a t.len ++ t.head)) t.sig then some 2
    else if t.kind ≠ kind then some 3
    else if t.svn < s.svnLatched (svnOf kind) || 64 < t.svn then some 4
    else none

/-- The SVN of an image. -/
def State.imageSvn (s : State) (a n : Nat) : Nat := ((trailerOf (s.flashAt (a + n - 208) 208)).map (fun t => t.svn)).getD 0

/-- An image failed: SEC_IMAGE_REFUSED once the host interface is enabled, before then a record in MRAM (R420). -/
def State.imageRefused (s : State) (kind check : Nat) : State :=
  if s.rb Reg.HOST_STATUS 31 then s.raise 520 else { s with mram.bootFail := some (kind, check) }

/-! The firmware directory (R456) -/

/-- The entries of a firmware slot's directory: KIND, address, octets with the trailer (log entry 182). -/
def State.fwDir (s : State) (slot : Nat) : List (Nat × Nat × Nat) :=
  let b := slotBase 0 slot
  if s.flashWord b ≠ 0x4657534C#32 then []
  else (List.range (fld (s.flashWord (b + 4)) 0 16)).map (fun i =>
    let w (k : Nat) : Nat := (s.flashWord (b + 8 + 12 * i + 4 * k)).toNat
    (w 0, b + w 1, w 2))

/-- An entry lies within its slot. -/
def inSlot (slot : Nat) (e : Nat × Nat × Nat) : Bool := decide (e.2.1 + e.2.2 ≤ slotBase 0 slot + slotSize 0)

/-- The first check of R420 that the image of an entry fails, as the KIND given. -/
def State.entryFault (s : State) (slot kind : Nat) (e : Nat × Nat × Nat) : Option Nat :=
  if inSlot slot e then s.imageFault kind e.2.1 e.2.2 else some 1

/-- The steward firmware of a slot. -/
def State.fwEntry (s : State) (slot : Nat) : Option (Nat × Nat × Nat) := (s.fwDir slot).find? (fun e => e.1 == 1)

/-- The first check that the steward firmware of a slot fails; a slot without one fails the first. -/
def State.fwFault (s : State) (slot : Nat) : Option Nat :=
  match s.fwEntry slot with
  | some e => s.entryFault slot 1 e
  | none => some 1

/-- The SVN of a slot's steward firmware. -/
def State.fwSvn (s : State) (slot : Nat) : Nat := ((s.fwEntry slot).map (fun e => s.imageSvn e.2.1 e.2.2)).getD 0

/-- The Thicket images of a slot. -/
def State.thicketImgs (s : State) (slot : Nat) : List (Nat × Nat × Nat) := (s.fwDir slot).filter (fun e => e.1 == 4)

/-- The first check that some Thicket image of a slot fails. -/
def State.thicketFault (s : State) (slot : Nat) : Option Nat := (s.thicketImgs slot).findSome? (s.entryFault slot 4)

/-- The lowest SVN of a slot's Thicket images. -/
def State.thicketSvn (s : State) (slot : Nat) : Option Nat := ((s.thicketImgs slot).map (fun e => s.imageSvn e.2.1 e.2.2)).min?

/-- The first check that some image of a slot fails; an unknown KIND fails the third, a slot without firmware the first (R469). -/
def State.slotFault (s : State) (slot : Nat) : Option Nat :=
  let one (e : Nat × Nat × Nat) : Option Nat := s.entryFault slot (if e.1 = 1 || e.1 = 3 || e.1 = 4 then e.1 else 256) e
  if (s.fwEntry slot).isNone then some 1 else (s.fwDir slot).findSome? one

/-! Packages (R314, R456) -/

/-- The package in some octets, header first, trailer left off: none where the magic is wrong. The code image lies between the header
and the data image, which ends the octets (R314, log entry 182). -/
def packageOf (l : List Octet) (svn : Nat) : Option Package :=
  let w (i : Nat) : Word := bytesWord ((l.drop (4 * i)).take 4)
  let f (i lo n : Nat) : Nat := fld (w i) lo n
  let halves (x : List Octet) : List Half := (bytesWords x).flatMap (fun (v : Word) => [v.setWidth 16, (v >>> (16 : Nat)).setWidth 16])
  let body := l.drop 256
  let dl := f 7 16 16
  let cut := body.length - 2 * dl
  if w 0 ≠ 0x50454B47#32 || l.length < 256 + 2 * dl then none
  else some {
    svn := svn, major := f 1 16 16, pers := BitVec.ofNat 8 (f 2 24 8), version := BitVec.ofNat 24 (f 2 0 24), compat := w 3
    fpBase := f 4 16 16, fpLen := f 4 0 16, spBase := f 5 16 16, spLen := f 5 0 16
    fpEntry := BitVec.ofNat 16 (f 6 16 16), spEntry := BitVec.ofNat 16 (f 6 0 16)
    dataBase := f 7 0 16, data := (halves (body.drop cut)).take dl, code := (halves (body.take cut)).take (cut / 2)
    autoRestart := tst (w 8) 31, rsTrap := tst (w 8) 30, wdtMs := f 8 0 10
    regions := (List.range (min 16 (f 9 0 16))).map (fun i => ⟨f (10 + 2 * i) 16 16, f (10 + 2 * i) 0 16, f (11 + 2 * i) 0 2⟩)
    contexts := ((List.range 16).filter (fun x => tst (w (42 + x)) 31)).map (fun x => (x, f (42 + x) 16 8))
    skInit := BitVec.ofNat 16 (f 58 0 16) }

/-- The slot from which an engine's package is taken (R457). -/
def State.pkgSlot (s : State) (n : Nat) : Nat := fld s.upd.word2 (16 + n / 4) 1

/-- The directory entry that the manifest names for an engine. -/
def State.pkgEntry (s : State) (slot n : Nat) : Option (Nat × Nat × Nat) :=
  match s.man.packages.find? (fun p => p.1 == n) with
  | some p => (s.fwDir slot)[p.2]?
  | none => none

/-- The check that an engine's package fails; a package that is not there fails the first. -/
def State.pkgFault (s : State) (n : Nat) : Option Nat :=
  match s.pkgEntry (s.pkgSlot n) n with
  | some e => s.entryFault (s.pkgSlot n) 3 e
  | none => some 1

/-- The verified package of an engine (R307, R420). -/
def State.package (s : State) (n : Nat) : Option Package :=
  match s.pkgEntry (s.pkgSlot n) n with
  | some e =>
    if (s.pkgFault n).isSome then none else packageOf (s.flashAt e.2.1 (e.2.2 - 208)) (s.imageSvn e.2.1 e.2.2)
  | none => none

/-- The package of an engine that the steward may load (R315). -/
def State.goodPackage (s : State) (n : Nat) : Option Package := (s.package n).filter pkgOk

/-- Engines of the manifest that have a package. -/
def State.pkgEngines (s : State) : List Nat := s.man.packages.map (fun p => p.1)

/-! Manifest headers (R458, R459) -/

/-- Octets of the manifest in a slot, trailer excluded; none where the magic is wrong or the slot cannot hold them. -/
def State.manLen (s : State) (slot : Nat) : Option Nat :=
  let b := slotBase 1 slot
  let n := (s.flashWord (b + 16)).toNat
  if s.flashWord b = 0x4D414E46#32 && decide (n + 208 ≤ slotSize 1) then some n else none

/-- The check of R420 that the manifest in a slot fails. -/
def State.manImageFault (s : State) (slot : Nat) : Option Nat :=
  match s.manLen slot with
  | some n => s.imageFault 2 (slotBase 1 slot) (n + 208)
  | none => some 1

/-- MANIFEST_ID of the manifest in a slot. -/
def State.slotManId (s : State) (slot : Nat) : Word := s.flashWord (slotBase 1 slot + 12)

/-- The SVN of the manifest in a slot. -/
def State.manSvn (s : State) (slot : Nat) : Nat := s.imageSvn (slotBase 1 slot) ((s.manLen slot).getD 0 + 208)

/-- The section directory: TYPE, and whether the section lies in the image and its CRC holds. -/
def State.manDir (s : State) (slot : Nat) : List (Nat × Bool) :=
  let b := slotBase 1 slot
  (List.range (fld (s.flashWord (b + 20)) 0 16)).map (fun i =>
    let w (k : Nat) : Word := s.flashWord (b + 64 + 16 * i + 4 * k)
    let inside := decide ((w 1).toNat + (w 2).toNat ≤ (s.manLen slot).getD 0)
    (fld (w 0) 0 8, inside && crc32c (s.flashAt (b + (w 1).toNat) (w 2).toNat) == w 3))

/-- What verification, the header, the directory or the section CRCs refuse, as a status code (R459, R468). -/
def State.manFault (s : State) (slot : Nat) : Option Nat :=
  let b := slotBase 1 slot
  let d := s.manDir slot
  if (s.manImageFault slot).isSome then some 6
  else if fld (s.flashWord (b + 4)) 16 16 ≠ 1 || !tst (s.flashWord (b + 8)) 0 then some 7
  else if 64 < d.length || d.any (fun x => !x.2) || (List.range 15).any (fun k => (d.map (fun x => x.1)).count (k + 1) != 1)
    || d.any (fun x => decide (0x10 ≤ x.1) && decide (x.1 ≤ 0x7F)) then some 8
  else none

/-- What the sections of the manifest in a slot say. -/
def State.slotMan (s : State) (slot : Nat) : Manifest := Tab.get Manifest.zero s.upd.mans slot

/-! Settings images (R460-R462) -/

/-- Octets of the settings image in a half before its trailer, which is the first that names its own place (log entry 184). -/
def State.setLen (s : State) (half : Nat) : Option Nat :=
  let b := slotBase 2 half
  let here (p : Nat × Octet) : Option Nat :=
    if decide (b ≤ p.1) && decide (p.1 + 208 ≤ b + slotSize 2) && p.2 == 0x53 then
      match trailerOf (s.flashAt p.1 208) with
      | some t => if t.len = p.1 - b then some t.len else none
      | none => none
    else none
  s.upd.flash.findSome? here

/-- What a half holds beside its octets. -/
def State.setHalf (s : State) (half : Nat) : SetHalf := Tab.get SetHalf.zero s.upd.halves half

/-- A half holds an image or a snapshot. -/
def State.halfFull (s : State) (half : Nat) : Bool := (s.setHalf half).snap.isSome || (s.setLen half).isSome

/-- SET_REASON of a half: 0 if its settings are usable, 1 none, 2 signature, 3 format, 4 MANIFEST_ID (R462, R468). -/
def State.halfReason (s : State) (half : Nat) : Nat :=
  let b := slotBase 2 half
  match (s.setHalf half).snap, s.setLen half with
  | some id, _ => if id = s.dev.manId then 0 else 4
  | none, none => 1
  | none, some n =>
    if (s.imageFault 5 b (n + 208)).isSome then 2
    else if s.flashWord b ≠ 0x53455454#32 || fld (s.flashWord (b + 4)) 16 16 ≠ 1 then 3
    else if s.flashWord (b + 8) ≠ s.dev.manId then 4
    else 0

/-- The SVN of the settings in a half; a snapshot, which is not signed, has none. -/
def State.halfSvn (s : State) (half : Nat) : Option Nat :=
  if (s.setHalf half).snap.isSome then none else (s.setLen half).map (fun n => s.imageSvn (slotBase 2 half) (n + 208))

/-- A journal record passes its HMAC. -/
def JEntry.good (e : JEntry) : Bool := e.tag == journalTag e.recs e.ilk

/-- The settings of a half: its image or snapshot, then its records in order up to one that fails its HMAC (R461, R462). -/
def State.halfSettings (s : State) (half : Nat) : SettingsImage :=
  ((s.setHalf half).log.takeWhile JEntry.good).foldl (fun i e => e.apply i) (s.setHalf half).set

end Sys2Proof.Machine
end

