-- ==== Sys2Proof/Machine/Can.lean ====
section
/-! DEFINITION. The CAN FD controllers (14_can_thicket.md, R368-R377). Between commands the bus is idle but for the attempt of an
ACTIVE buffer. -/

namespace Sys2Proof.Machine

/-- Controller x. -/
def State.cn (s : State) (x : Nat) : Can := Tab.get Can.zero s.can x
def State.onCan (s : State) (x : Nat) (f : Can → Can) : State := { s with can := Tab.put s.can x (f (s.cn x)) }

/-- Event i of a channel (R391). -/
def State.canEvent (s : State) (x i : Nat) : State := s.raiseAt (288 + 4 * x + i) x (if x < 4 then 1 else 2)

/-- The engine that owns a controller, with the word base of its rings in the host bank (R371). -/
def State.canEngine (s : State) (x : Nat) : Option (Nat × Nat) :=
  (s.man.canOwner.find? (fun o => o.1 == x)).map (fun o => o.2)

/-- The wing of a controller (R368). -/
def canWing (x : Nat) : Wing := if x < 4 then .east else .west

/-! Error states (R372) -/

def State.estate (s : State) (x : Nat) : Nat := s.rf (Reg.CAN_STAT x) 30 2
def State.tec (s : State) (x : Nat) : Nat := s.rf (Reg.CAN_STAT x) 16 9
def State.rec_ (s : State) (x : Nat) : Nat := s.rf (Reg.CAN_STAT x) 8 8

/-- ESTATE changes, with its event. -/
def State.setEstate (s : State) (x v : Nat) : State :=
  if s.estate x = v then s else (s.wf (Reg.CAN_STAT x) 30 2 v).canEvent x 0

/-- State and CAUSE of a transmit buffer (R370). -/
def State.txState (s : State) (x i : Nat) : Nat := s.rf (Reg.CAN_TXSTAT x i) 29 3
def State.setTx (s : State) (x i st cause : Nat) : State :=
  (s.wf (Reg.CAN_TXSTAT x i) 29 3 st).wf (Reg.CAN_TXSTAT x i) 26 3 cause

/-- The buffer that is ACTIVE. -/
def State.txActive (s : State) (x : Nat) : Option Nat := (List.range 64).find? (fun i => s.txState x i == 2)

/-- Every buffer in one of the states goes to another (R374). -/
def State.txMove (s : State) (x : Nat) (l : List Nat) (dst : Nat) : State :=
  each 64 (fun i t => if l.contains (t.txState x i) then t.setTx x i dst 0 else t) s

/-- Bus-off (R372, R374): the waiting buffers wait for recovery, which begins at once under AUTO_RECOV. -/
def State.canBusOff (s : State) (x : Nat) : State :=
  let s1 := ((s.setEstate x 2).wb (Reg.CAN_STAT x) 25 true).txMove x [1, 2] 6
  let s2 := s1.onCan x (fun c => { c with abort := none })
  if s2.rb (Reg.CAN_CTRL x) 28 then s2.setEstate x 3 else s2

/-- ESTATE from the counters (R372); `tec` may exceed 255. -/
def State.judge (s : State) (x tec rec : Nat) : State :=
  let s1 := (s.wf (Reg.CAN_STAT x) 16 9 (capAt 511 tec)).wf (Reg.CAN_STAT x) 8 8 (capAt 255 rec)
  if 255 < tec then s1.canBusOff x
  else s1.setEstate x (if 128 ≤ tec ∨ 128 ≤ rec then 1 else 0)

/-! Arbitration and transmission (R370) -/

/-- The frame in a transmit buffer (R385). -/
def State.txbuf (s : State) (x i : Nat) : CanFrame :=
  let w0 := s.rd (Reg.CAN_TXBUF x i 0)
  let w1 := s.rd (Reg.CAN_TXBUF x i 1)
  { ide := tst w0 31, fdf := tst w0 30, brs := tst w0 29, id := w0.setWidth 29, rtr := tst w1 31, dlc := w1.setWidth 4
    data := ((List.range 16).flatMap (fun j => wordBytes (s.rd (Reg.CAN_TXBUF x i (2 + j))))) }

/-- The arbitration field of a frame as a number, the lowest winning: base identifier, RTR or SRR, IDE, extension, RTR. -/
def arbKey (f : CanFrame) : Nat :=
  let rtr := bitOf (f.rtr && !f.fdf)
  let base := fld f.id 18 11 * 2 ^ 21
  if f.ide then base + 2 ^ 20 + 2 ^ 19 + fld f.id 0 18 * 2 + rtr else base + rtr * 2 ^ 20

/-- The buffer offered for arbitration: the PENDING frame that wins against all others, of equal ones the lower index. An FD frame is not
offered with FD_EN = 0 (R370, R386). -/
def State.canWinner (s : State) (x : Nat) : Option Nat :=
  let ok := (List.range 64).filter (fun i => s.txState x i == 1 && (s.rb (Reg.CAN_CTRL x) 26 || !(s.txbuf x i).fdf))
  ok.foldl (fun best i => match best with
    | some j => if arbKey (s.txbuf x i) < arbKey (s.txbuf x j) then some i else some j
    | none => some i) none

/-- The mode lets the controller send (R369), and it is not in bus-off or recovery (R372). -/
def State.canSends (s : State) (x : Nat) : Bool :=
  let m := (s.cn x).mode
  (m == 1 || m == 3 || m == 4) && decide (s.estate x < 2)

/-- `n` bit times at the nominal rate, in ns, rounded up: a bit is 1 + TSEG1 + TSEG2 time quanta of `prescaler` CD23 cycles (R368,
R385). -/
def State.canBits (s : State) (x n : Nat) : Nat :=
  let f (lo len : Nat) : Nat := s.rf (Reg.CAN_BTR_NOM x) lo len + 1
  (n * f 24 8 * (1 + f 16 8 + f 8 7) * 25 + 1) / 2

/-- The controller takes part in the bus: it has left INIT and seen 11 recessive bits since (R369). -/
def State.canJoined (s : State) (x : Nat) : Bool := (s.cn x).mode != 0 && decide ((s.cn x).joinAt ≤ s.clk.ns)

/-- At bus idle the mode written takes effect; a controller that leaves INIT joins the bus after 11 recessive bits (R369). -/
def State.canMode (s : State) (x : Nat) : State :=
  let want := s.rf (Reg.CAN_CTRL x) 29 3
  if (s.txActive x).isSome ∨ want = (s.cn x).mode ∨ 4 < want then s
  else
    let join := if (s.cn x).mode = 0 then s.clk.ns + s.canBits x 11 else (s.cn x).joinAt
    let t := s.onCan x (fun c => { c with mode := want, joinAt := join })
    if want = 0 then (t.wr (Reg.CAN_ACK_RUN x) 0).wb (Reg.CAN_STAT x) 29 false else t

/-- At bus idle: the mode written takes effect (R369), and the winner of the PENDING buffers becomes ACTIVE (R370). -/
def State.canIdle (s : State) (x : Nat) : State :=
  let s1 := s.canMode x
  if s1.canSends x && s1.canJoined x && (s1.txActive x).isNone then
    match s1.canWinner x with
    | some i => s1.setTx x i 2 0
    | none => s1
  else s1

/-! The rings of an engine owner (R371) -/

/-- Byte offset of a word of the rings: TX entry i, RX entry i; 40 words of 32 bits each. -/
def canTxEntry (b i : Nat) : Nat := 2 * (b + 4) + 160 * (i % 64)
def canRxEntry (b i : Nat) : Nat := 2 * (b + 4) + 160 * 64 + 160 * (i % 128)

/-- Write 32-bit words into the host bank. -/
def State.hostPuts (s : State) (a : Nat) (l : List Word) : State :=
  eachIn (l.zip (List.range l.length)) (fun p t =>
    (t.hostPut ((a + 4 * p.2) / 2) (p.1.setWidth 16)).hostPut ((a + 4 * p.2) / 2 + 1) ((p.1 >>> (16 : Nat)).setWidth 16)) s

/-- A buffer has ended: CANx_TX, and for an engine owner the state in the entry's status word and TX_CONS (R371, R391). -/
def State.txEnded (s : State) (x i : Nat) : State :=
  let s1 := s.canEvent x 3
  match s.canEngine x with
  | some (_, b) =>
    (s1.hostPuts (canTxEntry b i + 156) [s1.rd (Reg.CAN_TXSTAT x i)]).hostPut (b + 1) (s1.hostWord (b + 1) + 1)
  | none => s1

/-! Reception (R370, R371, R377) -/

/-- The first enabled filter that a frame matches; whether any filter is enabled (R370). -/
def State.canFilter (s : State) (x : Nat) (f : CanFrame) : Option Nat :=
  (List.range 32).find? (fun k =>
    let w := s.rd (Reg.CAN_FILTER x k 0)
    tst w 31 && tst w 30 == f.ide && (f.id ^^^ w.setWidth 29) &&& (s.rd (Reg.CAN_FILTER x k 1)).setWidth 29 == 0)
def State.anyFilter (s : State) (x : Nat) : Bool := (List.range 32).any (fun k => s.rb (Reg.CAN_FILTER x k 0) 31)

/-- A valid frame within Tv of a wake makes the wake valid (R377). -/
def State.wakeValid (s : State) (x : Nat) : State :=
  match (s.cn x).wakeAt with
  | some t =>
    if s.clk.cd0 * 100 < t * 100 + s.rf (Reg.CAN_WAKE_CFG x) 8 12 * 32768 then
      (s.onCan x (fun c => { c with wakeAt := none })).wf (Reg.CAN_WAKE_STAT x) 0 8 0
    else s
  | none => s

/-- A frame is dropped for want of room (R370). -/
def State.canDrop (s : State) (x : Nat) : State :=
  let was := s.rb (Reg.CAN_STAT x) 27
  let s1 := (s.cnt (Reg.CAN_RX_OVF_CNT x) 0 32 1).wb (Reg.CAN_STAT x) 27 true
  if was then s1 else s1.canEvent x 2

/-- The 40 words of a received frame: TXBUF layout, word 18 nanoseconds of its timestamp, word 19 its filter (R385). -/
def rxWords (f : CanFrame) (ns : Word) (k : Nat) : List Word :=
  [BitVec.ofNat 32 (bitOf f.ide * 2 ^ 31 + bitOf f.fdf * 2 ^ 30 + bitOf f.brs * 2 ^ 29 + f.id.toNat),
    BitVec.ofNat 32 (bitOf f.rtr * 2 ^ 31 + f.dlc.toNat)]
    ++ (List.range 16).map (fun j => bytesWord ((f.data.drop (4 * j)).take 4)) ++ [ns, BitVec.ofNat 32 k]
    ++ List.replicate 20 0

/-- A frame that passed the filters enters the FIFO, or the RX ring of an engine owner. -/
def State.canAccept (s : State) (x : Nat) (f : CanFrame) (k : Nat) : State :=
  let ns := (tsRec (s.stampT (canWing x) 0) 0).w0
  match s.canEngine x with
  | some (_, b) =>
    let prod := s.hostWord (b + 2)
    if 128 ≤ (prod - s.hostWord (b + 3)).toNat then s.canDrop x
    else (s.hostPuts (canRxEntry b prod.toNat) (rxWords f ns k)).hostPut (b + 2) (prod + 1)
  | none =>
    let q := (s.cn x).rx
    if 128 ≤ q.length then s.canDrop x
    else
      let s1 := (s.onCan x (fun c => { c with rx := q ++ [(f, ns, k)] })).wf (Reg.CAN_STAT x) 0 8 (q.length + 1)
      if q.length < s.rf (Reg.CAN_CTRL x) 0 8 ∧ s.rf (Reg.CAN_CTRL x) 0 8 ≤ q.length + 1 then s1.canEvent x 2 else s1

/-- The filters judge a frame; with none enabled every frame is accepted, and the filter it names is not stated (log entry 3). -/
def State.canFiltered (s : State) (x : Nat) (f : CanFrame) : State :=
  match s.canFilter x f with
  | some k => (s.wakeValid x).canAccept x f k
  | none => if s.anyFilter x then s else ((s.wakeValid x).canAccept x f s.freshWord.toNat).used 1

/-- REC after a good frame (R372, ISO 11898-1): one less; from above 127 a value of 119 to 127, not further stated. -/
def recDown (s : State) (r : Nat) : Nat × State :=
  if 127 < r then (119 + s.freshWord.toNat % 9, s.used 1) else (r - 1, s)

/-- CAN_FRAME_RECEIVE (R369, R370, R372): in NORMAL, LISTEN and ONESHOT, outside bus-off; LISTEN keeps TEC and REC. A controller that
has not joined the bus takes no part in the frame, whose last 8 bits are recessive (log entry 179). -/
def State.canFrameReceive (s : State) (x : Nat) (r : CanRx) : State :=
  let m := (s.cn x).mode
  if !(m == 1 || m == 2 || m == 4) || decide (2 ≤ s.estate x) then s
  else if !s.canJoined x then s.onCan x (fun c => { c with joinAt := s.clk.ns + s.canBits x 3 })
  else
    (match r with
    | .error add => if m = 2 then s else s.judge x (s.tec x) (s.rec_ x + add)
    | .frame f =>
      if f.fdf && !s.rb (Reg.CAN_CTRL x) 26 then s
      else
        let s1 := if m = 2 then s else
          let (v, t) := recDown s (s.rec_ x)
          t.judge x (t.tec x) v
        s1.canFiltered x f).canIdle x

/-! Ends of attempts (R370, R372, R373) -/

/-- CAUSE of a failed attempt (R370). -/
def canCause : CanTxRes → Nat
  | .ok => 0
  | .arbLost => 1
  | .bit => 2
  | .stuff => 3
  | .form => 4
  | .ack _ => 5
  | .crc => 6

/-- NOACK_LIM; 0 acts as 1 (R386). -/
def State.noackLim (s : State) (x : Nat) : Nat := max 1 (s.rf (Reg.CAN_CTRL x) 8 8)

/-- The count of ACK errors on end (R373). -/
def State.ackRun (s : State) (x : Nat) (r : CanTxRes) : State :=
  match r with
  | .ok => (s.wr (Reg.CAN_ACK_RUN x) 0).wb (Reg.CAN_STAT x) 29 false
  | .ack _ =>
    let s1 := s.cnt (Reg.CAN_ACK_RUN x) 0 8 1
    if decide (s.noackLim x ≤ s1.rf (Reg.CAN_ACK_RUN x) 0 8) && !s.rb (Reg.CAN_STAT x) 29 then
      ((s1.wb (Reg.CAN_STAT x) 29 true).wb (Reg.CAN_STAT x) 28 true).canEvent x 1
    else s1
  | _ => s

/-- TEC after an attempt (ISO 11898-1): one less after success; 8 more after an error, but not for an ACK error of an ERROR_PASSIVE
transmitter whose passive flag sees no dominant bit; unchanged after lost arbitration. -/
def State.tecAfter (s : State) (x : Nat) : CanTxRes → Nat
  | .ok => s.tec x - 1
  | .arbLost => s.tec x
  | .ack dom => if s.estate x = 1 ∧ !dom then s.tec x else s.tec x + 8
  | _ => s.tec x + 8

/-- The ACTIVE buffer ends or waits again (R369, R370): after a failure ABORTED when software has aborted it, FAILED in ONESHOT, else
PENDING. -/
def State.endBuffer (s : State) (x i : Nat) (r : CanTxRes) : State :=
  let s0 := s.onCan x (fun c => { c with abort := none })
  match r with
  | .ok => (s0.setTx x i 3 0).txEnded x i
  | _ =>
    if (s.cn x).abort = some i then (s0.setTx x i 5 0).txEnded x i
    else if (s.cn x).mode = 4 then (s0.setTx x i 4 (canCause r)).txEnded x i
    else s0.setTx x i 1 0

/-- CAN_TX_ATTEMPT_END. -/
def State.canTxAttemptEnd (u : State) (x : Nat) (res : CanTxRes) : State :=
  let s := u.canIdle x
  match s.txActive x with
  | none => s
  | some i =>
    let s1 := (s.endBuffer x i res).ackRun x res
    let s2 := match res with
      | .ok => s1.wakeValid x
      | _ => s1
    let s3 := s2.judge x (s.tecAfter x res) (s.rec_ x)
    let s4 := match res with
      | .ok => if (s.cn x).mode = 3 then s3.canFiltered x (s.txbuf x i) else s3
      | _ => s3
    s4.canIdle x

/-- CAN_RECOVERY_END (R372, R374): after 128 sequences of 11 recessive bits. -/
def State.canRecoveryEnd (s : State) (x runs : Nat) : State :=
  if s.estate x ≠ 3 ∨ runs < 128 then s
  else (((s.judge x 0 0).txMove x [6] 1).canIdle x)

/-! Host writes (R368-R372, R385) -/

/-- A write of CAN_CTRL: FD_EN changes in INIT only; RECOVER and AUTO_RECOV start recovery from bus-off; a watermark that the level has
reached already raises CANx_RX (R369, R372, R386, R391). -/
def State.canCtrl (u : State) (x : Nat) (val : Word) : State :=
  let s := u.canIdle x
  let old := s.rd (Reg.CAN_CTRL x)
  let fd := if (s.cn x).mode = 0 then tst val 26 else tst old 26
  let s1 := s.wr (Reg.CAN_CTRL x) (BitVec.ofNat 32 (fld val 28 4 * 2 ^ 28 + bitOf fd * 2 ^ 26 + fld val 0 16))
  let s2 := if s1.estate x = 2 ∧ (tst val 27 ∨ tst val 28) then s1.setEstate x 3 else s1
  let lvl := (s.cn x).rx.length
  let s3 := if lvl < fld old 0 8 ∧ fld val 0 8 ≤ lvl ∧ (s.canEngine x).isNone then s2.canEvent x 2 else s2
  s3.canIdle x

/-- CAN_MODE_WRITE (R369). -/
def State.canModeWrite (s : State) (fn x : Nat) (val : Word) : State :=
  if s.ownerCfg fn then s.canCtrl x val else s

/-- RECOVER (R372): a write of 1 to CAN_CTRL.RECOVER beside the other fields as they stand. -/
def State.recover (s : State) (fn x : Nat) : State :=
  if s.ownerCfg fn then s.canCtrl x (s.rd (Reg.CAN_CTRL x) ||| 0x08000000#32) else s

/-- CAN_TIMING_WRITE (R368): in INIT; otherwise discarded with TX_ERR. -/
def State.canTimingWrite (s : State) (fn x off : Nat) (val : Word) : State :=
  if !s.ownerCfg fn then s
  else if (s.cn x).mode ≠ 0 then s.wb (Reg.CAN_STAT x) 26 true
  else match off with
    | 8 => s.wr (Reg.CAN_BTR_NOM x) (val &&& 0xFFFF7F7F#32)
    | 12 => s.wr (Reg.CAN_BTR_DATA x) (val &&& 0x9F1F0F0F#32)
    | _ => s.wr (Reg.CAN_TDC x) (val &&& 0x00007F7F#32)

/-- Request one buffer (R370, R374). -/
def State.requestTx (s : State) (x i : Nat) : State :=
  if [0, 3, 4, 5].contains (s.txState x i) then s.setTx x i (if 2 ≤ s.estate x then 6 else 1) 0
  else s.wb (Reg.CAN_STAT x) 26 true

/-- CAN_TXREQ (R370); discarded while an engine owns the channel (R371). -/
def State.canTxreq (s : State) (fn x : Nat) (bits : BitVec 64) : State :=
  if !s.ownerCfg fn || (s.canEngine x).isSome then s
  else (each 64 (fun i t => if tst bits i then t.requestTx x i else t) s).canIdle x

/-- CAN_TXABORT (R370). -/
def State.canTxabort (s : State) (fn x : Nat) (bits : BitVec 64) : State :=
  if !s.ownerCfg fn then s
  else each 64 (fun i t =>
    if !tst bits i then t
    else match t.txState x i with
      | 1 => (t.setTx x i 5 0).txEnded x i
      | 6 => (t.setTx x i 5 0).txEnded x i
      | 2 => t.onCan x (fun c => { c with abort := some i })
      | _ => t) (s.canIdle x)

/-- CAN_RXPOP (R371, R385). -/
def State.canRxpop (s : State) (fn x : Nat) : State :=
  if !s.ownerCfg fn || (s.canEngine x).isSome then s
  else
    let q := (s.cn x).rx.drop 1
    (s.onCan x (fun c => { c with rx := q })).wf (Reg.CAN_STAT x) 0 8 q.length

/-- CAN_TXSTAT: a buffer that has won since the last command of the controller is ACTIVE (R370). -/
def State.txstatView (s : State) (x i : Nat) : Word := (s.canIdle x).rd (Reg.CAN_TXSTAT x i)

/-- Levels of CANx_MODE1 and CANx_MODE0 (R375, R494): the weak pull-ups until the manifest configures the pins, in STANDBY the level that the
always-on domain holds, else XMODE. -/
def State.canModePins (s : State) (x : Nat) : Nat :=
  if s.dev.st == .standby then s.rf (Reg.CAN_WAKE_CFG x) 20 2
  else if s.dev.pinsSet then s.rf (Reg.CAN_XCVR x) 0 2
  else 3

/-- Fetch one ring entry (R371). -/
def State.fetchTx (s : State) (x b : Nat) : State :=
  let c := (s.cn x).txCons
  if c = s.hostWord b then s
  else
    let i := c.toNat % 64
    let at_ := canTxEntry b i
    let s1 := each 40 (fun j t => t.wr (Reg.CAN_TXBUF x i j) (bytesWord (bytesAt s.host.bank (at_ + 4 * j) 4))) s
    (s1.onCan x (fun q => { q with txCons := c + 1 })).requestTx x i

/-- CAN_TX_RING_FETCH (R371): every entry that TX_PROD has passed. -/
def State.canTxRingFetch (s : State) (x : Nat) : State :=
  match s.canEngine x with
  | some (_, b) => (times (fun t => t.fetchTx x b) 64 s).canIdle x
  | none => s

/-! Wake (R376, R377) -/

/-- The wake decoder of a channel finds a match (R376). -/
def State.wakeMatches (s : State) (x : Nat) (f : CanFrame) : Bool :=
  let cfg := s.rd (Reg.CAN_WAKE_CFG x)
  let data := ((List.range 2).flatMap (fun j => wordBytes (s.rd (Reg.CAN_WAKE_ID x (2 + j)))))
  let mask := ((List.range 2).flatMap (fun j => wordBytes (s.rd (Reg.CAN_WAKE_ID x (4 + j)))))
  let len := min 8 f.dlc.toNat
  f.ide == tst cfg 29 && (f.id ^^^ (s.rd (Reg.CAN_WAKE_ID x 0)).setWidth 29) &&& (s.rd (Reg.CAN_WAKE_ID x 1)).setWidth 29 == 0
    && (!tst cfg 28 || f.dlc.toNat == fld cfg 24 4)
    && (List.range 8).all (fun i =>
      if i < len then (f.data.getD i 0 ^^^ data.getD i 0) &&& mask.getD i 0 == 0 else mask.getD i 0 == 0)

/-- A good classical data frame that an armed decoder matches (R376, R377). -/
def State.wakeFrame (s : State) (x : Nat) (f : CanFrame) (crcOk : Bool) : Bool :=
  s.rb (Reg.CAN_WAKE_CFG x) 31 && !s.rb (Reg.CAN_WAKE_STAT x) 31 && crcOk && !f.fdf && !f.rtr
    && decide (s.rf (Reg.CAN_WAKE_CFG x) 22 2 < 3) && s.wakeMatches x f

/-- A falling edge on an armed CANx_WAKE_N (R376, R377). -/
def State.wakeEdge (s : State) (x : Nat) : Bool :=
  s.rb (Reg.CAN_WAKE_CFG x) 30 && !s.rb (Reg.CAN_WAKE_STAT x) 31

/-- CAN_WAKE_VALIDITY_EXPIRY (R377). -/
def State.canWakeValidityExpiry (s : State) (x : Nat) : State :=
  match (s.cn x).wakeAt with
  | none => s
  | some t =>
    if s.clk.cd0 * 100 < t * 100 + s.rf (Reg.CAN_WAKE_CFG x) 8 12 * 32768 then s
    else
      let s1 := (s.onCan x (fun c => { c with wakeAt := none })).cnt (Reg.CAN_WAKE_STAT x) 0 8 1
      let lim := s.rf (Reg.CAN_WAKE_CFG x) 0 8
      if lim ≠ 0 ∧ lim ≤ s1.rf (Reg.CAN_WAKE_STAT x) 0 8 ∧ !s1.rb (Reg.CAN_WAKE_STAT x) 31 then
        (s1.wb (Reg.CAN_WAKE_STAT x) 31 true).canEvent x 0
      else s1

/-- WAKE_DIS_CLEAR (R377): clears the flag and the count. -/
def State.wakeDisClear (s : State) (fn x : Nat) (val : Word) : State :=
  if s.ownerCfg fn && tst val 31 then (s.wb (Reg.CAN_WAKE_STAT x) 31 false).wf (Reg.CAN_WAKE_STAT x) 0 8 0 else s

/-! The meanings of the rows -/

/-- CAN_MODE_WRITE (R369): A write of CAN_CTRL.MODE takes effect at the next bus idle. -/
def execCanModeWrite (fn x : Nat) (val : BitVec 32) (s : State) : Out :=
  checked (canModeWriteOk fn x) s (s.canModeWrite fn x val)

/-- CAN_TIMING_WRITE (R368): A bit-timing write is applied in INIT or discarded with TX_ERR. -/
def execCanTimingWrite (fn x off : Nat) (val : BitVec 32) (s : State) : Out :=
  checked (canTimingWriteOk fn x off) s (s.canTimingWrite fn x off val)

/-- CAN_TXREQ (R370): A write of CAN_TXREQ requests a transmit buffer. -/
def execCanTxreq (fn x : Nat) (bits : BitVec 64) (s : State) : Out :=
  checked (canTxreqOk fn x) s (s.canTxreq fn x bits)

/-- CAN_TXABORT (R370): A write of CAN_TXABORT aborts a transmit buffer. -/
def execCanTxabort (fn x : Nat) (bits : BitVec 64) (s : State) : Out :=
  checked (canTxabortOk fn x) s (s.canTxabort fn x bits)

/-- CAN_RXPOP (R385): A write to CAN_RXPOP pops the RX FIFO head. -/
def execCanRxpop (fn x : Nat) (s : State) : Out :=
  checked (canRxpopOk fn x) s (s.canRxpop fn x)

/-- RECOVER (R372): A write of CAN_CTRL.RECOVER starts bus-off recovery. -/
def execRecover (fn x : Nat) (s : State) : Out :=
  checked (recoverOk fn x) s (s.recover fn x)

/-- CAN_FRAME_RECEIVE (R370): A frame received on the bus is filtered into the RX FIFO or dropped. -/
def execCanFrameReceive (x : Nat) (r : CanRx) (s : State) : Out :=
  live (canFrameReceiveOk x) s (s.canFrameReceive x r)

/-- CAN_TX_ATTEMPT_END (R372): A transmit attempt ends, updating TEC, REC, buffer state and ACK-error count. -/
def execCanTxAttemptEnd (x : Nat) (res : CanTxRes) (s : State) : Out :=
  live (canTxAttemptEndOk x) s (s.canTxAttemptEnd x res)

/-- CAN_RECOVERY_END (R372): After 128 sequences of 11 recessive bits recovery ends and buffers return to PENDING. -/
def execCanRecoveryEnd (x : Nat) (runs : Nat) (s : State) : Out :=
  live (canRecoveryEndOk x) s (s.canRecoveryEnd x runs)

/-- CAN_TX_RING_FETCH (R371): An engine advances TX_PROD and the controller fetches the ring entry. -/
def execCanTxRingFetch (x : Nat) (s : State) : Out :=
  live (canTxRingFetchOk x) s (s.canTxRingFetch x)

/-- CAN_WAKE_VALIDITY_EXPIRY (R377): Tv ends without a valid frame, counting a false wake and possibly setting WAKE_DIS. -/
def execCanWakeValidityExpiry (x : Nat) (s : State) : Out :=
  live (canWakeValidityExpiryOk x) s (s.canWakeValidityExpiry x)

/-- WAKE_DIS_CLEAR (R377): A host write of 1 to WAKE_DIS clears the flag and the false-wake count. -/
def execWakeDisClear (fn x : Nat) (val : BitVec 32) (s : State) : Out :=
  checked (wakeDisClearOk fn x) s (s.wakeDisClear fn x val)

end Sys2Proof.Machine
end

