-- ==== Sys2Proof/Machine/Thicket.lean ====
section
/-! DEFINITION. The Thicket engines (14_can_thicket.md, R378-R384). -/

namespace Sys2Proof.Machine

/-- Engine n. -/
def State.tke (s : State) (n : Nat) : Tk := Tab.get Tk.zero s.tk n
def State.onTk (s : State) (n : Nat) (f : Tk → Tk) : State := { s with tk := Tab.put s.tk n (f (s.tke n)) }

/-- Event i of an engine (R391). -/
def State.tkEvent (s : State) (n i : Nat) : State := s.raiseAt (320 + 2 * n + i) n (wingCode (engWing n))

/-- A flag of TK_STAT sets; UNDERRUN and OVERFLOW raise TKn_FAULT on their 0-to-1 change (R381, R390). -/
def State.tkFlag (s : State) (n b : Nat) : State :=
  if s.rb (Reg.TK_STAT n) b then s
  else
    let s1 := s.wb (Reg.TK_STAT n) b true
    if b = 31 ∨ b = 30 then s1.tkEvent n 1 else s1

/-- Level of the pin that PIN_SELk names, by local index (R378, R389). -/
def State.tkPin (s : State) (n k : Nat) (pins : BitVec 48) : Bool := tst pins (s.rf (Reg.TK_PIN_SEL n (k / 4)) (8 * (k % 4)) 6)

/-- A condition source (R379). -/
def State.tkCond (s : State) (n : Nat) (pins : BitVec 48) (tick : Bool) (src : Nat) : Bool :=
  let e := s.tke n
  match src with
  | 8 => tick
  | 9 => e.count == 0
  | 10 => e.tx.isEmpty
  | 11 => decide (16 ≤ e.rx.length)
  | 12 => e.trig
  | 13 => tst (s.tke (Nat.xor n 1)).out 0
  | 14 => true
  | 15 => false
  | k => s.tkPin n k pins

/-- The LUT entry of the step (R379). -/
def State.tkEntry (s : State) (n : Nat) (pins : BitVec 48) (tick : Bool) : Word :=
  let cond := (List.range 4).foldl (fun v i =>
    if s.tkCond n pins tick (s.rf (Reg.TK_COND_SEL n) (4 * i) 4) then v + 2 ^ i else v) 0
  s.rd (Reg.TK_LUT n ((s.tke n).state.toNat * 16 + cond))

/-- SHIFT of a step (R380). -/
def State.tkShift (s : State) (n : Nat) (pins : BitVec 48) (op : Nat) : State :=
  s.onTk n (fun e => { e with
    sr := match op with
      | 1 => (e.sr <<< (1 : Nat)) ||| BitVec.ofNat 32 (bitOf (s.tkPin n 0 pins))
      | 2 => e.sr <<< (1 : Nat)
      | 3 => (e.sr <<< (1 : Nat)) ||| 1
      | _ => e.sr })

/-- PUSH (R380, R381). -/
def State.tkPush (s : State) (n : Nat) : State :=
  if 16 ≤ (s.tke n).rx.length then
    (s.onTk n (fun e => { e with sr := 0, ovfSince := true })).tkFlag n 30
  else s.onTk n (fun e => { e with rx := e.rx ++ [e.sr], sr := 0 })

/-- POP (R380, R381). -/
def State.tkPop (s : State) (n : Nat) : State :=
  match (s.tke n).tx with
  | [] => s.tkFlag n 31
  | w :: t => s.onTk n (fun e => { e with sr := w, tx := t })

/-- FIFO of a step. -/
def State.tkFifo (s : State) (n op : Nat) : State :=
  match op with
  | 1 => s.tkPush n
  | 2 => s.tkPop n
  | 3 => (s.tkPush n).tkPop n
  | _ => s

/-- CNT of a step (R380). -/
def State.tkCount (s : State) (n op : Nat) : State :=
  s.onTk n (fun e => { e with
    count := match op with
      | 1 => BitVec.ofNat 16 (s.rf (Reg.TK_CNT n) 16 16)
      | 2 => if e.count = 0 then 0 else e.count - 1
      | 3 => if e.count = 0xFFFF then 0xFFFF else e.count + 1
      | _ => e.count })

/-- Next state (R380). -/
def State.tkNext (s : State) (n : Nat) (l : Word) : BitVec 6 :=
  let st := (s.tke n).state
  if tst l 31 then BitVec.ofNat 6 (fld l 25 6)
  else if st.toNat = s.rf (Reg.TK_WRAP n) 8 6 then BitVec.ofNat 6 (s.rf (Reg.TK_WRAP n) 0 6)
  else st + 1

/-- TICK_DIV (R389). -/
def State.tickDiv (s : State) (n : Nat) : Nat := s.rf (Reg.TK_STEP n) 16 16

/-- One step of a running engine (R379-R381): the actions in the order SHIFT, FIFO, CNT, OUT, STATE. -/
def State.tkRun (s : State) (n : Nat) (pins : BitVec 48) : State :=
  let tick := (s.tke n).tickLeft == 0
  let l := s.tkEntry n pins tick
  let next := s.tkNext n l
  let s1 := (((s.tkShift n pins (fld l 15 2)).tkFifo n (fld l 13 2)).tkCount n (fld l 11 2)).onTk n (fun e => { e with
    out := if tst l 9 then e.out else BitVec.ofNat 8 (fld l 17 8)
    state := next, trig := false, tickLeft := if tick then s.tickDiv n else e.tickLeft - 1 })
  if tst l 10 then s1.tkEvent n 0 else s1

/-- TK_STEP (R378-R383): a step boundary with the levels of the wing's pins. An engine that EN has started begins with STATE, SR
and COUNT at 0, at a phase of TICK that is not stated (log entry 3); one that EN has stopped shows its idle outputs. -/
def State.tkStep (s : State) (n : Nat) (pins : BitVec 48) : State :=
  let en := s.rb (Reg.TK_CTRL n) 31
  let e := s.tke n
  if en && e.run then s.tkRun n pins
  else if en then
    ((s.onTk n (fun e => { e with
      run := true, state := 0, sr := 0, count := 0, trig := false
      tickLeft := s.freshWord.toNat % (s.tickDiv n + 1) })).used 1).tkRun n pins
  else if e.run then s.onTk n (fun e => { e with run := false, out := BitVec.ofNat 8 (s.rf (Reg.TK_CFG n) 16 8) })
  else s

/-- A write of TK_CTRL: EN alone is written (R389). -/
def State.tkCtrl (s : State) (fn n : Nat) (val : Word) : State :=
  if s.ownerCfg fn then s.wb (Reg.TK_CTRL n) 31 (tst val 31) else s

/-- TK_ENABLE, TK_DISABLE (R383): the engine starts or stops at its next step boundary. -/
def State.tkEnable (s : State) (fn n : Nat) (val : Word) : State := s.tkCtrl fn n val
def State.tkDisable (s : State) (fn n : Nat) (val : Word) : State := s.tkCtrl fn n val

/-- TK_LUT_WRITE (R383). -/
def State.tkLutWrite (s : State) (fn n i : Nat) (val : Word) : State :=
  if !s.ownerCfg fn then s
  else if s.rb (Reg.TK_CTRL n) 31 then s.wb (Reg.TK_STAT n) 28 true
  else s.wr (Reg.TK_LUT n i) val

/-- TK_TXFIFO_WRITE (R381). -/
def State.tkTxfifoWrite (s : State) (fn n : Nat) (val : Word) : State :=
  if !s.ownerCfg fn then s
  else if 16 ≤ (s.tke n).tx.length then s.wb (Reg.TK_STAT n) 29 true
  else s.onTk n (fun e => { e with tx := e.tx ++ [val] })

/-- The read of TK_RXFIFO: an empty one gives 0 (R381). -/
def State.tkRxPop (s : State) (n : Nat) : State := s.onTk n (fun e => { e with rx := e.rx.drop 1 })

/-- A trigger of a wing with TARGETS bit 27 fires (R70, R379). -/
def State.tkTrigger (s : State) (w : Wing) : State :=
  each 16 (fun i t => t.onTk (16 * w.idx + i) (fun e => { e with trig := true })) s

/-! Registers shown from the engine's own state (R389, R390) -/

def State.tkCtrlView (s : State) (n : Nat) : Word :=
  let e := s.tke n
  BitVec.ofNat 32 (s.rf (Reg.TK_CTRL n) 31 1 * 2 ^ 31 + bitOf e.run * 2 ^ 30 + e.state.toNat * 2 ^ 24 + e.out.toNat)
def State.tkCntView (s : State) (n : Nat) : Word := setFld (s.rd (Reg.TK_CNT n)) 0 16 (s.tke n).count.toNat
def State.tkStatView (s : State) (n : Nat) : Word :=
  setFld (setFld (s.rd (Reg.TK_STAT n)) 8 5 (s.tke n).tx.length) 0 5 (s.tke n).rx.length

/-- Output bit b as its mapping shows it: OUT[7] is SR[31] under SOUT_EN; in mode GATE it passes with the level of GATE_PIN
(R382). -/
def State.tkOutput (s : State) (n b : Nat) (pins : BitVec 48) : Bool :=
  let e := s.tke n
  let v := if b = 7 ∧ s.rb (Reg.TK_CFG n) 31 then tst e.sr 31 else tst e.out b
  if s.rf (Reg.TK_OUT_MAP n b) 28 2 = 1 then v && tst pins (s.rf (Reg.TK_OUT_MAP n b) 16 6) else v

/-! The meanings of the rows -/

/-- TK_STEP (R380): A Thicket engine takes a step, reading its LUT entry and applying shift, FIFO, count, output and state. -/
def execTkStep (n : Nat) (pins : BitVec 48) (s : State) : Out :=
  live (tkStepOk n) s (s.tkStep n pins)

/-- TK_ENABLE (R383): A 0-to-1 write of TK_CTRL.EN starts a Thicket engine at its next step. -/
def execTkEnable (fn n : Nat) (val : BitVec 32) (s : State) : Out :=
  checked (tkEnableOk fn n) s (s.tkEnable fn n val)

/-- TK_DISABLE (R383): A 1-to-0 write of TK_CTRL.EN stops a Thicket engine and sets its idle outputs. -/
def execTkDisable (fn n : Nat) (val : BitVec 32) (s : State) : Out :=
  checked (tkDisableOk fn n) s (s.tkDisable fn n val)

/-- TK_LUT_WRITE (R383): A host LUT write is applied, or discarded with LUT_BUSY while running. -/
def execTkLutWrite (fn n ix : Nat) (val : BitVec 32) (s : State) : Out :=
  checked (tkLutWriteOk fn n ix) s (s.tkLutWrite fn n ix val)

/-- TK_TXFIFO_WRITE (R381): A host write to TK_TXFIFO pushes a word, or is discarded when full. -/
def execTkTxfifoWrite (fn n : Nat) (val : BitVec 32) (s : State) : Out :=
  checked (tkTxfifoWriteOk fn n) s (s.tkTxfifoWrite fn n val)

end Sys2Proof.Machine
end

