-- ==== Sys2Proof/Machine/Trig.lean ====
section
/-! DEFINITION. Triggers (R63, R64, R70) and published streams (R91-R94, R384). -/

namespace Sys2Proof.Machine

/-! Arming (R64, R70) -/

/-- TRGn_CTRL of a trigger. -/
def trgCtrl (m : Nat) : Nat := Reg.TRG_CTRL (trgWing m) (m % 8)

/-- 100 ns, in units of 2^-16 ns (R64). -/
def armLead : Nat := 100 * 65536

/-- EN sets: a START less than 100 ns ahead is marked MISSED; a single shot then does not fire, a periodic trigger starts at the
first instant at least 100 ns ahead (R64). -/
def State.armTrg (s : State) (m : Nat) : State :=
  let x := s.trg m
  let soon := s.wingT (trgWing m) + armLead
  let fresh : Trg := { x with k := 0, fired := 0, armed := true }
  if soon ≤ s.trgStart m then s.setTrg m fresh
  else
    let periodic := s.rb (trgCtrl m) 30
    (s.setTrg m { fresh with k := s.firstK m soon, armed := periodic, missed := true }).raiseAt 409 m (wingCode (trgWing m))

/-- A write of TRGn_CTRL (R64, R70): the owner's, bits [31:23]; EN going to 1 arms the trigger, EN at 0 disarms it. -/
def State.triggerArm (s : State) (fn m : Nat) (val : Word) : State :=
  if !s.ownerIn fn then s
  else
    let was := s.rb (trgCtrl m) 31
    let s1 := s.wr (trgCtrl m) (BitVec.ofNat 32 (fld val 23 9 * 2 ^ 23))
    if !tst val 31 then s1.setTrg m { s1.trg m with armed := false }
    else if was then s1
    else s1.armTrg m

/-! Firing (R63, R70) -/

/-- Pulse width in ns: a value outside 4 ns to PERIOD_NS - 4 ns is taken as the nearer limit (R63). -/
def State.trgWidth (s : State) (m : Nat) : Nat :=
  let w := (s.rd (Reg.TRG_WIDTH (trgWing m) (m % 8))).toNat
  let p := (s.rd (Reg.TRG_PERIOD_NS (trgWing m) (m % 8))).toNat
  max 4 (min w (p - 4))

/-- A ring takes a firing, unless it still moves its departures back after a step, has departed for this instant already, or may not
start yet (R204-R206). -/
def Ring.fire (x : Ring) (t ns : Nat) (per : Nat × Nat) : Ring :=
  let y := { x with trgPer := per, trgStop := false }
  let old := match x.trgLast with
    | some b => decide (t ≤ b)
    | none => false
  if x.rephase ≠ 0 || old || decide (ns < x.notBefore) then y else { y with trgNext := some t }

/-- The rings of the wing that start their cycles at this trigger take the firing (R70, R204). -/
def State.ringFire (s : State) (m t : Nat) : State :=
  let per := periodOf (s.rd (Reg.TRG_PERIOD_NS (trgWing m) (m % 8))) (s.rd (Reg.TRG_PERIOD_FRAC (trgWing m) (m % 8)))
  each 4 (fun r u =>
    if ringWing r = trgWing m && u.trgRing r && u.rf (Reg.CQ_RING_CTRL r) 24 3 == m % 8 then
      u.setRg r ((u.rg r).fire t u.clk.ns per)
    else u) s

/-- The snapshot of the wing's Hedge unit is asked for (R157). -/
def State.snapFire (s : State) (w : Wing) (t : Nat) : State :=
  let s1 := each 3 (fun i u => u.wr (Reg.HEDGE_SNAP_TIME w i) (words3 t i)) s
  s1.setHedge w { s1.hedge.at_ w with snap := some (t, (List.range 1024).filter (s1.chOn w)) }

/-- The streams of source LOCAL whose converters the trigger starts take the key of the firing; an earlier firing whose entry is
not yet written gets none (R92, R384). -/
def State.pubFire (s : State) (m t : Nat) : State :=
  eachIn (s.man.pubs.filter (fun p => !p.2.host && p.2.trg == m)) (fun p u =>
    let x := Tab.get Pub.zero u.pub p.1
    let lost := p.2.tks.filter (fun n => (u.tke n).ovfSince)
    let u1 := eachIn p.2.tks (fun n v => v.onTk n (fun e => { e with ovfSince := false })) u
    let y : Pub := { x with fire := some ((t * p.2.rate + tick1s / 2) / tick1s), ovf := lost }
    { u1 with pub := Tab.put u1.pub p.1 y }) s

/-- The internal targets of a firing (R70). -/
def State.fireTargets (s : State) (m t : Nat) (ctrl : Word) : State :=
  let w := trgWing m
  let s1 := if tst ctrl 24 then s.ringFire m t else s
  let s2 := if tst ctrl 25 then each 16 (fun i u => u.ilkTrigger (16 * w.idx + i)) s1 else s1
  let s3 := if tst ctrl 26 then s2.snapFire w t else s2
  if tst ctrl 27 then (s3.pubFire m t).tkTrigger w else s3

/-- A trigger reaches its next fire instant (R63): its pin rises, its internal targets are signalled, its group's event is raised;
a single shot, and a trigger that has fired COUNT times, fires no more. -/
def State.triggerFire (s : State) (m : Nat) : State :=
  let x := s.trg m
  let t := s.fireAt m x.k
  let ctrl := s.rd (trgCtrl m)
  if !x.armed || s.wingT (trgWing m) < t then s
  else
    let n := (s.rd (Reg.TRG_COUNT (trgWing m) (m % 8))).toNat
    let more := tst ctrl 30 && (n == 0 || decide (x.fired + 1 < n))
    let y : Trg := { x with
      k := x.k + 1, fired := x.fired + 1, armed := more
      pulseEnd := if tst ctrl 29 then some (s.clk.ns + s.trgWidth m) else x.pulseEnd }
    let s1 := s.setTrg m y
    let s2 := if tst ctrl 28 then s1.fireTargets m t ctrl else s1
    if tst ctrl 23 then s2.raiseAt (419 + m / 4) m (wingCode (trgWing m)) else s2

/-- The pulse ends: the pin falls (R63). -/
def State.triggerPulseEnd (s : State) (m : Nat) : State :=
  let x := s.trg m
  match x.pulseEnd with
  | some e => if s.clk.ns < e then s else s.setTrg m { x with pulseEnd := none }
  | none => s

/-- Level of a TRG pin. -/
def State.trgPin (s : State) (m : Nat) : Bool := (s.trg m).pulseEnd.isSome

/-! Published streams (R91-R94) -/

/-- Published stream p of the manifest. -/
def State.pubCfg (s : State) (p : Nat) : Option PubCfg := (s.man.pubs.find? (fun x => x.1 == p)).map (fun x => x.2)

/-- The running state of a published stream. -/
def State.pubSt (s : State) (p : Nat) : Pub := Tab.get Pub.zero s.pub p
def State.setPub (s : State) (p : Nat) (x : Pub) : State := { s with pub := Tab.put s.pub p x }

/-- A word of ring entry `i`: 256 bytes an entry in the host bank (R92). -/
def State.pubWord (s : State) (c : PubCfg) (i j : Nat) : Word :=
  bytesWord (bytesAt s.host.bank (c.ring + 256 * (i % 16) + 4 * j) 4)

/-- The key of a ring entry, as S x rate + k: seconds in word 1, smpCnt in word 0 (R92). -/
def State.pubKey (s : State) (c : PubCfg) (i : Nat) : Nat :=
  (s.pubWord c i 1).toNat * c.rate + fld (s.pubWord c i 0) 0 17

/-- PUB_WR advances to `to_`: the entries it passes count as written now (R93). -/
def State.pubAdvance (s : State) (p to_ : Nat) : State :=
  let wr := s.rf (Reg.PUB_WR p) 0 4
  let x := s.pubSt p
  let n := (to_ % 16 + 16 - wr) % 16
  let wrote := (List.range n).foldl (fun (w : Tab Nat) j => Tab.put w ((wr + j) % 16) s.devT) x.wrote
  (s.setPub p { x with wrote := wrote }).wf (Reg.PUB_WR p) 0 4 to_

/-- A write of PUB_WR (R92, R95): with P_CFG, on a stream of source HOST; discarded on any other. -/
def State.pubWrAdvance (s : State) (fn p : Nat) (val : Word) : State :=
  match s.pubCfg p with
  | some c => if s.ownerCfg fn && c.host then s.pubAdvance p (fld val 0 4) else s
  | none => s

/-- Sample instant `n` = S x rate + k, in 2^-16 ns, truncated to 1/16 ns as in R63 (R93). -/
def pubInstant (rate n : Nat) : Nat := n * tick1s / rate / 4096 * 4096

/-- The last ASDU of the latest frame that is due at T: frames take NOASDU instants each, counted from instant 0 (R93). -/
def pubLatest (c : PubCfg) (t : Nat) : Option Nat :=
  let d := c.delayUs * 1000 * 65536
  let n := (t - d) * c.rate / tick1s + 1
  let due (j : Nat) : Bool := decide (pubInstant c.rate j + d ≤ t)
  let last (j : Nat) : Nat := (j + 1) / c.noAsdu * c.noAsdu
  if t < d then none
  else
    let m := if due n then last n else if due (n - 1) then last (n - 1) else last (n - 2)
    if m = 0 then none else some (m - 1)

/-- Skip the entries older than the instant being built (R93). The fuel covers the ring. -/
def State.pubSkip (s : State) (p : Nat) (c : PubCfg) (key : Nat) : Nat → State
  | 0 => s
  | n + 1 =>
    let rd := s.rf (Reg.PUB_RD p) 0 4
    if rd = s.rf (Reg.PUB_WR p) 0 4 ∨ key % (2 ^ 32 * c.rate) ≤ s.pubKey c rd then s
    else ((s.wf (Reg.PUB_RD p) 0 4 (rd + 1)).cnt (Reg.PUB_CNT_STALE p) 0 32 1).pubSkip p c key n

/-- The channels of a ring entry; in TEST and TEST-BLOCKED each q gets the test bit (R92, R94). -/
def State.pubChans (s : State) (c : PubCfg) (i : Nat) : List (Word × Word) :=
  (List.range c.nch).map (fun j =>
    (s.pubWord c i (2 + 2 * j), s.pubWord c i (3 + 2 * j) ||| BitVec.ofNat 32 (if s.inTest then 2 ^ 11 else 0)))

/-- Take the ring entries of the instants given, oldest first: the ASDUs, and whether each was there in time (R93). An entry that matches
an instant of a frame that is not sent is taken all the same and counts as no skip (log entry 148). -/
def State.pubTake (s : State) (p : Nat) (c : PubCfg) (limit : Nat) : List Nat → State × List (Nat × List (Word × Word)) × Bool
  | [] => (s, [], true)
  | key :: t =>
    let s1 := s.pubSkip p c key 16
    let rd := s1.rf (Reg.PUB_RD p) 0 4
    let here := decide (rd ≠ s1.rf (Reg.PUB_WR p) 0 4) && s1.pubKey c rd == key % (2 ^ 32 * c.rate)
    let inTime := decide (Tab.get 0 (s1.pubSt p).wrote rd ≤ limit)
    let s2 := if here then s1.wf (Reg.PUB_RD p) 0 4 (rd + 1) else s1
    let (s3, l, ok) := s2.pubTake p c limit t
    (s3, (fld (s1.pubWord c rd 0) 0 17, s1.pubChans c rd) :: l, here && inTime && ok)

/-- The content of a published frame (R91, R94): smpSynch of the device, smpCnt, values and qualities of the ring entries; the
simulation bit is never set. -/
def pubContent (c : PubCfg) (f : PubFrame) : SvFrame :=
  { dmac := c.dmac, appid := c.appid, vid := some c.vid, red := none, ber := true, noAsdu := c.noAsdu
    asdus := f.asdus.map (fun a => ⟨c.svid, a.1, c.confRev, f.synch, some c.rate, a.2⟩), auth := none, sim := false }

/-- The context of an engine that signs under the key of a slot (R302, R429). -/
def State.signCtx (s : State) (n slot : Nat) : Option Nat := (List.range 16).find? (fun x => (s.copCtx n x).slot == some slot)

/-- A published frame whose stream has a key slot gets its extension: the tag under the engine's context for the key, its counter the
low 64 bits of the vector; at LIMIT, or with no such context, the frame is not sent and counts (R91, R302, R429). -/
def State.pubSign (s : State) (p : Nat) (c : PubCfg) (v : SvFrame) : Option SvFrame × State :=
  match c.keySlot with
  | none => (some v, s)
  | some k =>
    let drop (t : State) : State := { t with trip.exhDrop := Tab.put t.trip.exhDrop (64 + p) (Tab.get 0 t.trip.exhDrop (64 + p) + 1) }
    match s.signCtx c.engine k with
    | none => (none, (drop s).raiseAt 526 c.engine (wingCode (engWing c.engine)))
    | some x =>
      let t := s.ctxUse c.engine x
      if State.ctxExhausted (s.copCtx c.engine x) then (none, drop t)
      else
        let iv : BitVec 96 := (s.copCtx c.engine x).ctr.setWidth 96
        (some { v with auth := some ⟨some k, iv, gcmTag (Machine.keyNum (s.copCtx c.engine x).key) iv (svWords v)⟩ }, t)

/-- Hand a published frame to the switch for its port, or for both ports of its pair (R91, R93). -/
def State.pubSend (s : State) (c : PubCfg) (v : SvFrame) : State :=
  let ports := match s.pairOf c.port with
    | some (k, _) => s.pairPorts k
    | none => [c.port]
  let f : Frame :=
    { dst := c.dmac, src := c.smac, vlan := some (c.pcp, c.vid), etype := 0x88BA, len := c.len, red := .none, fcsBad := false
      oddOctet := false, codeBad := false, queue := none, fn := none, direct := none, stamp := none, pay := [], cls := (0, 0)
      ts := 0, msec := none, sv := some v }
  s.sendTo (40 + c.engine / 4) c.vid f none ports

/-- At an instant plus PUB_DELAY, the frame whose last ASDU is that instant is built and sent, if every one of its ASDUs was
written 5 us before; otherwise the underrun counts and the engine raises its publication event (R93, R94). -/
def State.pubFrameSend (s : State) (p : Nat) : State :=
  match s.pubCfg p with
  | none => s
  | some c =>
    match pubLatest c s.devT with
    | none => s
    | some n =>
      let x := s.pubSt p
      if s.peState c.engine ≠ 2 || (match x.built with
        | some b => decide (n ≤ b)
        | none => false) then s
      else
        let s0 := s.setPub p { x with built := some n }
        let keys := (List.range c.noAsdu).map (fun j => n + 1 - c.noAsdu + j)
        let (s1, l, ok) := s0.pubTake p c (pubInstant c.rate n + (c.delayUs - 5) * 1000 * 65536) keys
        if ok then
          let f : PubFrame := ⟨s1.rf Reg.TIME_STATUS 25 2, l⟩
          let (v, s2) := (s1.setPub p { s1.pubSt p with last := some f }).pubSign p c (pubContent c f)
          match v with
          | some x => (s2.roll (Reg.PUB_CNT_SENT p) 1).pubSend c x
          | none => s2
        else (s1.cnt (Reg.PUB_CNT_UNDERRUN p) 0 32 1).persCause c.engine (BitVec.ofNat 16 p) 1

/-! Thicket publication DMA (R384) -/

/-- Write 32-bit words into the host bank at a byte offset. -/
def State.hostWords (s : State) (off : Nat) (ws : List Word) : State :=
  eachIn ((List.range ws.length).zip ws) (fun x u =>
    let (i, v) := x
    (u.hostPut (off / 2 + 2 * i) (v.setWidth 16)).hostPut (off / 2 + 2 * i + 1) ((v >>> (16 : Nat)).setWidth 16)) s

/-- Every engine the stream lists has pushed its words. -/
def State.pubPushed (s : State) (c : PubCfg) : Bool := c.tks.all (fun n => decide (c.tks.count n ≤ (s.tke n).rx.length))

/-- Pop the channels' words in channel order. -/
def State.pubPop (s : State) (bad : List Nat) : List Nat → List Word × State
  | [] => ([], s)
  | n :: t =>
    let v := ((s.tke n).rx).headD 0
    let q : Word := if bad.contains n || (s.tke n).ovfSince then 1 else 0
    let (l, s1) := (s.onTk n (fun e => { e with rx := e.rx.drop 1 })).pubPop bad t
    (v :: q :: l, s1)

/-- THICKET_PUB_DMA (R384): the entry of the last firing is written with the key of the firing, once every listed engine has
pushed its words, and PUB_WR advances (R92). -/
def State.thicketPubDma (s : State) (p : Nat) : State :=
  match s.pubCfg p, (s.pubSt p).fire with
  | some c, some key =>
    if c.host || !s.pubPushed c then s
    else
      let x := s.pubSt p
      let wr := s.rf (Reg.PUB_WR p) 0 4
      let (l, s1) := (s.setPub p { x with fire := none, ovf := [] }).pubPop x.ovf c.tks
      let ws : List Word := BitVec.ofNat 32 (key % c.rate) :: BitVec.ofNat 32 (key / c.rate) :: l
      (s1.hostWords (c.ring + 256 * wr) ws).pubAdvance p (wr + 1)
  | _, _ => s

/-! The meanings of the rows -/

/-- TRIGGER_ARM (R64): A write of TRGn_CTRL.EN arms a trigger, marking MISSED if START is too close. -/
def execTriggerArm (fn m : Nat) (val : BitVec 32) (s : State) : Out :=
  checked (triggerArmOk fn m) s (s.triggerArm fn m val)

/-- TRIGGER_FIRE (R63): A trigger reaches a fire instant and drives its pin and internal targets. -/
def execTriggerFire (m : Nat) (s : State) : Out :=
  live (triggerFireOk m) s (s.triggerFire m)

/-- TRIGGER_PULSE_END (R63): A trigger pulse ends after TRGn_WIDTH. -/
def execTriggerPulseEnd (m : Nat) (s : State) : Out :=
  live (triggerPulseEndOk m) s (s.triggerPulseEnd m)

/-- PUB_WR_ADVANCE (R92): The host advances PUB_WR of a source-HOST published stream after writing a ring entry. -/
def execPubWrAdvance (fn p : Nat) (val : BitVec 32) (s : State) : Out :=
  checked (pubWrAdvanceOk fn p) s (s.pubWrAdvance fn p val)

/-- PUB_FRAME_SEND (R93): At sample instant plus PUB_DELAY a published frame is built and sent, or counted as an underrun. -/
def execPubFrameSend (p : Nat) (s : State) : Out :=
  live (pubFrameSendOk p) s (s.pubFrameSend p)

/-- THICKET_PUB_DMA (R384): Once every listed Thicket engine has pushed its words the Thicket DMA writes the publication ring entry. -/
def execThicketPubDma (p : Nat) (s : State) : Out :=
  live (thicketPubDmaOk p) s (s.thicketPubDma p)

end Sys2Proof.Machine
end

