-- ==== Sys2Proof/Machine/Sec.lean ====
section
/-! DEFINITION. The security block: Boxwood slots, fuses, random numbers and debug (16_security.md). -/

namespace Sys2Proof.Machine

/-! Fuses (R422, R423) -/

/-- Bits of a fuse field, in the order of R422's table; HOST_BIFUR with its lock (log entry 29). -/
def fuseBits (f : Nat) : Nat := [384, 384, 384, 384, 4, 64, 64, 64, 3, 2, 64, 256].getD f 0

/-- Blown bits of a field now. -/
def State.blown (s : State) (f : Nat) : List Nat := Tab.get [] s.sec.fuse f

/-- Blow bits of a field; a blown bit stays blown (R422). -/
def State.blow (s : State) (f : Nat) (l : List Nat) : State :=
  { s with sec.fuse := Tab.put s.sec.fuse f (s.blown f ++ (l.filter (fun b => !(s.blown f).contains b)).eraseDups) }

/-- Fuses take effect at a power-on reset (R423). -/
def State.latchFuses (s : State) : State := { s with sec.fuseLatched := s.sec.fuse }

/-- A fuse counter: the number of blown bits (R422). Counters 0 FW, 1 MAN, 2 PKG. -/
def State.svnFuse (s : State) (c : Nat) : Nat := (s.blown (5 + c)).length

/-- HOST_BIFUR as it took effect: 0-3 (R392). -/
def State.bifur (s : State) : Nat := s.fuseNum 8 % 4

/-- DEBUG_LEVEL (R431). -/
def State.debugLevel (s : State) : Nat := s.fuseNum 9 % 4

/-- Fuses may be programmed: MAINTENANCE, with VIO18 in its operating range (R423). -/
def State.fuseState (s : State) : Bool := s.dev.st == .maintenance && !s.rb Reg.SYS_PWR 9

/-! The security messages (R426) -/

/-- A security request's sender: a secure channel, whose function holds P_SEC (R426). -/
def State.secSender (s : State) (ch : Nat) : Bool := decide (256 ≤ ch) && s.chanPriv ch 3

/-- Carry out a security request of this TYPE, or answer NO_PRIV. -/
def State.secRequest (s : State) (ch ty : Nat) (go : State → State) : State :=
  s.request ch ty (fun t => if t.secSender ch then go t else t.reply ch [1])

/-- The images in force whose kind a counter serves, as `Sec.svn` numbers them (R422). -/
def svnKeys (c : Nat) : List Nat :=
  match c with
  | 0 => [0, 1]
  | 1 => [2, 3]
  | _ => [4, 5] ++ (List.range 32).map (fun n => 8 + n)

/-- The SVN of the active image of a counter's kind: the lowest, where several are in force (R423, log entry 185). -/
def State.activeSvn (s : State) (c : Nat) : Nat := ((svnKeys c).filterMap (Tab.find s.sec.svn)).min?.getD 0

/-- SVN_COMMIT (R423): the counter advances to the SVN of the active image, and never beyond. -/
def State.svnCommit (s : State) (ch : Nat) (w0 : Word) : State :=
  s.secRequest ch 0x43 (fun t =>
    let c := fld (msgWord (t.msg ch (wordBytes w0)) 0) 0 2
    if c = 3 then t.reply ch [3]
    else if !t.fuseState then t.reply ch [8]
    else
      let free := (List.range 64).filter (fun b => !(t.blown (5 + c)).contains b)
      ((t.blow (5 + c) (free.take (t.activeSvn c - t.svnFuse c))).raise 529).reply ch [0])

/-- The bits that some octets name: bit b is bit b mod 8 of octet b / 8 (log entry 29). -/
def bitsOf (l : List Octet) : List Nat := (List.range (8 * l.length)).filter (fun b => (l.getD (b / 8) 0).getLsbD (b % 8))

/-- FUSE_PROG (R423): blow bits and read them back; `stuck` names one that reads back unblown after both retries. -/
def State.fuseProg (s : State) (ch field : Nat) (bits : List Octet) (stuck : Option Nat) : State :=
  s.secRequest ch 0x44 (fun t =>
    let m := t.msg ch (wordBytes (BitVec.ofNat 32 field) ++ bits)
    let field := (msgWord m 0).toNat
    let bits := bitsOf (m.drop 4)
    if 12 ≤ field || (5 ≤ field && field < 8) || bits.any (fun b => decide (fuseBits field ≤ b)) then t.reply ch [3]
    else if !t.fuseState then t.reply ch [8]
    else if field = 8 && (t.blown 8).contains 2 then t.reply ch [6]
    else
      let l := if field = 8 then bits ++ [2] else bits
      let bad := l.filter (fun b => stuck == some b && !(t.blown field).contains b)
      let t1 := t.blow field (l.filter (fun b => !bad.contains b))
      if bad.isEmpty then (t1.raise 529).reply ch [0] else t1.reply ch [7])

/-! Boxwood (R424-R426) -/

/-- A transmit SA that is set up names a slot (R426). -/
def State.txSaUses (s : State) (k : Nat) : Bool :=
  (List.range 8).any (fun u => (List.range 4).any (fun a =>
    (List.range 8).any (fun i => s.rd (Reg.MSEC_TXSA u a i) != 0) && s.rf (Reg.MSEC_TXSA u a 0) 0 8 == k))

/-- A receive SA that is set up names a slot. -/
def State.rxSaUses (s : State) (k : Nat) : Bool :=
  (List.range 8).any (fun u => (List.range 16).any (fun c =>
    (s.rxSc u c 0 != 0 || s.rxSc u c 1 != 0) && (List.range 4).any (fun a =>
      (List.range 3).any (fun i => s.rxSc u c (3 + 3 * a + i) != 0) && fld (s.rxSc u c (3 + 3 * a)) 0 8 == k)))

/-- A stream entry with authentication names a slot (R77, R80). -/
def State.streamUses (s : State) (k : Nat) : Bool :=
  (List.range 512).any (fun n => [Wing.east, Wing.west].any (fun w =>
    tst (s.strW w n 0) 28 && tst (s.strW w n 0) 29 && fld (s.strW w n 4) 24 8 == k))

/-- An engine context is bound to a slot (R302). -/
def State.ctxUses (s : State) (k : Nat) : Bool :=
  s.eng.any (fun e => e.2.ctx.any (fun c => c.2.slot == some k && !c.2.denied))

/-- IN_USE of a slot: an SA, a stream entry, a ring or an engine context refers to it (R426). -/
def State.slotInUse (s : State) (k : Nat) : Bool :=
  s.ctxUses k || s.man.ringKey.any (fun p => p.2 == k) || s.txSaUses k || s.rxSaUses k || s.streamUses k

/-- Octets of a key of a TYPE (R424): AES-128, AES-256, and a 32-octet key for HMAC-SHA-256. -/
def keyOctets (typ : Nat) : Nat := if typ = 1 then 16 else 32

/-- SEC_SLOT of a slot (R432): an empty slot shows zero, but for IN_USE. -/
def State.slotWord (s : State) (k : Nat) : Word :=
  let u := bitOf (s.slotInUse k) * 2 ^ 30
  match Tab.find s.sec.box k with
  | some b => BitVec.ofNat 32 (2 ^ 31 + u + bitOf b.persist * 2 ^ 29 + b.typ * 2 ^ 24 + b.usage * 2 ^ 16)
  | none => BitVec.ofNat 32 u

/-- A trip publication whose key stood in a slot takes the new key: its counter starts again (R429). -/
def State.newPubKey (s : State) (k : Nat) : State :=
  let mine (g : Nat) : Bool := s.man.tripPubs.any (fun p => p.1 == g && p.2.keySlot == some k)
  let s1 := { s with trip.pub := s.trip.pub.map (fun (p : Nat × TripPub) => if mine p.1 then (p.1, { p.2 with ctr := 0, exh := false }) else p) }
  s1.setAlarm 25 (s1.trip.pub.any (fun p => p.2.exh))

/-- The key that an install gives: the payload's, or what an AES key of USAGE WRAP unwraps from it (R426). -/
def State.installKey (s : State) (w0 w1 : Word) (payload : List Octet) : Option (List Octet) :=
  let n := keyOctets (fld w0 8 4)
  if !tst w0 17 then some (payload.take n)
  else match Tab.find s.sec.box (fld w1 0 8) with
  | some k => if s.aesKey (fld w1 0 8) useWrap then unwrapKey k.key (payload.take (n + 8)) else none
  | none => none

/-- Store a key in a slot: sealed into MRAM with PERSIST, its key epoch 0 (R308, R425, R426). -/
def State.storeKey (s : State) (k : Nat) (b : Key) : State :=
  let s1 := { s with
    sec.box := Tab.put s.sec.box k b
    mram.sealed_ := if b.persist then Tab.put s.mram.sealed_ k b else Tab.del s.mram.sealed_ k
    mram.sealBad := s.mram.sealBad.filter (fun j => j != k)
    mram.epoch := Tab.put s.mram.epoch k 0, mram.epochBad := s.mram.epochBad.filter (fun j => j != k) }
  (s1.newPubKey k).raiseAt 521 k 0

/-- KEY_INSTALL (R426). -/
def State.keyInstall (s : State) (ch : Nat) (slot : Octet) (attr : BitVec 24) (w1 : Word) (key : List Octet) : State :=
  s.secRequest ch 0x40 (fun t =>
    let m := t.msg ch (wordBytes (attr ++ slot) ++ wordBytes w1 ++ key)
    let w0 := msgWord m 0
    let w1 := msgWord m 1
    let payload := m.drop 8
    let k := fld w0 0 8
    let typ := fld w0 8 4
    let use := fld w0 12 3
    if 248 ≤ k then t.reply ch [2]
    else if typ = 0 || 3 < typ || 4 < use then t.reply ch [3]
    else if payload.length < keyOctets typ + 8 * bitOf (tst w0 17) then t.reply ch [0xFE]
    else if t.slotInUse k then t.reply ch [4]
    else match t.installKey w0 w1 payload with
    | none => t.reply ch [5]
    | some key => (t.storeKey k ⟨key, typ, use, tst w0 16⟩).reply ch [0])

/-- Clear a slot; the references to it are unbound: contexts act as with a denied key, other uses find the slot empty (R426). -/
def State.clearSlot (s : State) (k : Nat) : State :=
  let s1 := { s with
    sec.box := Tab.del s.sec.box k, mram.sealed_ := Tab.del s.mram.sealed_ k, mram.sealBad := s.mram.sealBad.filter (fun j => j != k)
    eng := s.eng.map (fun (e : Nat × Engine) => (e.1, { e.2 with ctx := e.2.ctx.map (fun (c : Nat × CopCtx) =>
      if c.2.slot = some k then (c.1, { c.2 with denied := true }) else c) })) }
  s1.raiseAt 521 k 0

/-- KEY_ERASE (R426). -/
def State.keyErase (s : State) (ch : Nat) (w0 : Word) : State :=
  s.secRequest ch 0x41 (fun t =>
    let w0 := msgWord (t.msg ch (wordBytes w0)) 0
    let k := fld w0 0 8
    if 248 ≤ k then t.reply ch [2]
    else if t.slotInUse k && !tst w0 31 then t.reply ch [4]
    else if (Tab.find t.sec.box k).isNone && (Tab.find t.mram.sealed_ k).isNone then t.reply ch [0]
    else (t.clearSlot k).reply ch [0])

/-- KEY_INFO (R426): the attributes as SEC_SLOT shows them, then the key check value (log entry 30). -/
def State.keyInfo (s : State) (ch : Nat) (w0 : Word) : State :=
  s.secRequest ch 0x42 (fun t =>
    let k := fld (msgWord (t.msg ch (wordBytes w0)) 0) 0 8
    if 248 ≤ k then t.reply ch [2]
    else
      let kcv := match Tab.find t.sec.box k with
        | some b => Config.keyCheck b.key
        | none => 0
      t.reply ch [0, t.slotWord k, kcv])

/-! MACsec's transmit SA (R428, R433) -/

/-- A write of MSEC_TX_CTRL (R428, R432, R433): with P_SEC. TX_AN is looked at when a frame begins. -/
def State.txAnWrite (s : State) (fn u : Nat) (val : Word) : State :=
  if s.ownerIn fn && s.hasPriv fn 3 then
    s.wr (Reg.MSEC_TX_CTRL u) (BitVec.ofNat 32 (fld val 25 7 * 2 ^ 25 + fld val 0 2))
  else s

/-! Random numbers, the TAP and debug (R430, R431, R502) -/

/-- TRNG_HEALTH_FAIL (R430). -/
def State.trngHealthFail (s : State) : State := ({ s with sec.trngOk := false }.raise 527).setAlarm 26 true

/-- TRNG_RECOVER (R430): after 1,024 consecutive healthy samples and a reseed. -/
def State.trngRecover (s : State) (healthy : Nat) : State :=
  if s.sec.trngOk || healthy < 1024 then s else { s with sec.trngOk := true, sec.drbg := s.sec.drbg + 1 }.setAlarm 26 false

/-- The next state of the TAP controller at a rising edge of TCK (R502, IEEE 1149.1). -/
def TapState.next (st : TapState) (tms : Bool) : TapState :=
  match st with
  | .reset => if tms then .reset else .idle
  | .idle => if tms then .selDr else .idle
  | .selDr => if tms then .selIr else .capDr
  | .capDr => if tms then .ex1Dr else .shDr
  | .shDr => if tms then .ex1Dr else .shDr
  | .ex1Dr => if tms then .updDr else .pauseDr
  | .pauseDr => if tms then .ex2Dr else .pauseDr
  | .ex2Dr => if tms then .updDr else .shDr
  | .updDr => if tms then .selDr else .idle
  | .selIr => if tms then .reset else .capIr
  | .capIr => if tms then .ex1Ir else .shIr
  | .shIr => if tms then .ex1Ir else .shIr
  | .ex1Ir => if tms then .updIr else .pauseIr
  | .pauseIr => if tms then .ex2Ir else .pauseIr
  | .ex2Ir => if tms then .updIr else .shIr
  | .updIr => if tms then .selDr else .idle

/-- The device identification (R502). -/
def tapId : Word := 0x17264C3D#32

/-- The instruction that a code selects: all ones BYPASS, and every other one than IDCODE as well in LOCKED (R431, R502, log
entry 183). -/
def State.tapInst (s : State) (ir : List Bool) : TapInst :=
  if ir.all (fun b => b) then .bypass
  else match Config.tapSelects ir with
  | 0 => .idcode
  | 1 => .bypass
  | k => if 2 ≤ s.debugLevel then .bypass else .other k

/-- What the selected data register captures, bit 0 first. -/
def TapInst.capture (i : TapInst) : List Bool :=
  match i with
  | .idcode => (List.range 32).map (fun b => tst tapId b)
  | .bypass => [false]
  | .other k => Config.tapData k

/-- A shift path takes TDI behind and loses the bit at TDO. -/
def shiftPath (l : List Bool) (tdi : Bool) : List Bool := l.drop 1 ++ [tdi]

/-- A rising edge of TCK, or TRST_N low (R502): the state acts, then changes. -/
def State.tapClock (s : State) (x : TapIn) : State :=
  let t := s.sec.tap
  let t1 := match t.st with
    | .reset => { t with inst := .idcode }
    | .capDr => { t with dr := t.inst.capture }
    | .shDr => { t with dr := shiftPath t.dr x.tdi }
    | .capIr => { t with ir := [true, false] ++ Config.tapIr }
    | .shIr => { t with ir := shiftPath t.ir x.tdi }
    | .updIr => { t with inst := s.tapInst t.ir }
    | _ => t
  let t2 : Tap := if x.trst then { t1 with st := t1.st.next x.tms } else { t1 with st := .reset, inst := .idcode }
  { s with sec.tap := { t2 with trst := x.trst } }

/-- TDO: high impedance but while a register is shifted (R442, R502). -/
def State.tdo (s : State) : Option Bool :=
  match s.sec.tap.st with
  | .shDr => s.sec.tap.dr.head?
  | .shIr => s.sec.tap.ir.head?
  | _ => none

/-- A challenge (R431): a nonce of 32 octets from the DRBG, which gives none after a failed health test (R430). -/
def State.challenge (s : State) : State :=
  if s.debugLevel ≠ 1 || !s.sec.trngOk then s
  else
    let l := (List.range 16).map (fun i => Config.drbgWord (s.sec.drbg + i))
    { s with sec.nonce := some (halvesOctets l), sec.drbg := s.sec.drbg + 16 }

/-- A response to the nonce is accepted (R431): signed over the nonce and DEV_EUI under a key that R420 accepts. -/
def State.responseOk (s : State) (k : Nat) (pub sig : List Octet) : Bool :=
  match s.sec.nonce with
  | some n => s.rootOk k pub && ecdsaOk pub (sha384 (n ++ natOctets 8 s.devEui.toNat)) sig
  | none => false

/-- An unlock in AUTH, in MAINTENANCE or SAFE TALK (R431). A nonce serves one response (log entry 183). -/
def State.unlock (s : State) (k : Nat) (pub sig : List Octet) : State :=
  let s1 := { s with sec.nonce := none }
  if s.debugLevel = 1 && (s.dev.st == .maintenance || s.dev.st == .safeTalk) && s.responseOk k pub sig then
    ({ s1 with sec.unlocked := true }.setAlarm 27 true).raise 528
  else s1

/-- DEBUG_UNLOCK (R431, R502): the edges of TCK that carry a request, then the request; a TAP held in reset carries none. -/
def State.debugUnlock (s : State) (x : Jtag) : State :=
  let s1 := eachIn x.tck (fun e t => t.tapClock e) s
  if !s1.sec.tap.trst then s1
  else match x.req with
  | .none => s1
  | .challenge => s1.challenge
  | .response k pub sig => s1.unlock k pub sig

/-! The meanings of the rows -/

/-- KEY_INSTALL (R426): KEY_INSTALL writes a key into a Boxwood slot, resetting its key epoch. -/
def execKeyInstall (ch : Nat) (slot : BitVec 8) (attr : BitVec 24) (w1 : BitVec 32) (key : List (BitVec 8)) (s : State) : Out :=
  live (keyInstallOk ch) s (s.keyInstall ch slot attr w1 key)

/-- KEY_ERASE (R426): KEY_ERASE clears a slot, unbinding references when FORCE = 1. -/
def execKeyErase (ch : Nat) (w0 : BitVec 32) (s : State) : Out :=
  live (keyEraseOk ch) s (s.keyErase ch w0)

/-- KEY_INFO (R426): KEY_INFO returns a slot's attributes and key check value. -/
def execKeyInfo (ch : Nat) (w0 : BitVec 32) (s : State) : Out :=
  live (keyInfoOk ch) s (s.keyInfo ch w0)

/-- SVN_COMMIT (R423): SVN_COMMIT blows counter bits up to the active image's SVN. -/
def execSvnCommit (ch : Nat) (w0 : BitVec 32) (s : State) : Out :=
  live (svnCommitOk ch) s (s.svnCommit ch w0)

/-- FUSE_PROG (R423): FUSE_PROG blows and verifies fuse bits in MAINTENANCE. -/
def execFuseProg (ch : Nat) (field : Nat) (bits : List (BitVec 8)) (stuck : Option Nat) (s : State) : Out :=
  live (fuseProgOk ch) s (s.fuseProg ch field bits stuck)

/-- TX_AN_WRITE (R428): A write of MSEC_TX_CTRL.TX_AN changes the transmit SA at the next frame boundary. -/
def execTxAnWrite (fn u : Nat) (val : BitVec 32) (s : State) : Out :=
  checked (txAnWriteOk fn u) s (s.txAnWrite fn u val)

/-- TRNG_HEALTH_FAIL (R430): A TRNG health test fails, stopping DRBG output and asserting ALARM_N. -/
def execTrngHealthFail (s : State) : Out :=
  live true s (s.trngHealthFail)

/-- TRNG_RECOVER (R430): After 1,024 healthy samples and a reseed DRBG output resumes. -/
def execTrngRecover (healthy : Nat) (s : State) : Out :=
  live true s (s.trngRecover healthy)

/-- DEBUG_UNLOCK (R431): A signed challenge response over JTAG unlocks debug in AUTH. -/
def execDebugUnlock (x : Jtag) (s : State) : Out :=
  live true s (s.debugUnlock x)

end Sys2Proof.Machine
end

