-- ==== Sys2Proof/Machine/Host.lean ====
section
/-! DEFINITION. The host interface: ports and functions, mailbox channels, the host bank, interrupt messages, DMA pauses and the
resets of a function and of a port (15_host.md). -/

namespace Sys2Proof.Machine

/-! Ports and functions (R392-R394) -/

/-- Number of host ports that HOST_BIFUR gives (R392). -/
def State.ports (s : State) : Nat := s.bifur + 1

/-- The virtual functions of a port, VF 1 first (R394). -/
def State.vfsOf (s : State) (n : Nat) : List Nat :=
  (List.range (s.man.totalVfs.getD n 0)).map (fun k => s.man.vfBase.getD n 0 + k)

/-- Every function of a port (R394). -/
def State.portFns (s : State) (n : Nat) : List Nat := n :: s.vfsOf n

/-- Host functions are enabled: HOST_STATUS.FUNCTIONS_ENABLED (R417). -/
def State.fnsOn (s : State) : Bool := s.rb Reg.HOST_STATUS 31

/-- Enable a function: READY sets (R398). -/
def State.enableFn (s : State) (t : Nat) : State :=
  if s.host.en.contains t then s else ({ s with host.en := s.host.en ++ [t] }).wb (Reg.FN_STAT t) 31 true

/-- Disable a function (R394). -/
def State.disableFn (s : State) (t : Nat) : State :=
  ({ s with host.en := s.host.en.filter (fun x => x != t) }).wb (Reg.FN_STAT t) 31 false

/-- Lanes of a host port (R392). -/
def State.portLanes (s : State) (port : Nat) : Nat :=
  match s.bifur with
  | 0 => 8
  | 1 => 4
  | 2 => if port = 0 then 4 else 2
  | _ => 2

/-- HOST_LINK_UP (R393, R418): training of a port ends, or its width or speed has changed. -/
def State.hostLinkUp (s : State) (port rate width : Nat) : State :=
  let a := Reg.HOST_PORT_STAT port
  let same := s.rb a 31 && s.rf a 28 3 == rate && s.rf a 24 4 == width
  if s.ports ≤ port || !(Tab.get (false, 0) s.host.perst port).1 || s.portLanes port < width || same then s
  else
    let s1 := (((s.wb a 31 true).wf a 28 3 rate).wf a 24 4 width).raiseAt (496 + port) port 0
    if s1.dev.st == .safeTalk then s1.enableFn port else s1

/-- PERST_RELEASE (R393): the port starts training; configuration requests get Configuration Request Retry Status for 50 ms. -/
def State.perstRelease (s : State) (port : Nat) : State :=
  if s.ports ≤ port || (Tab.get (false, 0) s.host.perst port).1 then s
  else { s with host.perst := Tab.put s.host.perst port (true, s.clk.ns) }

/-- A configuration request to a port is completed with Configuration Request Retry Status (R393). -/
def State.cfgRetry (s : State) (port : Nat) : Bool := !s.fnsOn || s.portQuiet port

/-! Mailbox channels (R399-R406) -/

/-- Address of word `i` of a channel: 0-3 the TD slot, 4-7 the FD slot, 8 MB_STAT. A channel without a function page keeps its words
out of the host's reach (R399, R403). -/
def State.mbAt (s : State) (ch i : Nat) : Nat :=
  match s.chanFn ch with
  | some t => fnPage t + 0x1000 + (if ch < 256 then 0 else 0x200) + 4 * i
  | none => Reg.MB_INT (ch - 256) i

/-- MB_STAT of a channel (R400). -/
def State.mbStat (s : State) (ch : Nat) : Nat := s.mbAt ch 8

/-- TD_FULL and FD_FULL (R400). -/
def State.tdFull (s : State) (ch : Nat) : Bool := s.rb (s.mbStat ch) 31
def State.fdFull (s : State) (ch : Nat) : Bool := s.rb (s.mbStat ch) 30

/-- HOST_MB_BIND of a channel: until a manifest is applied, and while no table is locked, MBn of PFn is bound to n and no other channel
to any (R405). -/
def State.bindOf (s : State) (ch : Nat) : Word :=
  if s.dev.manOk || s.rb Reg.HOST_BIND_LOCK 31 then s.rd (Reg.HOST_MB_BIND ch)
  else if ch < s.ports then BitVec.ofNat 32 (2 ^ 31 + ch * 2 ^ 16 + ch)
  else 0

/-- Whether MID_N and MID_A are honoured in a device state (R405). -/
def honours : DevState → Bool × Bool
  | .boot => (false, true)
  | .selfTest => (false, true)
  | .configuring => (false, true)
  | .inService => (true, false)
  | .powerFail => (true, false)
  | .test => (true, true)
  | .testBlocked => (true, true)
  | .maintenance => (true, true)
  | .safeTalk => (true, true)
  | .off => (false, false)
  | .standby => (false, false)

/-- An identity may act on a channel (R405). -/
def State.boundTo (s : State) (mid ch : Nat) : Bool :=
  let b := s.bindOf ch
  tst b 31 && (((honours s.dev.st).1 && fld b 0 9 == mid) || ((honours s.dev.st).2 && fld b 16 9 == mid))

/-- An identity has a path to a channel: a function to those of its own page, the owner to the HOST window, an internal identity to any
(R403, R405, R417). -/
def State.pathTo (s : State) (mid ch : Nat) : Bool :=
  if mid < 256 then s.reach mid && decide (ch < 272) && (mid == 0 || s.chanFn ch == some mid) else true

/-- In SAFE TALK with no verified steward firmware the boot ROM serves MB0-MB3 (R406, R467). -/
def State.romServes (s : State) (ch : Nat) : Bool :=
  s.dev.st == .safeTalk && !s.dev.stew.e && !s.dev.stew.w && decide (ch < 4)

/-- The engine whose SP an internal channel is bound to (R41, R403). -/
def State.chanEng (s : State) (ch : Nat) : Option Nat :=
  let m := fld (s.bindOf ch) 0 9
  if 272 ≤ ch ∧ 256 ≤ m ∧ m < 288 then some (m - 256) else none

/-- The receiver of a TD slot is dead (R406). -/
def State.tdDead (s : State) (ch : Nat) : Bool :=
  if ch < 272 then s.steward.isNone && !s.romServes ch
  else match s.chanEng ch with
    | some n => s.dev.core.at_ (engWing n) || s.peState n == 0
    | none => true

/-- The receiver of an FD slot is dead (R406). -/
def State.fdDead (s : State) (ch : Nat) : Bool :=
  match s.chanFn ch with
  | some t => !s.fnLive t || s.host.d3.contains t
  | none => decide (ch < 272) || s.steward.isNone

/-- An access refused by the binding table (R405). -/
def State.mbDenied (s : State) (ch : Nat) : State := (s.wb (s.mbStat ch) 28 true).raiseAt 507 ((s.chanFn ch).getD 0) 0

/-- A sender's write while the receiver is dead: discarded; reported on the first since DEAD was cleared (R406). -/
def State.mbDead (s : State) (ch : Nat) : State :=
  if s.rb (s.mbStat ch) 29 then s else (s.wb (s.mbStat ch) 29 true).raiseAt 506 ((s.chanFn ch).getD 0) 0

/-- A sender's write of word `i` of a TD slot (R401, R405, R406). -/
def State.tdWrite (s : State) (mid ch : Nat) (go : State → State) : State :=
  if !s.pathTo mid ch then s
  else if !s.boundTo mid ch then s.mbDenied ch
  else if s.tdDead ch then s.mbDead ch
  else if s.tdFull ch then s.wb (s.mbStat ch) 27 true
  else go s

/-- TD_CTL_WRITE (R401): the write commits the slot. -/
def State.tdCtlWrite (s : State) (mid ch : Nat) (val : Word) : State :=
  s.tdWrite mid ch (fun t => (t.wr (t.mbAt ch 3) val).wb (t.mbStat ch) 31 true)

/-- A read of a slot's words by an identity: refused, dead, or the word with its effect (R401, R405, R406). -/
def State.slotRead (s : State) (mid ch lane size : Nat) (dead : Bool) (v : Word) (go : State → State) : State :=
  if !s.pathTo mid ch then (if mid < 256 then s.unreached mid else s.refuseBus .ca)
  else if !s.boundTo mid ch then (s.mbDenied ch).refuseBus .ok
  else if dead then s.refuseBus .ca
  else (go s).answer (laneData v lane size)

/-- FD_PTR_LO_READ (R401): the read takes the message. The bound identity is the slot's receiver, so R406 does not stop its reads. -/
def State.takeFd (s : State) (mid ch lane size : Nat) : State :=
  s.slotRead mid ch lane size false (s.rd (s.mbAt ch 4)) (fun t => t.wb (t.mbStat ch) 30 false)

/-! Requests (R402, R404) -/

/-- The request types, with the words that each needs (R404, R426, R469). -/
def reqWords (ty : Nat) : Option Nat :=
  match ty with
  | 0x01 => some 0
  | 0x10 => some 1
  | 0x11 => some 1
  | 0x20 => some 1
  | 0x21 => some 1
  | 0x22 => some 0
  | 0x23 => some 1
  | 0x24 => some 0
  | 0x25 => some 0
  | 0x30 => some 1
  | 0x40 => some 2
  | 0x41 => some 1
  | 0x42 => some 1
  | 0x43 => some 1
  | 0x44 => some 1
  | _ => none

/-- The boot ROM serves the staging commands only (R467). -/
def romType (ty : Nat) : Bool := decide (0x20 ≤ ty) && decide (ty ≤ 0x25)

/-- Some byte of a range of the host bank lies outside it or in a page without the grant (R396, R401). -/
def State.rangeDenied (s : State) (t dir a n : Nat) : Bool :=
  n != 0 && (decide (0x200000 < a + n) ||
    (List.range 32).any (fun p => decide (a / 65536 ≤ p) && decide (p ≤ (a + n - 1) / 65536) && !s.rb (Reg.FN_HB t dir) p))

/-- A TD message with HB = 1 lies in pages that its sender may not read (R401). -/
def State.badPointer (s : State) (ch len : Nat) : Bool :=
  s.rb (s.mbAt ch 2) 0 && (match s.chanFn ch with
    | some t => decide (s.rd (s.mbAt ch 1) ≠ 0) || s.rangeDenied t 0 (s.rd (s.mbAt ch 0)).toNat len
    | none => false)

/-- Clear TD_FULL; with TAKEN_EN the function's doorbell rings (R402). -/
def State.tdClear (s : State) (ch : Nat) : State :=
  let s1 := s.wb (s.mbStat ch) 31 false
  match s1.chanFn ch with
  | some t => if s1.rb (s1.mbStat ch) 26 then s1.doorbell t else s1
  | none => s1

/-- Dispatch a request that has been taken, or refuse it (R401, R404). A message with HB = 1 is read from the host bank now. -/
def State.dispatchReq (s : State) (ch : Nat) (ctl : Word) : State :=
  let ty := fld ctl 8 8
  let len := fld ctl 16 16
  let body := if s.rb (s.mbAt ch 2) 0 then some (bytesAt s.host.bank (s.rd (s.mbAt ch 0)).toNat len) else none
  let s1 := { s with host.taken := Tab.put s.host.taken ch ⟨BitVec.ofNat 8 ty, ctl.setWidth 8, len, body⟩ }
  match reqWords ty with
  | none => s1.reply ch [0xFF]
  | some n =>
    if s.romServes ch && !romType ty then s1.reply ch [0xFF]
    else if s1.badPointer ch len then s1.reply ch [0xFD]
    else if len < 4 * n - 3 then s1.reply ch [0xFE]
    else s1

/-- TD_TAKE (R402): the steward that holds the role, the boot ROM in its place, or the bound SP takes the message. -/
def State.tdTake (s : State) (ch : Nat) : State :=
  if !s.tdFull ch || s.tdDead ch then s
  else if 272 ≤ ch then s.tdClear ch
  else if !(s.stewardRuns || s.romServes ch) || (Tab.find s.host.taken ch).isSome then s
  else (s.tdClear ch).dispatchReq ch (s.rd (s.mbAt ch 3))

/-- PING (R404). -/
def State.ping (s : State) (ch : Nat) (given : List Octet) : State :=
  s.request ch 1 (fun t =>
    let payload := t.msg ch given
    if 2044 < payload.length then t.reply ch [0xFE]
    else t.replyLen ch (payload.length + 4) (0 :: bytesWords payload))

/-- PTP_TX_SET (R53, R404): the Announce content of a MASTER port (log entry 31). -/
def State.ptpTxSet (s : State) (ch p : Nat) (content : List Word) : State :=
  s.request ch 0x30 (fun t =>
    let m := bytesWords (t.msg ch ((BitVec.ofNat 32 p :: content).flatMap wordBytes))
    let p := (m.headD 0).toNat
    let content := m.drop 1
    if !t.chanPriv ch 2 then t.reply ch [1]
    else if 40 ≤ p || !Config.portMaster (t.rd (Reg.TIME_PORT_STATE p)) then t.reply ch [2]
    else { t with time.announce := Tab.put t.time.announce p content }.reply ch [0])

/-! The FD slot (R401, R402, R406) -/

/-- The message's words go to the reply area and the slot's words point at it (R401). -/
def State.fdFill (s : State) (ch : Nat) (m : Msg) : State :=
  let off := match s.chanFn ch with
    | some t => (s.rd (Reg.FN_MB_RBUF t)).toNat
    | none => 0
  let s1 := { s with host.bank := putBytes s.host.bank off ((m.words.flatMap wordBytes).take m.len) }
  let s2 := each ((m.len + 1) / 2) (fun i t => t.killResv .host (off / 2 + i)) s1
  let s3 := (((s2.wr (s.mbAt ch 4) (BitVec.ofNat 32 off)).wr (s.mbAt ch 5) 0).wr (s.mbAt ch 6) 1).wr (s.mbAt ch 7)
    (BitVec.ofNat 32 (m.len % 65536 * 2 ^ 16 + m.typ.toNat * 2 ^ 8 + m.seq.toNat))
  s3.wb (s.mbStat ch) 30 true

/-- The reply area of a channel's function is free: neither of its channels holds an FD message (R401, log entry 32). -/
def State.replyFree (s : State) (ch : Nat) : Bool :=
  match s.chanFn ch with
  | some t => !s.rb (Reg.MB_STAT t 0) 30 && !s.rb (Reg.MB_STAT t 1) 30
  | none => !s.fdFull ch

/-- FD_POST (R402, R406): the oldest message held for a channel is posted once its slot is free and its receiver lives. -/
def State.fdPost (s : State) (ch : Nat) : State :=
  match Tab.get [] s.host.out ch with
  | m :: q =>
    if !s.replyFree ch || s.fdDead ch || !(s.stewardRuns || s.romServes ch) then s
    else
      let s1 := { s with host.out := if q.isEmpty then Tab.del s.host.out ch else Tab.put s.host.out ch q }.fdFill ch m
      match s1.chanFn ch with
      | some t => s1.doorbell t
      | none => s1
  | [] => s

/-! The host bank through BAR4 (R298, R396) -/

/-- Write one byte of the bank; a reservation on its word ends (R298, R352). -/
def State.bankPut (s : State) (a : Nat) (b : Octet) : State :=
  { s with host.bank := putBytes s.host.bank a [b] }.killResv .host (a / 2)

/-- A BAR4 request met a page without a grant (R396). -/
def State.barDenied (s : State) (fn : Nat) : State := (s.wb (Reg.FN_STAT fn) 29 true).raiseAt 510 fn 0

/-- A byte of the bank lies in a page that the function may read (dir 0) or write (dir 1). -/
def State.pageOk (s : State) (fn dir a : Nat) : Bool := s.rb (Reg.FN_HB fn dir) (a / 65536)

/-- HOST_BANK_ACCESS (R396): grants are checked for each byte. -/
def State.hostBankAccess (s : State) (fn off : Nat) (wr : Bool) (be : List Bool) (data : List Octet) : State :=
  if !s.reach fn then s.unreached fn
  else
    let n := if wr then min be.length data.length else be.length
    let idx := (List.range n).filter (fun i => be.getD i false && decide (off + i < 0x200000))
    let dir := bitOf wr
    let bad := idx.any (fun i => !s.pageOk fn dir (off + i))
    let s1 := if bad then s.barDenied fn else s
    if wr then
      let s2 := eachIn (idx.filter (fun i => s.pageOk fn 1 (off + i))) (fun i t => t.bankPut (off + i) (data.getD i 0)) s1
      { s2 with bus.cpl := .ok }
    else
      { s1 with
        bus.bytes := (List.range n).map (fun i =>
          if s.pageOk fn 0 (off + i) && decide (off + i < 0x200000) then Tab.get 0 s.host.bank (off + i) else 0xFF)
        bus.cpl := .ok }

/-! Interrupt messages (R407-R410) -/

/-- HOLDOFF in ns and COUNT of a function (R410). -/
def State.holdoffNs (s : State) (t : Nat) : Nat := s.rf (Reg.FN_MOD t) 16 16 * 1000
def State.holdCount (s : State) (t : Nat) : Nat := s.rf (Reg.FN_MOD t) 0 8

/-- Post the message of one signalled vector; while it is masked its PBA bit sets instead (R409). -/
def State.vecGo (s : State) (t v : Nat) : State :=
  { s with host.sig := Tab.del s.host.sig (64 * t + v) }.postVec t v

/-- A message of a function has been posted: its holdoff begins (R410). -/
def State.startHoldoff (s : State) (t : Nat) : State :=
  if s.holdoffNs t = 0 then s else { s with host.hold := Tab.put s.host.hold t (s.clk.ns, 0) }

/-- Vectors of a function that wait for their message. -/
def State.waitingVecs (s : State) (t : Nat) : List Nat :=
  (s.host.sig.filter (fun p => p.1 / 64 == t && decide (0 < p.2))).map (fun p => p.1 % 64)

/-- A function has a message ready: a waiting vector, and no holdoff (R410). -/
def State.msgReady (s : State) (t : Nat) : Bool := !(s.waitingVecs t).isEmpty && (Tab.find s.host.hold t).isNone

/-- The function whose turn it is on a port: in ascending TID order after the one served last (R410). -/
def State.turnOf (s : State) (port : Nat) : Option Nat :=
  let l := (List.range 256).filter (fun t => s.fnPort t == port && s.host.en.contains t && s.msgReady t)
  let last := Tab.get 256 s.host.turn port
  match l.find? (fun t => decide (last < t)) with
  | some t => some t
  | none => l.head?

/-- MSIX_POST (R409, R410). -/
def State.msixPost (s : State) (fn vec : Nat) : State :=
  let port := s.fnPort fn
  if s.turnOf port ≠ some fn || !(s.waitingVecs fn).contains vec then s
  else
    let masked := s.vecMasked fn vec
    let s1 := { s with host.turn := Tab.put s.host.turn port fn }.vecGo fn vec
    if masked then s1 else s1.startHoldoff fn

/-- HOLDOFF_END (R410): by time, or by the count of events; every waiting vector then posts one message. -/
def State.holdoffEnd (s : State) (fn : Nat) : State :=
  match Tab.find s.host.hold fn with
  | some (a, n) =>
    if decide (s.clk.ns < a + s.holdoffNs fn) && (s.holdCount fn == 0 || decide (n < s.holdCount fn)) then s
    else
      let l := s.waitingVecs fn
      let posts := l.any (fun v => !s.vecMasked fn v)
      let s1 := eachIn l (fun v t => t.vecGo fn v) { s with host.hold := Tab.del s.host.hold fn }
      if posts then s1.startHoldoff fn else s1
  | none => s

/-- Post the message of a vector whose PBA bit is set, if it is no longer masked (R409). -/
def State.postPending (s : State) (fn v : Nat) : State :=
  let a := Reg.MSIX_PBA fn (v / 32)
  if s.rb a (v % 32) && !s.vecMasked fn v then
    let s1 := (s.wb a (v % 32) false).postVec fn v
    if v = 0 then s1 else s1.startHoldoff fn
  else s

/-- VECTOR_UNMASK (R409): the mask of one vector, or the Function Mask, is cleared. -/
def State.vectorUnmask (s : State) (fn vec : Nat) (all : Bool) : State :=
  if !s.reach fn then s
  else if all then
    each 64 (fun v t => t.postPending fn v) { s with host.fmask := s.host.fmask.filter (fun t => t != fn) }
  else if s.rf (Reg.FN_ID fn) 0 8 ≤ vec then s
  else (s.wb (Reg.MSIX_TABLE fn vec 3) 0 false).postPending fn vec

/-! DMA pauses and faults (R412, R413) -/

/-- PAUSED of a function's subscriptions, while its port's DMA or its own is paused; when delivery resumes, partial blocks are discarded,
complete ones have waited (R123, R413, R416). -/
def State.showSlices (s : State) (t : Nat) : State :=
  let on := s.host.d3.contains t || (Tab.find s.host.pause (s.fnPort t)).isSome
  eachIn ((List.range 128).filter (fun g => s.ownsSlice t g)) (fun g v =>
    let sl := Tab.get Slice.zero v.slice g
    let b := max 1 (fld (v.sliceDesc g 0) 0 9)
    let v1 := v.wb (Reg.SLICE_CFG t g) 29 on
    if v.rb (Reg.SLICE_CFG t g) 29 && !on then
      { v1 with slice := Tab.put v1.slice g { sl with part := sl.part.take (sl.part.length / b * b) } }
    else v1) s

/-- FN_STAT.DMA_PAUSED of every function of a port, and PAUSED of their subscriptions (R123, R413). -/
def State.showPause (s : State) (port : Nat) (on : Bool) : State :=
  let s1 := s.wb (Reg.HOST_PORT_STAT port) 23 on
  eachIn (s.portFns port) (fun t u => if u.host.en.contains t then (u.wb (Reg.FN_STAT t) 30 on).showSlices t else u) s1

/-- DMA_PAUSE_START (R413). -/
def State.dmaPauseStart (s : State) (port : Nat) (linkLoss : Bool) : State :=
  if s.ports ≤ port then s
  else
    match Tab.find s.host.pause port with
    | some (_, l) => if linkLoss && !l then { s with host.pause := Tab.put s.host.pause port (s.clk.ns, true) } else s
    | none => ({ s with host.pause := Tab.put s.host.pause port (s.clk.ns, linkLoss) }.showPause port true).raiseAt 509 port 0

/-- DMA_PAUSE_END (R413). -/
def State.dmaPauseEnd (s : State) (port : Nat) : State :=
  if (Tab.find s.host.pause port).isNone then s
  else ({ s with host.pause := Tab.del s.host.pause port }.showPause port false).raiseAt 509 port 0

/-- The response whose completion met the error is discarded (R248, R412). -/
def State.respLost (s : State) (who : Nat) : State :=
  match s.bridge.resp.find? (fun x => x.who == who) with
  | some x =>
    let s1 := { s with bridge.resp := s.bridge.resp.erase x, bridge.tags := Tab.del s.bridge.tags x.tag }
    let s2 := s1.cnt (Reg.BR_DISCARD who) 0 32 1
    if s1.rd (Reg.BR_DISCARD who) == (0 : Word) then s2.raiseAt 490 who 0 else s2
  | none => s

/-- DMA_FAULT (R412). -/
def State.dmaFault (s : State) (fn : Nat) (kind : DmaKind) : State :=
  if !s.fnLive fn then s
  else
    let s1 := (s.wb (Reg.FN_STAT fn) 28 true).raiseAt 508 fn 0
    match kind with
    | .slice g =>
      let b := fld (s1.sliceDesc g 0) 0 9
      let sl := Tab.get Slice.zero s1.slice g
      if s1.ownsSlice fn g && decide (b ≤ sl.part.length) then s1.dropBlock fn g b (sl.part.drop b) else s1
    | .bridge => s1.respLost fn
    | .mailbox ch => if s1.chanFn ch = some fn then s1.reply ch [0xFD] else s1

/-! Function and port resets (R414-R416) -/

/-- The mailboxes of a function are drained: requests taken and replies held are abandoned, notices stay; an open stage goes
(R406, R414, R469). -/
def State.drainMb (s : State) (t : Nat) : State :=
  let mine (ch : Nat) : Bool := s.chanFn ch == some t
  { s with
    host.taken := s.host.taken.filter (fun p => !mine p.1)
    host.out := (s.host.out.map (fun p => if mine p.1 then (p.1, p.2.filter (fun m => decide (0xF0 ≤ m.typ.toNat))) else p)).filter
      (fun p => !p.2.isEmpty)
    upd.stage := match s.upd.stage with
      | some x => if mine x.1 then none else some x
      | none => none }

/-- The subscriptions of a function stop and their partial blocks go (R121, R414). -/
def State.stopSlices (s : State) (t : Nat) : State :=
  { s with slice := s.slice.filter (fun p => !s.ownsSlice t p.1) }

/-- A function's interrupt state returns to its reset values (R414). -/
def State.clearVecs (s : State) (t : Nat) : State :=
  { s with
    host.sig := s.host.sig.filter (fun p => p.1 / 64 != t)
    host.hold := Tab.del s.host.hold t
    host.fmask := s.host.fmask.filter (fun x => x != t) }

/-- Every F field of a function page at its reset value; DMA_PAUSED and TOLL stay, LAST_RESET records the cause (R398, R414). -/
def State.restorePage (s : State) (t cause : Nat) : State :=
  let st := s.rd (Reg.FN_STAT t)
  let s1 := s.restoreRegs (fun row a => row.page && row.lvl == .f && a / 0x10000 == 0x200 + t)
  s1.wr (Reg.FN_STAT t) (BitVec.ofNat 32 (fld st 30 1 * 2 ^ 30 + cause * 2 ^ 24 + fld st 23 1 * 2 ^ 23))

/-- A function-level reset of tenant t with its cause and the lease's lapse cause; it takes until its completion (R149, R414). -/
def State.flr (s : State) (t cause lapse : Nat) : State :=
  let s1 := (((s.drainMb t).stopSlices t).clearVecs t).bridgeReset t
  let s2 := s1.restorePage t cause
  let s3 := if s2.lease.holder = some t then s2.lapse lapse else s2
  { s3 with
    host.frst := Tab.put s3.host.frst t s.clk.ns
    host.d3 := s3.host.d3.filter (fun x => x != t)
    lease.result := Tab.del s3.lease.result t }

/-- FUNCTION_LEVEL_RESET (R414). -/
def State.functionLevelReset (s : State) (fn : Nat) : State := if s.fnLive fn then s.flr fn 1 3 else s

/-- FUNCTION_RESET_COMPLETE (R414). -/
def State.functionResetComplete (s : State) (fn : Nat) : State :=
  match Tab.find s.host.frst fn with
  | some _ =>
    let s1 := { s with host.frst := Tab.del s.host.frst fn }
    let s2 := if s1.host.en.contains fn then s1.wb (Reg.FN_STAT fn) 31 true else s1
    (s2.wf Reg.HOST_FLR_TID 0 8 fn).raiseAt 504 fn 0
  | none => s

/-- Every function of a port is reset; the port's configuration space with them, so no VF stays; the link retrains (R415). -/
def State.portReset (s : State) (port cause : Nat) : State :=
  let a := Reg.HOST_PORT_STAT port
  let up := s.rb a 31
  let s1 := s.dmaPauseEnd port
  let s2 := eachIn ((s1.portFns port).filter (fun t => s1.host.en.contains t)) (fun t u => u.flr t cause 4) s1
  let s3 := eachIn (s2.vfsOf port) (fun t u => u.disableFn t) s2
  let s4 := (s3.wb a 31 false).wf a 0 8 0
  (if up then s4.raiseAt (496 + port) port 0 else s4).raiseAt (500 + port) port 0

/-- HOST_PORT_RESET (R415): a hot reset, or PERST_N going low. -/
def State.hostPortReset (s : State) (port : Nat) (cause : PortReset) : State :=
  if s.ports ≤ port then s
  else
    match cause with
    | .hot => s.portReset port 2
    | .perst => { s with host.perst := Tab.put s.host.perst port (false, s.clk.ns) }.portReset port 3

/-- LINK_LOSS_TIMEOUT (R413): a link loss of 100 ms becomes a host-port reset. -/
def State.linkLossTimeout (s : State) (port : Nat) : State :=
  match Tab.find s.host.pause port with
  | some (t, true) => if s.clk.ns < t + 100000000 then s else s.portReset port 4
  | _ => s

/-- NUMVFS_WRITE (R416): a value above TotalVFs is discarded, and any in SAFE TALK, which has no VFs (R467); VFs taken away are reset with cause VF removal. -/
def State.numvfsWrite (s : State) (port : Nat) (enable : Bool) (num : Nat) : State :=
  if !s.reach port || s.ports ≤ port || decide (s.man.totalVfs.getD port 0 < num) || s.dev.st == .safeTalk then s
  else
    let want := if enable then (s.vfsOf port).take num else []
    let gone := (s.vfsOf port).filter (fun t => s.host.en.contains t && !want.contains t)
    let fresh := want.filter (fun t => !s.host.en.contains t)
    let s1 := s.wf (Reg.HOST_PORT_STAT port) 0 8 num
    let s2 := eachIn gone (fun t u => (u.flr t 6 3).disableFn t) s1
    let s3 := eachIn fresh (fun t u => u.enableFn t) s2
    if gone.isEmpty && fresh.isEmpty then s3 else s3.raiseAt 505 port 0

/-- D3HOT_ENTRY (R123, R416): the function's DMA pauses, and it is a dead receiver. -/
def State.d3hotEntry (s : State) (fn : Nat) : State :=
  if !s.fnLive fn || s.host.d3.contains fn then s
  else (({ s with host.d3 := fn :: s.host.d3 }).wb (Reg.FN_STAT fn) 27 true).showSlices fn

/-- D0_RETURN (R416). -/
def State.d0Return (s : State) (fn : Nat) (noSoftReset : Bool) : State :=
  if !s.host.d3.contains fn then s
  else
    let s1 := (({ s with host.d3 := s.host.d3.filter (fun x => x != fn) }).wb (Reg.FN_STAT fn) 27 false).showSlices fn
    if noSoftReset then s1 else s1.flr fn 7 3

/-- PCIE_AER_ERROR (R418): `fatal` says that the error is uncorrectable. -/
def State.pcieAerError (s : State) (fn : Nat) (fatal : Bool) : State := s.raiseAt (if fatal then 512 else 511) fn 0

/-! The meanings of the rows -/

/-- HOST_LINK_UP (R393): A host port's link finishes training and HOST_Hn_LINK is raised. -/
def execHostLinkUp (port : Nat) (rate width : Nat) (s : State) : Out :=
  live (hostLinkUpOk port rate width) s (s.hostLinkUp port rate width)

/-- HOST_PORT_RESET (R415): A hot reset, PERST_N assertion or link loss resets every function of the port and retrains. -/
def execHostPortReset (port : Nat) (cause : PortReset) (s : State) : Out :=
  checked (hostPortResetOk port) s (s.hostPortReset port cause)

/-- DMA_PAUSE_START (R413): A width or speed change, retrain or data-link loss pauses the port's DMA. -/
def execDmaPauseStart (port : Nat) (linkLoss : Bool) (s : State) : Out :=
  live (dmaPauseStartOk port) s (s.dmaPauseStart port linkLoss)

/-- DMA_PAUSE_END (R413): The cause of a DMA pause ends and waiting DMA resumes. -/
def execDmaPauseEnd (port : Nat) (s : State) : Out :=
  live (dmaPauseEndOk port) s (s.dmaPauseEnd port)

/-- LINK_LOSS_TIMEOUT (R413): A data-link loss lasts 100 ms and becomes a host-port reset. -/
def execLinkLossTimeout (port : Nat) (s : State) : Out :=
  live (linkLossTimeoutOk port) s (s.linkLossTimeout port)

/-- FUNCTION_LEVEL_RESET (R414): A function-level reset drains mailboxes, retires tags, resets slices, lapses the lease and restores F fields. -/
def execFunctionLevelReset (fn : Nat) (s : State) : Out :=
  checked (functionLevelResetOk fn) s (s.functionLevelReset fn)

/-- NUMVFS_WRITE (R416): A write of VF Enable or NumVFs adds or removes VFs. -/
def execNumvfsWrite (port : Nat) (enable : Bool) (num : Nat) (s : State) : Out :=
  live (numvfsWriteOk port) s (s.numvfsWrite port enable num)

/-- D3HOT_ENTRY (R416): A function enters D3hot, pausing its DMA and making it a dead receiver. -/
def execD3hotEntry (fn : Nat) (s : State) : Out :=
  checked (d3hotEntryOk fn) s (s.d3hotEntry fn)

/-- D0_RETURN (R416): A function returns to D0, with R414 applied when No_Soft_Reset = 0. -/
def execD0Return (fn : Nat) (noSoftReset : Bool) (s : State) : Out :=
  checked (d0ReturnOk fn) s (s.d0Return fn noSoftReset)

/-- HOST_BANK_ACCESS (R396): A BAR4 request reads or writes host-bank bytes, checked per page against grants. -/
def execHostBankAccess (fn off : Nat) (wr : Bool) (be : List Bool) (data : List (BitVec 8)) (s : State) : Out :=
  checked (hostBankAccessOk fn off) s (s.hostBankAccess fn off wr be data)

/-- DMA_FAULT (R412): A DMA completes with UR or CA, losing its data and setting DMA_FAULT. -/
def execDmaFault (fn : Nat) (kind : DmaKind) (s : State) : Out :=
  checked (dmaFaultOk fn) s (s.dmaFault fn kind)

/-- TD_CTL_WRITE (R401): A sender writes TD_CTL, committing the TD slot and setting TD_FULL. -/
def execTdCtlWrite (mid ch : Nat) (val : BitVec 32) (s : State) : Out :=
  live (tdCtlWriteOk mid ch) s (s.tdCtlWrite mid ch val)

/-- TD_TAKE (R402): The steward or bound SP takes a TD message, clearing TD_FULL and dispatching by TYPE. -/
def execTdTake (ch : Nat) (s : State) : Out :=
  live (tdTakeOk ch) s (s.tdTake ch)

/-- FD_POST (R406): A reply or notice is placed in the FD slot once it is free and its receiver live. -/
def execFdPost (ch : Nat) (s : State) : Out :=
  live (fdPostOk ch) s (s.fdPost ch)

/-- PING (R404): A PING request is answered with its payload unchanged. -/
def execPing (ch : Nat) (payload : List (BitVec 8)) (s : State) : Out :=
  live (pingOk ch) s (s.ping ch payload)

/-- PTP_TX_SET (R404): A PTP_TX_SET request sets Announce content for a MASTER port. -/
def execPtpTxSet (ch : Nat) (p : Nat) (content : List (BitVec 32)) (s : State) : Out :=
  live (ptpTxSetOk ch) s (s.ptpTxSet ch p content)

/-- MSIX_POST (R409): A vector with signalled events posts its MSI-X message in its port's turn. -/
def execMsixPost (fn vec : Nat) (s : State) : Out :=
  checked (msixPostOk fn vec) s (s.msixPost fn vec)

/-- HOLDOFF_END (R410): A function's holdoff ends by time or count and waiting vectors post. -/
def execHoldoffEnd (fn : Nat) (s : State) : Out :=
  checked (holdoffEndOk fn) s (s.holdoffEnd fn)

/-- VECTOR_UNMASK (R409): Clearing a vector or function mask posts a pending message. -/
def execVectorUnmask (fn vec : Nat) (all : Bool) (s : State) : Out :=
  checked (vectorUnmaskOk fn vec) s (s.vectorUnmask fn vec all)

/-- FUNCTION_RESET_COMPLETE (R414): A function-level or host-port reset of a function completes within 1 ms, READY sets, HOST_FLR is raised, and the function stops discarding requests. -/
def execFunctionResetComplete (fn : Nat) (s : State) : Out :=
  checked (functionResetCompleteOk fn) s (s.functionResetComplete fn)

/-- PERST_RELEASE (R393): PERST_N[n] rises, the port starts link training within 20 ms and answers configuration requests with Configuration Request Retry Status for 50 ms. -/
def execPerstRelease (port : Nat) (s : State) : Out :=
  checked (perstReleaseOk port) s (s.perstRelease port)

/-- PCIE_AER_ERROR (R418): A PCIe AER correctable or uncorrectable error is logged on a host port, raising HOST_PCIE_CORR or HOST_PCIE_UNCORR. -/
def execPcieAerError (fn : Nat) (fatal : Bool) (s : State) : Out :=
  checked (pcieAerErrorOk fn) s (s.pcieAerError fn fatal)

end Sys2Proof.Machine
end

