-- ==== Sys2Proof/Machine/Power.lean ====
section
/-! DEFINITION. Supplies, resets, device states, the Toll governor, hold-up, STANDBY and wake (17_reset_power.md). -/

namespace Sys2Proof.Machine

/-! Device states (R444) -/

/-- The device changes state; on leaving TEST and TEST-BLOCKED, SIMULATED streams end (R82, R444). -/
def State.turn (s : State) (d : DevState) : State :=
  let s1 := s.toState d
  if s.inTest && !s1.inTest then (s1.endSim .east).endSim .west else s1

/-- The states of R445 and R453: IN-SERVICE, TEST, TEST-BLOCKED, MAINTENANCE. -/
def DevState.serving : DevState → Bool
  | .inService => true
  | .test => true
  | .testBlocked => true
  | .maintenance => true
  | _ => false

/-! Supplies (R435, R436) -/

/-- SUPPLY_WARN (R435); in STANDBY only VAON is monitored. -/
def State.supplyWarn (s : State) (i : Nat) : State :=
  if s.dev.st == .off || (s.dev.st == .standby && i != 0) then s else (s.wb Reg.SYS_PWR i true).raise 540

/-- VAON is absent: no domain is powered, and nothing but MRAM and fuses keeps what it holds (R12). -/
def State.powerOff (s : State) : State :=
  let t := s.restart .power 1
  { t with dev.st := .off, dev.prev := .off, mram := s.mram }

/-- BROWN_OUT (R435, R439): a power-on reset, asserted until the supplies are back in range. Of VAON, supply 0, the device is then in
OFF until its next POWER_ON (R12, log entry 146). -/
def State.brownOut (s : State) (i : Nat) : State :=
  if s.dev.st == .off || (s.dev.st == .standby && i != 0) then s
  else if i = 0 then s.powerOff
  else s.restart .power 2

/-! The boot record (R457, R466) -/

/-- Restore PREV with ROLLED_BACK = 1 and ATTEMPTS = 0 (R466). -/
def State.restorePrev (s : State) : State := s.writeBoot (setFld (setFld s.upd.prev 2 1 1) 0 2 0)

/-- A start begins while TRIAL = 1: ATTEMPTS is judged before any firmware is loaded (R466). -/
def State.trialStart (s : State) : State :=
  let w := s.upd.word2
  if !tst w 3 then s
  else if fld w 0 2 = 2 then (s.writeBoot (setFld (setFld (setFld s.upd.prev 2 1 1) 3 1 0) 0 2 0)).raise 582
  else s.writeBoot (setFld w 0 2 (fld w 0 2 + 1))

/-- An asserted reset is released: the time bases, the arbiter and the inter-wing link start, BOOT runs from its first step with the boot
record of the flash (R34, R43, R457, R463, R506), and ALARM_N shows that there is no deputy (R35, R485, log entry 131). -/
def State.resetEnds (s : State) : State :=
  ({ s with
    dev.rst := false, dev.step := 1, dev.stepAt := s.clk.ns
    arb.since := s.clk.cd2, arb.trainAt := s.clk.ns, arb.trained := false
    arb.linkAt := ⟨s.clk.ns, s.clk.ns⟩ }.readBoot.trialStart).setAlarm 31 (!s.deputyOk)

/-- POWER_ON (R436, R439, R495): the power-on reset, caused by the VAON detector or by an earlier brown-out, is released, and
STEWARD_SEL is sampled. -/
def State.powerOn (s : State) (x : PowerUp) : State :=
  let t := if x.vaon then s.restart .power 1 else s
  if x.vaon || (s.dev.rst && s.rf Reg.SYS_RESET_CAUSE 20 4 == 1) then { t with dev.sel := x.sel }.resetEnds else s

/-- RESET_RELEASE (R438, R440): a system or standby-exit reset is released once its time has passed; a power-on reset is not (R436). -/
def State.resetRelease (s : State) : State :=
  if !s.dev.rst || s.clk.ns < s.dev.rstEnd || s.rf Reg.SYS_RESET_CAUSE 20 4 == 1 then s else s.resetEnds

/-- STATUS3:STATUS0: the state code, and 0xF while a reset is asserted (R442). -/
def State.statusPins (s : State) : Nat := if s.dev.rst then 0xF else s.dev.st.code

/-- XSPI_RESET_N is low for the first 10 us of BOOT (R501). -/
def State.xspiReset (s : State) : Bool := s.dev.st == .boot && !s.dev.rst && decide (s.clk.ns < s.dev.stepAt + 10000)

/-! System resets (R439-R441) -/

/-- A system reset from a source, while MAIN is powered. -/
def State.sysReset (s : State) (cause : Nat) : State := if s.dev.st.awake then s.restart .system cause else s

/-- RESET_PIN (R440): a low pulse below 1 us is ignored, one of 3 us or more taken, one in between left open (log entry 9). -/
def State.resetPin (s : State) (lowNs : Nat) : State :=
  if lowNs < 1000 then s
  else if 3000 ≤ lowNs then s.sysReset 3
  else
    let s1 := s.used 1
    if Config.shortResetTaken s.free then s1.sysReset 3 else s1

/-- DEBUG_RESET (R431, R439): while debug is unlocked, or open. -/
def State.debugReset (s : State) : State := if s.sec.unlocked || s.debugLevel == 0 then s.sysReset 8 else s

/-- STORM_CLEAR (R441): 60 s of CD0 with no system reset. -/
def State.stormClear (s : State) : State :=
  match s.dev.storms with
  | t :: _ => if s.dev.storm && decide (t + 1966080 ≤ s.clk.cd0) then { s with dev.storm := false } else s
  | [] => { s with dev.storm := false }

/-! Core resets (R438, R439) -/

/-- A core reset of the wings named; where one holds the role, the requests it had taken get PEER_RESET (R404). -/
def State.coreNow (s : State) (ws : List Wing) (cause : Nat) : State :=
  let s1 := s.coreReset0 ws cause
  match s.steward with
  | some w => if ws.contains w then s1.peerReset else s1
  | none => s1

/-- STEWARD_WATCHDOG (R439). -/
def State.stewardWatchdog (s : State) (w : Wing) : State :=
  if s.dev.stew.at_ w then s.coreNow [w] (4 + w.idx) else s

/-! STANDBY (R448) -/

/-- The device enters STANDBY: host functions, links and stewards go, PWR_REQ is driven low (R437, R448). -/
def State.enterStandby (s : State) : State :=
  let s1 := s.turn .standby
  let s2 := each 4 (fun n t => t.wb (Reg.HOST_PORT_STAT n) 31 false) s1
  { s2.wb Reg.HOST_STATUS 31 false with
    dev.stopping := false, dev.pwrReq := false, dev.stew := ⟨false, false⟩
    host.en := [], host.frst := [], host.d3 := [] }

/-- Every ring has stopped: a commanded STANDBY is entered (R448). -/
def State.standbyDone (s : State) : State :=
  if s.dev.stopping && (List.range 4).all (fun r => s.ringState r == 0) then s.enterStandby else s

/-- CARAVAN_DEPART (R185); the last caravan of a ring that stops for STANDBY lets the device enter it (R448). -/
def State.caravanDepart (s : State) (r : Nat) : State := (s.cqDepart r).standbyDone

/-- Steps 1-3 of R448: trip pins and publications stop, every running ring sends FAIL_NOW in three caravans. -/
def State.beginStandby (s : State) : State :=
  let s1 := { s with dev.stopping := true }.tripOutputs
  let s2 := each 4 (fun r t => if t.ringState r = 0 then t else t.setRg r { t.rg r with failNow := 3 }) s1
  s2.standbyDone

/-! SYS_CMD (R453) -/

/-- SYS_CMD_RESULT. -/
def State.sysResult (s : State) (v : Nat) : State := s.wf Reg.SYS_CMD_RESULT 0 3 v

/-- The state that SET_MODE's ARG names (R453). -/
def modeOf (arg : Nat) : Option DevState :=
  match arg with
  | 6 => some .inService
  | 7 => some .test
  | 8 => some .testBlocked
  | 9 => some .maintenance
  | _ => none

/-- The wings that CORE_RESET's ARG names (R453). -/
def wingsOf (arg : Nat) : Option (List Wing) :=
  match arg with
  | 1 => some [.east]
  | 2 => some [.west]
  | 3 => some [.east, .west]
  | _ => none

/-- The action of a SYS_CMD whose key and privilege are right: ARG, then state (R453). -/
def State.sysOp (s : State) (op arg : Nat) : State :=
  match op with
  | 1 => (match modeOf arg with
    | some d => if s.dev.st.serving && !s.dev.stopping then (s.turn d).sysResult 0 else s.sysResult 2
    | none => s.sysResult 4)
  | 2 => (match wingsOf arg with
    | some ws => (s.coreNow ws 6).sysResult 0
    | none => s.sysResult 4)
  | 3 => (s.sysResult 0).sysReset 6
  | 4 => if (s.dev.st.serving || s.dev.st == .safeTalk) && !s.dev.stopping then (s.sysResult 0).beginStandby else s.sysResult 2
  | _ => s.sysResult 4

/-- A write of SYS_CMD by the owner: checks in the order key, privilege, ARG, state (R453). -/
def State.sysCmd (s : State) (fn : Nat) (val : Word) : State :=
  if !s.reach fn || fn ≠ 0 then s
  else
    let op := fld val 28 4
    let arg := fld val 0 4
    if fld val 16 12 ≠ 0xA5C then s.sysResult 3
    else if !s.pCfg fn || (op == 1 && arg == 9 && !s.hasPriv fn 4) then s.sysResult 1
    else s.sysOp op arg

/-- SET_MODE, CORE_RESET, SYSTEM_RESET, STANDBY: each is a write of SYS_CMD whose OP is the row's (R453). -/
def State.setMode (s : State) (fn : Nat) (val : Word) : State := s.sysCmd fn (setFld val 28 4 1)
def State.coreReset (s : State) (fn : Nat) (val : Word) : State := s.sysCmd fn (setFld val 28 4 2)
def State.systemReset (s : State) (fn : Nat) (val : Word) : State := s.sysCmd fn (setFld val 28 4 3)
def State.standby (s : State) (fn : Nat) (val : Word) : State := s.sysCmd fn (setFld val 28 4 4)

/-! Wake (R449) -/

/-- The CD1 cycle of the present moment, of 62.5 ns (R13, log entry 181). -/
def State.cd1Cyc (s : State) : Nat := 2 * s.clk.ns / 125

/-- The device still watches its wake sources: it is in STANDBY, or the source acts in the CD1 cycle of the wake (R449). -/
def State.wakeWatch (s : State) : Bool := s.dev.st == .standby || (s.dev.rst && s.dev.wakeCyc == some s.cd1Cyc)

/-- Armed sources fire in STANDBY: they are recorded, PWR_REQ goes high, and a standby-exit reset follows; sources that act in the same
CD1 cycle are recorded with them (R449). -/
def State.wakeUp (s : State) (bits : Word) : State :=
  let w := bits &&& s.rd Reg.SYS_WAKE_CFG &&& 0x003FFFFF#32
  if !s.wakeWatch || w == 0 then s
  else if s.dev.st == .standby then
    { ({ s with dev.pwrReq := true }.wr Reg.SYS_WAKE_CAUSE w).restart .standbyExit 0x0A with dev.wakeCyc := some s.cd1Cyc }
  else s.wr Reg.SYS_WAKE_CAUSE (s.rd Reg.SYS_WAKE_CAUSE ||| w)

/-- STANDBY_WAKE (R449): lanes, PERST_N and WAKE_N; a CAN channel and the RTC have rows of their own. -/
def State.standbyWake (s : State) (bits : Word) : State := s.wakeUp (bits &&& 0x001FFF00#32)

/-- A CAN channel wakes the device: Tv of its validity begins (R377, R449). -/
def State.canWakes (s : State) (x : Nat) : State :=
  if s.rb Reg.SYS_WAKE_CFG x then (s.onCan x (fun c => { c with wakeAt := some s.clk.cd0 })).wakeUp (BitVec.ofNat 32 (2 ^ x)) else s

/-- CAN_WAKE_MATCH (R376). -/
def State.canWakeMatch (s : State) (x : Nat) (f : CanFrame) (crcOk : Bool) : State :=
  if s.wakeWatch && s.wakeFrame x f crcOk then s.canWakes x else s

/-- CAN_WAKE_PIN (R376). -/
def State.canWakePin (s : State) (x : Nat) : State := if s.wakeWatch && s.wakeEdge x then s.canWakes x else s

/-- RTC_ALARM (R449, R455): the seconds have reached RTC_ALARM. -/
def State.rtcAlarm (s : State) : State :=
  if s.clk.rtc.setWidth 32 ≠ s.rd Reg.RTC_ALARM then s
  else if s.wakeWatch then s.wakeUp 0x00200000#32
  else s.raise 547

/-! Throttle steps (R445) -/

/-- A step as TOLL_STAT and TOLL_LOG number it: a wall step of West is held as 19. -/
def tollNo (st : Nat) : Nat := st % 16

/-- The wing whose section the next wall step degrades: by the order of R124, East at a tie. -/
def State.tollWing (s : State) : Option Wing :=
  match s.degNext .east, s.degNext .west with
  | some a, some b => some (if s.degRank .west b < s.degRank .east a then .west else .east)
  | some _, none => some .east
  | none, some _ => some .west
  | none, none => none

/-- The next step in the order of the table, if one is left; step 3 repeats while a section can be degraded (R445). -/
def State.tollNext (s : State) : Option Nat :=
  let has (n : Nat) : Bool := s.toll.steps.contains n
  if !has 1 then some 1
  else if !has 2 then some 2
  else if has 4 then [5, 6, 7, 8].find? (fun n => !has n)
  else match s.tollWing with
    | some .east => some 3
    | some .west => some 19
    | none => some 4

/-- FN_STAT.TOLL of every function while step 6 or 7 is in force (R398). -/
def State.showToll (s : State) : State :=
  let on := s.toll.steps.contains 6 || s.toll.steps.contains 7
  each 256 (fun t u => if s.host.en.contains t then u.wb (Reg.FN_STAT t) 23 on else u) s

/-- An entry of TOLL_LOG, and the event (R445, R452). -/
def State.tollLog (s : State) (taken : Bool) (st : Nat) : State :=
  let ms := s.nowNs / 1000000
  let s1 := s.wr (Reg.TOLL_LOG (s.toll.logIdx % 16))
    (BitVec.ofNat 32 (bitOf taken * 2 ^ 31 + tollNo st * 2 ^ 24 + ms % 2 ^ 24))
  { s1 with toll.logIdx := (s1.toll.logIdx + 1) % 16 }.raise 541

/-- Take a step (R445). -/
def State.takeStep (s : State) (st : Nat) : State :=
  let s1 := if st = 3 then s.degradeStep .east else if st = 19 then s.degradeStep .west else s
  ({ s1 with toll.steps := st :: s1.toll.steps }.showToll).tollLog true st

/-- Release the most recent step in force (R445). -/
def State.dropStep (s : State) : State :=
  match s.toll.steps with
  | st :: q =>
    let s1 := if st = 3 then s.restoreStep .east else if st = 19 then s.restoreStep .west else s
    ({ s1 with toll.steps := q }.showToll).tollLog false st
  | [] => s

/-- Take every step that is left: at most 48 wall steps and seven others (R124, R446, R481). -/
def State.takeAll (s : State) : State :=
  times (fun t => match t.tollNext with
    | some st => t.takeStep st
    | none => t) 64 s

/-- Means of the power samples over 1 ms and 100 ms, in mW (R445). -/
def State.mean1 (s : State) : Nat := (s.toll.samp.take 10).sum / max 1 (s.toll.samp.take 10).length
def State.mean100 (s : State) : Nat := s.toll.samp.sum / max 1 s.toll.samp.length

/-- CAP and HYST in mW (R452). -/
def State.tollCap (s : State) : Nat := s.rf Reg.TOLL_CFG 22 10 * 100
def State.tollHyst (s : State) : Nat := s.rf Reg.TOLL_CFG 16 6 * 100

/-- TOLL_MEASURE (R445): TOLL_POWER is the 1 ms mean; how long power has stayed over CAP with every step in force is noted, and
CAP_UNMET ends with it. -/
def State.tollMeasure (s : State) (mw : Nat) : State :=
  if !s.dev.st.serving then s
  else
    let s1 := { s with toll.samp := (mw :: s.toll.samp).take 1000 }
    let high := decide (s1.tollCap < s1.mean1)
    let s2 := (s1.wr Reg.TOLL_POWER (BitVec.ofNat 32 s1.mean1))
    let s3 := { s2 with toll.fullAt := if high && s2.tollNext.isNone then some (s2.toll.fullAt.getD s.clk.ns) else none }
    if high then s3 else s3.wb Reg.TOLL_STAT 31 false

/-- TOLL_THROTTLE_STEP (R445). -/
def State.tollThrottleStep (s : State) : State :=
  if !s.dev.st.serving || s.mean1 ≤ s.tollCap || s.clk.ns < s.toll.lastTake + 1000000 then s
  else match s.tollNext with
    | some st => { s with toll.lastTake := s.clk.ns }.takeStep st
    | none => s

/-- TOLL_RELEASE_STEP (R445): while no temperature holds the steps in force (R481). -/
def State.tollReleaseStep (s : State) : State :=
  if !s.dev.st.serving || s.toll.forced || s.tollCap - s.tollHyst ≤ s.mean100 || s.clk.ns < s.toll.lastRel + 100000000 then s
  else { s with toll.lastRel := s.clk.ns }.dropStep

/-- TOLL_CAP_UNMET (R445). -/
def State.tollCapUnmet (s : State) : State :=
  match s.toll.fullAt with
  | some t =>
    if s.clk.ns < t + 100000000 || s.rb Reg.TOLL_STAT 31 then s else (s.wb Reg.TOLL_STAT 31 true).raise 542
  | none => s

/-! Hold-up (R446) -/

/-- E in microjoules, from a VHOLD_SENSE reading in microvolts, which saturates at 1.20 V (R446, R495). -/
def State.holdE (s : State) (uv : Nat) : Nat :=
  let p (i : Nat) : Nat := (s.rd (Reg.TOLL_HOLDUP i)).toNat
  let v := min uv 1200000 * p 3 / 1000
  let m := p 1 * 1000
  p 0 * (v * v - m * m) * p 2 / (2 * 10 ^ 15)

/-- Cost of a task in microjoules; task 1 by the slowest running ring (R446). -/
def State.taskCost (s : State) (k : Nat) : Nat :=
  match k with
  | 1 =>
    let tc := (List.range 4).foldl (fun m r => if s.ringState r = 0 then m else max m (s.cqNum r / s.cqDen r)) 0
    20 * 3 * tc / 1000 + 1000
  | 2 => 3000
  | 3 => 40000
  | _ => 20000

/-- E_RES in microjoules (R446). -/
def eRes : Nat := 10000

/-- A sample: TOLL_ENERGY in 0.1 mJ (R452). -/
def State.sampleE (s : State) (uv : Nat) : State := s.wr Reg.TOLL_ENERGY (BitVec.ofNat 32 (s.holdE uv / 100))

/-- What a task does (R446): three dying caravans a ring; the dying-gasp publications; the MRAM records; idle transmitters. -/
def State.runTask (s : State) (k : Nat) : State :=
  match k with
  | 1 => each 4 (fun r t => if t.ringState r = 0 then t else t.setRg r { t.rg r with dying := 3 }) s
  | 2 => eachIn s.man.tripPubs (fun p t => match p.2.dying with
    | some m =>
      let x := (Tab.get TripPub.zero t.trip.pub p.1).mem ||| BitVec.ofNat 8 (2 ^ m)
      if x = (Tab.get TripPub.zero t.trip.pub p.1).mem then t else t.changePub p.1 p.2 x
    | none => t) s
  | 3 => { s with mram.stateRec := (s.dev.st, some s.dev.prev) }
  | _ => s

/-- The POWER-FAIL record follows what has been done and skipped (R446, R450). -/
def State.pfRecord (s : State) : State := { s with mram.pf := some (s.toll.done, s.toll.skipped) }

/-- Run task k if E less E_RES covers its cost; otherwise it and every later task is skipped (R446). -/
def State.tryTask (s : State) (k uv : Nat) : State :=
  if 4 < k then { s with toll.task := 5 }
  else if s.taskCost k + eRes ≤ s.holdE uv then { s with toll.task := k }.runTask k
  else { s with toll.task := 5, toll.skipped := BitVec.ofNat 4 (16 - 2 ^ (k - 1)) }.pfRecord

/-- HOLDUP_SAMPLE (R446): in service it shows whether E covers every task; in POWER-FAIL the first task is decided on it. -/
def State.holdupSample (s : State) (uv : Nat) : State :=
  if s.dev.st == .powerFail then
    let s1 := s.sampleE uv
    if s1.toll.task = 0 then s1.tryTask 1 uv else s1
  else if s.dev.st.serving then
    let s1 := s.sampleE uv
    let low := decide (s.holdE uv < s.taskCost 1 + s.taskCost 2 + s.taskCost 3 + s.taskCost 4 + eRes)
    let s2 := s1.wb Reg.TOLL_STAT 30 low
    s2.raiseIf (low && !s.rb Reg.TOLL_STAT 30) 543
  else s

/-- HOLDUP_TASK_END (R446, R447): the task counts as done; the reset of a power return comes before the next task. -/
def State.holdupTaskEnd (s : State) (uv : Nat) : State :=
  let k := s.toll.task
  if s.dev.st != .powerFail || k = 0 || 4 < k then s
  else
    let s1 := { s with toll.done := s.toll.done ||| BitVec.ofNat 4 (2 ^ (k - 1)) }.pfRecord.sampleE uv
    if s1.toll.backAt.isSome then s1.sysReset 9 else s1.tryTask (k + 1) uv

/-- VIN_OK_LOW (R436, R444, R446): in BOOT the wait for VIN_OK starts again; from SELF-TEST on, 2 us lead to POWER-FAIL with every
throttle step applied. -/
def State.vinOkLow (s : State) (lowNs : Nat) : State :=
  match s.dev.st with
  | .off => s
  | .standby => s
  | .powerFail => { s with dev.vinOk := false }
  | .boot => { s with dev.vinOk := false }
  | _ =>
    if lowNs < 2000 then s
    else
      let s1 := { s with
        dev.vinOk := false, dev.stopping := false, toll.task := 0, toll.done := 0, toll.skipped := 0
        toll.backAt := none, toll.forced := true }
      (s1.turn .powerFail).takeAll

/-- POWER_RETURN (R447): the task in progress is finished first. -/
def State.powerReturn (s : State) : State :=
  if s.dev.st != .powerFail then s
  else
    let s1 := { s with dev.vinOk := true }
    if 1 ≤ s.toll.task && s.toll.task ≤ 4 then { s1 with toll.backAt := some s.clk.ns } else s1.sysReset 9

/-! Retained memory (R450) -/

/-- MRAM_USER_WRITE (R450): bytes of the user area, with P_CFG; bytes elsewhere are discarded. -/
def State.mramUserWrite (s : State) (fn off : Nat) (data : List Octet) : State :=
  if !s.reach fn || fn != 0 || !s.pCfg fn then s
  else
    let idx := (List.range data.length).filter (fun i => decide (0x8000 ≤ off + i) && decide (off + i < 0x10000))
    eachIn idx (fun i t => { t with mram.mem := putBytes t.mram.mem (off + i) [data.getD i 0] }) s

/-! The meanings of the rows -/

/-- CARAVAN_DEPART (R185): At a cycle instant the ring generator sends one caravan on each channel of the ring. -/
def execCaravanDepart (r : Nat) (s : State) : Out :=
  live (caravanDepartOk r) s (s.caravanDepart r)

/-- CAN_WAKE_MATCH (R376): In STANDBY a wake decoder matches a frame and wakes the device. -/
def execCanWakeMatch (x : Nat) (f : CanFrame) (crcOk : Bool) (s : State) : Out :=
  checked (canWakeMatchOk x) s (s.canWakeMatch x f crcOk)

/-- CAN_WAKE_PIN (R376): A falling edge on CANx_WAKE_N with PIN_EN wakes the device. -/
def execCanWakePin (x : Nat) (s : State) : Out :=
  checked (canWakePinOk x) s (s.canWakePin x)

/-- SUPPLY_WARN (R435): A supply leaves its operating range above brown-out and SYS_SUPPLY_WARN is raised. -/
def execSupplyWarn (ix : Nat) (s : State) : Out :=
  checked (supplyWarnOk ix) s (s.supplyWarn ix)

/-- BROWN_OUT (R435): A supply falls below its brown-out threshold for 1 µs, causing a power-on reset. -/
def execBrownOut (ix : Nat) (s : State) : Out :=
  checked (brownOutOk ix) s (s.brownOut ix)

/-- POWER_ON (R436): The power-on reset is released 2 ms after every supply is in range and the device enters BOOT. -/
def execPowerOn (x : PowerUp) (s : State) : Out :=
  checked true s (s.powerOn x)

/-- RESET_PIN (R440): A qualifying low pulse on RESET_N causes a system reset. -/
def execResetPin (lowNs : Nat) (s : State) : Out :=
  checked true s (s.resetPin lowNs)

/-- STEWARD_WATCHDOG (R439): A steward watchdog expires and causes a core reset of its wing. -/
def execStewardWatchdog (w : Wing) (s : State) : Out :=
  live true s (s.stewardWatchdog w)

/-- DEBUG_RESET (R439): A debug reset request while debug is unlocked causes a system reset. -/
def execDebugReset (s : State) : Out :=
  checked true s (s.debugReset)

/-- STORM_CLEAR (R441): 60 s pass with no system reset and the storm condition clears. -/
def execStormClear (s : State) : Out :=
  checked true s (s.stormClear)

/-- SET_MODE (R453): SYS_CMD SET_MODE moves the device between IN-SERVICE, TEST, TEST-BLOCKED and MAINTENANCE. -/
def execSetMode (fn : Nat) (val : BitVec 32) (s : State) : Out :=
  checked (setModeOk fn) s (s.setMode fn val)

/-- CORE_RESET (R453): SYS_CMD CORE_RESET resets the steward and clusters of the wings named. -/
def execCoreReset (fn : Nat) (val : BitVec 32) (s : State) : Out :=
  checked (coreResetOk fn) s (s.coreReset fn val)

/-- SYSTEM_RESET (R453): SYS_CMD SYSTEM_RESET performs a system reset. -/
def execSystemReset (fn : Nat) (val : BitVec 32) (s : State) : Out :=
  checked (systemResetOk fn) s (s.systemReset fn val)

/-- STANDBY (R448): SYS_CMD STANDBY releases outputs, sends FAIL_NOW, arms wake sources and drives PWR_REQ low. -/
def execStandby (fn : Nat) (val : BitVec 32) (s : State) : Out :=
  checked (standbyOk fn) s (s.standby fn val)

/-- STANDBY_WAKE (R449): An armed wake source fires, PWR_REQ goes high and a standby-exit reset follows. -/
def execStandbyWake (bits : BitVec 32) (s : State) : Out :=
  checked true s (s.standbyWake bits)

/-- RTC_ALARM (R449): The RTC reaches RTC_ALARM, waking from STANDBY or raising SYS_RTC_ALARM. -/
def execRtcAlarm (s : State) : Out :=
  checked true s (s.rtcAlarm)

/-- VIN_OK_LOW (R444): VIN_OK is low for 2 µs and the device enters POWER-FAIL with every throttle step applied. -/
def execVinOkLow (lowNs : Nat) (s : State) : Out :=
  checked true s (s.vinOkLow lowNs)

/-- HOLDUP_TASK_END (R446): A hold-up task finishes and the next is run or skipped after a fresh energy sample. -/
def execHoldupTaskEnd (uv : Nat) (s : State) : Out :=
  checked true s (s.holdupTaskEnd uv)

/-- POWER_RETURN (R447): VIN_OK stays high 10 ms in POWER-FAIL and a system reset follows. -/
def execPowerReturn (s : State) : Out :=
  checked true s (s.powerReturn)

/-- TOLL_MEASURE (R445): Every 100 µs the Toll governor measures device power. -/
def execTollMeasure (mw : Nat) (s : State) : Out :=
  checked true s (s.tollMeasure mw)

/-- TOLL_THROTTLE_STEP (R445): Each 1 ms over CAP the governor takes the next throttle step. -/
def execTollThrottleStep (s : State) : Out :=
  checked true s (s.tollThrottleStep)

/-- TOLL_RELEASE_STEP (R445): Each 100 ms below CAP − HYST the governor releases the latest step. -/
def execTollReleaseStep (s : State) : Out :=
  checked true s (s.tollReleaseStep)

/-- TOLL_CAP_UNMET (R445): All steps are in force and power stays over CAP for 100 ms. -/
def execTollCapUnmet (s : State) : Out :=
  checked true s (s.tollCapUnmet)

/-- HOLDUP_SAMPLE (R446): The governor samples VHOLD_SENSE, computes E and sets HOLDUP_LOW if short. -/
def execHoldupSample (uv : Nat) (s : State) : Out :=
  checked true s (s.holdupSample uv)

/-- MRAM_USER_WRITE (R450): A host write to the MRAM window is stored in the user area or discarded elsewhere. -/
def execMramUserWrite (fn off : Nat) (data : List (BitVec 8)) (s : State) : Out :=
  checked (mramUserWriteOk fn off) s (s.mramUserWrite fn off data)

/-- RESET_RELEASE (R440): A system or standby-exit reset is released, 10 µs after RESET_N rises or the source ends, or 2 ms after the supplies are back in range after a wake, and the device enters BOOT. -/
def execResetRelease (s : State) : Out :=
  checked true s (s.resetRelease)

end Sys2Proof.Machine
end

