-- ==== Sys2Proof/Machine/Rules.lean ====
section
/-! DEFINITION. The rules that the chapters lay on a manifest (R459), each read from the state that the manifest's registers and
values would give. -/

namespace Sys2Proof.Machine

/-- No number occurs twice. -/
def allDiff : List Nat → Bool
  | [] => true
  | x :: l => !l.contains x && allDiff l

/-- A number lies in a range, ends included. -/
def within (x a b : Nat) : Bool := decide (a ≤ x) && decide (x ≤ b)

/-- The wings. -/
def wings : List Wing := [.east, .west]

/-! Streams (R72, R76, R77) -/

/-- Valid entries of a wing's stream table. -/
def State.strUsed (s : State) (w : Wing) : List Nat := (List.range 512).filter (fun i => tst (s.strW w i 0) 31)

/-- The words of an entry less SECTION and COL_BASE, which twins may differ in (R72). -/
def State.twinWords (s : State) (w : Wing) (i : Nat) : List Word :=
  (List.range 32).map (fun j =>
    if j = 0 then setFld (s.strW w i 0) 22 3 0 else if j = 6 then setFld (s.strW w i 6) 0 14 0 else s.strW w i j)

/-- The key that no two entries of a wing share: DMAC, APPID, VID, VLAN_REQ (R77). -/
def State.strKey (s : State) (w : Wing) (i : Nat) : Nat :=
  (s.strW w i 2).toNat * 2 ^ 48 + fld (s.strW w i 3) 16 16 * 2 ^ 32 + fld (s.strW w i 3) 0 12 * 2 ^ 20
    + fld (s.strW w i 0) 0 16 * 2 + fld (s.strW w i 0) 28 1

/-- Every twin entry has its twin in the other wing, and a stream that has an entry in each wing is a twin: a local one shares its key
with no entry of the other wing (R72). -/
def State.twinsOk (s : State) : Bool :=
  wings.all (fun w =>
    let mine := (s.strUsed w).filter (fun i => tst (s.strW w i 0) 30)
    let locals := (s.strUsed w).filter (fun i => !tst (s.strW w i 0) 30)
    (mine.isEmpty || (let others := (s.strUsed w.other).map (s.twinWords w.other)
      mine.all (fun i => others.contains (s.twinWords w i))))
      && (locals.isEmpty || (let keys := (s.strUsed w.other).map (s.strKey w.other)
        locals.all (fun i => !keys.contains (s.strKey w i)))))

/-- Channels per ASDU of an entry (R77). -/
def State.strChans (s : State) (w : Wing) (i : Nat) : Nat := fld (s.strW w i 4) 11 5

/-- The longest frame that an entry admits (R76). -/
def State.strLongest (s : State) (w : Wing) (i : Nat) : Nat :=
  min 1528 (47 + 48 * fld (s.strW w i 0) 29 1
    + s.strAsdus w i * (172 + fld (s.strW w i 4) 16 8 + 8 * s.strChans w i))

/-- Frames a second of an entry in units of 1/840: 840 is a multiple of every NOASDU. An entry whose stream arrives on a PRP or HSR
pair counts double (R76, log entry 34). -/
def State.strFrames (s : State) (w : Wing) (i : Nat) : Nat :=
  (if s.man.pairStreams.contains (512 * w.idx + i) then 2 else 1) * (rateHz (fld (s.strW w i 0) 25 3) * 840 / s.strAsdus w i)

/-- Declared load and declared forward load of a wing, in units of 1/840 frame/s and bit/s (R76). -/
def State.declLoad (s : State) (w : Wing) : Nat := ((s.strUsed w).map (s.strFrames w)).sum
def State.declForward (s : State) (w : Wing) : Nat :=
  ((s.strUsed w.other).map (fun i => s.strFrames w.other i * (s.strLongest w.other i + 24) * 8)).sum

/-- The stream tables keep R72, R76 and R77. -/
def State.streamsOk (s : State) : Bool :=
  s.twinsOk && wings.all (fun w =>
    let l := s.strUsed w
    decide (s.declLoad w ≤ 16000000 * 840) && decide (s.declForward w ≤ 20000000000 * 840)
      && l.all (fun i => decide (fld (s.strW w i 0) 25 3 ≤ 4) && within (fld (s.strW w i 4) 16 8) 1 64
        && within (s.strAsdus w i) 1 8 && within (s.strChans w i) 1 24 && decide (1 ≤ fld (s.strW w i 4) 8 3))
      && allDiff (l.map (s.strKey w)))

/-! The wall (R104, R114, R118, R124) -/

/-- Valid sections of a wing, source ones and derived ones (R127). -/
def State.sectUsed (s : State) (w : Wing) : List Nat := (List.range 8).filter (fun n => s.sectF w n 31 1 == 1)
def State.isDerived (s : State) (w : Wing) (n : Nat) : Bool := s.sectF w n 30 1 == 1

/-- Dr_max of a section in us, 8 ms where the manifest sets no ceiling; of a derived one, that of its source (R104). -/
def State.drMaxOf (s : State) (w : Wing) (n : Nat) : Nat :=
  let d := s.rf (Reg.WALL_SECT_CFG2 w (if s.isDerived w n then s.sectF w n 22 3 else n)) 16 13
  if d = 0 then 8000 else d

/-- A release deadline that a source section can have: 250 us to Dr_max (R105). -/
def State.drOk (s : State) (w : Wing) (n d : Nat) : Bool :=
  s.sectF w n 31 1 == 1 && !s.isDerived w n && within d 250 (s.drMaxOf w n)

/-- Rows in a time of some us, rounded up. -/
def rowsIn (us rate : Nat) : Nat := (us * rate + 999999) / 1000000

/-- Bytes of a row of some columns (R104). -/
def rowStride (cols : Nat) : Nat := (32 + 8 * cols + 63) / 64 * 64

/-- Column ranges that the streams of a section take. -/
def State.colRanges (s : State) (w : Wing) (n : Nat) : List (Nat × Nat) :=
  ((s.strUsed w).filter (fun i => fld (s.strW w i 0) 22 3 == n)).map (fun i => (fld (s.strW w i 6) 0 14, s.strChans w i))

/-- No two ranges share a column, and all end within a limit. -/
def rangesOk (lim : Nat) : List (Nat × Nat) → Bool
  | [] => true
  | (a, n) :: t =>
    decide (a + n ≤ lim) && t.all (fun p => !(decide (a < p.1 + p.2) && decide (p.1 < a + n))) && rangesOk lim t

/-- Declared write load of a wing in cells/s (R104). -/
def State.writeLoad (s : State) (w : Wing) : Nat :=
  ((s.strUsed w).map (fun i => s.strChans w i * rateHz (fld (s.strW w i 0) 25 3))).sum
    + (((s.sectUsed w).filter (s.isDerived w)).map (fun n => s.cols w n * s.sectRate w n)).sum

/-- A derived section resamples a supported pair, with its source's columns (R114). -/
def State.derivedOk (s : State) (w : Wing) (n : Nat) : Bool :=
  let src := s.sectF w n 22 3
  (s.sectUsed w).contains src && !s.isDerived w src && s.cols w n == s.cols w src
    && [(14400, 4800), (12800, 4800), (96000, 4800), (4800, 4000), (12800, 4000), (14400, 4000), (96000, 4000)].contains
      (s.sectRate w src, s.sectRate w n)

/-- A slice descriptor names columns of its section once each, an entry of at most 1 MiB and an owner with P_REC (R118). -/
def State.sliceOk (s : State) (g : Nat) : Bool :=
  let d (i : Nat) : Word := s.sliceDesc g i
  let l := ((List.range 8).map (fun j => (fld (d (j + 1)) 14 14, fld (d (j + 1)) 0 14))).filter (fun p => p.2 != 0)
  !tst (d 0) 31
    || (rangesOk (s.cols (sliceWing g) (fld (d 0) 24 3)) l && decide ((d 10).toNat ≤ 1048576)
      && within (fld (d 0) 0 9) 1 256 && (d 9).toNat == (l.map (fun p => p.2)).sum && within (d 9).toNat 1 12288
      && (d 10).toNat == 64 + fld (d 0) 0 9 * rowStride (d 9).toNat
      && s.man.tenants.any (fun x => x.tid == fld (d 0) 16 8 && tst x.priv 5))

/-- The walls keep R103, R104, R114, R118 and R124. -/
def State.wallOk (s : State) : Bool :=
  wings.all (fun w =>
    let l := s.sectUsed w
    let srcs := l.filter (fun n => !s.isDerived w n)
    l.all (fun n => within (s.cols w n) 1 12288 && decide (s.sectF w n 25 3 ≤ 4) && decide (s.drMaxOf w n ≤ 8000)
        && rangesOk (s.cols w n) (s.colRanges w n))
      && (s.strUsed w).all (fun i => let n := fld (s.strW w i 0) 22 3
        srcs.contains n && rateHz (fld (s.strW w i 0) 25 3) == s.sectRate w n)
      && decide ((srcs.map (s.cols w)).sum ≤ 12288)
      && decide (s.writeLoad w ≤ 180000000)
      && l.all (fun n => decide (rowsIn (s.drMaxOf w n + 8000) (s.sectRate w n) ≤ s.rf (Reg.WALL_SECT_CFG1 w n) 0 19))
      && decide ((l.map (fun n => s.rf (Reg.WALL_SECT_CFG1 w n) 0 19 * rowStride (s.cols w n))).sum ≤ 25165824)
      && decide ((srcs.map (fun n => rowsIn (s.drMaxOf w n + 1000) (s.sectRate w n) + 1)).sum ≤ 2048)
      && (l.filter (s.isDerived w)).all (s.derivedOk w)
      && l.all (fun n => s.sectF w n 28 1 == 0
        || (s.sectF w n 19 1 == 0 && !l.any (fun m => s.isDerived w m && s.sectF w m 22 3 == n))))
    && (List.range 128).all s.sliceOk

/-! Hedge (R131, R137, R152) -/

/-- An element's configuration keeps R137. -/
def State.elemOk (s : State) (w : Wing) (e : Nat) : Bool :=
  let c (i : Nat) : Word := s.elCfg w e i
  let bf := s.elType w e == 9
  !tst (c 0) 31
    || (decide (1 ≤ s.elType w e) && decide (s.elType w e ≤ 9)
      && (!tst (c 0) 30 || (setFld (c 0) 16 8 0 == setFld (s.elCfg w.other e 0) 16 8 0
        && [1, 2, 3].all (fun i => c i == s.elCfg w.other e i)
        && (match s.elGroup w e with
          | some g => ([g.a, g.b, g.c] ++ g.n.toList).all (s.twinChan w)
          | none => true)))
      && (!(s.elType w e == 7 || s.elType w e == 8) || (match s.elGroup w e with
        | some g => s.chVolt w g.a
        | none => false))
      && (if bf then c 3 &&& (c 1 ||| c 2) == 0 else fld (c 0) 12 4 == 0 && c 2 == 0 && c 3 == 0)
      && (tst (c 0) 30 || (c 1 ||| c 2) &&& s.rd Reg.HEDGE_VOTE_CFG == 0))

/-- A group keeps R132: three phase channels of one KIND in one section, and a neutral channel of that section if it has one. -/
def State.groupOk (s : State) (w : Wing) (g : Group) : Bool :=
  ([g.a, g.b, g.c] ++ g.n.toList).all (fun c => decide (c < 1024) && s.chOn w c && s.chSect w c == s.chSect w g.a)
    && s.chVolt w g.b == s.chVolt w g.a && s.chVolt w g.c == s.chVolt w g.a

/-- The Hedge units keep R131, R132, R135, R137, R138, R148 and R152. -/
def State.hedgeOk (s : State) : Bool :=
  (s.rf Reg.HEDGE_LEASE_CFG 0 6 == 0 || within (s.rf Reg.HEDGE_LEASE_CFG 0 6) 2 50) && wings.all (fun w =>
    (s.groupsOf w).all (fun p => decide (p.1 < 256) && s.groupOk w p.2) && allDiff ((s.groupsOf w).map (fun p => p.1))
      && (s.trsOf w).all (fun p => decide (p.1 < 8) && (s.group w p.2).isSome) &&
    (s.sectUsed w).all (fun n => s.sectF w n 19 1 == 0 || s.sectRate w n == 4000 || s.sectRate w n == 4800)
      && (List.range 1024).all (fun c => !s.chOn w c
        || (s.sectF w (s.chSect w c) 19 1 == 1 && within (s.rd (Reg.HEDGE_CH_CFG w c 1)).toNat 1 0x7FFFFFFF && decide (s.rf (Reg.HEDGE_CH_CFG w c 0) 0 14 < s.cols w (s.chSect w c))))
      && (List.range 128).all (s.elemOk w))

/-! The trip path (R165, R170, R172, R177) -/

/-- A target keeps R165 and R170: wings that may drive it, TP_MIN of at most 2,000 ms, and for a remote trip point a listed node and a
REM_PW of 2 x Tc to 2,000 ms. -/
def State.tgtOk (s : State) (t : Nat) : Bool :=
  let w1 := s.rd (Reg.TRIP_TGT_CFG t 1)
  let node := fld w1 22 6
  !s.tgtValid t
    || ((s.rf (Reg.TRIP_TGT_CFG t 0) 29 2 != 0) && wings.all (fun w => mayDriveTgt t w || !s.rb (Reg.TRIP_TGT_CFG t 0) (29 + w.idx))
      && decide (s.rf (Reg.TRIP_TGT_CFG t 0) 0 16 ≤ 2000)
      && (!within t 16 271 || (s.rb (Reg.CQ_NODE_LIST (node / 16) (node % 16) 2) 31 && decide (fld w1 0 16 ≤ 2000)
        && decide (2 * (s.cqPer (node / 16)).1 ≤ fld w1 0 16 * 1000000 * (s.cqPer (node / 16)).2))))

/-- A trip publication keeps R172. -/
def tripPubOk (p : Nat × TripPubCfg) : Bool :=
  decide (p.1 < 64) && decide (p.2.len ≤ 300) && within p.2.t1us 500 4000 && within p.2.t0us 100000 60000000
    && p.2.ports.all (fun q => decide (q < 40))

/-- The trip path keeps R165, R170 and R172. -/
def State.tripOk (s : State) : Bool :=
  (List.range 784).all s.tgtOk && s.man.tripPubs.all tripPubOk && allDiff (s.man.tripPubs.map (fun p => p.1))

/-! Rings (R207, R208, R237) -/

/-- The period of a ring keeps R204: NUM < DEN, and Tc from 25,000 ns to 1,000,000 ns. -/
def State.periodOk (s : State) (r : Nat) : Bool :=
  let (p, d) := s.cqPer r
  s.trgRing r || (decide (s.rf (Reg.CQ_PERIOD_FRAC r) 16 16 < s.rf (Reg.CQ_PERIOD_FRAC r) 0 16)
    && decide (25000 * d ≤ p) && decide (p ≤ 1000000 * d))

/-- The lanes of a ring serve it alone: their MACs are disabled, or in the mode of Caique (R180, R286). -/
def State.lanesOk (s : State) (r : Nat) : Bool :=
  [12, 13].all (fun p => let q := p + 2 * (r % 2) + 16 * (r / 2); !s.rb (Reg.MAC_CFG q) 31 || s.macMode q == 0 || s.macMode q == 10)

/-- Every enabled ring has a period that keeps R204, lanes that no MAC uses (R180), and a schedule that keeps R208, with image
offsets below 0x08_0000 (R237). -/
def State.ringsOk (s : State) : Bool :=
  (List.range 4).all (fun r => !s.rb (Reg.CQ_RING_CTRL r) 31
    || (s.periodOk r && s.lanesOk r
      && s.schedOk r (s.bankWords r 0) && (schedEnts (s.bankWords r 0)).all (fun e => decide (e.off < 0x80000))))

/-! Engines (R305, R306, R309) -/

/-- A code of R305. -/
def persKnown (c : Nat) : Bool := decide (c ≤ 0x0C) || c == 0x20 || (decide (0x80 ≤ c) && decide (c ≤ 0xFE))

/-- Engines to which the manifest gives a personality. -/
def persOn (m : ManCfg) (c : Nat) : List Nat := (m.codes.filter (fun p => p.2.toNat == c)).map (fun p => p.1)

/-- A published stream keeps R91. -/
def pubOk (c : PubCfg) : Bool :=
  ([4000, 4800, 12800, 14400, 96000] : List Nat).contains c.rate && within c.noAsdu 1 8 && within c.nch 1 24 && within c.delayUs 20 2000

/-- The interlock descriptor of a package keeps R358: its counts and times are in range, its inputs are cyclic words, and its outputs are
cyclic outputs with no remote trip point. -/
def State.ilkDescOk (s : State) (k : Package) : Bool :=
  decide (ilkNin k ≤ 4092) && within (ilkNout k) 2 256 && decide (10 ≤ ilkTmax k)
    && (List.range (ilkNin k)).all (fun i =>
      let (node, off) := ilkInput k i
      (s.imageWord off).any (fun x => raNode x.addr == node))
    && ((List.range (ilkNout k)).drop 2).all (fun w =>
      let (node, off) := ilkOutput k w
      (s.imageWord off).any (fun x => x.out && raNode x.addr == node && s.tripMask x.addr == 0))

/-- The package of an engine keeps R305, R306, R309, R341 and R358: a stepping list with A1, the manifest's code, a watchdog period of at
most 1,000 ms that the personalities 0x03, 0x04 and 0x20 must have, an FP entry outside the vector table, a good interlock descriptor. -/
def State.packageOk (s : State) (n : Nat) (k : Package) : Bool :=
  let c := k.pers.toNat
  tst k.compat 0 && persKnown c && s.man.codes.contains (n, k.pers) && decide (k.wdtMs ≤ 1000)
    && (k.wdtMs != 0 || !([3, 4, 0x20] : List Nat).contains c)
    && decide (k.fpBase + 16 ≤ k.fpEntry.toNat) && (c != 0x20 || s.ilkDescOk k)

/-- The verified packages keep their rules; one that does not verify fails when it is loaded (R315). -/
def State.packagesOk (s : State) : Bool :=
  s.pkgEngines.all (fun n => match s.package n with
    | some k => s.packageOk n k
    | none => true)

/-- The engines keep R91, R305, R306 and R309. -/
def State.enginesOk (s : State) : Bool :=
  let m := s.man
  let ptp := (persOn m 4).length
  decide (ptp ≤ 1) && (ptp == 1 || (List.range 40).all (fun p => !s.rb (Reg.MAC_CFG p) 18))
    && decide ((persOn m 5).length ≤ 1)
    && m.pubs.all (fun p => (persOn m 2).contains p.2.engine && pubOk p.2) && allDiff (m.pubs.map (fun p => p.1))
    && s.packagesOk && allDiff (m.codes.map (fun p => p.1))
    && allDiff (m.packages.map (fun p => p.1))

/-! Host interface (R166, R246, R392-R397, R403, R405, R407) -/

/-- The functions that the manifest gives (R394): PF0 to PF3 by the split of the lanes, and every VF. -/
def manFns (m : ManCfg) : List Nat :=
  (List.range (m.hostBifur + 1)).flatMap (fun n =>
    n :: (List.range (m.totalVfs.getD n 0)).map (fun k => m.vfBase.getD n 0 + k))

/-- The tenants keep R246 to R248, R392 to R395, R397 and R403. -/
def State.tenantsOk (s : State) : Bool :=
  let m := s.man
  let vf := (List.range (m.hostBifur + 1)).flatMap (fun n => (List.range (m.totalVfs.getD n 0)).map (fun k => m.vfBase.getD n 0 + k))
  m.hostBifur == s.bifur && allDiff vf && vf.all (fun t => decide (4 ≤ t) && decide (t ≤ 255)) && decide (vf.length ≤ 252)
    && (manFns m).all (fun t => m.tenants.any (fun x => x.tid == t)) && allDiff (m.tenants.map (fun x => x.tid))
    && m.tenants.all (fun x => (!x.secure || tst x.priv 3) && decide (1 ≤ x.vectors) && decide (x.vectors ≤ 64))
    && allDiff ((m.tenants.filter (fun x => x.secure && decide (x.secCh < 16))).map (fun x => x.secCh))
    && decide ((m.tenants.map (fun x => x.vectors)).sum ≤ 2048)
    && decide ((m.tenants.map (fun x => x.tags)).sum + (m.spTags.map (fun p => p.2)).sum ≤ 2048)
    && m.tenants.all (fun x => decide (x.posted ≤ 256)) && within m.tdMs 1 1000
    && allDiff (m.hcmdOwner.map (fun p => p.1))
    && m.hcmdOwner.all (fun p => m.tenants.any (fun x => x.tid == p.2 && tst x.priv 1))

/-- No enabled route names vector 0 of a function (R407). -/
def State.routesOk (s : State) : Bool :=
  (List.range 584).all (fun es => (List.range 4).all (fun d =>
    let r := s.rd (Reg.ER_ROUTE es d)
    !tst r 31 || tst r 30 || decide (fld r 0 6 ≠ 0)))

/-- The binding that a manifest gives a channel: its own, or the default of R405. -/
def manBind (m : ManCfg) (ch : Nat) : Word :=
  let word (a b : Nat) : Word :=
    BitVec.ofNat 32 (2 ^ 31 + bitOf (decide (256 ≤ ch) && decide (ch < 272)) * 2 ^ 30 + b % 512 * 2 ^ 16 + a % 512)
  match m.binds.find? (fun p => p.1 == ch) with
  | some (_, a, b) => word a b
  | none =>
    if ch < 256 then if m.tenants.any (fun x => x.tid == ch) then word ch ch else 0
    else if ch < 272 then
      match m.tenants.find? (fun x => x.secure && x.secCh == ch - 256) with
      | some x => word x.tid x.tid
      | none => 0
    else 0

/-- A master identity that the manifest marks secure, or that always is (R42, R395). -/
def manSecure (m : ManCfg) (mid : Nat) : Bool :=
  m.tenants.any (fun x => x.tid == mid && x.secure) || [320, 321, 324, 325].contains mid

/-- The binding table keeps R405: secure channels go to secure identities, and a locked table stays as it is. -/
def State.bindsOk (s : State) : Bool :=
  (List.range 16).all (fun j =>
    let b := manBind s.man (256 + j)
    !tst b 31 || (manSecure s.man (fld b 0 9) && manSecure s.man (fld b 16 9)))
    && (!s.rb Reg.HOST_BIND_LOCK 31 || (List.range 288).all (fun ch => manBind s.man ch == s.rd (Reg.HOST_MB_BIND ch)))

/-! Switch and pins (R267, R375) -/

/-- The reserved minimums keep R267. -/
def State.minsOk (s : State) : Bool :=
  (List.range 52).all (fun p => decide (48 ≤ s.qMin p 7))
    && decide (((List.range 52).map (fun p => ((List.range 8).map (s.qMin p)).sum)).sum ≤ 65536)

/-- The lanes of an uplink's MAC by its mode: every fourth or every second lane begins a bond (R256). -/
def bondOk (p mode : Nat) : Bool := if mode = 9 then p % 4 == 0 else if mode = 8 then p % 2 == 0 else true

/-- A lane has the mode, the FEC and the auto-negotiation of R255: field lanes modes 1 to 5, uplink lanes 5 to 9. -/
def modeOk (p mode fec : Nat) (an : Bool) : Bool :=
  if p < 32 then
    within mode 1 5 && (fec == 0 || (mode == 5 && fec == 1)) && (!an || mode == 2 || mode == 3)
  else
    within mode 5 9 && bondOk p mode && (if mode = 5 then decide (fec ≤ 1) && !an else if mode = 6 then decide (fec ≤ 2) else fec == 3)

/-- A MAC keeps R255 to R257, R275 and R277: an enabled one has a mode of its lane, in Caique mode a lane of a ring, no bonded lane, a
MAX_FRAME of 64 to 1,528, and XON below XOFF where it sends PAUSE; queues 0 to 6 may have a rate limit, with its burst. -/
def State.macOk (s : State) (p : Nat) : Bool :=
  let c := s.rd (Reg.MAC_CFG p)
  let rate (q : Nat) : Nat := s.rf (Reg.MAC_QRATE p q) 0 18
  (!tst c 31 || fld c 27 4 == 0 || ((fld c 27 4 == 10 && (ringOfLane p).isSome)
      || (modeOk p (fld c 27 4) (fld c 24 2) (tst c 26) && !s.bonded p && within (fld c 0 11) 64 1528
        && (!tst c 22 || decide (s.rf (Reg.MAC_PAUSE_CFG p) 0 16 < s.rf (Reg.MAC_PAUSE_CFG p) 16 16)))))
    && (List.range 8).all (fun q => rate q == 0
      || (decide (q < 7) && decide (rate q ≤ 200000) && within (s.rf (Reg.MAC_QRATE p q) 24 8) 2 64))

/-- A switch port keeps R259 and R266: its PVID is no reserved VID, and a policer with a rate has a burst. -/
def State.swPortOk (s : State) (p : Nat) : Bool :=
  (!s.rb (Reg.SW_PORT_CFG p) 31 || within (s.rf (Reg.SW_PORT_CFG p) 0 12) 1 4094)
    && (List.range 3).all (fun i => s.rf (Reg.SW_POL p i) 12 20 == 0 || s.rf (Reg.SW_POL p i) 0 12 != 0)

/-- A redundancy pair keeps R279 and R280: two MAC ports, an interlink outside every pair, a mutual partner, and no VLAN that holds a
PRP pair and another MAC port. -/
def State.pairOk (s : State) (k : Nat) : Bool :=
  let a := s.pairPort k false
  let b := s.pairPort k true
  let i := s.rf (Reg.SW_PAIR_CFG k) 10 6
  let m := s.rf (Reg.SW_PAIR_CFG k) 7 3
  !s.rb (Reg.SW_PAIR_CFG k) 31
    || (decide (a < 40) && decide (b < 40) && decide (s.pairMode k ≤ 3)
      && (s.pairMode k != 2 || i == 0x3F || (decide (i < 40) && (s.pairOf i).isNone))
      && (s.pairMode k != 3 || (m != k && s.rb (Reg.SW_PAIR_CFG m) 31 && s.pairMode m == 3 && s.rf (Reg.SW_PAIR_CFG m) 7 3 == k))
      && (s.pairMode k != 0 || s.man.vlans.all (fun v => !(tst v.2.1 a || tst v.2.1 b)
        || (List.range 40).all (fun p => !tst v.2.1 p || p == a || p == b))))

/-- The switch keeps R255 to R282. -/
def State.switchOk (s : State) : Bool :=
  let ks := (List.range 8).filter (fun k => s.rb (Reg.SW_PAIR_CFG k) 31)
  (List.range 40).all s.macOk && (List.range 52).all s.swPortOk && (List.range 8).all s.pairOk && allDiff (ks.flatMap s.pairPorts)
    && s.man.vlans.all (fun v => within v.1 1 4094) && allDiff (s.man.vlans.map (fun v => v.1))
    && s.man.linkLocal.all (fun d => within d 40 51)
    && decide (s.man.staticFdb.length ≤ 4096) && allDiff (s.man.staticFdb.map (fun e => fdbKey e.1 e.2.1))
    && (s.rf Reg.SW_AGE_CFG 0 20 == 0 || within (s.rf Reg.SW_AGE_CFG 0 20) 10 1000000)
    && (List.range 8).all (fun q => decide (-6 ≤ s.alphaExp q) && decide (s.alphaExp q ≤ 3))
    && s.man.forget.all (fun f => decide (f.1 < 8) && within f.2.1 10 1000 && within f.2.2 1 3600)

/-- No channel sleeps with its wake decoder armed (R375). -/
def State.wakesOk (s : State) : Bool :=
  (List.range 8).all (fun x => !(s.rb (Reg.CAN_WAKE_CFG x) 31 && s.rf (Reg.CAN_WAKE_CFG x) 20 2 == 2))

/-- The owner of a CAN controller runs the personality 0x0B or a customer's (R371). -/
def State.canOk (s : State) : Bool :=
  allDiff (s.man.canOwner.map (fun o => o.1))
    && s.man.canOwner.all (fun o => decide (o.1 < 8)
      && s.man.codes.any (fun p => p.1 == o.2.1 && (p.2 == 0x0B || within p.2.toNat 0x80 0xFE)))

/-- Mapped Thicket outputs of a wing: engine and TK_OUT_MAP word (R382). -/
def State.tkMaps (s : State) (w : Wing) : List (Nat × Word) :=
  ((List.range 128).map (fun j => (16 * w.idx + j / 8, s.rd (Reg.TK_OUT_MAP (16 * w.idx + j / 8) (j % 8))))).filter
    (fun p => fld p.2 30 2 == 1 || fld p.2 30 2 == 2)

/-- Pins that an engine reads: those its conditions name, the one it shifts in, and its gate pins (R379, R380, R382). -/
def State.tkReads (s : State) (n : Nat) : List Nat :=
  let sel (k : Nat) : Nat := s.rf (Reg.TK_PIN_SEL n (k / 4)) (8 * (k % 4)) 6
  let conds := ((List.range 4).map (fun i => s.rf (Reg.TK_COND_SEL n) (4 * i) 4)).filter (fun k => decide (k < 8))
  let shift := if (List.range 1024).any (fun i => s.rf (Reg.TK_LUT n i) 15 2 == 1) then [0] else []
  let gates := ((List.range 8).map (fun b => s.rd (Reg.TK_OUT_MAP n b))).filter (fun m => fld m 30 2 != 0 && fld m 28 2 == 1)
  (conds ++ shift).map sel ++ gates.map (fun m => fld m 16 6)

/-- The Thicket engines that the manifest runs keep R382: one driver for a pin or CAP input, and no pin that one engine drives push-pull
and another reads. -/
def State.thicketOk (s : State) : Bool :=
  wings.all (fun w =>
    let l := s.tkMaps w
    allDiff (l.map (fun p => 64 * fld p.2 30 2 + fld p.2 22 6))
      && l.all (fun p => decide (fld p.2 22 6 < (if fld p.2 30 2 = 1 then 48 else 4))
        && (fld p.2 30 2 != 1 || tst p.2 1
          || (s.man.thicketOn.filter (fun n => engWing n == w && n != p.1)).all (fun n => !(s.tkReads n).contains (fld p.2 22 6)))))

/-- Every rule that the model can read holds. -/
def State.rulesOk (s : State) : Bool :=
  s.streamsOk && s.wallOk && s.hedgeOk && s.tripOk && s.ringsOk && s.enginesOk && s.tenantsOk && s.routesOk && s.bindsOk && s.minsOk && s.switchOk
    && s.wakesOk && s.canOk && s.thicketOk

end Sys2Proof.Machine
end

