-- ==== Sys2Proof/Machine/Start.lean ====
section
/-! DEFINITION. Start-up: boot, self-test, the manifest and the settings as they are applied, SAFE TALK, and the end of a core reset
(18_manifest_update.md). -/

namespace Sys2Proof.Machine

/-! Host functions come up (R439, R446, R449, R463, R467) -/

/-- The POWER-FAIL record is reported at the next start (R446, R452). -/
def State.pfReport (s : State) : State :=
  match s.mram.pf with
  | some (d, k) =>
    ({ s with mram.pf := none }.wr Reg.TOLL_PF_RESULT (BitVec.ofNat 32 (d.toNat * 16 + k.toNat))).raiseIf (k != 0) 544
  | none => s

/-- Host functions are enabled: the PFs given, and the events that wait for it (R439, R449). -/
def State.hostUp (s : State) (ports : List Nat) : State :=
  let s1 := (eachIn ports (fun n t => t.enableFn n) (s.wb Reg.HOST_STATUS 31 true)).pfReport
  let s2 := if s1.dev.restarted then { s1 with dev.restarted := false }.raise 537 else s1
  if s2.dev.woke then { s2 with dev.woke := false, dev.wakeN := some s.clk.ns }.raise 545 else s2

/-- WAKE_N is low: asserted for 1 ms (R449). -/
def State.wakeLow (s : State) : Bool :=
  match s.dev.wakeN with
  | some t => decide (s.clk.ns < t + 1000000)
  | none => false

/-! SAFE TALK (R467) -/

/-- Identity of a physical function that no manifest describes: one vector, no secure channel (log entry 33). -/
def State.barePf (s : State) (n : Nat) : State :=
  if s.dev.manOk then s
  else (s.wr (Reg.FN_ID n) (BitVec.ofNat 32 (n * 2 ^ 30 + n * 2 ^ 16 + 1))).wr (Reg.FN_PRIV n) 0x00FF0000#32

/-- A ring whose section was applied goes on with commands only (R467). -/
def State.ringTalk (r : Nat) (s : State) : State :=
  if !s.dev.manOk then s
  else
    let s1 := s.ringBegin r true
    if s1.ringState r = 0 then s1 else s1.setRingState r 3

/-- The device enters SAFE TALK with a status code (R467, R468). -/
def State.safeTalk (s : State) (status : Nat) : State :=
  let s1 := (s.wf Reg.MAN_STAT 24 8 status).turn .safeTalk
  let s2 := each 32 (fun n t => t.resetEngine n) s1
  let s3 := eachIn wings (fun w t => (t.wb (Reg.INTAKE_CTRL w) 31 false).wb (Reg.HEDGE_STATUS w) 31 false) s2
  let s4 := each 4 (fun r t => t.ringTalk r) s3
  let s5 := each s4.ports (fun n t => t.barePf n) s4
  s5.hostUp ((List.range s5.ports).filter (fun n => s5.rb (Reg.HOST_PORT_STAT n) 31))

/-- A start-up step after the first fails (R466). -/
def State.startFail (s : State) (status : Nat) : State :=
  if tst s.upd.word2 3 then (s.restorePrev.restart .system 6).raise 582 else s.safeTalk status

/-! BOOT and SELF-TEST (R463, R464, R466) -/

/-- Bit of the boot record that selects a wing's firmware slot, and the VERIFIED bit of a slot (R457). -/
def fwSelBit : Wing → Nat
  | .east => 30
  | .west => 29
def fwOkBit (b : Bool) : Nat := if b then 6 else 7

/-- The slot from which a wing's firmware is taken (R457). -/
def State.fwSlot (s : State) (w : Wing) : Nat := fld s.upd.word2 (fwSelBit w) 1

/-- A wing runs the firmware of a slot: its SVN is in force (R423). -/
def State.fwRuns (s : State) (w : Wing) (slot : Nat) : State := { s with sec.svn := Tab.put s.sec.svn w.idx (s.fwSvn slot) }

/-- The boot ROM loads a wing's firmware from the selected slot, or, where it fails, from the other one if that is VERIFIED and passes; the
failure is recorded either way (R420, R466). It answers whether the wing has firmware. -/
def State.bootSlot (s : State) (w : Wing) : Bool × State :=
  let k := s.fwSlot w
  match s.fwFault k with
  | none => (true, s.fwRuns w k)
  | some c =>
    let s1 := { s with mram.bootFail := some (1, c) }.raiseIf (s.rb Reg.HOST_STATUS 31) 520
    if tst s.upd.word2 (fwOkBit (k == 0)) && (s.fwFault (1 - k)).isNone then
      (true, ((s1.writeBoot (setFld (setFld s.upd.word2 (fwSelBit w) 1 (1 - k)) 2 1 1)).raise 582).fwRuns w (1 - k))
    else (false, s1)

/-- BOOT_COMPLETE (R436, R441, R444, R466, R468): the boot ROMs have tried their wings' firmware, and VIN_OK has been high for 10 ms;
`flashE` and `flashW` say that the flash answers the boot ROM of the wing. -/
def State.bootComplete (s : State) (flashE flashW held : Bool) : State :=
  if s.dev.st != .boot || s.dev.rst || !held then s
  else if !(flashE && flashW) then { s with dev.vinOk := true }.safeTalk 0x0B
  else
    let (e, s1) := s.bootSlot .east
    let (w, s2) := s1.bootSlot .west
    let s3 := { s2 with dev.vinOk := true, dev.stew := ⟨e, w⟩ }.wf (Reg.BKUP 0) 16 8 (fld s2.upd.word2 24 8)
    if !e && !w then s3.safeTalk 1
    else if s3.dev.storm then s3.safeTalk 0x0C
    else { s3 with dev.step := 2, dev.stepAt := s.clk.ns }.turn .selfTest

/-- Sealed keys return to their slots before CONFIGURING, unless debug is unlocked; one whose record fails its tag does not (R425,
R431). -/
def State.unseal (s : State) : State :=
  let bad (p : Nat × Key) : Bool := s.mram.sealBad.contains p.1
  if s.sec.unlocked then s
  else eachIn (s.mram.sealed_.filter bad) (fun p t => t.raiseAt 521 p.1 0)
    { s with sec.box := (s.mram.sealed_.filter (fun p => !bad p)).foldl (fun b p => Tab.put b p.1 p.2) s.sec.box }

/-- A state record whose copies both fail is written again with the previous state unknown (R465). -/
def State.mendRecord (s : State) : State :=
  if s.mram.stateBad then { s with mram.stateRec := (s.dev.st, none), mram.stateBad := false } else s

/-- The status code of a failed test (R468). -/
def testStatus : SelfTest → Nat
  | .pass => 0
  | .bistMem => 2
  | .bistLogic => 3
  | .clock => 4
  | .tripPin => 5

/-- SELF_TEST_COMPLETE (R464). -/
def State.selfTestComplete (s : State) (res : SelfTest) : State :=
  if s.dev.st != .selfTest then s
  else if res == .pass then ({ s.mendRecord with dev.step := 3, dev.stepAt := s.clk.ns }.unseal).turn .configuring
  else s.mendRecord.startFail (testStatus res)

/-- Bound of a step in ms (R463). -/
def stepBound (k : Nat) : Nat :=
  match k with
  | 1 => 30
  | 2 => 40
  | 3 => 25
  | _ => 0

/-- STEP_TIMEOUT (R463, R466): in BOOT the wait for VIN_OK is none (R436). -/
def State.stepTimeout (s : State) : State :=
  let due := decide (s.dev.stepAt + stepBound s.dev.step * 1000000 ≤ s.clk.ns)
  match s.dev.st with
  | .boot => if s.dev.rst || !s.dev.vinOk || !due then s else s.safeTalk 0x0A
  | .selfTest => if due then s.startFail 0x0A else s
  | .configuring => if due then s.startFail 0x0A else s
  | _ => s

/-! The manifest is applied (R458, R459, R463) -/

/-- A register that a manifest loads: none of the function pages, of the arbitration and safety block, of the binding table or of
SYS but the Toll parameters (R458). -/
def manReg (a : Nat) : Bool :=
  (regInfo a).isSome && decide (a < 0x01000000) && !(decide (0xE50000 ≤ a) && decide (a < 0xE52000))
    && (decide (0x200000 ≤ a) || a == Reg.TOLL_CFG || (List.range 4).any (fun i => a == Reg.TOLL_HOLDUP i))

/-- The wing to which a register of a wing's own blocks belongs: time triggers, intake, wall, Hedge unit, trip logic, CAN controllers
and Thicket engines (R471). -/
def regWing (a : Nat) : Option Wing :=
  let half (b : Nat) : Option Wing := if (a - b) / 0x40000 = 0 then some .east else if (a - b) / 0x40000 = 2 then some .west else none
  if 0x200000 ≤ a ∧ a < 0x600000 then half (a / 0x100000 * 0x100000)
  else if a = Reg.TRIP_WING_CFG .east ∨ a = Reg.TRIP_BFI_SEL .east then some .east
  else if a = Reg.TRIP_WING_CFG .west ∨ a = Reg.TRIP_BFI_SEL .west then some .west
  else if 0xC00000 ≤ a ∧ a < 0xC80000 then some (wingOf ((a - 0xC00000) / 0x40000))
  else if 0xD00000 ≤ a ∧ a < 0xD40000 then some (wingOf ((a - 0xD00000) / 0x20000))
  else none

/-- Write the registers of a manifest that a condition names. -/
def State.manRegs (s : State) (m : Manifest) (hit : Nat → Bool) : State :=
  eachIn m.regs (fun p t => if manReg p.1 && hit p.1 then t.wr p.1 p.2 else t) s

/-- The port of a tenant's function (R394). -/
def manPort (m : ManCfg) (t : Nat) : Nat :=
  if t ≤ m.hostBifur then t
  else ((List.range 4).find? (fun n => decide (m.vfBase.getD n 0 ≤ t) && decide (t < m.vfBase.getD n 0 + m.totalVfs.getD n 0))).getD 0

/-- The function page of a tenant takes the tenant's definition (R397). -/
def State.tenantPage (s : State) (x : Tenant) : State :=
  let t := x.tid
  let id := manPort s.man t * 2 ^ 30 + t * 2 ^ 16 + bitOf (decide (s.man.hostBifur < t)) * 2 ^ 15 + x.vectors
  let priv := x.priv.toNat + bitOf x.secure * 2 ^ 8 + (if x.secure then x.secCh % 256 else 255) * 2 ^ 16
  let s1 := (s.wr (Reg.FN_ID t) (BitVec.ofNat 32 id)).wr (Reg.FN_PRIV t) (BitVec.ofNat 32 priv)
  let s2 := (s1.wr (Reg.FN_HB t 0) x.hbRd).wr (Reg.FN_HB t 1) x.hbWr
  (s2.wr (Reg.FN_QOS t) (BitVec.ofNat 32 (x.weight.toNat * 2 ^ 24 + x.cap.toNat))).wr (Reg.FN_MB_RBUF t) (BitVec.ofNat 32 x.rbuf)

/-- The binding table takes the manifest's bindings, unless it is locked (R405). -/
def State.bindAll (s : State) : State :=
  if s.rb Reg.HOST_BIND_LOCK 31 then s else each 288 (fun ch t => t.wr (Reg.HOST_MB_BIND ch) (manBind t.man ch)) s

/-- Source bits that no engine and no message has given yet hold their fail values; the GSI bits that the manifest maps show it in their
flags (R161-R163, log entry 161). -/
def State.failSources (s : State) (w : Wing) : State :=
  let s1 := { s with
    trip.gsi := s.trip.gsi.set w (match w with
      | .east => s.man.gsiFvE
      | .west => s.man.gsiFvW)
    trip.ilk := s.trip.ilk.set w (match w with
      | .east => s.man.ilkFvE
      | .west => s.man.ilkFvW) }
  eachIn ((s.man.engBits.filter (fun p => engWing p.1 == w && decide (96 ≤ p.2))).map (fun p => p.2)) (fun b t => t.takeFv w b) s1

/-- The source sections of a wing show their Dr_max and take the default deadline: 2,000 us, or Dr_max where that is lower (R104, R105,
R126). -/
def State.startDr (s : State) (w : Wing) : State :=
  eachIn ((s.sectUsed w).filter (fun n => !s.isDerived w n)) (fun n t =>
    (t.wf (Reg.WALL_SECT_CFG2 w n) 16 13 (t.drMaxOf w n)).wf (Reg.WALL_SECT_CFG2 w n) 0 13 (min 2000 (t.drMaxOf w n))) s

/-- The intake, the wall and the Hedge unit of a wing start on the sections written: streams WAITING, rows empty, references held
(R84, R96, R126, R135, R471). WALL_LOAD is cut to whole units of 1,000 cells/s (log entry 155). -/
def State.startWing (w : Wing) (s : State) : State :=
  let z := { Hedge.zero with leaseHeld := (s.hedge.at_ w).leaseHeld }
  let s0 := s.startDr w
  let s1 := { s0 with intake := s.intake.set w Intake.zero, wall := s.wall.set w { Wall.zero with loAt := some s.clk.ns }, hedge := s.hedge.set w z }
  let s2 := each 512 (fun i t => t.startStream w i) s1
  let s3 := ((s2.wb (Reg.INTAKE_CTRL w) 31 true).wb (Reg.WALL_STATUS w) 31 true).wb (Reg.HEDGE_STATUS w) 31 true
  let reads := ((s3.sectUsed w).filter (fun n => s3.sectF w n 19 1 == 1)).foldl (fun a n => a + 2 ^ n) 0
  let s4 := (s3.wf (Reg.HEDGE_STATUS w) 0 8 reads).wr (Reg.WALL_LOAD w) (BitVec.ofNat 32 (s3.writeLoad w / 1000))
  let s5 := each 128 (fun e t => t.showElem w e) (each 8 (fun k t => t.showFreq w k) (s4.showGroups w))
  ((s5.driveLines w).wallStat w).intakeStat w

/-- What the centre takes from the manifest beyond its registers: the default LEASE_PERIOD of 10 ms, function pages, bindings, the shared
pool (R148, R267, R397, R405). -/
def State.startCentre (s : State) : State :=
  let s0 := if s.rf Reg.HEDGE_LEASE_CFG 0 6 = 0 then s.wf Reg.HEDGE_LEASE_CFG 0 6 10 else s
  let s1 := eachIn s.man.tenants (fun x t => t.tenantPage x) s0
  let mins := ((List.range 52).map (fun p => ((List.range 8).map (s1.qMin p)).sum)).sum
  let pool := BitVec.ofNat 32 (262144 - 1248 - 640 - mins)
  let s2 := ((s1.wr Reg.SW_SHARED_SIZE pool).wr Reg.SW_SHARED_LOW pool).wr Reg.SW_SHARED_FREE pool
  s2.bindAll

/-- The state with the registers and values of the manifest in a slot, before anything starts on them. -/
def State.withMan (s : State) (slot : Nat) : State :=
  let m := s.slotMan slot
  { s.manRegs m (fun _ => true) with
    man := m.cfg, dev.manOk := true, dev.manId := s.slotManId slot, dev.pinsSet := true
    sec.svn := Tab.put s.sec.svn 2 (s.manSvn slot) }

/-! Settings (R460-R462) -/

/-- The element records of a settings image for a wing take effect (R151, R461). -/
def State.putElems (s : State) (w : Wing) (i : SettingsImage) : State :=
  eachIn (i.recs.filter (fun r => (recWings r).contains w)) (fun r u =>
    (((u.wr (Reg.HEDGE_EL_SET w r.idx 0) r.w1).wr (Reg.HEDGE_EL_SET w r.idx 1) r.w2).wr (Reg.HEDGE_EL_SET w r.idx 2) r.w3).wr
      (Reg.HEDGE_EL_SET w r.idx 3) r.w4) s

/-- The release deadlines of a settings image that the sections of a wing can have take effect (R105, R461, log entry 156). -/
def State.putDr (s : State) (w : Wing) (i : SettingsImage) : State :=
  eachIn (i.dr.filter (fun p => p.1 / 8 == w.idx)) (fun p t =>
    if t.drOk w (p.1 % 8) p.2 then t.wf (Reg.WALL_SECT_CFG2 w (p.1 % 8)) 0 13 p.2 else t) s

/-- A wing's value of a pair. -/
def ofWing {α : Type} (w : Wing) (p : α × α) : α :=
  match w with
  | .east => p.1
  | .west => p.2

/-- The wing values of a settings image: INV_BLOCK, ENG_HOLD, READBACK_FILT; one outside its range is passed over (R144, R163, R169, R460,
log entry 156). -/
def State.putValues (s : State) (w : Wing) (i : SettingsImage) : State :=
  let set1 (a lo n lo1 hi1 v : Nat) (t : State) : State := if within v lo1 hi1 then t.wf a lo n v else t
  set1 (Reg.TRIP_WING_CFG w) 0 10 1 100 (ofWing w i.readbackFilt)
    (set1 (Reg.TRIP_WING_CFG w) 16 7 0 100 (ofWing w i.engHold) (set1 (Reg.HEDGE_STATUS w) 23 7 5 100 (ofWing w i.invBlock) s))

/-- A settings image takes effect in a wing, but for the interlock modes, which its engines take as they are loaded (R361, R461). -/
def State.putSettings (s : State) (w : Wing) (i : SettingsImage) : State := ((s.putElems w i).putDr w i).putValues w i

/-- The defaults of R462: elements OFF, engines in STOP, deadlines of 2,000 us or Dr_max, INV_BLOCK 20 ms, ENG_HOLD 30 ms,
READBACK_FILT 100 us (R105, R144, R163, R169). -/
def State.defaultSettings (s : State) : SettingsImage :=
  { recs := []
    dr := wings.flatMap (fun w => ((s.sectUsed w).filter (fun n => !s.isDerived w n)).map (fun n =>
      (8 * w.idx + n, min 2000 (s.drMaxOf w n))))
    invBlock := (20, 20), engHold := (30, 30), readbackFilt := (10, 10), ilkModes := [] }

/-- The stored settings in force: those of a half (R461). -/
def State.useHalf (s : State) (half : Nat) : State :=
  let s1 := { s.wf Reg.MAN_STAT 16 4 0 with
    upd.half := half, upd.stored := some (s.halfSettings half), upd.defaulted := false
    sec.svn := match s.halfSvn half with
      | some v => Tab.put s.sec.svn 3 v
      | none => Tab.del s.sec.svn 3 }
  s1.setAlarm 28 false

/-- Stored settings are unusable: the defaults, with their event and alarm (R462). -/
def State.useDefaults (s : State) (reason : Nat) : State :=
  ({ s.wf Reg.MAN_STAT 16 4 reason with upd.stored := none, upd.defaulted := true }.raise 583).setAlarm 28 true

/-- The newest half that holds an image or a snapshot: the one in use, else the other one (R461, log entry 184). -/
def State.newestHalf (s : State) : Nat :=
  let o := 1 - s.upd.half
  if !s.halfFull s.upd.half && s.halfFull o then o else s.upd.half

/-- The settings of a start: those of the newest valid half, or the defaults (R461, R462). -/
def State.startSettings (s : State) : State :=
  let h := s.newestHalf
  let r := s.halfReason h
  let s1 := if r = 0 then s.useHalf h else s.useDefaults r
  let s2 := match s.setLen h with
    | some n => if r = 2 then s1.imageRefused 5 ((s.imageFault 5 (slotBase 2 h) (n + 208)).getD 1) else s1
    | none => s1
  eachIn wings (fun w t => t.putSettings w (s1.upd.stored.getD s1.defaultSettings)) s2

/-! Engines, time, rings and host functions (R463) -/

/-- Load the engines named whose packages verify and can be loaded, in order (R307, R315). -/
def State.loadAll (s : State) (l : List Nat) : State :=
  eachIn l (fun n t => match t.goodPackage n with
    | some k => t.loadEngine n k
    | none => t) s

/-- The engines of a wing that have a package. -/
def State.wingEngines (s : State) (w : Wing) : List Nat := s.pkgEngines.filter (fun n => engWing n == w)

/-- The clusters named are out of reset (R316). -/
def State.clustersRun (s : State) (l : List Nat) : State := eachIn l (fun c t => t.wf (Reg.PE_CL_STAT c) 30 2 0) s

/-- The manifest enables a Thicket engine of a wing. -/
def State.hasThickets (s : State) (w : Wing) : Bool := s.man.thicketOn.any (fun n => engWing n == w)

/-- The Thicket engines of a wing that the manifest enables run on the images of the wing's slot (R383, R463). -/
def State.thicketsRun (s : State) (w : Wing) : State :=
  let s1 := match s.thicketSvn (s.fwSlot w) with
    | some v => if s.hasThickets w then { s with sec.svn := Tab.put s.sec.svn (4 + w.idx) v } else s
    | none => s
  eachIn (s.man.thicketOn.filter (fun n => engWing n == w)) (fun n t => t.wb (Reg.TK_CTRL n) 31 true) s1

/-- The KIND and first failed check of a package or a Thicket image that the manifest names for a wing, check 0 where R315 alone refuses
a package (R315, R421). -/
def State.loadFault (s : State) (w : Wing) : Option (Nat × Nat) :=
  let pkg (n : Nat) : Option (Nat × Nat) := if (s.goodPackage n).isSome then none else some (3, (s.pkgFault n).getD 0)
  match (s.wingEngines w).findSome? pkg with
  | some x => some x
  | none => if s.hasThickets w then (s.thicketFault (s.fwSlot w)).map (fun c => (4, c)) else none

/-- Time is armed, the triggers that the manifest enables are armed on it, and the enabled rings start (R49, R63, R205). -/
def State.startTime (s : State) (mramOk : Bool) : State :=
  let s1 := s.armTime
  let s2 := each 16 (fun m t => if t.rb (trgCtrl m) 31 then t.armTrg m else t) s1
  each 4 (fun r t => t.ringBegin r mramOk) s2

/-- The state that START_MODE names (R444, R451). -/
def State.startMode (s : State) : DevState :=
  match s.rf (Reg.BKUP 0) 30 2 with
  | 0 => .inService
  | 1 => .test
  | _ => .testBlocked

/-- Step 7: host functions are enabled, the binding table is locked, and the START_MODE state is entered (R405, R444, R463). -/
def State.enterService (s : State) : State :=
  let s1 := (s.hostUp (List.range s.ports)).wb Reg.HOST_BIND_LOCK 31 true
  ({ s1 with dev.step := 0 }.turn s1.startMode).compareOn (!s1.iwlDown)

/-- The manifest in the selected slot does not verify: the check that failed is recorded (R420). -/
def State.noteManFault (s : State) (slot : Nat) : State :=
  match s.manImageFault slot with
  | some c => s.imageRefused 2 c
  | none => s

/-- CONFIGURING_COMPLETE (R463): steps 3 to 7, with the first failure among them; `flashOk` says that the flash answers, `mramOk` that the
session counters are written and read back (R203). -/
def State.configuringComplete (s : State) (flashOk mramOk : Bool) : State :=
  let k := fld s.upd.word2 31 1
  if s.dev.st != .configuring || !s.stewardRuns then s
  else if !flashOk then s.startFail 0x0B
  else match s.manFault k with
  | some c => (s.noteManFault k).startFail c
  | none =>
    let s1 := s.withMan k
    if !s1.rulesOk then s.startFail 8
    else
      let s2 := eachIn wings (fun w t => (t.failSources w).startWing w) s1.startCentre
      let s3 := s2.startSettings
      match wings.findSome? s3.loadFault with
      | some (kind, c) => (if c = 0 then s3.evalTargets else s3.evalTargets.imageRefused kind c).startFail 9
      | none =>
        let s4 := eachIn wings (fun w t => t.thicketsRun w) ((s3.loadAll s3.pkgEngines).clustersRun (List.range 8))
        (s4.startTime mramOk).enterService

/-- TRIAL_CLEAR (R466): 10 s in the START_MODE state of a start, or after a live activation. -/
def State.trialClear (s : State) : State :=
  let t0 := if s.upd.trialAt = 0 then s.dev.since else s.upd.trialAt
  let here := s.upd.trialAt ≠ 0 || s.dev.st == s.startMode
  if tst s.upd.word2 3 && s.upd.act.isNone && here && decide (t0 + 10000000000 ≤ s.clk.ns) then
    s.writeBoot (setFld (setFld s.upd.word2 3 1 0) 0 2 0)
  else s

/-- DIAG_LINE (R467). -/
def State.diagLine (s : State) : State :=
  if s.dev.st != .safeTalk || (s.dev.diag.isSome && decide (s.clk.ns < s.dev.diagAt + 1000000000)) then s
  else { s with
    dev.diag := some (BitVec.ofNat 8 s.dev.st.code, BitVec.ofNat 8 (s.rf Reg.MAN_STAT 24 8),
      BitVec.ofNat 8 (s.rf Reg.SYS_RESET_CAUSE 24 8))
    dev.diagAt := s.clk.ns }

/-! The meanings of the rows -/

/-- BOOT_COMPLETE (R444): Steward firmware is verified and VIN_OK has been high 10 ms, so the device leaves BOOT. -/
def execBootComplete (flashE flashW vinHeld : Bool) (s : State) : Out :=
  live true s (s.bootComplete flashE flashW vinHeld)

/-- SELF_TEST_COMPLETE (R464): Self-test passes and the device enters CONFIGURING, or fails to SAFE TALK. -/
def execSelfTestComplete (res : SelfTest) (s : State) : Out :=
  live true s (s.selfTestComplete res)

/-- CONFIGURING_COMPLETE (R463): Manifest, settings, engines, time and rings are done, host functions enabled and START_MODE entered. -/
def execConfiguringComplete (flashOk mramOk : Bool) (s : State) : Out :=
  live true s (s.configuringComplete flashOk mramOk)

/-- STEP_TIMEOUT (R463): A start-up step exceeds its bound and fails. -/
def execStepTimeout (s : State) : Out :=
  live true s (s.stepTimeout)

/-- TRIAL_CLEAR (R466): 10 s in the START_MODE state or after a live activation, TRIAL and ATTEMPTS clear. -/
def execTrialClear (s : State) : Out :=
  live true s (s.trialClear)

/-- DIAG_LINE (R467): Once per second in SAFE TALK a status line is sent on DIAG_TX. -/
def execDiagLine (s : State) : Out :=
  live true s (s.diagLine)

end Sys2Proof.Machine
end

