-- ==== Sys2Proof/Machine/Steward.lean ====
section
/-! DEFINITION. The steward's decisions taking effect with and without a deputy, and the primacy arbiter's decisions
(01_architecture.md). -/

namespace Sys2Proof.Machine

/-! Decisions (R20-R22) -/

/-- A decision takes effect (R21). -/
def State.applyAct (s : State) (a : Act) : State :=
  match a with
  | .decision d => s.applyDecision d
  | .config addr v => s.stewardWr addr v
  | .commit t => s.commitTriple s.timeWing t
  | .rate v => s.rateNow v
  | .step d => s.stepBoth d
  | .epoch r sched => s.commitEpoch r sched

/-- Decisions take effect in the order in which they were made. -/
def State.applyActs (s : State) (l : List Mirror) : State := eachIn l (fun m t => t.applyAct m.act) s

/-- The deputy's wing, whose steward runs and hears the steward over the link (R19, R21). -/
def State.deputyHears (s : State) : Bool :=
  match s.steward with
  | some h => s.deputyOk && s.stewUp h.other && !s.iwlDown
  | none => false

/-- The oldest mirror message in flight becomes acknowledged: the decisions before it, the message, those after it. -/
def ackSplit : List Mirror → Option (List Mirror × Mirror × List Mirror)
  | m :: q =>
    if m.acked || m.lost then (ackSplit q).map (fun x => (m :: x.1, x.2.1, x.2.2)) else some ([], m, q)
  | [] => none

/-- The deputy acknowledges the oldest mirror message that has reached it: the decision takes effect if the steward, still running,
receives the answer within 200 us of the message (R21), and counts as acknowledged either way (R22). -/
def State.deputyAck (s : State) (received : Bool) : State :=
  if !s.deputyHears then s
  else
    match ackSplit s.arb.inflight with
    | some (before, m, after) =>
      if received && s.stewardRuns && decide (s.clk.ns ≤ m.at_ + 200000) then
        { s with arb.inflight := before ++ after }.applyAct m.act
      else { s with arb.inflight := before ++ { m with acked := true } :: after }
    | none => s

/-- No acknowledgement within 200 us: the steward clears DEPUTY_OK and carries on alone; decisions take effect (R21,
R35). -/
def State.mirrorAckTimeout (s : State) : State :=
  match s.arb.inflight with
  | m :: _ =>
    if s.clk.ns < m.at_ + 200000 || !s.stewardRuns then s
    else ({ s with arb.inflight := [] }.applyActs s.arb.inflight).dropDeputy
  | [] => s

/-! The arbiter (R22, R25-R30) -/

/-- Grant a claim in a CD2 cycle (R29), with the consequences of a takeover: acknowledged decisions apply, the rest are lost (R22),
and requests taken and not answered get PEER_RESET (R404). EPOCH_FULL sets when the epoch reaches 0xFFFF_FFFF (R30, R36). -/
def State.grant (s : State) (w : Wing) (epoch : Word) (cyc : Nat) : State :=
  let s0 := (s.wr Reg.ARB_EPOCH epoch).wr (Reg.BKUP 1) epoch
  let s1 := if epoch = 0xFFFFFFFF#32 then s0.wb Reg.ARB_STATUS 31 true else s0
  let s2 := ((s1.wf Reg.ARB_STATUS 26 2 (wingCode w)).wb Reg.ARB_STATUS (fenceBit w.other) true).wb Reg.ARB_STATUS
    (fenceBit w) false
  let s3 := (s2.raiseAt 576 0 (wingCode w)).raiseAt 577 0 (wingCode w.other)
  let s4 := if s3.deputyOk then s3.setDeputy false else s3.setAlarm 31 true
  let s5 := { s4 with
    arb.since := cyc
    arb.known := s4.arb.known.set w epoch
    arb.run := ⟨0, 0⟩
    arb.mirrored := ⟨false, false⟩
    arb.inflight := []
    arb.mute := s4.arb.mute.set w false }
  (s5.applyActs (s.arb.inflight.filter (fun m => m.acked))).peerReset

/-- The claims of a window are decided together as of one CD2 cycle (R28-R30). -/
def State.decideClaims (s : State) (cs : List (Wing × Word × Nat)) (cyc : Nat) : State :=
  let all (b : Bool) (t : State) : State := eachIn cs (fun c u => u.refuseClaim c.1 b) t
  if s.rd Reg.ARB_EPOCH = 0xFFFFFFFF#32 then all false (s.wb Reg.ARB_STATUS 31 true)
  else
    match s.bestClaim cs with
    | some (w, e, _) =>
      if s.mayGrant w cyc then
        eachIn (cs.filter (fun c => c.1 != w)) (fun c u => u.refuseClaim c.1 false) (s.grant w e cyc)
      else all s.steward.isSome s
    | none => all false s

/-- The open window is over: the CD2 cycle in which it closed has passed, so that every heartbeat of that cycle counts (R26). -/
def State.windowOver (s : State) : Bool :=
  match s.arb.window with
  | some t0 => decide (t0 + 1000 < s.clk.cd2)
  | none => false

/-- The claim window has closed: the claims that reached the arbiter before it did are decided, in the cycle in which it closed; a later
claim has opened a new window (R26, R28). -/
def State.arbWindowClose (s : State) : State :=
  match s.arb.window with
  | some t0 =>
    if !s.windowOver then s
    else
      let here (c : Wing × Word × Nat) : Bool := decide (c.2.2 < t0 + 1000)
      let late := s.arb.claims.filter (fun c => !here c)
      { s with arb.window := late.head?.map (fun (c : Wing × Word × Nat) => c.2.2), arb.claims := late }.decideClaims (s.arb.claims.filter here)
        (t0 + 1000)
  | none => s

/-! Heartbeats and the deputy at the arbiter (R23, R25, R29, R33, R35) -/

/-- The wing's count of consecutive heartbeats with the current epoch: it lapses when 300,000 CD2 cycles pass without one
(R33, R35, log entry 143). -/
def State.runOf (s : State) (w : Wing) : Nat :=
  if s.clk.cd2 < s.arb.hbAt.at_ w + 300000 then s.arb.run.at_ w else 0

/-- Take one heartbeat (R23, R25, R29, R33): a lower epoch is ignored and counted; an accepted one restarts the wing's time and
counts toward a rejoin when it carries the current epoch. The exchange tells the wing the epoch. -/
def State.takeBeat (s : State) (b : Beat) : State :=
  let cur := s.rd Reg.ARB_EPOCH
  let w := b.wing
  let s0 := { s with arb.known := if s.stewUp w then s.arb.known.set w cur else s.arb.known }
  if b.epoch < cur then { s0 with arb.run := s0.arb.run.set w 0 }.cnt Reg.ARB_STATUS 16 8 1
  else { s0 with
    arb.hbAt := s0.arb.hbAt.set w s.clk.cd2
    arb.run := s0.arb.run.set w (if b.epoch = cur then capAt 10 (s0.runOf w + 1) else 0) }

/-- A heartbeat reaches the arbiter: its wing's oldest one on its way, known by epoch and sequence number; the free health word is
passed over (R23, log entries 52 and 186). -/
def State.beatArrives (s : State) (b : Beat) : State :=
  match s.arb.beats.find? (fun x => x.wing == b.wing) with
  | some x => if x.epoch = b.epoch ∧ x.seq = b.seq then { s with arb.beats := s.arb.beats.erase x }.takeBeat x else s
  | none => s

/-- A rejoin request reaches the arbiter: accepted once ten consecutive heartbeats of the wing carry the current epoch,
else ignored (R33). -/
def State.arbRejoin (s : State) (w : Wing) : State :=
  if !s.stewUp w || s.runOf w < 10 || s.steward = some w || s.steward.isNone || s.deputyOk then s
  else (s.wb Reg.ARB_STATUS (fenceBit w) false).setDeputy true

/-- No heartbeat of the deputy has reached the arbiter for 300,000 CD2 cycles (R35). -/
def State.deputyLapse (s : State) : State :=
  match s.steward with
  | some h =>
    if s.deputyOk && decide (s.arb.hbAt.at_ h.other + 300000 ≤ s.clk.cd2) then
      { s with arb.run := s.arb.run.set h.other 0 }.dropDeputy
    else s
  | none => s

/-! The meanings of the rows -/

/-- DEPUTY_ACK (R21): The deputy's acknowledgement of a mirror message arrives and the decision takes effect. -/
def execDeputyAck (received : Bool) (s : State) : Out :=
  live true s (s.deputyAck received)

/-- MIRROR_ACK_TIMEOUT (R21): No acknowledgement arrives within 200 µs, so the steward clears DEPUTY_OK, raises ARB_DEPUTY_CHANGE and goes on alone. -/
def execMirrorAckTimeout (s : State) : Out :=
  live true s (s.mirrorAckTimeout)

end Sys2Proof.Machine
end

