-- ==== Sys2Proof/Machine/Manifest.lean ====
section
/-! DEFINITION. Staging and activation of images, the engines' reload and the end of a core reset (18_manifest_update.md, R307, R310,
R438). -/

namespace Sys2Proof.Machine

/-! Image commands (R469) -/

/-- Answer an image command: its result is also MAN_STAT.LAST_RESULT (R468, R469). -/
def State.manReply (s : State) (ch : Nat) (ws : List Word) : State :=
  (s.wf Reg.MAN_STAT 8 8 (fld (ws.headD 0) 0 8)).reply ch ws

/-- A stage is open on another channel, an activation runs, or a HEDGE_SET is pending (R469). -/
def State.manBusy (s : State) (ch : Nat) : Bool :=
  (match s.upd.stage with
    | some x => x.1 != ch
    | none => false) || s.upd.act.isSome || s.lease.pend.isSome

/-- An image command that has been taken, with the checks that all of them share (R469, log entry 35 for their order). -/
def State.manRequest (s : State) (ch ty : Nat) (go : State → State) : State :=
  s.request ch ty (fun t =>
    if !t.chanPriv ch 2 then t.manReply ch [1]
    else if !(t.dev.st.serving || t.dev.st == .safeTalk) then t.manReply ch [2]
    else if t.manBusy ch then t.manReply ch [3]
    else go t)

/-- The slots of a target that the boot record selects, or the half in use (R457, R461). -/
def State.selected (s : State) (target : Nat) : List Nat :=
  let w := s.upd.word2
  match target with
  | 0 => [fld w 30 1, fld w 29 1] ++ (List.range 8).map (fun c => fld w (16 + c) 1)
  | 1 => [fld w 31 1]
  | _ => [s.upd.half]

/-- The slot that a stage takes: the first that nothing selects. -/
def State.freeImage (s : State) (target : Nat) : Option Nat := [0, 1].find? (fun k => !(s.selected target).contains k)

/-- Set the VERIFIED bit of a slot; settings halves have none (R457). -/
def State.setVerified (s : State) (target slot : Nat) (v : Bool) : State :=
  match target with
  | 0 => s.writeBoot (setFld s.upd.word2 (7 - slot) 1 (bitOf v))
  | 1 => s.writeBoot (setFld s.upd.word2 (5 - slot) 1 (bitOf v))
  | _ => s

/-- Staged images of a target are forgotten. -/
def State.unstage (s : State) (target : Nat) : State :=
  { s with upd.staged := s.upd.staged.filter (fun p => p.1 != target) }

/-- Slot of a target's staged images. -/
def State.stagedSlot (s : State) (target : Nat) : Option Nat := (s.upd.staged.find? (fun p => p.1 == target)).map (fun p => p.2)

/-- What the steward has read from the images of a slot or half is forgotten. -/
def State.dropBody (s : State) (target slot : Nat) : State :=
  match target with
  | 0 => s
  | 1 => { s with upd.mans := Tab.del s.upd.mans slot }
  | _ => { s with upd.halves := Tab.del s.upd.halves slot }

/-- STAGE_OPEN (R469): the boot ROM serves firmware slots only (R467). With both slots selected there is none to take, and the
result is free (log entry 35). -/
def State.stageOpen (s : State) (ch target : Nat) : State :=
  s.manRequest ch 0x20 (fun t =>
    let target := fld (msgWord (t.msg ch (wordBytes (BitVec.ofNat 32 target))) 0) 0 2
    if target = 3 || (t.romServes ch && target != 0) then t.manReply ch [4]
    else match t.freeImage target with
    | none => (t.manReply ch [t.freshWord]).used 1
    | some k =>
      let t1 := ((((t.setVerified target k false).unstage target).eraseFlash (slotBase target k) (slotSize target)).dropBody target k)
      { t1 with upd.stage := some (ch, target, k, 0) }.manReply ch [0])

/-- STAGE_WRITE (R469): ascending offsets within the slot. -/
def State.stageWrite (s : State) (ch off : Nat) (data : List Octet) (flashOk : Bool) : State :=
  s.manRequest ch 0x21 (fun t =>
    let m := t.msg ch (wordBytes (BitVec.ofNat 32 off) ++ data)
    let off := (msgWord m 0).toNat
    let data := m.drop 4
    match t.upd.stage with
    | none => t.manReply ch [8]
    | some (_, tg, k, nx) =>
      if off < nx || 65520 < data.length || slotSize tg < off + data.length then t.manReply ch [4]
      else if !flashOk then t.manReply ch [6]
      else { t with
        upd.flash := putFlash t.upd.flash (slotBase tg k + off) data
        upd.stage := some (ch, tg, k, off + data.length) }.manReply ch [0])

/-- The first check of R420 that some image of a slot or half fails (R469). -/
def State.targetFault (s : State) (target k : Nat) : Option Nat :=
  match target with
  | 0 => s.slotFault k
  | 1 => s.manImageFault k
  | _ => match s.setLen k with
    | some n => s.imageFault 5 (slotBase 2 k) (n + 208)
    | none => some 1

/-- What the steward reads from a verified manifest or settings image is kept beside its octets (log entry 184). -/
def State.keepBody (s : State) (target k : Nat) (body : ImageBody) : State :=
  match target with
  | 0 => s
  | 1 => { s with upd.mans := Tab.put s.upd.mans k body.man }
  | _ => { s with upd.halves := Tab.put s.upd.halves k ⟨body.set, none, []⟩ }

/-- STAGE_CLOSE (R420, R469, R472): `body` is what the sections of a manifest or a settings image say. -/
def State.stageClose (s : State) (ch : Nat) (body : ImageBody) : State :=
  s.manRequest ch 0x22 (fun t =>
    match t.upd.stage with
    | none => t.manReply ch [8]
    | some (_, tg, k, _) =>
      let t1 := { t with upd.stage := none }
      match t1.targetFault tg k with
      | some c => ((t1.raise 520).raise 582).manReply ch [5, BitVec.ofNat 32 c]
      | none =>
        ({ (t1.setVerified tg k true).keepBody tg k body with
          upd.staged := (tg, k) :: t.upd.staged.filter (fun p => p.1 != tg) }).manReply ch [0])

/-- ABORT (R469). -/
def State.abort (s : State) (ch : Nat) : State :=
  s.manRequest ch 0x25 (fun t => if t.upd.stage.isNone then t.manReply ch [8] else { t with upd.stage := none }.manReply ch [0])

/-! Settings at run time (R461, R469, R470) -/

/-- SETTINGS_LOAD (R469): an image for another manifest, or of another format, is no settings image for this one; `flashOk` says that the
flash answers. -/
def State.settingsLoad (s : State) (ch : Nat) (flashOk : Bool) : State :=
  s.manRequest ch 0x24 (fun t =>
    match t.stagedSlot 2 with
    | none => t.manReply ch [8]
    | some h =>
      if !flashOk then t.manReply ch [6]
      else if t.halfReason h ≠ 0 then t.manReply ch [9]
      else
        let i := t.halfSettings h
        let at_ := t.devT + 2000000 * 65536
        ({ t.acceptRecs i.recs at_ with lease.pend := some (i.recs, at_), upd.setPend := some i }.unstage 2).manReply ch [0])

/-- The rest of a settings image at T_apply: deadlines from the next row, wing values, interlock modes; its half is current
(R105, R361, R461, R462). -/
def State.finishSettings (s : State) (i : SettingsImage) : State :=
  let s1 := eachIn i.dr (fun p t =>
    let w := wingOf (p.1 / 8)
    if t.drOk w (p.1 % 8) p.2 then t.setSect w (p.1 % 8) { t.sect w (p.1 % 8) with drNext := some p.2 } else t)
    (eachIn wings (fun w t => t.putValues w i) s)
  let s2 := eachIn (i.ilkModes.filter (fun p => s.rf (Reg.PE_STAT p.1) 16 8 == 0x20)) (fun p t =>
    if p.2 = 1 then t.toRun p.1 else t.toStop p.1) s1
  { s2 with upd.setPend := none }.useHalf (1 - s2.upd.half)

/-- SETTINGS_T_APPLY (R151, R469). -/
def State.settingsTApply (s : State) : State :=
  let s1 := s.hedgeTApply
  match s.upd.setPend with
  | some i => if s1.lease.pend.isNone then s1.finishSettings i else s1
  | none => s1

/-- The full settings in force: the stored ones, or the defaults with what the journal has changed since (R461, R462). -/
def State.settingsNow (s : State) : SettingsImage :=
  s.upd.stored.getD (((s.setHalf s.upd.half).log.takeWhile JEntry.good).foldl (fun i e => e.apply i) s.defaultSettings)

/-- JOURNAL_COMPACT (R461): the other half takes the settings in force as a snapshot, and loses any image staged in it; the full half is
erased. -/
def State.journalCompact (s : State) : State :=
  if (s.setHalf s.upd.half).log.length < 4096 then s
  else
    let o := 1 - s.upd.half
    let s1 := (s.eraseFlash (slotBase 2 0) (2 * slotSize 2)).unstage 2
    { s1 with
      upd.half := o, upd.halves := [(o, ⟨s.settingsNow, some s.dev.manId, []⟩)]
      upd.stage := match s.upd.stage with
        | some (c, tg, k, n) => if tg = 2 then none else some (c, tg, k, n)
        | none => none }

/-! Activation (R310, R470, R471) -/

/-- An activation is in a phase: scope 0 CLUSTER, 1 WING, 2 DEVICE; MAN_STAT.ACT_PHASE (R468). -/
def State.actPhase (s : State) (scope ph : Nat) : State :=
  { s.wf Reg.MAN_STAT 20 4 ph with upd.act := some (scope, ph) }

/-- An activation has ended: MAN_UPDATE; TRIAL counts from here (R466, R472). -/
def State.actDone (s : State) : State :=
  { s.wf Reg.MAN_STAT 20 4 0 with
    upd.act := none, upd.man := none, upd.actSet := none, upd.loaded := [], upd.trialAt := max 1 s.clk.ns }.raise 582

/-- The boot record with new selections: PREV is word 2 as it stood (R457). -/
def State.select (s : State) (f : Word → Word) : State := { s with upd.prev := s.upd.word2 }.writeBoot (f s.upd.word2)

/-- Engines that an activation reloads: those of the cluster or of the wing that have a package. -/
def State.actEngines (s : State) : List Nat :=
  match s.upd.act with
  | some (0, c) => s.pkgEngines.filter (fun n => n / 4 == c - 16)
  | some (1, _) => s.wingEngines s.upd.actWing
  | _ => []

/-- The clusters that an activation holds out of service. -/
def State.actClusters (s : State) : List Nat :=
  match s.upd.act with
  | some (0, c) => [c - 16]
  | some (1, _) => (List.range 4).map (fun k => 4 * s.upd.actWing.idx + k)
  | _ => []

/-- Every engine of a CLUSTER or WING activation has been handled: its clusters run again, and so do the wing's Thicket engines
(R310, R470). -/
def State.actCheck (s : State) : State :=
  let ready := !s.dev.core.at_ s.upd.actWing && s.rf (Reg.PE_CL_STAT (s.actClusters.headD 0)) 30 2 == 2
  match s.upd.act with
  | some (0, _) =>
    if s.actEngines.all s.upd.loaded.contains then (s.clustersRun s.actClusters).actDone else s
  | some (1, _) =>
    if ready && s.actEngines.all s.upd.loaded.contains then
      ((s.clustersRun s.actClusters).thicketsRun s.upd.actWing).actDone
    else s
  | _ => s

/-- The package that the manifest names does not verify (R315, R420). -/
def State.notePkgFault (s : State) (n : Nat) : State :=
  match s.pkgFault n with
  | some c => s.imageRefused 3 c
  | none => s

/-- ENGINE_LOAD (R307, R315): the steward of the engine's wing loads an engine that is stopped from the package that the manifest names;
one that R315 refuses, or that the flash does not give, leaves it stopped. -/
def State.engineLoad (s : State) (n : Nat) (flashOk : Bool) : State :=
  let w := engWing n
  if !s.dev.stew.at_ w || s.dev.core.at_ w || s.peState n ≠ 0 || !(s.dev.st.serving || s.dev.st == .configuring) then s
  else
    let s1 := if s.actEngines.contains n then { s with upd.loaded := n :: s.upd.loaded } else s
    if !flashOk then s1.actCheck
    else
      (match s1.goodPackage n with
        | some k => s1.loadEngine n k
        | none => s1.notePkgFault n).actCheck

/-- Two directory entries hold the same image. -/
def State.sameEntry (s : State) (a b : Option (Nat × Nat × Nat)) : Bool :=
  match a, b with
  | some x, some y => x.2.2 == y.2.2 && s.flashAt x.2.1 x.2.2 == s.flashAt y.2.1 y.2.2
  | none, none => true
  | _, _ => false

/-- The firmware and Thicket images of a slot are those in force in a wing. -/
def State.sameFw (s : State) (k : Nat) (w : Wing) : Bool :=
  let o := s.fwSlot w
  s.sameEntry (s.fwEntry k) (s.fwEntry o) && (s.thicketImgs k).length == (s.thicketImgs o).length
    && ((s.thicketImgs k).zip (s.thicketImgs o)).all (fun p => s.sameEntry (some p.1) (some p.2))

/-- A staged manifest is the one in force, or there is none. -/
def State.sameMan (s : State) : Bool :=
  let o := fld s.upd.word2 31 1
  match s.stagedSlot 1 with
  | some k => s.manLen k == s.manLen o && s.flashAt (slotBase 1 k) ((s.manLen k).getD 0) == s.flashAt (slotBase 1 o) ((s.manLen o).getD 0)
  | none => true

/-- What is staged differs from what is in force only within a scope: `fw` says that firmware and Thicket images may differ, `hit` whose
packages may (R470, log entry 185). -/
def State.scopeFits (s : State) (k : Nat) (fw : Bool) (hit : Nat → Bool) : Bool :=
  (fw || [Wing.east, Wing.west].all (s.sameFw k)) && s.sameMan
    && s.pkgEngines.all (fun n => hit n || s.sameEntry (s.pkgEntry k n) (s.pkgEntry (s.pkgSlot n) n))

/-- An ACTIVATE request of one scope (TYPE 0x23): scope 3 gets BAD_ARG, and a scope that another row handles is left to it (R469). -/
def State.activate (s : State) (ch scope : Nat) (w0 : Word) (go : Word → State → State) : State :=
  s.manRequest ch 0x23 (fun t =>
    let w := msgWord (t.msg ch (wordBytes w0)) 0
    if fld w 0 2 = 3 then t.manReply ch [4] else if fld w 0 2 ≠ scope then t else go w t)

/-- ACTIVATE, scope CLUSTER (R310, R457, R470): port EC c stops, what is queued for it goes, its engines stop; they are loaded one
by one. The phase stands in `act` with the cluster, as 16 + c; `flashOk` says that the flash answers (R469). -/
def State.activateCluster (s : State) (ch c : Nat) (flashOk : Bool) : State :=
  s.activate ch 0 (BitVec.ofNat 32 (c * 256)) (fun w0 t =>
    let c := fld w0 8 3
    match t.stagedSlot 0 with
    | none => t.manReply ch [8]
    | some k =>
      if !flashOk then t.manReply ch [6]
      else if !t.scopeFits k false (fun n => n / 4 == c) then t.manReply ch [7]
      else
        let t1 := (t.select (fun w => setFld w (16 + c) 1 k)).manReply ch [0]
        let gone := ((List.range 8).map (fun q => (t1.swQueue (40 + c) q).length)).sum
          + (Tab.get [] t1.sw.staged (40 + c)).length
        let t2 := (t1.wf (Reg.PE_CL_STAT c) 30 2 1).flushPort (40 + c)
        let t3 := each 4 (fun i u => u.resetEngine (4 * c + i)) (t2.cnt (Reg.PE_CL_REFUSED c) 0 32 gone)
        let t4 := (t3.wf (Reg.PE_CL_STAT c) 30 2 2).wf Reg.MAN_STAT 20 4 4
        ({ t4 with upd.act := some (0, 16 + c), upd.loaded := [] }).actCheck)

/-- ACTIVATE, scope WING (R470): where the wing holds the role it is handed over first; its core reset runs on the new images. -/
def State.activateWing (s : State) (ch : Nat) (w : Wing) (flashOk : Bool) : State :=
  s.activate ch 1 (BitVec.ofNat 32 (1 + 256 * w.idx)) (fun w0 t =>
    let w := wingOf (fld w0 8 1)
    match t.stagedSlot 0 with
    | none => t.manReply ch [8]
    | some k =>
      if !flashOk then t.manReply ch [6]
      else if !t.scopeFits k true (fun n => engWing n == w) then t.manReply ch [7]
      else if decide (t.steward = some w) && !t.deputyOk then t.manReply ch [2]
      else
        let sel (x : Word) : Word := setFld (setFld x (fwSelBit w) 1 k) (16 + 4 * w.idx) 4 (15 * k)
        let t1 := (t.select sel).manReply ch [0]
        let t2 : State := { t1.actPhase 1 5 with upd.actWing := w, upd.loaded := [] }
        if t2.steward = some w then { t2 with arb.mute := t2.arb.mute.set w true } else t2.coreNow [w] 6)

/-- The values of a manifest that belong to one wing, taken over from another one (R471); the slots granted to a personality, which may
run on either wing, are those of both meanwhile. -/
def takeWing (old new : ManCfg) (w : Wing) : ManCfg :=
  let mix {α : Type} (wingOf' : α → Wing) (a b : List α) : List α :=
    a.filter (fun x => wingOf' x != w) ++ b.filter (fun x => wingOf' x == w)
  let base := { old with
    engBits := mix (fun p => engWing p.1) old.engBits new.engBits
    ilkMap := mix (fun p => engWing p.2.1) old.ilkMap new.ilkMap
    spRings := mix (fun p => engWing p.1) old.spRings new.spRings
    spTags := mix (fun p => engWing p.1) old.spTags new.spTags
    packages := mix (fun p => engWing p.1) old.packages new.packages
    codes := mix (fun p => engWing p.1) old.codes new.codes
    engineKeys := old.engineKeys ++ new.engineKeys
    canOwner := mix (fun p => canWing p.1) old.canOwner new.canOwner
    thicketOn := mix engWing old.thicketOn new.thicketOn }
  match w with
  | .east => { base with gsiFvE := new.gsiFvE, ilkFvE := new.ilkFvE, groupsE := new.groupsE, trE := new.trE }
  | .west => { base with gsiFvW := new.gsiFvW, ilkFvW := new.ilkFvW, groupsW := new.groupsW, trW := new.trW }

/-- Tables of a wing that a manifest writes whole: stream entries, sections, slices, channels, groups and elements. -/
def wingTable (a : Nat) : Bool :=
  let o := a % 0x80000
  (decide (0x300000 ≤ a) && decide (a < 0x400000) && decide (0x10000 ≤ o) && decide (o < 0x20000))
    || (decide (0x400000 ≤ a) && decide (a < 0x500000)
      && ((decide (0x100 ≤ o) && decide (o < 0x200)) || (decide (0x1000 ≤ o) && decide (o < 0x2000))))
    || (decide (0x500000 ≤ a) && decide (a < 0x600000) && decide (0x1000 ≤ o) && decide (o < 0x4800))

/-- The steward of a wing writes the wing's new sections and loads its engines (R471, step 2); with those of the second wing the whole
manifest is in force. -/
def State.wingSections (s : State) (w : Wing) (m : Manifest) : State :=
  let s1 := s.restoreRegs (fun _ a => wingTable a && regWing a == some w)
  let s2 := { s1.manRegs m (fun a => regWing a == some w) with man := if w = s.upd.actWing then takeWing s1.man m.cfg w else m.cfg }
  let s3 := each 16 (fun i t => (t.onTk (16 * w.idx + i) (fun _ => Tk.zero)).wb (Reg.TK_CTRL (16 * w.idx + i)) 31 false) s2
  let s4 := (s3.startWing w).thicketsRun w
  (s4.putSettings w ((s4.wingSet w).getD s4.defaultSettings)).loadAll (s4.wingEngines w)

/-- The new manifest's schedule of a ring is committed by epoch switch; a ring whose mode or Tc changes restarts (R471). While
a switch is pending the commit waits for the swap, and CQ_CMD_RESULT shows BUSY (R209). The new manifest allows every RESTORE again
(R221). -/
def State.ringSections (s : State) (m : Manifest) (w : Wing) (r : Nat) : State :=
  let mine (a : Nat) : Bool := decide (0x700000 + 0x10000 * r ≤ a) && decide (a < 0x710000 + 0x10000 * r)
  let bank (a : Nat) : Bool := mine a && decide (0x1000 ≤ a % 0x10000) && decide (a % 0x10000 < 0x3000)
  let new := s.manRegs m (fun a => mine a && !bank a)
  let same (a : Nat) : Bool := s.rd a == new.rd a
  if same (Reg.CQ_RING_CTRL r) && same (Reg.CQ_PERIOD_NS r) && same (Reg.CQ_PERIOD_FRAC r) then
    let busy := new.rb (Reg.CQ_RING_STAT r) 22
    let t := (new.setRg r { new.rg r with banned := [] }).epochCommit r w ((s.manRegs m bank).bankWords r 0)
    if busy then t.cmdResult r 2 else t
  else (((new.setRg r { new.rg r with banned := [] }).ringStop r).manRegs m bank).ringBegin r true

/-- Tenants whose definition changed take a function-level reset (R471). -/
def State.tenantResets (s : State) (old new : ManCfg) : State :=
  let of_ (c : ManCfg) (t : Nat) : Option Tenant := c.tenants.find? (fun x => x.tid == t)
  each 256 (fun t u => if of_ old t != of_ new t && u.host.en.contains t then u.flr t 1 3 else u) s

/-- The new steward applies the centre sections, with the settings that the activation brings, and commits the schedules (R470, R471,
step 3), then its partner runs step 2 on itself:
the safety monitor excludes it and it takes a core reset (R471, step 4). -/
def State.handover (s0 : State) (d : Wing) (m : Manifest) : State :=
  let f := d.other
  let s := match s0.upd.actSet with
    | some _ => s0.useHalf (1 - s0.upd.half)
    | none => s0
  let s1 := s.manRegs m (fun a => (regWing a).isNone && !(decide (0x700000 ≤ a) && decide (a < 0x740000)))
  let k := fld s.upd.word2 31 1
  let s2 := { s1 with man := takeWing m.cfg s.man f, dev.manId := s.slotManId k, sec.svn := Tab.put s1.sec.svn 2 (s.manSvn k) }
  let s3 := (each 4 (fun r t => t.ringSections m d r) s2.startCentre).tenantResets s.man m.cfg
  let s4 := { s3.actPhase 2 3 with safe.actExcl := s3.safe.actExcl.set f true }
  let s5 := s4.exclude f 566
  if s5.dev.rst then s5 else s5.coreNow [f] 6

/-- CLAIM_WINDOW_CLOSE (R28, R470, R471): a grant carries an activation on. Whatever reaches the arbiter after the window has closed
finds its claims decided (R26). -/
def State.claimWindowClose (s : State) : State :=
  let s1 := s.arbWindowClose
  match s1.upd.act, s1.upd.man with
  | some (1, _), _ =>
    if s.steward = some s1.upd.actWing && s1.steward = some s1.upd.actWing.other then s1.coreNow [s1.upd.actWing] 6 else s1
  | some (2, ph), some m =>
    if ph ≤ 2 && s1.steward = some s1.upd.actWing && !s1.dev.core.at_ s1.upd.actWing then s1.handover s1.upd.actWing m else s1
  | _, _ => s1

/-- HEDGE_ROW_EVALUATE (R131, R471, R477): with its first row, an exclusion made for an activation ends; the steward then hands over.
-/
def State.hedgeRowEvaluate (s : State) (w : Wing) (chkDiff : Bool) : State :=
  let s1 := s.hedgeEvaluate w chkDiff
  if s.safe.actExcl.at_ w && !(s.wall.at_ w).hedgeQ.isEmpty && s1.rb (Reg.HEDGE_STATUS w) 31 then
    let s2 := { s1 with safe.actExcl := s1.safe.actExcl.set w false }.unexclude w
    match s2.upd.act with
    | some (2, 1) => { s2.actPhase 2 2 with arb.mute := s2.arb.mute.set w.other true }
    | _ => s2
  else s1

/-- CLAIM (R25, R28). -/
def State.claim (s : State) (w : Wing) : State := s.claimWindowClose.claimNow w

/-- HEARTBEAT_ARBITER (R23, R26). -/
def State.heartbeatArbiter (s : State) (w : Wing) (epoch : Word) (seq : Half) (health : Word) : State :=
  s.claimWindowClose.beatArrives ⟨w, epoch, seq, health⟩

/-- DEPUTY_HEARTBEAT_TIMEOUT (R35). -/
def State.deputyHeartbeatTimeout (s : State) : State := s.claimWindowClose.deputyLapse

/-- REJOIN_REQUEST (R33, R471): the former steward's rejoin ends a DEVICE activation. -/
def State.rejoinRequest (s : State) (w : Wing) : State :=
  let s0 := s.claimWindowClose
  let s1 := s0.arbRejoin w
  match s1.upd.act with
  | some (2, 3) =>
    if s1.deputyOk && !s0.deputyOk && !s1.safe.actExcl.at_ w then (s1.actDone).compareOn (!s1.iwlDown) else s1
  | _ => s1

/-- New selections of a DEVICE activation: every staged slot, with TRIAL = 1, ATTEMPTS = 0 (R466, R470, R471). -/
def State.selectAll (s : State) : State :=
  let fw (w : Word) : Word := match s.stagedSlot 0 with
    | some k => setFld (setFld (setFld w 30 1 k) 29 1 k) 16 8 (255 * k)
    | none => w
  let mn (w : Word) : Word := match s.stagedSlot 1 with
    | some k => setFld w 31 1 k
    | none => w
  (s.select (fun w => setFld (setFld (setFld (mn (fw w)) 3 1 1) 2 1 0) 0 2 0))

/-- The slot of the manifest that an activation puts into force: the staged one, or the selected one again. -/
def State.newManSlot (s : State) : Nat := (s.stagedSlot 1).getD (fld s.upd.word2 31 1)

/-- The manifest's binding section leaves the table as it is (R405, R470). -/
def State.sameBinds (s : State) (m : Manifest) : Bool :=
  !s.dev.manOk || (List.range 288).all (fun ch => manBind m.cfg ch == s.rd (Reg.HOST_MB_BIND ch))

/-- The half with a staged settings image for a MANIFEST_ID (R470). -/
def State.setFor (s : State) (id : Word) : Option Nat := (s.stagedSlot 2).filter (fun h => s.flashWord (slotBase 2 h + 8) == id)

/-- The activation brings a new manifest, and its settings with it (R470). -/
def State.newId (s : State) : Bool := s.slotManId s.newManSlot != s.dev.manId

/-- Why a DEVICE activation is refused, if it is (R459, R469, R470): no result names a manifest that the rules refuse, or a device
without a deputy (log entry 35). -/
def State.deviceFault (s : State) : Option Nat :=
  let k := s.newManSlot
  if (s.stagedSlot 0).isNone && (s.stagedSlot 1).isNone then some 8
  else if !s.sameBinds (s.slotMan k) then some 7
  else if s.newId && (s.setFor (s.slotManId k)).isNone then some 9
  else if s.dev.st == .safeTalk then none
  else if !s.deputyOk then some 2
  else if (s.manFault k).isSome || !(s.selectAll.withMan k).rulesOk then some 5
  else none

/-- ACTIVATE, scope DEVICE (R470, R471): in SAFE TALK a system reset on the new selections; otherwise the deputy's wing first.
The request's word has `arg` behind its scope. -/
def State.activateDevice (s : State) (ch : Nat) (arg : BitVec 30) (flashOk : Bool) : State :=
  s.activate ch 2 (arg ++ 2#2) (fun _ t =>
    match t.deviceFault with
    | some 5 => (t.manReply ch [5, t.freshWord]).used 1
    | some c => t.manReply ch [BitVec.ofNat 32 c]
    | none =>
      if !flashOk then t.manReply ch [6]
      else
        let m := t.slotMan t.newManSlot
        let set := if t.newId then t.setFor (t.slotManId t.newManSlot) else none
        let t1 := { t.selectAll with upd.staged := t.upd.staged.filter (fun p => p.1 == 2 && set.isNone) }.manReply ch [0]
        if t1.dev.st == .safeTalk then { t1 with upd.half := set.getD t1.upd.half }.restart .system 6
        else match t1.steward with
        | none => t1
        | some h =>
          let d := h.other
          let t2 := (t1.compareOn false).actPhase 2 1
          let t3 := { t2 with
            upd.actWing := d, upd.man := some m, upd.actSet := set.map t.halfSettings, safe.actExcl := t2.safe.actExcl.set d true }
          let t4 := t3.exclude d 566
          if t4.dev.rst then t4 else t4.coreNow [d] 6)

/-- The deputy's wing fails its load: the boot record is restored, the wing restarts on the previous images, the activation ends
(R471). -/
def State.actFails (s : State) (w : Wing) : State := ((s.restorePrev.actDone).compareOn (!s.iwlDown)).coreNow [w] 6

/-- What an activation loads on a wing verifies: its firmware, its packages and its Thicket images (R471). -/
def State.wingLoads (s : State) (w : Wing) (m : Manifest) : Bool :=
  (s.fwFault (s.fwSlot w)).isNone && (({ s with man := m.cfg }).loadFault w).isNone

/-- The engines of a wing are reloaded after a core reset: from the applied manifest, from an activation's new one, or one by one in
a WING activation (R307, R438, R471). -/
def State.reloadWing (s : State) (w : Wing) : State :=
  let run (t : State) : State := t.clustersRun ((List.range 4).map (fun k => 4 * w.idx + k))
  if !s.dev.manOk || !(s.dev.st.serving || s.dev.st == .powerFail) then s
  else match s.upd.act, s.upd.man with
  | some (1, _), _ =>
    if s.upd.actWing = w then
      (each 4 (fun k t => t.wf (Reg.PE_CL_STAT (4 * w.idx + k)) 30 2 2) s).actCheck
    else run (s.loadAll (s.wingEngines w))
  | some (2, _), some m => if s.safe.actExcl.at_ w then run (s.wingSections w m) else run (s.loadAll (s.wingEngines w))
  | _, _ => run (s.loadAll (s.wingEngines w))

/-- The deputy's wing is in step 2 of a DEVICE activation and fails its load (R471). -/
def State.loadFails (s : State) (w : Wing) : Bool :=
  match s.upd.act, s.upd.man with
  | some (2, _), some m => s.safe.actExcl.at_ w && decide (w = s.upd.actWing) && !s.wingLoads w m
  | _, _ => false

/-- CORE_RESET_END (R438): the boot ROM verifies the firmware again, the wing's steward runs with its own clock (R13, R24), and its
engines are reloaded; without firmware that passes the steward does not run (log entry 185). -/
def State.coreResetEnd (s : State) (w : Wing) : State :=
  if !s.dev.core.at_ w || s.dev.rst then s
  else if s.loadFails w then s.actFails w
  else
    let (ok, s1) := s.bootSlot w
    let s2 := { s1 with
      dev.core := s1.dev.core.set w false, dev.stew := s1.dev.stew.set w ok
      arb.hbSeq := s1.arb.hbSeq.set w 0, arb.run := s1.arb.run.set w 0, arb.sentAt := s1.arb.sentAt.set w none
      arb.linkAt := s1.arb.linkAt.set w s1.clk.ns, arb.lost := s1.arb.lost.set w false
      arb.mute := s1.arb.mute.set w (s1.excluded w && !s1.safe.actExcl.at_ w) }
    if ok then s2.reloadWing w else s2

/-! The meanings of the rows -/

/-- HEARTBEAT_ARBITER (R23): A heartbeat reaches the arbiter; a stale epoch is ignored and counted, and a fenced steward learns of its fence. -/
def execHeartbeatArbiter (w : Wing) (epoch : BitVec 32) (seq : BitVec 16) (health : BitVec 32) (s : State) : Out :=
  live true s (s.heartbeatArbiter w epoch seq health)

/-- CLAIM (R25): A wing's steward writes a claim to the arbiter, opening a 1,000-cycle window if none is open. -/
def execClaim (w : Wing) (s : State) : Out :=
  live true s (s.claim w)

/-- CLAIM_WINDOW_CLOSE (R28): A claim window closes and the arbiter decides all its claims together. -/
def execClaimWindowClose (s : State) : Out :=
  live true s (s.claimWindowClose)

/-- REJOIN_REQUEST (R33): A wing writes a rejoin request; after 10 current-epoch heartbeats the fence lifts and DEPUTY_OK sets. -/
def execRejoinRequest (w : Wing) (s : State) : Out :=
  live true s (s.rejoinRequest w)

/-- DEPUTY_HEARTBEAT_TIMEOUT (R35): No deputy heartbeat has reached the arbiter for 300,000 CD2 cycles, so DEPUTY_OK falls. -/
def execDeputyHeartbeatTimeout (s : State) : Out :=
  live true s (s.deputyHeartbeatTimeout)

/-- HEDGE_ROW_EVALUATE (R131): A released row reaches the Hedge unit, which computes phasors, frequency and every element. -/
def execHedgeRowEvaluate (w : Wing) (chkDiff : Bool) (s : State) : Out :=
  live true s (s.hedgeRowEvaluate w chkDiff)

/-- SETTINGS_T_APPLY (R151): T_apply is reached and accepted element settings take effect on the next row in both wings. -/
def execSettingsTApply (s : State) : Out :=
  live true s (s.settingsTApply)

/-- ENGINE_LOAD (R307): The steward loads an engine's code, data and regions, binds contexts and releases both processors. -/
def execEngineLoad (n : Nat) (flashOk : Bool) (s : State) : Out :=
  live (engineLoadOk n) s (s.engineLoad n flashOk)

/-- STAGE_OPEN (R469): STAGE_OPEN picks and erases an unselected slot or half. -/
def execStageOpen (ch : Nat) (target : Nat) (s : State) : Out :=
  live (stageOpenOk ch target) s (s.stageOpen ch target)

/-- STAGE_WRITE (R469): STAGE_WRITE writes data into the open stage. -/
def execStageWrite (ch off : Nat) (data : List (BitVec 8)) (flashOk : Bool) (s : State) : Out :=
  live (stageWriteOk ch) s (s.stageWrite ch off data flashOk)

/-- STAGE_CLOSE (R469): STAGE_CLOSE verifies the staged images and sets VERIFIED. -/
def execStageClose (ch : Nat) (body : ImageBody) (s : State) : Out :=
  live (stageCloseOk ch) s (s.stageClose ch body)

/-- ACTIVATE_CLUSTER (R310): ACTIVATE of scope CLUSTER reloads one cluster's packages. -/
def execActivateCluster (ch c : Nat) (flashOk : Bool) (s : State) : Out :=
  live (activateClusterOk ch c) s (s.activateCluster ch c flashOk)

/-- ACTIVATE_WING (R470): ACTIVATE of scope WING reloads one wing's firmware, Thicket images and packages. -/
def execActivateWing (ch : Nat) (w : Wing) (flashOk : Bool) (s : State) : Out :=
  live (activateWingOk ch) s (s.activateWing ch w flashOk)

/-- ACTIVATE_DEVICE (R471): ACTIVATE of scope DEVICE replaces everything wing by wing with a handover. -/
def execActivateDevice (ch : Nat) (arg : BitVec 30) (flashOk : Bool) (s : State) : Out :=
  live (activateDeviceOk ch) s (s.activateDevice ch arg flashOk)

/-- SETTINGS_LOAD (R469): SETTINGS_LOAD applies the staged settings at T_apply and makes that half current. -/
def execSettingsLoad (ch : Nat) (flashOk : Bool) (s : State) : Out :=
  live (settingsLoadOk ch) s (s.settingsLoad ch flashOk)

/-- ABORT (R469): ABORT abandons an open stage. -/
def execAbort (ch : Nat) (s : State) : Out :=
  live (abortOk ch) s (s.abort ch)

/-- JOURNAL_COMPACT (R461): A settings half reaches 4,096 records and is compacted into the other half. -/
def execJournalCompact (s : State) : Out :=
  live true s (s.journalCompact)

/-- CORE_RESET_END (R438): A core reset of a wing ends: the boot ROM has verified the steward firmware again, and the steward runs and reloads that wing's engines from the applied manifest. -/
def execCoreResetEnd (w : Wing) (s : State) : Out :=
  live true s (s.coreResetEnd w)

end Sys2Proof.Machine
end

