-- ==== Sys2Proof/Machine/Safe.lean ====
section
/-! DEFINITION. Functional safety (19_safety.md): the diagnostics of R478 with their reactions, the clock and temperature monitors,
and the board controller's management reads (R496). -/

namespace Sys2Proof.Machine

/-- The safety monitor runs: MAIN is powered and no reset holds it (R11, R14). -/
def State.watching (s : State) : Bool := s.dev.st.awake && !s.dev.rst

/-! Reactions (R476) -/

/-- ALARM (R476): the cause bit, and the reaction recorded. -/
def State.reactAlarm (s : State) (bit es wing : Nat) : State := ((s.setAlarm bit true).raiseAt es 0 0).safeLast es 1 wing

/-- EXCLUDE of a wing for a diagnostic that has a cause bit: it includes ALARM (R476, R479). -/
def State.reactExclude (s : State) (bit es : Nat) (w : Wing) : State :=
  (((s.setAlarm bit true).raiseAt es 0 (wingCode w)).wingFault w).exclude w es

/-- SYSTEM for a diagnostic with a cause bit and an event. -/
def State.reactReset (s : State) (es : Nat) : State := (s.raise es).reactSystem es

/-- LOCKSTEP_FAULT: CORE of the wing, which includes its exclusion (R476, R478). -/
def State.lockstepFault (s : State) (w : Wing) : State :=
  if !s.watching || s.dev.core.at_ w then s
  else
    let s1 := ((s.raiseAt 561 0 (wingCode w)).wingFault w).exclude w 561
    if s1.dev.rst then s1 else (s1.safeLast 561 3 (wingCode w)).coreNow [w] 7

/-- PARITY_ERROR (R478): in a wing, EXCLUDE of it; in the centre, ALARM. Which transfer of the centre it is, and so the counter of its
block, the command does not say (log entry 37). -/
def State.parityError (s : State) (w : Option Wing) : State :=
  if !s.watching then s
  else match w with
  | some x => s.reactExclude 20 562 x
  | none => s.reactAlarm 20 562 3

/-! Memory errors (R125, R156, R237, R271, R299, R450, R478) -/

/-- An uncorrectable error in an engine's bank (R299, R478): the processor named traps with ECC_UE while the engine runs. The address
is free; one above the data bank stands for a word of the code bank (log entry 38). -/
def State.engineEcc (s : State) (n : Nat) (p : Proc) : State :=
  let a := s.freshWord.toNat % 2 ^ 17
  let s1 := (s.used 1).setEn n { s.en n with badData := a :: (s.en n).badData }
  let pc := match p with
    | .fp => (s.en n).fp.pc
    | .sp => (s.en n).sp.pc
  let s2 := if s.peState n = 2 then s1.engineTrap n p 0x05 pc else s1
  (s2.wingFault (engWing n)).reactAlarm 21 563 (wingCode (engWing n))

/-- An uncorrectable error at a word of the image bank (R237, R478): BR_FAULT; the word reads all-ones; the bank is none of those that
R478 names, so the reaction is SYSTEM. -/
def State.imageEcc (s : State) (a : Nat) : State :=
  (({ s with bridge.badImage := a :: s.bridge.badImage }.raise 495).setAlarm 21 true).reactReset 563

/-- An error in MRAM (R425, R450, R465): a ring-session counter or a key epoch without a majority cannot be advanced any more, a sealed
slot fails its tag at the next start, a state record whose copies both fail is written again in the next self-test. -/
def State.mramEcc (s : State) (sess epoch box : Option Nat) (both : Bool) : State :=
  { s with
    mram.sessBad := sess.toList ++ s.mram.sessBad, mram.epochBad := epoch.toList ++ s.mram.epochBad
    mram.sealBad := box.toList ++ s.mram.sealBad, mram.stateBad := s.mram.stateBad || both }.raise 546

/-- ECC_UE: the reaction of the block in which an uncorrectable error is found (R478). -/
def State.eccUe (s : State) (u : EccSite) : State :=
  if !s.watching then s
  else match u with
  | .wall w n key c => (s.loseCell w n key c).wallEcc w
  | .hedge w => ((s.setAlarm 21 true).raiseAt 563 0 (wingCode w)).hedgeFault w 563
  | .serai => s.reactAlarm 21 563 3
  | .engine n p => s.engineEcc n p
  | .image a => s.imageEcc a
  | .mram r k b two => s.mramEcc r k b two
  | .other => (s.setAlarm 21 true).reactReset 563

/-- ECC_CE: a corrected error counts in SAFE_CE_CNT, and in an engine's bank in PE_ECC_CE as well (R299, R478, R484). -/
def State.eccCe (s : State) (n : Option Nat) : State :=
  if !s.watching then s
  else
    let s1 := s.cnt Reg.SAFE_CE_CNT 0 32 1
    match n with
    | some e => s1.cnt (Reg.PE_ECC_CE e) 0 32 1
    | none => s1

/-- MANIFEST_CRC_RECHECK: a section of the applied manifest fails its CRC: SYSTEM (R459, R478). -/
def State.manifestCrcRecheck (s : State) (ok : Bool) : State := if ok || !s.watching || !s.dev.manOk then s else s.reactReset 565

/-- DIRECTED_CHECK_END (R479): a wing whose checker found a difference is excluded; with none identified, both wings stay in, every
line keeps voting 1oo2 and ALARM holds. The check lasts 100 ms at most. -/
def State.directedCheckEnd (s : State) (east west : Bool) : State :=
  match s.safe.directed with
  | none => s
  | some t =>
    if !east && !west && decide (s.clk.ns < t + 100000000) then s
    else
      let s1 := { s with safe.directed := none }
      let s2 := if east then s1.hedgeFault .east 566 else s1
      if west then s2.hedgeFault .west 566 else s2

/-! Clocks (R480) -/

/-- What a clock domain out of limits affects: the wing that owns it, or the whole device; CD0 and CD1 neither (R11, R480). -/
inductive ClkReact where
  | wing (w : Wing)
  | system
  | alarm
deriving DecidableEq, Repr

def clkReact (d : Nat) : ClkReact :=
  if d = 5 ∨ (7 ≤ d ∧ d ≤ 10) ∨ d = 16 ∨ d = 18 then .wing .east
  else if d = 6 ∨ (11 ≤ d ∧ d ≤ 14) ∨ d = 17 ∨ d = 19 then .wing .west
  else if d = 0 ∨ d = 1 then .alarm
  else .system

/-- A domain is found out of limits: its bit in SAFE_CLK_FAULT, CLOCK, the event and the reaction (R480, R484, R486). -/
def State.clockFault (s : State) (d : Nat) : State :=
  let s1 := s.wb Reg.SAFE_CLK_FAULT d true
  match clkReact d with
  | .wing w => s1.reactExclude 19 560 w
  | .system => (s1.setAlarm 19 true).reactReset 560
  | .alarm => s1.reactAlarm 19 560 3

/-- An engine is idle: it does not run, or its SP waits with no enabled event pending and its FP has none (R13, R445). -/
def State.engineIdle (s : State) (n : Nat) : Bool := !s.fpRuns n || ((s.en n).sp.waiting && s.spWants n == 0)

/-- A CAN channel or a Thicket engine is in use (R13): its bit rate runs, or it is enabled. -/
def State.serialUsed (s : State) : Bool :=
  (List.range 8).any (fun x => s.rf (Reg.CAN_CTRL x) 29 3 != 0) || (List.range 32).any (fun n => s.rb (Reg.TK_CTRL n) 31)

/-- A clock domain CD0-CD24 runs (R13). CD3 is the board's and is taken as running while MAIN is powered; a domain of lanes, rings or
serial channels runs while one of its lanes, rings or channels does (log entry 162). -/
def State.clockRuns (s : State) (d : Nat) : Bool :=
  let st := s.dev.st
  if d = 0 then st != .off
  else if d = 1 then
    st.serving || (st == .standby && (List.range 8).any (fun x => s.rb (Reg.CAN_WAKE_CFG x) 31))
  else if !st.awake then false
  else if d = 5 then s.mainUp && !s.dev.core.e
  else if d = 6 then s.mainUp && !s.dev.core.w
  else if 7 ≤ d ∧ d ≤ 14 then
    s.mainUp && !s.dev.core.at_ (if d < 11 then .east else .west)
      && !(s.toll.steps.contains 2 && (List.range 4).all (fun i => s.engineIdle (4 * (d - 7) + i)))
  else if d = 20 then
    s.mainUp && ((List.range 32).any (fun p => s.macOn p) || (List.range 4).any (fun r => s.rb (Reg.CQ_RING_CTRL r) 31))
  else if d = 21 then s.mainUp && (List.range 8).any (fun u => s.macOn (32 + u))
  else if d = 22 then s.mainUp && (List.range 4).any (fun r => s.rb (Reg.CQ_RING_CTRL r) 31)
  else if d = 23 then s.mainUp && s.serialUsed
  else if d = 24 then st != .inService || s.upd.stage.isSome
  else decide (d < 25)

/-- CLOCK_WINDOW (R480): a window of a domain ends: the third in a row out of limits, or a lost lock, is a fault. CD2 measures the
others and is not checked, nor is a domain that is gated (R13, R14). -/
def State.clockWindow (s : State) (d : Nat) (out lost : Bool) : State :=
  if !s.watching || d == 2 || !s.clockRuns d then s
  else
    let was := Tab.get 0 s.safe.clk d
    let n := if lost then 3 else if out then capAt 3 (was + 1) else 0
    let s1 := { s with safe.clk := if n = 0 then Tab.del s.safe.clk d else Tab.put s.safe.clk d n }
    if n = 3 && (lost || decide (was < 3)) then s1.clockFault d else s1

/-! Temperature (R481) -/

/-- Tmax of the suffix, as SAFE_TEMP_RD counts: in degrees plus 64 (R481, R484). -/
def State.tmax (s : State) : Nat := (if s.dev.suffixI then 110 else 125) + 64

/-- TEMP_READ (R481): above Tmax, TEMP, SAFE_TEMP and every throttle step until all readings have been below Tmax - 5 for 1 s; how long
one has been above Tmax + 10 is noted. -/
def State.tempRead (s : State) (centre west east : Octet) : State :=
  if !s.watching then s
  else
    let l := [centre.toNat, west.toNat, east.toNat]
    let top := l.foldl max 0
    let m := s.tmax
    let at_ := if east.toNat = top then 1 else if west.toNat = top then 2 else 3
    let s1 := s.wr Reg.SAFE_TEMP_RD (BitVec.ofNat 32 (centre.toNat * 65536 + west.toNat * 256 + east.toNat))
    let s2 := { s1 with
      safe.hotAt := if m + 10 < top then some (s.safe.hotAt.getD s.clk.ns) else none
      safe.coolAt := if top < m - 5 then some (s.safe.coolAt.getD s.clk.ns) else none }
    let s3 := if m < top && !s2.rb Reg.SAFE_ALARM 24 then s2.reactAlarm 24 564 at_ else s2
    let s4 := if m < top || s3.toll.forced then { s3 with toll.forced := true }.takeAll else s3
    match s4.safe.coolAt with
    | some t => if t + 1000000000 ≤ s4.clk.ns then { s4 with toll.forced := false }.setAlarm 24 false else s4
    | none => s4

/-- TEMP_SHUTDOWN (R481): above Tmax + 10 for 10 ms: SYSTEM. -/
def State.tempShutdown (s : State) : State :=
  match s.safe.hotAt with
  | some t => if !s.watching || decide (s.clk.ns < t + 10000000) then s else s.reactReset 564
  | none => s

/-! The meanings of the rows -/

/-- CLOCK_WINDOW (R480): A clock-monitor window ends and a domain out of limits for three windows gets its reaction. -/
def execClockWindow (d : Nat) (outOfLimits pllLost : Bool) (s : State) : Out :=
  live (clockWindowOk d) s (s.clockWindow d outOfLimits pllLost)

/-- TEMP_READ (R481): Every 1 ms die temperatures are read and over-temperature throttling set or released. -/
def execTempRead (centre west east : BitVec 8) (s : State) : Out :=
  live true s (s.tempRead centre west east)

/-- TEMP_SHUTDOWN (R481): A reading above Tmax + 10 °C for 10 ms causes a SYSTEM reaction. -/
def execTempShutdown (s : State) : Out :=
  live true s (s.tempShutdown)

/-- MANIFEST_CRC_RECHECK (R478): The safety monitor re-checks section CRCs and a failure causes SYSTEM. -/
def execManifestCrcRecheck (ok : Bool) (s : State) : Out :=
  live true s (s.manifestCrcRecheck ok)

/-- LOCKSTEP_FAULT (R478): A steward lockstep comparator flags a fault and the wing takes a core reset. -/
def execLockstepFault (w : Wing) (s : State) : Out :=
  live true s (s.lockstepFault w)

/-- PARITY_ERROR (R478): A datapath parity error is detected and its reaction applied. -/
def execParityError (w : Option Wing) (s : State) : Out :=
  live true s (s.parityError w)

/-- ECC_UE (R478): An uncorrectable SRAM error is found and handled by its block's reaction. -/
def execEccUe (u : EccSite) (s : State) : Out :=
  live true s (s.eccUe u)

/-- DIRECTED_CHECK_END (R479): The 100 ms directed checker run after MISMATCH ends without identifying a faulty wing. -/
def execDirectedCheckEnd (eastDiff westDiff : Bool) (s : State) : Out :=
  live true s (s.directedCheckEnd eastDiff westDiff)

/-- ECC_CE (R478): A correctable SECDED error is found on an access or by the 10 s scrub, corrected and counted in SAFE_CE_CNT or PE_ECC_CE. -/
def execEccCe (engine : Option Nat) (s : State) : Out :=
  live true s (s.eccCe engine)

end Sys2Proof.Machine
end

