-- ==== Sys2Proof/Machine/Access.lean ====
section
/-! DEFINITION. Host reads and writes of the register map (R3-R7, R40, R397, R417, R450): what each register shows, what a read or a
write of it does, accesses of every width, and the board controller's reads (R496). -/

namespace Sys2Proof.Machine

/-! Registers and their indices -/

/-- Indices of an offset in the dimensions of a row. -/
def dimsIx : List (Nat × Nat) → Nat → List Nat
  | [], _ => []
  | (st, _) :: ds, o => o / st :: dimsIx ds (o % st)

/-- The key of a row: the address of its first register. -/
def RegRow.key (r : RegRow) : Nat := if r.page then fnPage 0 + r.base else r.base

/-- The indices of a register of a row, the function of its page left out. -/
def RegRow.ix (r : RegRow) (a : Nat) : List Nat := dimsIx r.dims (if r.page then a % 0x10000 - r.base else a - r.base)

/-- The function whose page an address lies in. -/
def pageFn (a : Nat) : Nat := (a - 0x02000000) / 0x10000

/-- A 64-bit value shown as two words. -/
def half64 (v : Nat) (i : Nat) : Word := BitVec.ofNat 32 (v / 2 ^ (32 * i))

/-! What registers show (R68, R157, R251, R253, R285, R288, R316, R385, R389, R397, R417, R432, R452) -/

/-- What a register shows that is more than its stored word: state, reading function, indices. A register of a function page has the
function of the page. -/
abbrev View := State → Nat → Nat → Nat → Nat → Word

/-- The words of TIME_NOW as a reader latched them (R48). -/
def State.nowWord (s : State) (fn w i : Nat) : Word :=
  let t := Tab.get 0 s.time.nowLatch (2 * fn + w)
  let sec := t / tick1s
  match i with
  | 0 => BitVec.ofNat 32 sec
  | 1 => BitVec.ofNat 32 (sec / 2 ^ 32 % 65536)
  | _ => BitVec.ofNat 32 (t % 65536 * 65536)

/-- PE_CTX of a context, and its counter (R316). -/
def State.ctxWord (s : State) (n x : Nat) : Word :=
  match Tab.find (s.en n).ctx x with
  | some c => BitVec.ofNat 32 (bitOf c.slot.isSome * 2 ^ 31 + c.role % 256 * 2 ^ 16)
  | none => 0
def State.ctxCount (s : State) (n x : Nat) : Nat :=
  match Tab.find (s.en n).ctx x with
  | some c => c.ctr.toNat
  | none => 0

/-- CAN_RXHEAD: the head of the receive FIFO (R385); a read of an empty one is free (R5). -/
def State.rxHead (s : State) (x j : Nat) : Word :=
  match (s.cn x).rx with
  | (f, ns, k) :: _ => (rxWords f ns k).getD j 0
  | [] => 0

/-- FN_PRIV as held, whatever grants it (R395, R397). -/
def State.privWord (s : State) (t : Nat) : Word :=
  setFld (s.rd (Reg.FN_PRIV t)) 0 6 (((List.range 6).filter (fun b => s.hasPriv t b)).foldl (fun v b => v + 2 ^ b) 0)

/-- Engines of a cluster that run, bit i for the cluster's engine i (R316, log entry 36). -/
def State.clRunning (s : State) (c : Nat) : Nat :=
  ((List.range 4).filter (fun i => s.peState (4 * c + i) == 2)).foldl (fun v i => v + 2 ^ i) 0

/-- SYS_STATE (R452). -/
def State.sysState (s : State) : Word :=
  BitVec.ofNat 32 (s.dev.st.code * 2 ^ 28 + s.dev.prev.code * 2 ^ 24 + bitOf s.dev.storm * 2
    + bitOf (s.dev.core.e || s.dev.core.w))

/-- TOLL_STAT: the steps in force beside its flags (R452). -/
def State.tollStat (s : State) : Word :=
  setFld (s.rd Reg.TOLL_STAT) 0 12
    ((s.toll.steps.map tollNo).eraseDups.foldl (fun v n => v + 2 ^ (n - 1)) 0)

/-- SEC_STATUS and SEC_SVN: fuses as they took effect (R422, R423, R432). -/
def State.secStatus (s : State) : Word :=
  BitVec.ofNat 32 (bitOf s.sec.trngOk * 2 ^ 31 + bitOf s.sec.unlocked * 2 ^ 30 + s.debugLevel * 2 ^ 28 + s.fuseNum 4 % 16 * 2 ^ 24
    + s.bifur)
def State.secSvn (s : State) : Word :=
  let n (f : Nat) : Nat := (Tab.get [] s.sec.fuseLatched f).eraseDups.length
  BitVec.ofNat 32 (n 5 * 2 ^ 16 + n 6 * 2 ^ 8 + n 7)

/-- The views of the TIME, HEDGE, bridge, MAC and SWITCH blocks. -/
def views1 : List (Nat × View) := [
  (Reg.TIME_NOW_SEC_LO .east, fun s fn w _ _ => s.nowWord fn w 0),
  (Reg.TIME_NOW_SEC_HI .east, fun s fn w _ _ => s.nowWord fn w 1),
  (Reg.TIME_NOW_FRAC .east, fun s fn w _ _ => s.nowWord fn w 2),
  (Reg.LTC_HI .east, fun s fn w _ _ => Tab.get 0 s.time.ltcLatch (2 * fn + w)),
  (Reg.TIME_TRIPLE .east 0, fun s fn w i _ =>
    match Tab.find s.time.tripleLatch (2 * fn + w) with
    | some t => t.word i
    | none => 0),
  (Reg.TIME_STATUS, fun s _ _ _ _ => setFld (s.rd Reg.TIME_STATUS) 0 16 s.holdS),
  (Reg.TRG_STAT .east 0, fun s _ w n _ => Config.trgStat (s.trg (8 * w + n)).missed (s.trg (8 * w + n)).skipped),
  (Reg.CAP_FIFO .east 0 0, fun s _ w n i => (headRec (Tab.get [] s.time.cap (4 * w + n))).word i),
  (Reg.CAP_STAT .east 0, fun s _ w n _ => Config.capStat (s.time.capOvf.contains (4 * w + n))),
  (Reg.TSQ_ENTRY 0 0, fun s _ p i _ => (headRec (Tab.get [] s.time.tsq p)).word i),
  (Reg.HEDGE_PH .east 0 0, fun s fn w c _ => Tab.get 0 (s.hedge.at_ (wingOf w)).phLatch (fn * 1024 + c)),
  (Reg.HEDGE_LEASE, fun s _ _ _ _ => s.leaseReg),
  (Reg.LEASE_STAT 0, fun s t _ _ _ => s.leaseStat t),
  (Reg.BR_TAGS 0, fun s t _ _ _ => s.tagsView t),
  (Reg.BR_QUOTA 0, fun s _ t _ _ => s.tagsView t),
  (Reg.BR_NODE_Q 0, fun s _ n _ _ => s.nodeQView n),
  (Reg.MAC_PAUSE_LEFT 0, fun s _ p _ _ => s.pauseLeft p),
  (Reg.MAC_CNT 0 0 0, fun s fn p j _ => Tab.get 0 s.sw.cntLatch (2048 * fn + 33 * p + j)),
  (Reg.SW_STATUS, fun s _ _ _ _ => BitVec.ofNat 32 (bitOf s.dev.manOk * 2 ^ 31 + s.fdbCount % 65536)),
  (Reg.SW_SHARED_FREE, fun s _ _ _ _ => BitVec.ofNat 32 s.swFree),
  (Reg.SW_QLEN 0 0, fun s _ p q _ => BitVec.ofNat 32 (((s.swQueue p q).map (fun f => f.cells)).sum % 2 ^ 18)),
  (Reg.SW_PAIR_NODES 0, fun s _ k _ _ =>
    BitVec.ofNat 32 ((Tab.get [] s.sw.proxy k).length * 2 ^ 16 + (Tab.get [] s.sw.nodes k).length))]

/-- The views of the other blocks. -/
def views2 : List (Nat × View) := [
  (Reg.PE_DBANK_DATA 0, fun s _ n _ _ => s.dbankData n),
  (Reg.PE_CTX 0 0, fun s _ n x _ => s.ctxWord n x),
  (Reg.PE_CTX_CNT 0 0 0, fun s _ n x i => half64 (s.ctxCount n x) i),
  (Reg.PE_CL_STAT 0, fun s _ c _ _ => setFld (s.rd (Reg.PE_CL_STAT c)) 0 4 (s.clRunning c)),
  (Reg.CAN_RXHEAD 0 0, fun s _ x j _ => s.rxHead x j),
  (Reg.CAN_TXSTAT 0 0, fun s _ x i _ => s.txstatView x i),
  (Reg.TK_CTRL 0, fun s _ n _ _ => s.tkCtrlView n),
  (Reg.TK_CNT 0, fun s _ n _ _ => s.tkCntView n),
  (Reg.TK_SR 0, fun s _ n _ _ => (s.tke n).sr),
  (Reg.TK_STAT 0, fun s _ n _ _ => s.tkStatView n),
  (Reg.HOST_STATUS, fun s _ _ _ _ => setFld (s.rd Reg.HOST_STATUS) 0 2 s.bifur),
  (Reg.HOST_FN_CFG 0 0, fun s _ t i _ =>
    match i with
    | 0 => s.rd (Reg.FN_ID t)
    | 1 => s.privWord t
    | 2 => s.rd (Reg.FN_QOS t)
    | _ => s.rd (Reg.FN_MB_RBUF t)),
  (Reg.HOST_MB_BIND 0, fun s _ ch _ _ => s.bindOf ch),
  (Reg.FN_PRIV 0, fun s t _ _ _ => s.privWord t),
  (Reg.MSIX_TABLE 0 0 0, fun s t v i _ => if v < s.rf (Reg.FN_ID t) 0 8 then s.rd (Reg.MSIX_TABLE t v i) else 0),
  (Reg.SEC_STATUS, fun s _ _ _ _ => s.secStatus),
  (Reg.SEC_SVN, fun s _ _ _ _ => s.secSvn),
  (Reg.SEC_EUI 0, fun s _ i _ _ => half64 s.devEui.toNat i),
  (Reg.SEC_SLOT 0, fun s _ k _ _ => s.slotWord k),
  (Reg.SYS_STATE, fun s _ _ _ _ => s.sysState),
  (Reg.SYS_PWR, fun s _ _ _ _ => setFld (s.rd Reg.SYS_PWR) 31 1 (bitOf s.dev.vinOk)),
  (Reg.TOLL_STAT, fun s _ _ _ _ => s.tollStat),
  (Reg.RTC_SEC 0, fun s _ i _ _ => half64 s.clk.rtc.toNat i)]

/-- Reserved bits by the key of the row (R36, R38, R70, R96-R98, R120, R127, R128, R150, R158, R159, R177, R178, R230, R231, R252,
R286, R287, R289, R317, R318, R366, R367, R386, R390, R398, R400, R408, R433, R453, R454, R468, R485). -/
def rsvTable : List (Nat × Nat) := [
  (Reg.CAN_BTR_DATA 0, 0x60E0F0F0), (Reg.MAC_QRATE 0 0, 0x00FC0000),
  (Reg.ARB_STATUS, 0x03000000), (Reg.IWL_STAT, 0x3FFF0000), (Reg.TRG_CTRL .east 0, 0x007FFFFF), (Reg.INTAKE_CTRL .east, 0x3FFFFFFF),
  (Reg.INTAKE_STATUS .east, 0x3FFFFC00), (Reg.STREAM_STAT .east 0, 0x00020000), (Reg.SLICE_CFG 0 0, 0x003FFFF0),
  (Reg.WALL_SECT_CFG0 .east 0, 0x0007C000), (Reg.WALL_SECT_STAT .east 0, 0x3FFFF800), (Reg.LEASE_CMD 0, 0x0FFF0000),
  (Reg.LEASE_STAT 0, 0x07000000), (Reg.HEDGE_EL_STAT .east 0, 0x01CF0000), (Reg.HEDGE_CMP_STAT .east, 0x1F0000FF),
  (Reg.TRIP_CMD_CTL 0, 0x0FFF0000), (Reg.TRIP_PIN_STAT .east, 0xFF000000), (Reg.CQ_RING_CMD 0, 0x003FFFFF),
  (Reg.CQ_NODE_STAT 0 0, 0x000F00FF), (Reg.BR_ERR 0, 0x03FFFFFF), (Reg.MAC_CFG 0, 0x0003F800), (Reg.MAC_STAT 0, 0x0000FFFF),
  (Reg.SW_PAIR_CFG 0, 0x0000003F), (Reg.PE_STAT 0, 0x07000000), (Reg.PE_TRAP 0, 0x3F800000), (Reg.ILK_CFG 0, 0x000000FF),
  (Reg.ILK_STAT 0, 0x070007FF), (Reg.CAN_CTRL 0, 0x03FF0000), (Reg.TK_STAT 0, 0x0FFFE0E0), (Reg.FN_STAT 0, 0x007FFFFF),
  (Reg.MB_STAT 0 0, 0x03FFFFFF), (Reg.ER_ROUTE 0 0, 0x3F00FFC0), (Reg.MSEC_TX_CTRL 0, 0x01FFFFFC), (Reg.SYS_CMD, 0x0000FFF0),
  (Reg.SYS_RESET_CAUSE, 0x0000FFF0), (Reg.MAN_STAT, 0x000000FF), (Reg.SAFE_ALARM, 0x0003FFFF)]

/-- Reserved bits of the words of a row whose words differ: TRIP_TGT_CFG word 1 (R177), the words of a transmit buffer (R385), and of the
backup registers BKUP(0) and those of the steward's firmware (R451). Of the head of an empty receive FIFO nothing is stated (R385). -/
def State.rsvWord (s : State) (key : Nat) (ix : List Nat) : Nat :=
  let i := ix.getD 0 0
  if key = Reg.TRIP_TGT_CFG 0 0 then (if ix.getD 1 0 = 1 then 0x10000000 else 0)
  else if key = Reg.CAN_TXBUF 0 0 0 then (if ix.getD 1 0 = 1 then 0x7FFFFFF0 else if 18 ≤ ix.getD 1 0 then 0xFFFFFFFF else 0)
  else if key = Reg.CAN_RXHEAD 0 0 then
    (if (s.cn i).rx.isEmpty ∨ 20 ≤ ix.getD 1 0 then 0xFFFFFFFF else if ix.getD 1 0 = 1 then 0x7FFFFFF0 else 0)
  else if key = Reg.BKUP 0 then (if i = 0 then 0x3F00FFFF else if 2 ≤ i ∧ i < 8 then 0xFFFFFFFF else 0)
  else if key = Reg.CAN_TXREQ 0 0 ∨ key = Reg.CAN_TXABORT 0 0 then 0xFFFFFFFF
  else 0

/-- Find by key. -/
def byKey {α : Type} (l : List (Nat × α)) (k : Nat) : Option α := (l.find? (fun p => p.1 == k)).map (fun p => p.2)

/-- A register is there for the host: the internal channels' words are not (R403); the secure channel's registers are in the page of a
SECURE function that has one (R397), a subscription's in its owner's (R119). -/
def State.present (s : State) (a : Nat) (r : RegRow) : Bool :=
  if !r.page then decide (a < 0x01140000)
  else
    let t := pageFn a
    let o := a % 0x10000
    if decide (0x1200 ≤ o) && decide (o < 0x1400) then s.rb (Reg.FN_PRIV t) 8 && s.rf (Reg.FN_PRIV t) 16 8 != 0xFF
    else if decide (0x4800 ≤ o) && decide (o < 0x5800) then s.ownsSlice t ((o - 0x4800) / 0x20)
    else true

/-- The row of a register that is there (R4). -/
def State.regAt (s : State) (a : Nat) : Option RegRow :=
  match regInfo a with
  | some r => if s.present a r then some r else none
  | none => none

/-- What a reader sees of a register without its reserved bits. -/
def State.shows (s : State) (fn a : Nat) (r : RegRow) : Word :=
  let ix := r.ix a
  match byKey views1 r.key, byKey views2 r.key with
  | some v, _ => v s (if r.page then pageFn a else fn) (ix.getD 0 0) (ix.getD 1 0) (ix.getD 2 0)
  | _, some v => v s (if r.page then pageFn a else fn) (ix.getD 0 0) (ix.getD 1 0) (ix.getD 2 0)
  | _, _ => s.rd a

/-- What a read returns: an offset without a register reads 0 (R4); reserved bits are free (R5), and so are those of the registers
that are written with 1 to act, of which no rule says when a bit that was set reads 0 again (R5, log entry 163). -/
def State.shown (s : State) (fn a : Nat) : Word :=
  match s.regAt a with
  | some r =>
    let m := BitVec.ofNat 32 ((byKey rsvTable r.key).getD 0 ||| s.rsvWord r.key (r.ix a))
    (s.shows fn a r &&& ~~~m) ||| (s.freshWord &&& m)
  | none => 0

/-! Reads that act (R3, R5, R7, R48, R65, R66, R157, R228, R283, R381, R401) -/

/-- What a read of a register does in place of the plain read: reading function, indices, lane, size. -/
abbrev ReadAct := State → Nat → List Nat → Nat → Nat → State

/-- MAC_COUNTER_READ: the low word, latching the high one's low half for the reader (R283). -/
def State.macLowRead (s : State) (fn p j lane size : Nat) : State :=
  s.ownerRead fn lane size (s.rd (Reg.MAC_CNT p j 0)) (fun t =>
    { t with sw.cntLatch := Tab.put t.sw.cntLatch (2048 * fn + 33 * p + j) (t.rd (Reg.MAC_CNT p j 1) &&& 0xFFFF#32) })

/-- TK_RXFIFO_READ: the head, which is popped; 0 from an empty FIFO (R381). -/
def State.rxFifoRead (s : State) (fn n lane size : Nat) : State :=
  s.ownerRead fn lane size ((s.tke n).rx.headD 0) (fun t => t.tkRxPop n)

/-- Registers whose read acts, by key and by their last index where only one word acts. -/
def State.readAct (s : State) (fn a lane size : Nat) : Option State :=
  match regInfo a with
  | none => none
  | some r =>
    let ix := r.ix a
    let i := ix.getD 0 0
    let j := ix.getD 1 0
    let k := ix.getD 2 0
    let w := wingOf i
    if r.key = Reg.TIME_NOW_NS .east then some (s.nowRead fn w lane size)
    else if r.key = Reg.LTC_LO .east then some (s.ltcLoRead fn w lane size)
    else if r.key = Reg.TIME_TRIPLE .east 0 ∧ j = 0 then some (s.tripleRead fn w lane size)
    else if r.key = Reg.CAP_FIFO .east 0 0 ∧ k = 3 then some (s.capPop fn (4 * i + j) lane size)
    else if r.key = Reg.TSQ_ENTRY 0 0 ∧ j = 3 then some (s.tsqTake fn i lane size)
    else if r.key = Reg.HEDGE_PH .east 0 0 ∧ k = 0 then some (s.phRead fn w j lane size)
    else if r.key = Reg.CQ_CYCLE_LO 0 then some (s.cycleRead fn i lane size)
    else if r.key = Reg.MAC_CNT 0 0 0 ∧ k = 0 then some (s.macLowRead fn i j lane size)
    else if r.key = Reg.TK_RXFIFO 0 then some (s.rxFifoRead fn i lane size)
    else none

/-- Clear the read-clears fields that a read covers in part or whole, leaving a same-cycle increment alone in them (R3, R5, R7). -/
def clearRc (fields : List Nat) (cov inc v : Word) : Word :=
  fields.foldl (fun acc m =>
    let f := BitVec.ofNat 32 m
    if f &&& cov = 0 then acc else (acc &&& ~~~f) ||| (inc &&& f)) v

/-- The read's effect on read-clears registers. TRGn_STAT, CAPn_STAT and SW_SHARED_LOW are not held as their words: the first two have no
layout (log entry 5), the last starts again from the F of the moment (R288, log entry 39). -/
def State.readClears (s : State) (a lane size : Nat) (inc : Word) : State :=
  match s.regAt a with
  | none => s
  | some r =>
    let ix := r.ix a
    let m := 8 * ix.getD 0 0 + ix.getD 1 0
    let c := 4 * ix.getD 0 0 + ix.getD 1 0
    if r.rc.isEmpty then s
    else if r.key = Reg.TRG_STAT .east 0 then
      s.setTrg m { s.trg m with missed := (Config.trgInc inc).1, skipped := (Config.trgInc inc).2 }
    else if r.key = Reg.CAP_STAT .east 0 then
      let l := s.time.capOvf.filter (fun x => x != c)
      { s with time.capOvf := if Config.capInc inc then c :: l else l }
    else if r.key = Reg.SW_SHARED_LOW then (if laneMask lane size &&& 0x7FFFF#32 = 0 then s else s.wf a 0 19 s.swFree)
    else s.wr a (clearRc r.rc (laneMask lane size) inc (s.rd a))

/-! Mailbox words (R399-R406, R417) -/

/-- The channel and word that an address of the map names: in a function page, or in the owner's channel window. -/
def State.mbWord (s : State) (a : Nat) : Option (Nat × Nat) :=
  if 0x02000000 ≤ a then
    let t := pageFn a
    let o := a % 0x10000
    if 0x1000 ≤ o ∧ o < 0x1024 then some (t, (o - 0x1000) / 4)
    else if 0x1200 ≤ o ∧ o < 0x1224 ∧ s.rb (Reg.FN_PRIV t) 8 ∧ s.rf (Reg.FN_PRIV t) 16 8 ≠ 0xFF then
      some (256 + s.rf (Reg.FN_PRIV t) 16 8, (o - 0x1200) / 4)
    else none
  else if 0xE40000 ≤ a ∧ a < 0xE40000 + 0x40 * 272 ∧ a % 0x40 < 0x24 ∧ s.dev.st ≠ .safeTalk then
    some ((a - 0xE40000) / 0x40, a % 0x40 / 4)
  else none

/-- A read of a word of a channel (R399, R401, R405, R406). -/
def State.mbRead (s : State) (mid ch i lane size : Nat) : State :=
  let v := s.rd (s.mbAt ch i)
  if i < 4 then s.slotRead mid ch lane size (s.tdDead ch) v (fun t => t)
  else if i = 4 then s.takeFd mid ch lane size
  else if i < 8 then s.slotRead mid ch lane size false v (fun t => t)
  else (s.used 1).slotRead mid ch lane size false (v ||| (s.freshWord &&& 0x03FFFFFF#32)) (fun t => t)

/-- A write of a word of a channel: the TD slot; of MB_STAT, TAKEN_EN and the bits written one to clear (R399-R401, R405, R406). -/
def State.mbWrite (s : State) (mid ch i : Nat) (val hw : Word) : State :=
  let a := s.mbStat ch
  match i with
  | 0 => s.tdWrite mid ch (fun t => t.wr (t.mbAt ch 0) val)
  | 1 => s.tdWrite mid ch (fun t => t.wr (t.mbAt ch 1) val)
  | 2 => s.tdWrite mid ch (fun t => t.wr (t.mbAt ch 2) (val &&& 1#32))
  | 3 => s.tdCtlWrite mid ch val
  | 8 =>
    if !s.pathTo mid ch then s
    else if !s.boundTo mid ch then s.mbDenied ch
    else (s.wr a ((s.rd a &&& ~~~(val &&& 0x38000000#32)) ||| (hw &&& 0x38000000#32))).wb a 26 (tst val 26)
  | _ => s

/-! Reads of every width (R3) -/

/-- The owner's reach in the map: in SAFE TALK SYS, SAFETY and MRAM alone (R467). -/
def State.blockOn (s : State) (a : Nat) : Bool :=
  decide (0x02000000 ≤ a) || s.dev.st != .safeTalk || (decide (0x100000 ≤ a) && decide (a < 0x200000)) || decide (0x1000000 ≤ a)

/-- A read of `size` bytes at byte `lane` of the register at an address of the map, with any same-cycle increments. -/
def State.readReg (s : State) (fn a lane size : Nat) (inc : Word) : State :=
  match s.mbWord a with
  | some (ch, i) => s.mbRead fn ch i lane size
  | none =>
    if !s.blockOn a then s.answer 0
    else match s.readAct fn a lane size with
    | some t => t
    | none => ((s.used 1).readClears a lane size inc).answer (laneData (s.shown fn a) lane size)

/-- Two reads of one access: the data of the second above the `n` bytes of the first; an access that fails fails whole. -/
def joinReads (n : Nat) (first : State) (second : State → State) : State :=
  let t := second first
  if first.bus.cpl != .ok then { t with bus := first.bus }
  else if t.bus.cpl != .ok then t
  else { t with bus.rdata := first.bus.rdata ||| (t.bus.rdata <<< (8 * n)) }

/-- A read of at most four bytes: one that crosses a register boundary reads both (R3). -/
def State.read32 (s : State) (fn off size : Nat) (inc : Word) : State :=
  let one (t : State) (o lane n : Nat) (inc : Word) : State :=
    match barAddr fn o with
    | some a => t.readReg fn a lane n inc
    | none => t.refuseBus .ur
  let base := off / 4 * 4
  let lane := off % 4
  if lane + size ≤ 4 then one s base lane size inc
  else joinReads (4 - lane) (one s base lane (4 - lane) inc) (fun t => one t (base + 4) 0 (lane + size - 4) 0)

/-! Retained memory (R450) -/

/-- Bytes of the MRAM window: the state records, session counters, sealed slots and start-up records have no layout in the manual, so
their bytes are free (log entry 5). -/
def State.mramByte (s : State) (a : Nat) : Octet :=
  if a < 0x2000 ∨ (0x3000 ≤ a ∧ a < 0x8000) then ((s.freshWord) >>> (8 * (a % 4))).setWidth 8 else Tab.get 0 s.mram.mem a

/-- A read that covers bytes of the MRAM window, of any width and alignment; bytes beyond it read 0 (R3, R4, R450). -/
def State.mramRead (s : State) (off size : Nat) : State :=
  let l := (List.range size).map (fun i =>
    if 0x01100000 ≤ off + i ∧ off + i < 0x01140000 then s.mramByte (off + i - 0x01100000) else 0)
  (s.used 1).answer (BitVec.ofNat 64 (l.foldr (fun b v => b.toNat + 256 * v) 0))

/-- READ_CLEAR, and every host read of the map (R3-R7, R40, R393, R414): of 64 bits as two of 32, the lower first. -/
def State.hostRead (s : State) (fn off size : Nat) (inc : Word) : State :=
  if !s.reach fn then s.unreached fn
  else if fn = 0 ∧ off < 0x01140000 ∧ 0x01100000 < off + size then s.mramRead off size
  else if size = 8 then joinReads 4 (s.read32 fn off 4 inc) (fun t => t.read32 fn (off + 4) 4 0)
  else s.read32 fn off size inc

/-- READ_CLEAR (R5). -/
def State.readClear (s : State) (fn off size : Nat) (inc : Word) : State := s.hostRead fn off size inc

/-- A read of a register whose read acts: at most four bytes are `act`; a 64-bit read goes on to the next word (R3). -/
def State.ownRead (s : State) (fn a lane size : Nat) (act : State → Nat → Nat → State) : State :=
  if size = 8 then joinReads 4 (act s lane 4) (fun t => t.read32 fn (a + 4) 4 0) else act s lane size

/-- TIME_NOW_READ, LTC_READ (R48), TIME_TRIPLE_READ (R505), CAPTURE_POP (R65), TSQ_ENTRY_POP (R66), HEDGE_PH_READ (R157),
CQ_CYCLE_READ (R228), MAC_COUNTER_READ (R283), TK_RXFIFO_READ (R381). -/
def State.timeNowRead (s : State) (fn : Nat) (w : Wing) (lane size : Nat) : State :=
  s.ownRead fn (Reg.TIME_NOW_NS w) lane size (fun t l z => t.nowRead fn w l z)
def State.ltcRead (s : State) (fn : Nat) (w : Wing) (lane size : Nat) : State :=
  s.ownRead fn (Reg.LTC_LO w) lane size (fun t l z => t.ltcLoRead fn w l z)
def State.timeTripleRead (s : State) (fn : Nat) (w : Wing) (lane size : Nat) : State :=
  s.ownRead fn (Reg.TIME_TRIPLE w 0) lane size (fun t l z => t.tripleRead fn w l z)
def State.capturePop (s : State) (mid c lane size : Nat) : State :=
  if mid < 256 then s.ownRead mid (Reg.CAP_FIFO (capWing c) (c % 4) 3) lane size (fun t l z => t.capPop mid c l z)
  else if s.fpRuns ((mid - 256) % 32) then s.capTake c lane size
  else s
def State.tsqEntryPop (s : State) (fn p lane size : Nat) : State :=
  s.ownRead fn (Reg.TSQ_ENTRY p 3) lane size (fun t l z => t.tsqTake fn p l z)
def State.hedgePhRead (s : State) (fn : Nat) (w : Wing) (c lane size : Nat) : State :=
  s.ownRead fn (Reg.HEDGE_PH w c 0) lane size (fun t l z => t.phRead fn w c l z)
def State.cqCycleRead (s : State) (fn r lane size : Nat) : State :=
  s.ownRead fn (Reg.CQ_CYCLE_LO r) lane size (fun t l z => t.cycleRead fn r l z)
def State.macCounterRead (s : State) (fn p j lane size : Nat) : State :=
  s.ownRead fn (Reg.MAC_CNT p j 0) lane size (fun t l z => t.macLowRead fn p j l z)
def State.tkRxfifoRead (s : State) (fn n lane size : Nat) : State :=
  s.ownRead fn (Reg.TK_RXFIFO n) lane size (fun t l z => t.rxFifoRead fn n l z)

/-- FD_PTR_LO_READ (R401): the read takes the message; one of 64 bits goes on to FD_PTR_HI. -/
def State.fdPtrLoRead (s : State) (mid ch lane size : Nat) : State :=
  if size = 8 then joinReads 4 (s.takeFd mid ch 0 4) (fun t => t.mbRead mid ch 5 0 4) else s.takeFd mid ch lane size

/-! Writes (R3-R6) -/

/-- The bits of a register that a write changes: BKUP(0) holds START_MODE and the slot flags, BKUP(1) to BKUP(7) are read-only (R451);
the mask word of a filter has 29 bits (R385). -/
def rwBits (r : RegRow) (a : Nat) : Nat :=
  if r.key = Reg.BKUP 0 then (if a = Reg.BKUP 0 then 0xC0FF0000 else if a < Reg.BKUP 8 then 0 else 0xFFFFFFFF)
  else if r.key = Reg.CAN_FILTER 0 0 0 ∧ (r.ix a).getD 2 0 = 1 then 0x1FFFFFFF
  else r.rw

/-- The privilege that a write of a register needs, if it has it: P_CFG for the backup registers too (R395, R451). -/
def State.mayWrite (s : State) (fn : Nat) (r : RegRow) : Bool :=
  match r.priv with
  | .cfg => s.pCfg fn
  | .sec => s.hasPriv fn 3
  | .any => r.key != Reg.BKUP 0 || s.pCfg fn

/-- Store a write: the writable bits take the value, those written as one to clear are cleared, and what the hardware sets in the same
cycle wins (R5, R6). -/
def State.store (s : State) (r : RegRow) (a : Nat) (val hw : Word) : State :=
  let m := BitVec.ofNat 32 (rwBits r a)
  let c := BitVec.ofNat 32 r.w1c
  s.wr a ((((s.rd a &&& ~~~m) ||| (val &&& m)) &&& ~~~(val &&& c)) ||| (hw &&& c))

/-- LEASE_CMD by its OP (R150). -/
def State.leaseWrite (s : State) (t : Nat) (v : Word) : State :=
  let q : Half := v.setWidth 16
  match fld v 28 4 with
  | 1 => s.acquire t q
  | 2 => s.refresh t q
  | 3 => s.release t q
  | _ => s

/-- CQ_RING_CMD by its OP (R230). -/
def State.ringWrite (s : State) (fn r : Nat) (v : Word) : State :=
  match fld v 28 4 with
  | 1 => s.unwrap fn r
  | 2 => s.restore fn r
  | 3 => s.sleep fn r
  | 4 => s.wake fn r
  | 5 => s.nodeReset fn r (fld v 22 6)
  | 6 => s.clearFalseWake fn r (fld v 22 6)
  | op => s.ringCmd fn r op 4 (fun t => t)

/-- BR_OUT_HOLD by its HOLD bit (R240). -/
def State.holdWrite (s : State) (t : Nat) (v : Word) : State := if tst v 31 then s.outHoldSet t (fld v 0 6) else s.outHoldClear t

/-- The configuration words of the rings and subscriptions of a page: while EN = 1, BASE, LOG2_ENTRIES and WB are kept (R119, R251). -/
def State.ringCfg (s : State) (a : Nat) (rw v : Word) : State :=
  if s.rb a 31 then s.wr a (setFld (v &&& rw) 0 4 (s.rf a 0 4)) else s.wr a (v &&& rw)
def State.unlessOn (s : State) (cfg a : Nat) (v : Word) : State := if s.rb cfg 31 then s else s.wr a v

/-- MSI-X table: entries from the vector count on are discarded; a mask bit cleared posts what waits (R397, R409). -/
def State.msixWrite (s : State) (t v i : Nat) (val : Word) : State :=
  if s.rf (Reg.FN_ID t) 0 8 ≤ v then s
  else if i = 3 ∧ s.rb (Reg.MSIX_TABLE t v 3) 0 ∧ !tst val 0 then (s.wr (Reg.MSIX_TABLE t v 3) val).vectorUnmask t v false
  else s.wr (Reg.MSIX_TABLE t v i) val

/-- ER_PEND: each bit needs P_CFG or a route word that names the writer (R417). -/
def State.pendWrite (s : State) (fn i : Nat) (val hw : Word) : State :=
  let named (es : Nat) : Bool := (List.range 4).any (fun d =>
    let w := s.rd (Reg.ER_ROUTE es d)
    tst w 31 && !tst w 30 && fld w 16 8 == fn)
  let m := ((List.range 32).filter (fun b => tst val b && (s.pCfg fn || named (32 * i + b)))).foldl (fun v b => v + 2 ^ b) 0
  let a := Reg.ER_PEND i
  s.wr a ((s.rd a &&& ~~~(BitVec.ofNat 32 m)) ||| hw)

/-- CAN_TXREQ and CAN_TXABORT by their halves (R370). -/
def bits64 (i : Nat) (v : Word) : BitVec 64 := BitVec.ofNat 64 (v.toNat * 2 ^ (32 * i))

/-- A write of one of the registers whose write acts (R36-R38 aside): the shared operation of its row; none for the others. -/
abbrev WriteAct := State → Nat → Nat → Nat → Nat → Word → State

/-- Registers of the owner's map whose write acts: state, function, indices, value. -/
def acts : List (Nat × WriteAct) := [
  (Reg.SYS_CMD, fun s fn _ _ _ v => s.sysCmd fn v),
  (Reg.TRG_CTRL .east 0, fun s fn w n _ v => s.triggerArm fn (8 * w + n) v),
  (Reg.TIME_PORT_STATE 0, fun s fn p _ _ v => s.timePortStateWrite fn p v),
  (Reg.INTAKE_CTRL .east, fun s fn w _ _ v => s.simEnWrite fn (wingOf w) v),
  (Reg.STREAM_STAT .east 0, fun s fn w n _ v => s.confrevClear fn (wingOf w) n v),
  (Reg.PUB_WR 0, fun s fn p _ _ v => s.pubWrAdvance fn p v),
  (Reg.CQ_RING_CMD 0, fun s fn r _ _ v => s.ringWrite fn r v),
  (Reg.SW_FDB_KEY 0, fun s fn i _ _ v => if i = 1 then s.fdbLookup fn v else s.wr (Reg.SW_FDB_KEY 0) v),
  (Reg.PE_DBANK_ADDR 0, fun s fn n _ _ v => s.peDbankAddrWrite fn n v),
  (Reg.CAN_CTRL 0, fun s fn x _ _ v => s.canModeWrite fn x v),
  (Reg.CAN_BTR_NOM 0, fun s fn x _ _ v => s.canTimingWrite fn x 8 v),
  (Reg.CAN_BTR_DATA 0, fun s fn x _ _ v => s.canTimingWrite fn x 12 v),
  (Reg.CAN_TDC 0, fun s fn x _ _ v => s.canTimingWrite fn x 28 v),
  (Reg.CAN_TXREQ 0 0, fun s fn x i _ v => s.canTxreq fn x (bits64 i v)),
  (Reg.CAN_TXABORT 0 0, fun s fn x i _ v => s.canTxabort fn x (bits64 i v)),
  (Reg.CAN_RXPOP 0, fun s fn x _ _ _ => s.canRxpop fn x),
  (Reg.CAN_TXBUF 0 0 0, fun s fn x i j v =>
    if s.ownerCfg fn && (s.canEngine x).isNone then s.wr (Reg.CAN_TXBUF x i j) v else s),
  (Reg.CAN_WAKE_STAT 0, fun s fn x _ _ v => s.wakeDisClear fn x v),
  (Reg.TK_CTRL 0, fun s fn n _ _ v => s.tkCtrl fn n v),
  (Reg.TK_LUT 0 0, fun s fn n i _ v => s.tkLutWrite fn n i v),
  (Reg.TK_TXFIFO 0, fun s fn n _ _ v => s.tkTxfifoWrite fn n v),
  (Reg.MSEC_TX_CTRL 0, fun s fn u _ _ v => s.txAnWrite fn u v),
  (Reg.MSEC_TXSA 0 0 0, fun s fn u n i v => if s.hasPriv fn 3 then (s.wr (Reg.MSEC_TXSA u n i) v).freshSa u n else s)]

/-- Registers of a function page whose write acts; the indices leave out the function of the page. -/
def pageActs : List (Nat × WriteAct) := [
  (Reg.LEASE_CMD 0, fun s t _ _ _ v => s.leaseWrite t v),
  (Reg.TRIP_CMD_GO 0, fun s t _ _ _ v => s.tripGo t ((v >>> 16).setWidth 16) (v.setWidth 16)),
  (Reg.BR_SQ_BASE 0 0, fun s t i _ _ v => s.unlessOn (Reg.BR_SQ_CFG t) (Reg.BR_SQ_BASE t i) v),
  (Reg.BR_SQ_CFG 0, fun s t _ _ _ v => s.ringCfg (Reg.BR_SQ_CFG t) 0x8000000F#32 v),
  (Reg.BR_SQ_TAIL 0, fun s t _ _ _ v => s.sqDoorbell t v),
  (Reg.BR_CQ_BASE 0 0, fun s t i _ _ v => s.unlessOn (Reg.BR_CQ_CFG t) (Reg.BR_CQ_BASE t i) v),
  (Reg.BR_CQ_CFG 0, fun s t _ _ _ v => s.ringCfg (Reg.BR_CQ_CFG t) 0x9FC0000F#32 v),
  (Reg.BR_SNAP 0, fun s t _ _ _ v => s.brSnapWrite t v),
  (Reg.BR_OUT_HOLD 0, fun s t _ _ _ v => s.holdWrite t v),
  (Reg.SLICE_BASE 0 0 0, fun s t g i _ v => s.unlessOn (Reg.SLICE_CFG t g) (Reg.SLICE_BASE t g i) v),
  (Reg.SLICE_CFG 0 0, fun s t g _ _ v => s.sliceCfgWrite t g v),
  (Reg.SLICE_WB 0 0 0, fun s t g i _ v => s.unlessOn (Reg.SLICE_CFG t g) (Reg.SLICE_WB t g i) v),
  (Reg.SLICE_CONS 0 0, fun s t g _ _ v => s.sliceConsWrite t g v),
  (Reg.MSIX_TABLE 0 0 0, fun s t v i _ x => s.msixWrite t v i x)]

/-- A 32-bit write of a register of the map (R3-R6). A write of a block that SAFE TALK does not give has no effect (R467). -/
def State.writeReg (s : State) (fn a : Nat) (val hw : Word) : State :=
  match s.mbWord a with
  | some (ch, i) => s.mbWrite fn ch i val hw
  | none =>
    if !s.blockOn a then s
    else match s.regAt a with
    | none => s
    | some r =>
      let ix := r.ix a
      let go (f : WriteAct) : State :=
        let t := f s fn (ix.getD 0 0) (ix.getD 1 0) (ix.getD 2 0) val
        t.wr a (t.rd a ||| (hw &&& BitVec.ofNat 32 r.w1c))
      if r.key = Reg.ER_PEND 0 then s.pendWrite fn (ix.getD 0 0) val hw
      else match byKey acts r.key, byKey pageActs r.key with
      | some f, _ => go f
      | _, some f => go f
      | _, _ =>
        if !s.mayWrite fn r then s
        else if r.key = Reg.TIME_SERVO then (s.store r a val hw).cutPps
        else if r.key = Reg.SAFE_ALARM then
          let t := s.store r a val hw
          t.setAlarm 31 (t.rb Reg.SAFE_ALARM 31)
        else s.store r a val hw

/-- Bytes of a value, the lowest first. -/
def valBytes (v : BitVec 64) (n : Nat) : List Octet := (List.range n).map (fun i => (v >>> (8 * i)).setWidth 8)

/-- REGISTER_WRITE: a write that is narrow or misaligned is discarded; one of 64 bits is two of 32, the lower first (R3); the MRAM window
takes bytes (R450). -/
def State.registerWrite (s : State) (fn off size : Nat) (val : BitVec 64) (hw : Word) : State :=
  let one (t : State) (o : Nat) (v hw : Word) : State :=
    match barAddr fn o with
    | some a => if t.reach fn then t.writeReg fn a v hw else t
    | none => t
  if fn = 0 ∧ 0x01100000 ≤ off ∧ off + size ≤ 0x01140000 then s.mramUserWrite fn (off - 0x01100000) (valBytes val size)
  else if off % 4 ≠ 0 ∨ size < 4 then s
  else if size = 8 then one (one s off (val.setWidth 32) hw) (off + 4) ((val >>> 32).setWidth 32) 0
  else one s off (val.setWidth 32) hw

/-! Board-controller reads (R496) -/

/-- A management index: the register read, others read 0 (R496). -/
def State.mgmtReg (s : State) (idx : Octet) : Word :=
  match idx.toNat with
  | 0 => s.rd Reg.SYS_ID
  | 1 => s.sysState
  | 2 => s.shown 0 Reg.SYS_RESET_CAUSE
  | 3 => s.shown 0 Reg.SAFE_ALARM
  | 4 => s.rd Reg.SAFE_TEMP_RD
  | 5 => s.rd Reg.SAFE_LAST
  | 6 => s.rd Reg.TOLL_POWER
  | 7 => s.shown 0 Reg.SYS_PWR
  | 8 => s.shown 0 Reg.MAN_STAT
  | _ => 0

/-- The management interfaces answer: not in OFF, in STANDBY or while a reset is asserted (R496). -/
def State.mgmtOn (s : State) : Bool := s.dev.st.awake && !s.dev.rst

/-- MSPI_READ: four bytes, the least significant first; 0xFF bytes when it does not answer (R496). -/
def State.mspiRead (s : State) (idx : Octet) : State :=
  { s.used 1 with bus.bytes := if s.mgmtOn then wordBytes (s.mgmtReg idx) else [0xFF, 0xFF, 0xFF, 0xFF] }

/-- MI2C_READ: the same four bytes; no acknowledge, and so no bytes, when it does not answer (R496). -/
def State.mi2cRead (s : State) (idx : Octet) : State :=
  { s.used 1 with bus.bytes := if s.mgmtOn then wordBytes (s.mgmtReg idx) else [] }

/-! The meanings of the rows -/

/-- REGISTER_WRITE (R3): Host write to any register that has no row of its own, including W1C, W1S and RW fields, with narrower or misaligned writes discarded. -/
def execRegisterWrite (fn off size : Nat) (val : BitVec 64) (hwSet : BitVec 32) (s : State) : Out :=
  checked (registerWriteOk fn size) s (s.registerWrite fn off size val hwSet)

/-- READ_CLEAR (R5): Host read of an RC field returns its value and then clears it, with same-cycle increments kept under R7. -/
def execReadClear (fn off size : Nat) (inc : BitVec 32) (s : State) : Out :=
  checked (readClearOk fn size) s (s.readClear fn off size inc)

/-- TIME_NOW_READ (R48): A host read of TIME_NOW_NS latches the seconds and fraction for the reading function. -/
def execTimeNowRead (fn : Nat) (w : Wing) (lane size : Nat) (s : State) : Out :=
  checked (timeNowReadOk fn lane size) s (s.timeNowRead fn w lane size)

/-- LTC_READ (R48): A host read of LTC_LO latches LTC_HI for the reading function. -/
def execLtcRead (fn : Nat) (w : Wing) (lane size : Nat) (s : State) : Out :=
  checked (ltcReadOk fn lane size) s (s.ltcRead fn w lane size)

/-- TIME_TRIPLE_READ (R505): A host read of TIME_TRIPLE word 0 latches the other five words for the reading function. -/
def execTimeTripleRead (fn : Nat) (w : Wing) (lane size : Nat) (s : State) : Out :=
  checked (timeTripleReadOk fn lane size) s (s.timeTripleRead fn w lane size)

/-- CAPTURE_POP (R65): A read of CAPn_FIFO word 3 pops the head capture entry. -/
def execCapturePop (mid c lane size : Nat) (s : State) : Out :=
  live (capturePopOk mid c lane size) s (s.capturePop mid c lane size)

/-- TSQ_ENTRY_POP (R66): A host read of TSQ_ENTRY word 3 pops the head egress timestamp. -/
def execTsqEntryPop (fn p lane size : Nat) (s : State) : Out :=
  checked (tsqEntryPopOk fn p lane size) s (s.tsqEntryPop fn p lane size)

/-- HEDGE_PH_READ (R157): A host read of HEDGE_PH RE latches IM. -/
def execHedgePhRead (fn : Nat) (w : Wing) (c lane size : Nat) (s : State) : Out :=
  checked (hedgePhReadOk fn c lane size) s (s.hedgePhRead fn w c lane size)

/-- MAC_COUNTER_READ (R283): A read of a counter's low word latches its high word for the reader. -/
def execMacCounterRead (fn p j lane size : Nat) (s : State) : Out :=
  checked (macCounterReadOk fn p j lane size) s (s.macCounterRead fn p j lane size)

/-- TK_RXFIFO_READ (R381): A host read of TK_RXFIFO pops a word. -/
def execTkRxfifoRead (fn n lane size : Nat) (s : State) : Out :=
  checked (tkRxfifoReadOk fn n lane size) s (s.tkRxfifoRead fn n lane size)

/-- FD_PTR_LO_READ (R401): A read of FD_PTR_LO takes the FD message and clears FD_FULL. -/
def execFdPtrLoRead (mid ch lane size : Nat) (s : State) : Out :=
  live (fdPtrLoReadOk mid ch lane size) s (s.fdPtrLoRead mid ch lane size)

/-- MSPI_READ (R496): A board controller reads a status register over MSPI. -/
def execMspiRead (idx : BitVec 8) (s : State) : Out :=
  checked true s (s.mspiRead idx)

/-- MI2C_READ (R496): A board controller reads a status register over MI2C. -/
def execMi2cRead (idx : BitVec 8) (s : State) : Out :=
  checked true s (s.mi2cRead idx)

/-- CQ_CYCLE_READ (R228): A host read of CQ_CYCLE_LO latches CQ_CYCLE_HI for the reader. -/
def execCqCycleRead (fn r lane size : Nat) (s : State) : Out :=
  checked (cqCycleReadOk fn r lane size) s (s.cqCycleRead fn r lane size)

end Sys2Proof.Machine
end

