-- ==== Sys2Proof/Machine/Dispatch.lean ====
section
/-! DEFINITION. One arm per command: each is one direct call of its meaning. -/

namespace Sys2Proof.Machine

def exec (i : Instr) (s : State) : Host.Outcome State Fault Refusal :=
  match i with
  | .registerWrite fn off size val hwSet => Sys2Proof.Machine.execRegisterWrite fn off size val hwSet s
  | .readClear fn off size inc => Sys2Proof.Machine.execReadClear fn off size inc s
  | .iwlLaneUp lane => Sys2Proof.Machine.execIwlLaneUp lane s
  | .iwlLaneFail lane => Sys2Proof.Machine.execIwlLaneFail lane s
  | .iwlTrainDeadline => Sys2Proof.Machine.execIwlTrainDeadline s
  | .iwlBlockReceive b ok => Sys2Proof.Machine.execIwlBlockReceive b ok s
  | .globalDecision d => Sys2Proof.Machine.execGlobalDecision d s
  | .deputyAck received => Sys2Proof.Machine.execDeputyAck received s
  | .mirrorAckTimeout => Sys2Proof.Machine.execMirrorAckTimeout s
  | .heartbeatSend w => Sys2Proof.Machine.execHeartbeatSend w s
  | .heartbeatArbiter w epoch seq health => Sys2Proof.Machine.execHeartbeatArbiter w epoch seq health s
  | .heartbeatLinkReceive w epoch => Sys2Proof.Machine.execHeartbeatLinkReceive w epoch s
  | .heartbeatLost w => Sys2Proof.Machine.execHeartbeatLost w s
  | .claim w => Sys2Proof.Machine.execClaim w s
  | .claimWindowClose => Sys2Proof.Machine.execClaimWindowClose s
  | .stewardConfigWrite w addr val => Sys2Proof.Machine.execStewardConfigWrite w addr val s
  | .mirrorRequest w => Sys2Proof.Machine.execMirrorRequest w s
  | .mirrorComplete w => Sys2Proof.Machine.execMirrorComplete w s
  | .rejoinRequest w => Sys2Proof.Machine.execRejoinRequest w s
  | .deputyHeartbeatTimeout => Sys2Proof.Machine.execDeputyHeartbeatTimeout s
  | .timeShadowWrite writer target word val => Sys2Proof.Machine.execTimeShadowWrite writer target word val s
  | .timeCommit writer target => Sys2Proof.Machine.execTimeCommit writer target s
  | .timeNowRead fn w lane size => Sys2Proof.Machine.execTimeNowRead fn w lane size s
  | .ltcRead fn w lane size => Sys2Proof.Machine.execLtcRead fn w lane size s
  | .timeTripleRead fn w lane size => Sys2Proof.Machine.execTimeTripleRead fn w lane size s
  | .wingStrobe => Sys2Proof.Machine.execWingStrobe s
  | .servoUpdate w => Sys2Proof.Machine.execServoUpdate w s
  | .sourceLost => Sys2Proof.Machine.execSourceLost s
  | .holdLimitExpiry => Sys2Proof.Machine.execHoldLimitExpiry s
  | .step fn amount => Sys2Proof.Machine.execStep fn amount s
  | .gmChange fn clockClass => Sys2Proof.Machine.execGmChange fn clockClass s
  | .timePortStateWrite fn p val => Sys2Proof.Machine.execTimePortStateWrite fn p val s
  | .syncReceive p oneStep h origin corr phase => Sys2Proof.Machine.execSyncReceive p oneStep h origin corr phase s
  | .followUpReceive p h origin corr => Sys2Proof.Machine.execFollowUpReceive p h origin corr s
  | .syncTransmit p seq phase => Sys2Proof.Machine.execSyncTransmit p seq phase s
  | .pdelayExchange p resp seq out back => Sys2Proof.Machine.execPdelayExchange p resp seq out back s
  | .announceReceive p valid m phase => Sys2Proof.Machine.execAnnounceReceive p valid m phase s
  | .announceTransmit p => Sys2Proof.Machine.execAnnounceTransmit p s
  | .ptpTransit pin pout kind m age phaseIn phaseOut => Sys2Proof.Machine.execPtpTransit pin pout kind m age phaseIn phaseOut s
  | .heldSyncExpiry p => Sys2Proof.Machine.execHeldSyncExpiry p s
  | .ptpUnsupported p delayMsg x => Sys2Proof.Machine.execPtpUnsupported p delayMsg x s
  | .irigbFrame widths age phase => Sys2Proof.Machine.execIrigbFrame widths age phase s
  | .ppsInEdge x => Sys2Proof.Machine.execPpsInEdge x s
  | .ppsOutRise => Sys2Proof.Machine.execPpsOutRise s
  | .ppsOutFall => Sys2Proof.Machine.execPpsOutFall s
  | .triggerArm fn m val => Sys2Proof.Machine.execTriggerArm fn m val s
  | .triggerFire m => Sys2Proof.Machine.execTriggerFire m s
  | .triggerPulseEnd m => Sys2Proof.Machine.execTriggerPulseEnd m s
  | .captureEdge c e width phase => Sys2Proof.Machine.execCaptureEdge c e width phase s
  | .capturePop mid c lane size => Sys2Proof.Machine.execCapturePop mid c lane size s
  | .tsqEntryPop fn p lane size => Sys2Proof.Machine.execTsqEntryPop fn p lane size s
  | .svFrameReceive w port f ts => Sys2Proof.Machine.execSvFrameReceive w port f ts s
  | .svForwardReceive w port f ts => Sys2Proof.Machine.execSvForwardReceive w port f ts s
  | .discardWindowExpiry w sn => Sys2Proof.Machine.execDiscardWindowExpiry w sn s
  | .policerToken w sn => Sys2Proof.Machine.execPolicerToken w sn s
  | .pairingWindowEnd w sn => Sys2Proof.Machine.execPairingWindowEnd w sn s
  | .streamLoss w sn => Sys2Proof.Machine.execStreamLoss w sn s
  | .confrevClear fn w sn val => Sys2Proof.Machine.execConfrevClear fn w sn val s
  | .simEnWrite fn w val => Sys2Proof.Machine.execSimEnWrite fn w val s
  | .pubWrAdvance fn p val => Sys2Proof.Machine.execPubWrAdvance fn p val s
  | .pubFrameSend p => Sys2Proof.Machine.execPubFrameSend p s
  | .thicketPubDma p => Sys2Proof.Machine.execThicketPubDma p s
  | .wallAsduWrite w => Sys2Proof.Machine.execWallAsduWrite w s
  | .rowOpen w n => Sys2Proof.Machine.execRowOpen w n s
  | .rowDeadline w n => Sys2Proof.Machine.execRowDeadline w n s
  | .rowRelease w n ecc => Sys2Proof.Machine.execRowRelease w n ecc s
  | .derivedRowRelease w n => Sys2Proof.Machine.execDerivedRowRelease w n s
  | .wallDegradeStep w => Sys2Proof.Machine.execWallDegradeStep w s
  | .wallRestoreStep w => Sys2Proof.Machine.execWallRestoreStep w s
  | .sliceEnable fn g val => Sys2Proof.Machine.execSliceEnable fn g val s
  | .sliceDisable fn g val => Sys2Proof.Machine.execSliceDisable fn g val s
  | .sliceConsWrite fn g val => Sys2Proof.Machine.execSliceConsWrite fn g val s
  | .sliceBlockWrite g => Sys2Proof.Machine.execSliceBlockWrite g s
  | .hedgeRowEvaluate w chkDiff => Sys2Proof.Machine.execHedgeRowEvaluate w chkDiff s
  | .elementOperate w e => Sys2Proof.Machine.execElementOperate w e s
  | .elementResetDelayExpiry w e => Sys2Proof.Machine.execElementResetDelayExpiry w e s
  | .inverseTimeOperate w e => Sys2Proof.Machine.execInverseTimeOperate w e s
  | .inverseResetExpiry w e => Sys2Proof.Machine.execInverseResetExpiry w e s
  | .retrip w e => Sys2Proof.Machine.execRetrip w e s
  | .bfOperate w e => Sys2Proof.Machine.execBfOperate w e s
  | .inputInvalidBlock w e => Sys2Proof.Machine.execInputInvalidBlock w e s
  | .freqHoldTimeout w t => Sys2Proof.Machine.execFreqHoldTimeout w t s
  | .comparisonRecordReceive w r => Sys2Proof.Machine.execComparisonRecordReceive w r s
  | .comparisonRecordTimeout w sec => Sys2Proof.Machine.execComparisonRecordTimeout w sec s
  | .hedgePhRead fn w c lane size => Sys2Proof.Machine.execHedgePhRead fn w c lane size s
  | .acquire fn seq => Sys2Proof.Machine.execAcquire fn seq s
  | .refresh fn seq => Sys2Proof.Machine.execRefresh fn seq s
  | .release fn seq => Sys2Proof.Machine.execRelease fn seq s
  | .leaseTimeout => Sys2Proof.Machine.execLeaseTimeout s
  | .hedgeSet ch recs => Sys2Proof.Machine.execHedgeSet ch recs s
  | .settingsTApply => Sys2Proof.Machine.execSettingsTApply s
  | .tpMinExpiry t => Sys2Proof.Machine.execTpMinExpiry t s
  | .engineSourceWrite n bit v q => Sys2Proof.Machine.execEngineSourceWrite n bit v q s
  | .gsiTalExpiry w n => Sys2Proof.Machine.execGsiTalExpiry w n s
  | .engHoldExpiry w bit => Sys2Proof.Machine.execEngHoldExpiry w bit s
  | .pulse fn seq crc => Sys2Proof.Machine.execPulse fn seq crc s
  | .clear fn seq crc => Sys2Proof.Machine.execClear fn seq crc s
  | .hcmdPulseEnd n => Sys2Proof.Machine.execHcmdPulseEnd n s
  | .readbackMismatch pin low => Sys2Proof.Machine.execReadbackMismatch pin low s
  | .tripPubChange g => Sys2Proof.Machine.execTripPubChange g s
  | .tripPubResend g => Sys2Proof.Machine.execTripPubResend g s
  | .caravanCutoff r => Sys2Proof.Machine.execCaravanCutoff r s
  | .caravanDepart r => Sys2Proof.Machine.execCaravanDepart r s
  | .caravanReceive r tail c => Sys2Proof.Machine.execCaravanReceive r tail c s
  | .caravanMissing r tail => Sys2Proof.Machine.execCaravanMissing r tail s
  | .laneSignalLoss r tail => Sys2Proof.Machine.execLaneSignalLoss r tail s
  | .nodeLost r n => Sys2Proof.Machine.execNodeLost r n s
  | .joinAnswer r => Sys2Proof.Machine.execJoinAnswer r s
  | .imageRotate r => Sys2Proof.Machine.execImageRotate r s
  | .echoReqSend r tail => Sys2Proof.Machine.execEchoReqSend r tail s
  | .echoReqReceive r tail x turn => Sys2Proof.Machine.execEchoReqReceive r tail x turn s
  | .echoRspReceive r tail x ns sub => Sys2Proof.Machine.execEchoRspReceive r tail x ns sub s
  | .echoTimeout r tail => Sys2Proof.Machine.execEchoTimeout r tail s
  | .ringStart r mramOk => Sys2Proof.Machine.execRingStart r mramOk s
  | .epochCommit r w sched => Sys2Proof.Machine.execEpochCommit r w sched s
  | .epochSwap r => Sys2Proof.Machine.execEpochSwap r s
  | .triggerSourceStop r => Sys2Proof.Machine.execTriggerSourceStop r s
  | .unwrap fn r => Sys2Proof.Machine.execUnwrap fn r s
  | .restore fn r => Sys2Proof.Machine.execRestore fn r s
  | .sleep fn r => Sys2Proof.Machine.execSleep fn r s
  | .wake fn r => Sys2Proof.Machine.execWake fn r s
  | .nodeReset fn r node => Sys2Proof.Machine.execNodeReset fn r node s
  | .clearFalseWake fn r node => Sys2Proof.Machine.execClearFalseWake fn r node s
  | .bar2Read fn off size => Sys2Proof.Machine.execBar2Read fn off size s
  | .bar2Write fn off size val => Sys2Proof.Machine.execBar2Write fn off size val s
  | .brSnapWrite fn val => Sys2Proof.Machine.execBrSnapWrite fn val s
  | .outHoldSet fn node => Sys2Proof.Machine.execOutHoldSet fn node s
  | .outHoldClear fn => Sys2Proof.Machine.execOutHoldClear fn s
  | .outHoldExpiry fn => Sys2Proof.Machine.execOutHoldExpiry fn s
  | .sqDoorbell fn tail => Sys2Proof.Machine.execSqDoorbell fn tail s
  | .read who e => Sys2Proof.Machine.execRead who e s
  | .write who e data => Sys2Proof.Machine.execWrite who e data s
  | .ack node rseq => Sys2Proof.Machine.execAck node rseq s
  | .rdata node rseq tag status data => Sys2Proof.Machine.execRdata node rseq tag status data s
  | .acycResend node => Sys2Proof.Machine.execAcycResend node s
  | .acycTimeout node => Sys2Proof.Machine.execAcycTimeout node s
  | .completionWrite who => Sys2Proof.Machine.execCompletionWrite who s
  | .responseDiscard who => Sys2Proof.Machine.execResponseDiscard who s
  | .frameReceive sn x => Sys2Proof.Machine.execFrameReceive sn x s
  | .pauseReceive p quanta => Sys2Proof.Machine.execPauseReceive p quanta s
  | .pfcReceive p vec quanta => Sys2Proof.Machine.execPfcReceive p vec quanta s
  | .pauseExpiry p cls => Sys2Proof.Machine.execPauseExpiry p cls s
  | .pauseSend p pcp => Sys2Proof.Machine.execPauseSend p pcp s
  | .learnRequest => Sys2Proof.Machine.execLearnRequest s
  | .moveLockEnd vid mac => Sys2Proof.Machine.execMoveLockEnd vid mac s
  | .macAgeOut vid mac => Sys2Proof.Machine.execMacAgeOut vid mac s
  | .linkDown p => Sys2Proof.Machine.execLinkDown p s
  | .linkUp p speed anDone => Sys2Proof.Machine.execLinkUp p speed anDone s
  | .crossbarMatch => Sys2Proof.Machine.execCrossbarMatch s
  | .frameTransmit sn ecc begun phase => Sys2Proof.Machine.execFrameTransmit sn ecc begun phase s
  | .entryForget k dir => Sys2Proof.Machine.execEntryForget k dir s
  | .nodeForget k mac => Sys2Proof.Machine.execNodeForget k mac s
  | .fdbLookup fn val => Sys2Proof.Machine.execFdbLookup fn val s
  | .macCounterRead fn p j lane size => Sys2Proof.Machine.execMacCounterRead fn p j lane size s
  | .engineLoad n flashOk => Sys2Proof.Machine.execEngineLoad n flashOk s
  | .engineRestart n => Sys2Proof.Machine.execEngineRestart n s
  | .watchdog n => Sys2Proof.Machine.execWatchdog n s
  | .wdtKick n p => Sys2Proof.Machine.execWdtKick n p s
  | .persEvent n p => Sys2Proof.Machine.execPersEvent n p s
  | .peDbankAddrWrite fn n val => Sys2Proof.Machine.execPeDbankAddrWrite fn n val s
  | .crc n st => Sys2Proof.Machine.execCrc n st s
  | .shaBlock n st => Sys2Proof.Machine.execShaBlock n st s
  | .gmacCheck n st => Sys2Proof.Machine.execGmacCheck n st s
  | .gmacSign n st => Sys2Proof.Machine.execGmacSign n st s
  | .gcmSeal n st => Sys2Proof.Machine.execGcmSeal n st s
  | .gcmOpen n st => Sys2Proof.Machine.execGcmOpen n st s
  | .keyLoad n st => Sys2Proof.Machine.execKeyLoad n st s
  | .rng n st => Sys2Proof.Machine.execRng n st s
  | .copComplete n p => Sys2Proof.Machine.execCopComplete n p s
  | .fpMove n w0 w1 => Sys2Proof.Machine.execFpMove n w0 w1 s
  | .fpAdd n alu m => Sys2Proof.Machine.execFpAdd n alu m s
  | .fpSub n alu m => Sys2Proof.Machine.execFpSub n alu m s
  | .fpAnd n alu m => Sys2Proof.Machine.execFpAnd n alu m s
  | .fpOr n alu m => Sys2Proof.Machine.execFpOr n alu m s
  | .fpXor n alu m => Sys2Proof.Machine.execFpXor n alu m s
  | .fpAndn n alu m => Sys2Proof.Machine.execFpAndn n alu m s
  | .fpAdc n alu m => Sys2Proof.Machine.execFpAdc n alu m s
  | .fpSbb n alu m => Sys2Proof.Machine.execFpSbb n alu m s
  | .fpShl n m => Sys2Proof.Machine.execFpShl n m s
  | .fpShr n m => Sys2Proof.Machine.execFpShr n m s
  | .fpSar n m => Sys2Proof.Machine.execFpSar n m s
  | .fpRol n m => Sys2Proof.Machine.execFpRol n m s
  | .fpRor n m => Sys2Proof.Machine.execFpRor n m s
  | .fpSwap n m => Sys2Proof.Machine.execFpSwap n m s
  | .fpEq n m => Sys2Proof.Machine.execFpEq n m s
  | .fpNe n m => Sys2Proof.Machine.execFpNe n m s
  | .fpLtu n m => Sys2Proof.Machine.execFpLtu n m s
  | .fpLeu n m => Sys2Proof.Machine.execFpLeu n m s
  | .fpLt n m => Sys2Proof.Machine.execFpLt n m s
  | .fpLe n m => Sys2Proof.Machine.execFpLe n m s
  | .fpBit n m => Sys2Proof.Machine.execFpBit n m s
  | .fpAny n m => Sys2Proof.Machine.execFpAny n m s
  | .fpGrd n m => Sys2Proof.Machine.execFpGrd n m s
  | .caRw n cur dst m => Sys2Proof.Machine.execCaRw n cur dst m s
  | .caRb n cur dst m => Sys2Proof.Machine.execCaRb n cur dst m s
  | .caWw n cur m => Sys2Proof.Machine.execCaWw n cur m s
  | .caWb n cur m => Sys2Proof.Machine.execCaWb n cur m s
  | .caPk n cur dst m => Sys2Proof.Machine.execCaPk n cur dst m s
  | .crcCfg n m => Sys2Proof.Machine.execCrcCfg n m s
  | .crcT n m => Sys2Proof.Machine.execCrcT n m s
  | .crcTb n m => Sys2Proof.Machine.execCrcTb n m s
  | .sumSet n m => Sys2Proof.Machine.execSumSet n m s
  | .sumT n m => Sys2Proof.Machine.execSumT n m s
  | .qinPop n m => Sys2Proof.Machine.execQinPop n m s
  | .qinFree n m => Sys2Proof.Machine.execQinFree n m s
  | .qoutPush n m => Sys2Proof.Machine.execQoutPush n m s
  | .qoutDone n dst m => Sys2Proof.Machine.execQoutDone n dst m s
  | .jmp n m => Sys2Proof.Machine.execJmp n m s
  | .call n m => Sys2Proof.Machine.execCall n m s
  | .ret n m => Sys2Proof.Machine.execRet n m s
  | .eret n m => Sys2Proof.Machine.execEret n m s
  | .ipendClear n m => Sys2Proof.Machine.execIpendClear n m s
  | .rpt n m => Sys2Proof.Machine.execRpt n m s
  | .tas n m => Sys2Proof.Machine.execTas n m s
  | .semClr n m => Sys2Proof.Machine.execSemClr n m s
  | .tsqPop n m => Sys2Proof.Machine.execTsqPop n m s
  | .now n m => Sys2Proof.Machine.execNow n m s
  | .rx n m => Sys2Proof.Machine.execRx n m s
  | .lutT n m => Sys2Proof.Machine.execLutT n m s
  | .fpEventEntry n => Sys2Proof.Machine.execFpEventEntry n s
  | .mov n d src => Sys2Proof.Machine.execMov n d src s
  | .spAdd n d src => Sys2Proof.Machine.execSpAdd n d src s
  | .spAdc n d src => Sys2Proof.Machine.execSpAdc n d src s
  | .spSub n d src => Sys2Proof.Machine.execSpSub n d src s
  | .spSbb n d src => Sys2Proof.Machine.execSpSbb n d src s
  | .cmp n d src => Sys2Proof.Machine.execCmp n d src s
  | .spAnd n d src => Sys2Proof.Machine.execSpAnd n d src s
  | .spOr n d src => Sys2Proof.Machine.execSpOr n d src s
  | .spXor n d src => Sys2Proof.Machine.execSpXor n d src s
  | .spAndn n d src => Sys2Proof.Machine.execSpAndn n d src s
  | .tst n d src => Sys2Proof.Machine.execTst n d src s
  | .spShl n d src => Sys2Proof.Machine.execSpShl n d src s
  | .spShr n d src => Sys2Proof.Machine.execSpShr n d src s
  | .spSar n d src => Sys2Proof.Machine.execSpSar n d src s
  | .spRol n d src => Sys2Proof.Machine.execSpRol n d src s
  | .spBit n d src => Sys2Proof.Machine.execSpBit n d src s
  | .localLoad n x am mode => Sys2Proof.Machine.execLocalLoad n x am mode s
  | .localStore n x am mode => Sys2Proof.Machine.execLocalStore n x am mode s
  | .ldD n sp am dn d16 => Sys2Proof.Machine.execLdD n sp am dn d16 s
  | .ldA n sp am an d16 => Sys2Proof.Machine.execLdA n sp am an d16 s
  | .stD n sp am dn d16 => Sys2Proof.Machine.execStD n sp am dn d16 s
  | .stA n sp am an d16 => Sys2Proof.Machine.execStA n sp am an d16 s
  | .ldx n sp am dn mode => Sys2Proof.Machine.execLdx n sp am dn mode s
  | .stx n sp am dn mode => Sys2Proof.Machine.execStx n sp am dn mode s
  | .ldabs n sp dn a => Sys2Proof.Machine.execLdabs n sp dn a s
  | .stabs n sp dn a => Sys2Proof.Machine.execStabs n sp dn a s
  | .aaddShort n an s9 => Sys2Proof.Machine.execAaddShort n an s9 s
  | .xmov n dst src => Sys2Proof.Machine.execXmov n dst src s
  | .amov n an v => Sys2Proof.Machine.execAmov n an v s
  | .aadd n an v => Sys2Proof.Machine.execAadd n an v s
  | .asub n an v => Sys2Proof.Machine.execAsub n an v s
  | .bcc n cond disp => Sys2Proof.Machine.execBcc n cond disp s
  | .call0 n disp => Sys2Proof.Machine.execCall0 n disp s
  | .spCall n an acs mask => Sys2Proof.Machine.execSpCall n an acs mask s
  | .spRet n => Sys2Proof.Machine.execSpRet n s
  | .spEret n => Sys2Proof.Machine.execSpEret n s
  | .rep n cnt => Sys2Proof.Machine.execRep n cnt s
  | .repi n cnt => Sys2Proof.Machine.execRepi n cnt s
  | .semtas n d ix => Sys2Proof.Machine.execSemtas n d ix s
  | .semclr n ix => Sys2Proof.Machine.execSemclr n ix s
  | .jmpAn n an => Sys2Proof.Machine.execJmpAn n an s
  | .wait n => Sys2Proof.Machine.execWait n s
  | .di n => Sys2Proof.Machine.execDi n s
  | .ei n => Sys2Proof.Machine.execEi n s
  | .endcyc n => Sys2Proof.Machine.execEndcyc n s
  | .push n x => Sys2Proof.Machine.execPush n x s
  | .pop n x => Sys2Proof.Machine.execPop n x s
  | .mfc n d k => Sys2Proof.Machine.execMfc n d k s
  | .mtc n k d => Sys2Proof.Machine.execMtc n k d s
  | .copr n d k => Sys2Proof.Machine.execCopr n d k s
  | .copw n k d => Sys2Proof.Machine.execCopw n k d s
  | .copst n d => Sys2Proof.Machine.execCopst n d s
  | .nop n => Sys2Proof.Machine.execNop n s
  | .ldres n sp am dn => Sys2Proof.Machine.execLdres n sp am dn s
  | .stcond n sp am dn => Sys2Proof.Machine.execStcond n sp am dn s
  | .rise n d k b => Sys2Proof.Machine.execRise n d k b s
  | .fall n d k b => Sys2Proof.Machine.execFall n d k b s
  | .mul n ac da db => Sys2Proof.Machine.execMul n ac da db s
  | .mac n ac da db => Sys2Proof.Machine.execMac n ac da db s
  | .msu n ac da db => Sys2Proof.Machine.execMsu n ac da db s
  | .mulu n ac da db => Sys2Proof.Machine.execMulu n ac da db s
  | .macu n ac da db => Sys2Proof.Machine.execMacu n ac da db s
  | .accClr n ac => Sys2Proof.Machine.execAccClr n ac s
  | .sat n ac => Sys2Proof.Machine.execSat n ac s
  | .norm n ac da => Sys2Proof.Machine.execNorm n ac da s
  | .rnd n ac => Sys2Proof.Machine.execRnd n ac s
  | .movh n ac da => Sys2Proof.Machine.execMovh n ac da s
  | .movl n ac da => Sys2Proof.Machine.execMovl n ac da s
  | .ldh n ac da => Sys2Proof.Machine.execLdh n ac da s
  | .asr n ac db => Sys2Proof.Machine.execAsr n ac db s
  | .addac n ac => Sys2Proof.Machine.execAddac n ac s
  | .spEventEntry n => Sys2Proof.Machine.execSpEventEntry n s
  | .ilkCycleStart n => Sys2Proof.Machine.execIlkCycleStart n s
  | .ilkOverrun n => Sys2Proof.Machine.execIlkOverrun n s
  | .ilkRun ch n => Sys2Proof.Machine.execIlkRun ch n s
  | .ilkStop ch n => Sys2Proof.Machine.execIlkStop ch n s
  | .hold ch n => Sys2Proof.Machine.execHold ch n s
  | .forceSet ch n w1 w2 => Sys2Proof.Machine.execForceSet ch n w1 w2 s
  | .forceClear ch n w1 => Sys2Proof.Machine.execForceClear ch n w1 s
  | .forceClearAll ch n => Sys2Proof.Machine.execForceClearAll ch n s
  | .canModeWrite fn x val => Sys2Proof.Machine.execCanModeWrite fn x val s
  | .canTimingWrite fn x off val => Sys2Proof.Machine.execCanTimingWrite fn x off val s
  | .canTxreq fn x bits => Sys2Proof.Machine.execCanTxreq fn x bits s
  | .canTxabort fn x bits => Sys2Proof.Machine.execCanTxabort fn x bits s
  | .canRxpop fn x => Sys2Proof.Machine.execCanRxpop fn x s
  | .recover fn x => Sys2Proof.Machine.execRecover fn x s
  | .canFrameReceive x r => Sys2Proof.Machine.execCanFrameReceive x r s
  | .canTxAttemptEnd x res => Sys2Proof.Machine.execCanTxAttemptEnd x res s
  | .canRecoveryEnd x runs => Sys2Proof.Machine.execCanRecoveryEnd x runs s
  | .canTxRingFetch x => Sys2Proof.Machine.execCanTxRingFetch x s
  | .canWakeMatch x f crcOk => Sys2Proof.Machine.execCanWakeMatch x f crcOk s
  | .canWakePin x => Sys2Proof.Machine.execCanWakePin x s
  | .canWakeValidityExpiry x => Sys2Proof.Machine.execCanWakeValidityExpiry x s
  | .wakeDisClear fn x val => Sys2Proof.Machine.execWakeDisClear fn x val s
  | .tkStep n pins => Sys2Proof.Machine.execTkStep n pins s
  | .tkEnable fn n val => Sys2Proof.Machine.execTkEnable fn n val s
  | .tkDisable fn n val => Sys2Proof.Machine.execTkDisable fn n val s
  | .tkLutWrite fn n ix val => Sys2Proof.Machine.execTkLutWrite fn n ix val s
  | .tkTxfifoWrite fn n val => Sys2Proof.Machine.execTkTxfifoWrite fn n val s
  | .tkRxfifoRead fn n lane size => Sys2Proof.Machine.execTkRxfifoRead fn n lane size s
  | .hostLinkUp port rate width => Sys2Proof.Machine.execHostLinkUp port rate width s
  | .hostPortReset port cause => Sys2Proof.Machine.execHostPortReset port cause s
  | .dmaPauseStart port linkLoss => Sys2Proof.Machine.execDmaPauseStart port linkLoss s
  | .dmaPauseEnd port => Sys2Proof.Machine.execDmaPauseEnd port s
  | .linkLossTimeout port => Sys2Proof.Machine.execLinkLossTimeout port s
  | .functionLevelReset fn => Sys2Proof.Machine.execFunctionLevelReset fn s
  | .numvfsWrite port enable num => Sys2Proof.Machine.execNumvfsWrite port enable num s
  | .d3hotEntry fn => Sys2Proof.Machine.execD3hotEntry fn s
  | .d0Return fn noSoftReset => Sys2Proof.Machine.execD0Return fn noSoftReset s
  | .hostBankAccess fn off wr be data => Sys2Proof.Machine.execHostBankAccess fn off wr be data s
  | .dmaFault fn kind => Sys2Proof.Machine.execDmaFault fn kind s
  | .tdCtlWrite mid ch val => Sys2Proof.Machine.execTdCtlWrite mid ch val s
  | .tdTake ch => Sys2Proof.Machine.execTdTake ch s
  | .fdPost ch => Sys2Proof.Machine.execFdPost ch s
  | .fdPtrLoRead mid ch lane size => Sys2Proof.Machine.execFdPtrLoRead mid ch lane size s
  | .ping ch payload => Sys2Proof.Machine.execPing ch payload s
  | .ptpTxSet ch p content => Sys2Proof.Machine.execPtpTxSet ch p content s
  | .msixPost fn vec => Sys2Proof.Machine.execMsixPost fn vec s
  | .holdoffEnd fn => Sys2Proof.Machine.execHoldoffEnd fn s
  | .vectorUnmask fn vec all => Sys2Proof.Machine.execVectorUnmask fn vec all s
  | .keyInstall ch slot attr w1 key => Sys2Proof.Machine.execKeyInstall ch slot attr w1 key s
  | .keyErase ch w0 => Sys2Proof.Machine.execKeyErase ch w0 s
  | .keyInfo ch w0 => Sys2Proof.Machine.execKeyInfo ch w0 s
  | .svnCommit ch w0 => Sys2Proof.Machine.execSvnCommit ch w0 s
  | .fuseProg ch field bits stuck => Sys2Proof.Machine.execFuseProg ch field bits stuck s
  | .txAnWrite fn u val => Sys2Proof.Machine.execTxAnWrite fn u val s
  | .trngHealthFail => Sys2Proof.Machine.execTrngHealthFail s
  | .trngRecover healthy => Sys2Proof.Machine.execTrngRecover healthy s
  | .debugUnlock x => Sys2Proof.Machine.execDebugUnlock x s
  | .supplyWarn ix => Sys2Proof.Machine.execSupplyWarn ix s
  | .brownOut ix => Sys2Proof.Machine.execBrownOut ix s
  | .powerOn x => Sys2Proof.Machine.execPowerOn x s
  | .resetPin lowNs => Sys2Proof.Machine.execResetPin lowNs s
  | .stewardWatchdog w => Sys2Proof.Machine.execStewardWatchdog w s
  | .debugReset => Sys2Proof.Machine.execDebugReset s
  | .stormClear => Sys2Proof.Machine.execStormClear s
  | .setMode fn val => Sys2Proof.Machine.execSetMode fn val s
  | .coreReset fn val => Sys2Proof.Machine.execCoreReset fn val s
  | .systemReset fn val => Sys2Proof.Machine.execSystemReset fn val s
  | .standby fn val => Sys2Proof.Machine.execStandby fn val s
  | .standbyWake bits => Sys2Proof.Machine.execStandbyWake bits s
  | .rtcAlarm => Sys2Proof.Machine.execRtcAlarm s
  | .vinOkLow lowNs => Sys2Proof.Machine.execVinOkLow lowNs s
  | .holdupTaskEnd uv => Sys2Proof.Machine.execHoldupTaskEnd uv s
  | .powerReturn => Sys2Proof.Machine.execPowerReturn s
  | .tollMeasure mw => Sys2Proof.Machine.execTollMeasure mw s
  | .tollThrottleStep => Sys2Proof.Machine.execTollThrottleStep s
  | .tollReleaseStep => Sys2Proof.Machine.execTollReleaseStep s
  | .tollCapUnmet => Sys2Proof.Machine.execTollCapUnmet s
  | .holdupSample uv => Sys2Proof.Machine.execHoldupSample uv s
  | .mramUserWrite fn off data => Sys2Proof.Machine.execMramUserWrite fn off data s
  | .bootComplete flashE flashW vinHeld => Sys2Proof.Machine.execBootComplete flashE flashW vinHeld s
  | .selfTestComplete res => Sys2Proof.Machine.execSelfTestComplete res s
  | .configuringComplete flashOk mramOk => Sys2Proof.Machine.execConfiguringComplete flashOk mramOk s
  | .stepTimeout => Sys2Proof.Machine.execStepTimeout s
  | .trialClear => Sys2Proof.Machine.execTrialClear s
  | .diagLine => Sys2Proof.Machine.execDiagLine s
  | .stageOpen ch target => Sys2Proof.Machine.execStageOpen ch target s
  | .stageWrite ch off data flashOk => Sys2Proof.Machine.execStageWrite ch off data flashOk s
  | .stageClose ch body => Sys2Proof.Machine.execStageClose ch body s
  | .activateCluster ch c flashOk => Sys2Proof.Machine.execActivateCluster ch c flashOk s
  | .activateWing ch w flashOk => Sys2Proof.Machine.execActivateWing ch w flashOk s
  | .activateDevice ch arg flashOk => Sys2Proof.Machine.execActivateDevice ch arg flashOk s
  | .settingsLoad ch flashOk => Sys2Proof.Machine.execSettingsLoad ch flashOk s
  | .abort ch => Sys2Proof.Machine.execAbort ch s
  | .journalCompact => Sys2Proof.Machine.execJournalCompact s
  | .clockWindow d outOfLimits pllLost => Sys2Proof.Machine.execClockWindow d outOfLimits pllLost s
  | .tempRead centre west east => Sys2Proof.Machine.execTempRead centre west east s
  | .tempShutdown => Sys2Proof.Machine.execTempShutdown s
  | .manifestCrcRecheck ok => Sys2Proof.Machine.execManifestCrcRecheck ok s
  | .lockstepFault w => Sys2Proof.Machine.execLockstepFault w s
  | .parityError w => Sys2Proof.Machine.execParityError w s
  | .eccUe u => Sys2Proof.Machine.execEccUe u s
  | .directedCheckEnd eastDiff westDiff => Sys2Proof.Machine.execDirectedCheckEnd eastDiff westDiff s
  | .mspiRead idx => Sys2Proof.Machine.execMspiRead idx s
  | .mi2cRead idx => Sys2Proof.Machine.execMi2cRead idx s
  | .coreResetEnd w => Sys2Proof.Machine.execCoreResetEnd w s
  | .resetRelease => Sys2Proof.Machine.execResetRelease s
  | .functionResetComplete fn => Sys2Proof.Machine.execFunctionResetComplete fn s
  | .perstRelease port => Sys2Proof.Machine.execPerstRelease port s
  | .applyInstant r => Sys2Proof.Machine.execApplyInstant r s
  | .laneSignalReturn r tail => Sys2Proof.Machine.execLaneSignalReturn r tail s
  | .eccCe engine => Sys2Proof.Machine.execEccCe engine s
  | .cqCycleRead fn r lane size => Sys2Proof.Machine.execCqCycleRead fn r lane size s
  | .pcieAerError fn fatal => Sys2Proof.Machine.execPcieAerError fn fatal s

end Sys2Proof.Machine
end

