-- ==== Sys2Proof/Machine/Tick.lean ====
section
/-! DEFINITION. What the clocks do while no command waits (log entry 4): one nanosecond passes. -/

namespace Sys2Proof.Machine

/-- The clocks one nanosecond later: the LTCs count nanoseconds (R43), CD2 and CD0 have an edge in the nanoseconds that
Config gives them (R13), the RTC counts 32,768 periods of CD0 a second (R452). In OFF no clock runs, in STANDBY CD0 alone of
these (R12, R14); while a reset is asserted, the LTCs hold their reset value. -/
def State.tick (s : State) : State :=
  let c := s.clk
  let on := s.dev.st.awake
  let e2 := bitOf (on && Config.cd2Edge c.ns)
  let e0 := bitOf (s.dev.st != .off && Config.cd0Edge c.ns)
  let sec := bitOf (decide (e0 = 1 ∧ (c.cd0 + 1) % 32768 = 0))
  let l := BitVec.ofNat 64 (bitOf s.mainUp)
  { s with
    clk := { c with
      ns := c.ns + 1, cd2 := c.cd2 + e2, cd0 := c.cd0 + e0
      ltcE := c.ltcE + l, ltcW := c.ltcW + l
      rtc := c.rtc + BitVec.ofNat 48 sec } }

end Sys2Proof.Machine
end

