-- ==== Sys2Proof/Safety.lean ====
section
/-! DEFINITION. The terms in which the statements speak: the memories' canonical form, and when an instruction of an engine's processor
issues and what completing it is. -/

namespace Sys2Proof.Machine

/-- The memories of the state are in canonical form: the 16-bit words of the image bank, of the draft outputs and of the engines' code and
data banks, the bytes of the host bank, of the MRAM and of the flash, whose erased bytes read 0xFF. -/
def State.memOk (s : State) : Bool :=
  Memory.wf 0 s.bridge.image && Memory.wf 0 s.bridge.draft && Memory.wf 0 s.host.bank && Memory.wf 0 s.mram.mem
    && Memory.wf 0xFF s.upd.flash && s.eng.all (fun p => Memory.wf 0 p.2.code && Memory.wf 0 p.2.data)

/-- A move issues: the FP runs, its words lie in the partition, its guard passes, its source can be read and its destination written, and
no repetition forbids it (R319, R322, R324, R339). -/
def State.fpIssues (s : State) (n : Nat) (g : FpGuard) (long : Bool) (src : FpSrc) (dst : Nat) : Bool :=
  let f := (s.en n).fp
  s.fpRuns n && s.fetchOk n .fp f.pc.toNat && (!long || s.fetchOk n .fp (f.pc + 1).toNat) && guardHolds g f.grd
    && fpWritable dst && !srcBad (fun p => !fpReadable p) src && !(decide (0 < f.rptLeft) && rptForbids dst)

/-- A move that issues: the source is read, PC advances, then the destination's effect `k` (R319). -/
def State.fpMoveDo (s : State) (n : Nat) (long : Bool) (src : FpSrc) (k : Half → State → Eff) : State :=
  State.fpEnd n (s.en n).fp.pc (s.fpSrcRead n src (fun v t => k v (t.fpAdvance n (if long then 2 else 1))))

/-- An instruction of `len` words issues: the SP runs, the words lie in the partition, and a repetition does not forbid it (R349, R355). -/
def State.spIssues (s : State) (n len : Nat) (rep : Bool) : Bool :=
  s.spRuns n && s.fetchOk n .sp (s.spPc n).toNat && (decide (len ≠ 2) || s.fetchOk n .sp (s.spPc n + 1).toNat)
    && (rep || (s.en n).sp.repLeft == 0)

/-- An instruction that issues: PC advances, then its effect `go`. -/
def State.spDo (s : State) (n len : Nat) (go : State → Eff) : State := State.spEnd n (s.spPc n) (go (s.spAdvance n len))

/-- An arithmetic instruction that has issued and is done: PC has advanced, SR holds the flags `f`, Dd the result if there is one, and the
next instruction is fetched (R345, R349). -/
def State.spDone (s : State) (n d : Nat) (src : SpSrc) (r : Option Half) (f : Nzcv) : State :=
  let t := (s.spAdvance n (srcWords src)).setSr n (withFlags (s.sr n) f)
  (match r with
    | some v => t.setD n d v
    | none => t).spFetchNext n

/-- A start of the coprocessor issues, from either processor (R336, R349). -/
def State.copIssues (s : State) (n : Nat) : CopStart → Bool
  | .fp m => s.fpIssues n m.guard m.long m.src 114
  | .sp _ => s.spIssues n 1 true

/-- The start of operation `op`, from either processor. -/
def State.copDo (s : State) (n op : Nat) : CopStart → State
  | .fp m => s.fpMoveDo n m.long m.src (fun v t => t.copGo n .fp op v)
  | .sp ds => s.spDo n 1 (fun t => t.copGo n .sp op (t.dReg n ds))

/-- A store into the engine I/O space issues, from either processor (R295, R329, R350). -/
def State.storeIssues (s : State) (n : Nat) : EngStore → Bool
  | .fp cur m => s.fpIssues n m.guard m.long m.src (60 + 8 * cur)
  | .spBased _ _ _ => s.spIssues n 2 true
  | .spAbs _ _ => s.spIssues n 2 true

/-- The store: a cursor write of the FP, a store of the SP into the I/O space. -/
def State.storeDo (s : State) (n : Nat) : EngStore → State
  | .fp cur m => s.fpMoveDo n m.long m.src (fun v t => (t.curPut n cur v).bind (fun u => eff (u.advance n cur 2)))
  | .spBased am dn d16 => s.spDo n 2 (fun t => t.spStore n .io (.d dn) (t.dispAddr n am d16) am (t.aReg n am))
  | .spAbs dn a => s.spDo n 2 (fun t => effOf t (t.memWrite n .sp .io a (t.dReg n dn)))

end Sys2Proof.Machine

namespace Sys2Proof

/-! Which commands may change a part of the state. A command that can restart the device, or switch it off, may change any part of it. -/

/-- Commands after which the device may restart: resets, power and state transitions, reactions of the safety monitor (R438, R444, R476), and a
write of SYS_CMD (R453). -/
def Instr.mayRestart : Instr → Bool
  | .registerWrite .. => true
  | .heartbeatArbiter .. => true
  | .claim .. => true
  | .claimWindowClose => true
  | .rejoinRequest .. => true
  | .deputyHeartbeatTimeout => true
  | .wingStrobe => true
  | .rowRelease .. => true
  | .hedgeRowEvaluate .. => true
  | .comparisonRecordReceive .. => true
  | .comparisonRecordTimeout .. => true
  | .canWakeMatch .. => true
  | .canWakePin .. => true
  | .brownOut .. => true
  | .powerOn .. => true
  | .resetPin .. => true
  | .debugReset => true
  | .setMode .. => true
  | .coreReset .. => true
  | .systemReset .. => true
  | .standby .. => true
  | .standbyWake .. => true
  | .rtcAlarm => true
  | .holdupTaskEnd .. => true
  | .powerReturn => true
  | .selfTestComplete .. => true
  | .configuringComplete .. => true
  | .stepTimeout => true
  | .activateDevice .. => true
  | .clockWindow .. => true
  | .tempShutdown => true
  | .manifestCrcRecheck .. => true
  | .lockstepFault .. => true
  | .parityError .. => true
  | .eccUe .. => true
  | .directedCheckEnd .. => true
  | _ => false

/-- Host reads: each may be one of 64 bits that goes on to a register whose read acts (R3). -/
def Instr.isRead : Instr → Bool
  | .readClear .. => true
  | .timeNowRead .. => true
  | .ltcRead .. => true
  | .timeTripleRead .. => true
  | .capturePop .. => true
  | .tsqEntryPop .. => true
  | .hedgePhRead .. => true
  | .macCounterRead .. => true
  | .tkRxfifoRead .. => true
  | .fdPtrLoRead .. => true
  | .cqCycleRead .. => true
  | _ => false

/-- Commands that a block of MAIN or of a lane domain carries out: they have no effect while its domain is unpowered or held in reset (R12, R438). -/
def Instr.ofMain : Instr → Bool
  | .iwlLaneUp .. => true
  | .iwlLaneFail .. => true
  | .iwlTrainDeadline => true
  | .iwlBlockReceive .. => true
  | .globalDecision .. => true
  | .deputyAck .. => true
  | .mirrorAckTimeout => true
  | .heartbeatSend .. => true
  | .heartbeatArbiter .. => true
  | .heartbeatLinkReceive .. => true
  | .heartbeatLost .. => true
  | .claim .. => true
  | .claimWindowClose => true
  | .stewardConfigWrite .. => true
  | .mirrorRequest .. => true
  | .mirrorComplete .. => true
  | .rejoinRequest .. => true
  | .deputyHeartbeatTimeout => true
  | .timeShadowWrite .. => true
  | .timeCommit .. => true
  | .wingStrobe => true
  | .servoUpdate .. => true
  | .sourceLost => true
  | .holdLimitExpiry => true
  | .syncReceive .. => true
  | .followUpReceive .. => true
  | .syncTransmit .. => true
  | .pdelayExchange .. => true
  | .announceReceive .. => true
  | .announceTransmit .. => true
  | .ptpTransit .. => true
  | .heldSyncExpiry .. => true
  | .ptpUnsupported .. => true
  | .irigbFrame .. => true
  | .ppsInEdge .. => true
  | .ppsOutRise => true
  | .ppsOutFall => true
  | .triggerFire .. => true
  | .triggerPulseEnd .. => true
  | .captureEdge .. => true
  | .capturePop .. => true
  | .svFrameReceive .. => true
  | .svForwardReceive .. => true
  | .discardWindowExpiry .. => true
  | .policerToken .. => true
  | .pairingWindowEnd .. => true
  | .streamLoss .. => true
  | .pubFrameSend .. => true
  | .thicketPubDma .. => true
  | .wallAsduWrite .. => true
  | .rowOpen .. => true
  | .rowDeadline .. => true
  | .rowRelease .. => true
  | .derivedRowRelease .. => true
  | .wallDegradeStep .. => true
  | .wallRestoreStep .. => true
  | .sliceBlockWrite .. => true
  | .hedgeRowEvaluate .. => true
  | .elementOperate .. => true
  | .elementResetDelayExpiry .. => true
  | .inverseTimeOperate .. => true
  | .inverseResetExpiry .. => true
  | .retrip .. => true
  | .bfOperate .. => true
  | .inputInvalidBlock .. => true
  | .freqHoldTimeout .. => true
  | .comparisonRecordReceive .. => true
  | .comparisonRecordTimeout .. => true
  | .leaseTimeout => true
  | .hedgeSet .. => true
  | .settingsTApply => true
  | .tpMinExpiry .. => true
  | .engineSourceWrite .. => true
  | .gsiTalExpiry .. => true
  | .engHoldExpiry .. => true
  | .hcmdPulseEnd .. => true
  | .readbackMismatch .. => true
  | .tripPubChange .. => true
  | .tripPubResend .. => true
  | .caravanCutoff .. => true
  | .caravanDepart .. => true
  | .caravanReceive .. => true
  | .caravanMissing .. => true
  | .laneSignalLoss .. => true
  | .nodeLost .. => true
  | .joinAnswer .. => true
  | .imageRotate .. => true
  | .echoReqSend .. => true
  | .echoReqReceive .. => true
  | .echoRspReceive .. => true
  | .echoTimeout .. => true
  | .ringStart .. => true
  | .epochCommit .. => true
  | .epochSwap .. => true
  | .triggerSourceStop .. => true
  | .read .. => true
  | .write .. => true
  | .ack .. => true
  | .rdata .. => true
  | .acycResend .. => true
  | .acycTimeout .. => true
  | .completionWrite .. => true
  | .responseDiscard .. => true
  | .frameReceive .. => true
  | .pauseReceive .. => true
  | .pfcReceive .. => true
  | .pauseExpiry .. => true
  | .pauseSend .. => true
  | .learnRequest => true
  | .moveLockEnd .. => true
  | .macAgeOut .. => true
  | .linkDown .. => true
  | .linkUp .. => true
  | .crossbarMatch => true
  | .frameTransmit .. => true
  | .entryForget .. => true
  | .nodeForget .. => true
  | .engineLoad .. => true
  | .engineRestart .. => true
  | .watchdog .. => true
  | .wdtKick .. => true
  | .persEvent .. => true
  | .crc .. => true
  | .shaBlock .. => true
  | .gmacCheck .. => true
  | .gmacSign .. => true
  | .gcmSeal .. => true
  | .gcmOpen .. => true
  | .keyLoad .. => true
  | .rng .. => true
  | .copComplete .. => true
  | .fpMove .. => true
  | .fpAdd .. => true
  | .fpSub .. => true
  | .fpAnd .. => true
  | .fpOr .. => true
  | .fpXor .. => true
  | .fpAndn .. => true
  | .fpAdc .. => true
  | .fpSbb .. => true
  | .fpShl .. => true
  | .fpShr .. => true
  | .fpSar .. => true
  | .fpRol .. => true
  | .fpRor .. => true
  | .fpSwap .. => true
  | .fpEq .. => true
  | .fpNe .. => true
  | .fpLtu .. => true
  | .fpLeu .. => true
  | .fpLt .. => true
  | .fpLe .. => true
  | .fpBit .. => true
  | .fpAny .. => true
  | .fpGrd .. => true
  | .caRw .. => true
  | .caRb .. => true
  | .caWw .. => true
  | .caWb .. => true
  | .caPk .. => true
  | .crcCfg .. => true
  | .crcT .. => true
  | .crcTb .. => true
  | .sumSet .. => true
  | .sumT .. => true
  | .qinPop .. => true
  | .qinFree .. => true
  | .qoutPush .. => true
  | .qoutDone .. => true
  | .jmp .. => true
  | .call .. => true
  | .ret .. => true
  | .eret .. => true
  | .ipendClear .. => true
  | .rpt .. => true
  | .tas .. => true
  | .semClr .. => true
  | .tsqPop .. => true
  | .now .. => true
  | .rx .. => true
  | .lutT .. => true
  | .fpEventEntry .. => true
  | .mov .. => true
  | .spAdd .. => true
  | .spAdc .. => true
  | .spSub .. => true
  | .spSbb .. => true
  | .cmp .. => true
  | .spAnd .. => true
  | .spOr .. => true
  | .spXor .. => true
  | .spAndn .. => true
  | .tst .. => true
  | .spShl .. => true
  | .spShr .. => true
  | .spSar .. => true
  | .spRol .. => true
  | .spBit .. => true
  | .localLoad .. => true
  | .localStore .. => true
  | .ldD .. => true
  | .ldA .. => true
  | .stD .. => true
  | .stA .. => true
  | .ldx .. => true
  | .stx .. => true
  | .ldabs .. => true
  | .stabs .. => true
  | .aaddShort .. => true
  | .xmov .. => true
  | .amov .. => true
  | .aadd .. => true
  | .asub .. => true
  | .bcc .. => true
  | .call0 .. => true
  | .spCall .. => true
  | .spRet .. => true
  | .spEret .. => true
  | .rep .. => true
  | .repi .. => true
  | .semtas .. => true
  | .semclr .. => true
  | .jmpAn .. => true
  | .wait .. => true
  | .di .. => true
  | .ei .. => true
  | .endcyc .. => true
  | .push .. => true
  | .pop .. => true
  | .mfc .. => true
  | .mtc .. => true
  | .copr .. => true
  | .copw .. => true
  | .copst .. => true
  | .nop .. => true
  | .ldres .. => true
  | .stcond .. => true
  | .rise .. => true
  | .fall .. => true
  | .mul .. => true
  | .mac .. => true
  | .msu .. => true
  | .mulu .. => true
  | .macu .. => true
  | .accClr .. => true
  | .sat .. => true
  | .norm .. => true
  | .rnd .. => true
  | .movh .. => true
  | .movl .. => true
  | .ldh .. => true
  | .asr .. => true
  | .addac .. => true
  | .spEventEntry .. => true
  | .ilkCycleStart .. => true
  | .ilkOverrun .. => true
  | .ilkRun .. => true
  | .ilkStop .. => true
  | .hold .. => true
  | .forceSet .. => true
  | .forceClear .. => true
  | .forceClearAll .. => true
  | .canFrameReceive .. => true
  | .canTxAttemptEnd .. => true
  | .canRecoveryEnd .. => true
  | .canTxRingFetch .. => true
  | .canWakeValidityExpiry .. => true
  | .tkStep .. => true
  | .hostLinkUp .. => true
  | .dmaPauseStart .. => true
  | .dmaPauseEnd .. => true
  | .linkLossTimeout .. => true
  | .numvfsWrite .. => true
  | .tdCtlWrite .. => true
  | .tdTake .. => true
  | .fdPost .. => true
  | .fdPtrLoRead .. => true
  | .ping .. => true
  | .ptpTxSet .. => true
  | .keyInstall .. => true
  | .keyErase .. => true
  | .keyInfo .. => true
  | .svnCommit .. => true
  | .fuseProg .. => true
  | .trngHealthFail => true
  | .trngRecover .. => true
  | .debugUnlock .. => true
  | .stewardWatchdog .. => true
  | .bootComplete .. => true
  | .selfTestComplete .. => true
  | .configuringComplete .. => true
  | .stepTimeout => true
  | .trialClear => true
  | .diagLine => true
  | .stageOpen .. => true
  | .stageWrite .. => true
  | .stageClose .. => true
  | .activateCluster .. => true
  | .activateWing .. => true
  | .activateDevice .. => true
  | .settingsLoad .. => true
  | .abort .. => true
  | .journalCompact => true
  | .clockWindow .. => true
  | .tempRead .. => true
  | .tempShutdown => true
  | .manifestCrcRecheck .. => true
  | .lockstepFault .. => true
  | .parityError .. => true
  | .eccUe .. => true
  | .directedCheckEnd .. => true
  | .coreResetEnd .. => true
  | .applyInstant .. => true
  | .laneSignalReturn .. => true
  | .eccCe .. => true
  | _ => false

/-- Commands that may change what the applied manifest fixes (R458). -/
def Instr.mayMan (c : Instr) : Bool :=
  c.mayRestart || match c with
    | .coreResetEnd .. => true
    | _ => false

/-- Commands that may change the Toll governor (R445, R446). -/
def Instr.mayToll (c : Instr) : Bool :=
  c.mayRestart || match c with
    | .vinOkLow .. => true
    | .tollMeasure .. => true
    | .tollThrottleStep => true
    | .tollReleaseStep => true
    | .holdupSample .. => true
    | .tempRead .. => true
    | _ => false

/-- Commands that may change the safety monitor's own state (R478-R481). -/
def Instr.maySafe (c : Instr) : Bool :=
  c.mayRestart || match c with
    | .tempRead .. => true
    | _ => false

/-- Commands that may change the streams and windows of the intakes (R77, R83, R88). -/
def Instr.mayIntake (c : Instr) : Bool :=
  c.mayRestart || match c with
    | .iwlLaneUp .. => true
    | .iwlLaneFail .. => true
    | .iwlTrainDeadline => true
    | .iwlBlockReceive .. => true
    | .ptpUnsupported .. => true
    | .svFrameReceive .. => true
    | .svForwardReceive .. => true
    | .discardWindowExpiry .. => true
    | .policerToken .. => true
    | .pairingWindowEnd .. => true
    | .confrevClear .. => true
    | .wallAsduWrite .. => true
    | .frameReceive .. => true
    | .coreResetEnd .. => true
    | _ => false

/-- Commands that may change the rows of the sample walls (R107). -/
def Instr.mayWall (c : Instr) : Bool :=
  c.mayRestart || match c with
    | .deputyAck .. => true
    | .mirrorAckTimeout => true
    | .timeCommit .. => true
    | .servoUpdate .. => true
    | .step .. => true
    | .svFrameReceive .. => true
    | .svForwardReceive .. => true
    | .pairingWindowEnd .. => true
    | .streamLoss .. => true
    | .confrevClear .. => true
    | .simEnWrite .. => true
    | .wallAsduWrite .. => true
    | .rowOpen .. => true
    | .rowDeadline .. => true
    | .derivedRowRelease .. => true
    | .wallDegradeStep .. => true
    | .wallRestoreStep .. => true
    | .settingsTApply => true
    | .caravanDepart .. => true
    | .crossbarMatch => true
    | .vinOkLow .. => true
    | .tollThrottleStep => true
    | .tollReleaseStep => true
    | .bootComplete .. => true
    | .tempRead .. => true
    | .coreResetEnd .. => true
    | _ => false

/-- Commands that may change the slice subscriptions (R121). -/
def Instr.maySlice (c : Instr) : Bool :=
  c.mayRestart || match c with
    | .derivedRowRelease .. => true
    | .sliceEnable .. => true
    | .sliceDisable .. => true
    | .sliceBlockWrite .. => true
    | .hostPortReset .. => true
    | .dmaPauseStart .. => true
    | .dmaPauseEnd .. => true
    | .linkLossTimeout .. => true
    | .functionLevelReset .. => true
    | .numvfsWrite .. => true
    | .d3hotEntry .. => true
    | .d0Return .. => true
    | .dmaFault .. => true
    | _ => false

/-- Commands that may change the Hedge units (R132-R144). -/
def Instr.mayHedge (c : Instr) : Bool :=
  c.mayRestart || c.isRead || match c with
    | .iwlLaneUp .. => true
    | .iwlLaneFail .. => true
    | .iwlTrainDeadline => true
    | .iwlBlockReceive .. => true
    | .triggerFire .. => true
    | .elementOperate .. => true
    | .elementResetDelayExpiry .. => true
    | .inverseTimeOperate .. => true
    | .inverseResetExpiry .. => true
    | .retrip .. => true
    | .bfOperate .. => true
    | .inputInvalidBlock .. => true
    | .freqHoldTimeout .. => true
    | .acquire .. => true
    | .refresh .. => true
    | .release .. => true
    | .leaseTimeout => true
    | .hedgeSet .. => true
    | .hostPortReset .. => true
    | .linkLossTimeout .. => true
    | .functionLevelReset .. => true
    | .numvfsWrite .. => true
    | .d0Return .. => true
    | .settingsLoad .. => true
    | .coreResetEnd .. => true
    | _ => false

/-- Commands that may change the protection lease and settings that wait (R147, R151). -/
def Instr.mayLease (c : Instr) : Bool :=
  c.mayRestart || match c with
    | .acquire .. => true
    | .refresh .. => true
    | .release .. => true
    | .leaseTimeout => true
    | .hedgeSet .. => true
    | .settingsTApply => true
    | .hostPortReset .. => true
    | .linkLossTimeout .. => true
    | .functionLevelReset .. => true
    | .numvfsWrite .. => true
    | .d0Return .. => true
    | .settingsLoad .. => true
    | _ => false

/-- Commands that may change the CAN controllers' FIFOs and modes (R369, R370). -/
def Instr.mayCan (c : Instr) : Bool :=
  c.mayRestart || match c with
    | .canModeWrite .. => true
    | .canTxreq .. => true
    | .canTxabort .. => true
    | .canRxpop .. => true
    | .recover .. => true
    | .canFrameReceive .. => true
    | .canTxAttemptEnd .. => true
    | .canRecoveryEnd .. => true
    | .canTxRingFetch .. => true
    | .canWakeValidityExpiry .. => true
    | _ => false

/-- Commands that may change the Thicket engines (R379). -/
def Instr.mayTk (c : Instr) : Bool :=
  c.mayRestart || c.isRead || match c with
    | .triggerFire .. => true
    | .thicketPubDma .. => true
    | .tkStep .. => true
    | .tkTxfifoWrite .. => true
    | .coreResetEnd .. => true
    | _ => false

/-- Commands that may change the published streams (R92). -/
def Instr.mayPub (c : Instr) : Bool :=
  c.mayRestart || match c with
    | .triggerFire .. => true
    | .pubWrAdvance .. => true
    | .pubFrameSend .. => true
    | .thicketPubDma .. => true
    | .settingsTApply => true
    | .caravanDepart .. => true
    | .engineLoad .. => true
    | .engineRestart .. => true
    | .endcyc .. => true
    | .ilkOverrun .. => true
    | .ilkStop .. => true
    | .vinOkLow .. => true
    | .bootComplete .. => true
    | .coreResetEnd .. => true
    | _ => false

/-- Commands that may change the Caique rings (R180). -/
def Instr.mayRing (c : Instr) : Bool :=
  c.mayRestart || match c with
    | .deputyAck .. => true
    | .mirrorAckTimeout => true
    | .timeCommit .. => true
    | .servoUpdate .. => true
    | .step .. => true
    | .triggerFire .. => true
    | .caravanCutoff .. => true
    | .caravanDepart .. => true
    | .caravanReceive .. => true
    | .caravanMissing .. => true
    | .laneSignalLoss .. => true
    | .joinAnswer .. => true
    | .imageRotate .. => true
    | .echoReqSend .. => true
    | .echoReqReceive .. => true
    | .echoRspReceive .. => true
    | .echoTimeout .. => true
    | .ringStart .. => true
    | .epochCommit .. => true
    | .epochSwap .. => true
    | .triggerSourceStop .. => true
    | .unwrap .. => true
    | .restore .. => true
    | .sleep .. => true
    | .wake .. => true
    | .nodeReset .. => true
    | .clearFalseWake .. => true
    | .crossbarMatch => true
    | .holdupSample .. => true
    | .bootComplete .. => true
    | .applyInstant .. => true
    | .laneSignalReturn .. => true
    | _ => false

/-- Commands that may change the arbiter and the stewards' link (R23-R33). -/
def Instr.mayArb (c : Instr) : Bool :=
  c.mayRestart || match c with
    | .iwlLaneUp .. => true
    | .iwlLaneFail .. => true
    | .iwlTrainDeadline => true
    | .iwlBlockReceive .. => true
    | .globalDecision .. => true
    | .deputyAck .. => true
    | .mirrorAckTimeout => true
    | .heartbeatSend .. => true
    | .heartbeatLinkReceive .. => true
    | .heartbeatLost .. => true
    | .stewardConfigWrite .. => true
    | .mirrorRequest .. => true
    | .mirrorComplete .. => true
    | .timeCommit .. => true
    | .servoUpdate .. => true
    | .step .. => true
    | .svFrameReceive .. => true
    | .svForwardReceive .. => true
    | .epochCommit .. => true
    | .crossbarMatch => true
    | .stewardWatchdog .. => true
    | .activateWing .. => true
    | .coreResetEnd .. => true
    | .resetRelease => true
    | _ => false

/-- Commands that may change staging, activation and the journal (R461, R469). -/
def Instr.mayUpd (c : Instr) : Bool :=
  c.mayRestart || match c with
    | .hedgeSet .. => true
    | .settingsTApply => true
    | .engineLoad .. => true
    | .ilkRun .. => true
    | .ilkStop .. => true
    | .hostPortReset .. => true
    | .linkLossTimeout .. => true
    | .functionLevelReset .. => true
    | .numvfsWrite .. => true
    | .d0Return .. => true
    | .bootComplete .. => true
    | .trialClear => true
    | .stageOpen .. => true
    | .stageWrite .. => true
    | .stageClose .. => true
    | .activateCluster .. => true
    | .activateWing .. => true
    | .settingsLoad .. => true
    | .abort .. => true
    | .journalCompact => true
    | .coreResetEnd .. => true
    | .resetRelease => true
    | _ => false

/-- Commands that may change the answer on the host bus (R3). -/
def Instr.mayBus (c : Instr) : Bool :=
  c.mayRestart || c.isRead || match c with
    | .bar2Read .. => true
    | .hostBankAccess .. => true
    | .mspiRead .. => true
    | .mi2cRead .. => true
    | _ => false

end Sys2Proof
end

