-- ==== Sys2Proof/Certificates/Slice0/Obligations.lean ====
section
/-! DEFINITION. The statements for the provers. The rule-level ones come first; then, for each group of commands, where each of them
completes: under hypotheses on the state and the operands alone, exec answers the next state of the command's own effect. -/

open Sys2Proof Sys2Proof.Machine

/-- A step carries out the command at the front of the queue (R438, R444). For every command c and state s, a step of s with c at
the front of its queue is exec of c on s with the rest of the queue. The queue is the model's own. -/
def Obligations.StepRunsFront : Prop :=
  ∀ (s : State) (c : Instr), step { s with pending := c :: s.pending } = exec c s

/-- On an empty queue one nanosecond passes and nothing but the clocks changes (R43, R12, R13, R452). The model's choice of log
entry 4: with no command waiting, a step advances the clocks alone. The LTCs count nanoseconds while MAIN is powered and no
reset is asserted, CD2 has an edge where Config gives one while the device is neither in OFF nor in STANDBY, CD0 outside OFF,
and the RTC counts 32,768 edges of CD0 a second. -/
def Obligations.EmptyQueuePassesTime : Prop :=
  ∀ s : State, s.pending = [] →
    ∃ c : Clocks, step s = .next { s with clk := c } ∧ c.ns = s.clk.ns + 1 ∧
      c.cd2 = s.clk.cd2 + bitOf (s.dev.st.awake && Config.cd2Edge s.clk.ns) ∧
      c.cd0 = s.clk.cd0 + bitOf (s.dev.st != .off && Config.cd0Edge s.clk.ns) ∧
      (s.mainUp = true → c.ltcE = s.clk.ltcE + 1 ∧ c.ltcW = s.clk.ltcW + 1) ∧
      (s.mainUp = false → c.ltcE = s.clk.ltcE ∧ c.ltcW = s.clk.ltcW) ∧
      c.rtc = s.clk.rtc + (if s.dev.st ≠ .off ∧ Config.cd0Edge s.clk.ns = true ∧ (s.clk.cd0 + 1) % 32768 = 0 then 1 else 0)

/-- No command touches the queue of waiting commands (R438, R444). Whatever command is carried out, the commands that wait stay as
they are: a reset too leaves them. The queue is the model's own. -/
def Obligations.QueueUntouched : Prop :=
  ∀ (c : Instr) (s t : State), exec c s = .next t → t.pending = s.pending

/-- What the reset state holds (R8, R34, R43, R77, R78, R424, R443, R451). The device is in BOOT, no command waits and no memory
byte is listed; the LTCs, ARB_EPOCH and the backup registers are 0, no wing holds the steward role, no stream entry is valid,
every host line is off, every engine STOPPED, no function is enabled, every Boxwood slot that a host can load is empty. That CD2
starts at 0 and the pins read as they do are the model's choices (log entry 2) and are not stated. -/
def Obligations.ResetValues : Prop :=
  State.reset.dev.st = .boot ∧ State.reset.pending = [] ∧ State.reset.mram.mem = [] ∧ State.reset.host.bank = [] ∧
  State.reset.clk.ltcE = 0 ∧ State.reset.clk.ltcW = 0 ∧ State.reset.rd Reg.ARB_EPOCH = 0 ∧ State.reset.steward = none ∧
  (∀ k < 32, State.reset.rd (Reg.BKUP k) = 0) ∧ State.reset.rd Reg.TRIP_HCMD_STATE = 0 ∧
  (∀ n < 32, State.reset.peState n = 0) ∧ State.reset.host.en = [] ∧ State.reset.sec.box = [] ∧
  (∀ n < 512, State.reset.rf (Reg.STREAM_STAT .east n) 29 3 = 0 ∧ State.reset.rf (Reg.STREAM_STAT .west n) 29 3 = 0)

/-- The memories are in canonical form at reset (R237, R298, R450). State.memOk holds at State.reset: the image bank, the draft
outputs, the host bank, the MRAM, the flash and every engine's banks list rising addresses and no entry that reads as an
unlisted one. -/
def Obligations.MemoriesCanonicalAtReset : Prop :=
  State.reset.memOk = true

/-- Every step keeps the memories in canonical form (R237, R240, R292, R298, R450, R456). From every state whose memories are in
canonical form, whatever command waits, a step that answers a next state leaves them in canonical form. -/
def Obligations.MemoriesStayCanonical : Prop :=
  ∀ s t : State, s.memOk = true → step s = .next t → t.memOk = true

/-- A fuse bit, once blown, stays blown (R422, R423). R422's sentence over every step: no command, no reset and no passing of time
clears a blown bit of any field. The fields are numbered by log entry 29. -/
def Obligations.FusesStayBlown : Prop :=
  ∀ (s t : State) (field bit : Nat), step s = .next t → bit ∈ s.blown field → bit ∈ t.blown field

/-- Only the listed commands change the clocks, the manifest's configuration, the Toll governor and the safety monitor (R458, R445,
R478, R438). For every command outside the list of the part, if exec answers a next state the part is unchanged: the clocks
(which only a restart sets), what the applied manifest fixes, the Toll governor's state, the safety monitor's own state. The
lists are Instr.mayRestart, mayMan, mayToll and maySafe. -/
def Obligations.ClocksAndManifestFrame : Prop :=
  ∀ (c : Instr) (s t : State), exec c s = .next t →
    (c.mayRestart = false → t.clk = s.clk) ∧ (c.mayMan = false → t.man = s.man) ∧
    (c.mayToll = false → t.toll = s.toll) ∧ (c.maySafe = false → t.safe = s.safe)

/-- Only the listed commands change streams, wall rows and slices (R77, R78, R107, R110, R121). For every command outside the list
of the part, if exec answers a next state the intakes' streams, the walls' rows and the slice subscriptions are unchanged. -/
def Obligations.SamplesFrame : Prop :=
  ∀ (c : Instr) (s t : State), exec c s = .next t →
    (c.mayIntake = false → t.intake = s.intake) ∧ (c.mayWall = false → t.wall = s.wall) ∧ (c.maySlice = false → t.slice = s.slice)

/-- Only the listed commands change the Hedge units and the protection lease (R140, R144, R147, R148, R151). For every command
outside the list of the part, if exec answers a next state the Hedge units' state and the lease are unchanged. -/
def Obligations.ProtectionFrame : Prop :=
  ∀ (c : Instr) (s t : State), exec c s = .next t →
    (c.mayHedge = false → t.hedge = s.hedge) ∧ (c.mayLease = false → t.lease = s.lease)

/-- Only the listed commands change the CAN controllers, the Thicket engines and the published streams (R369, R370, R379, R92, R93).
For every command outside the list of the part, if exec answers a next state the CAN controllers, the Thicket engines and the
published streams are unchanged. -/
def Obligations.FieldUnitsFrame : Prop :=
  ∀ (c : Instr) (s t : State), exec c s = .next t →
    (c.mayCan = false → t.can = s.can) ∧ (c.mayTk = false → t.tk = s.tk) ∧ (c.mayPub = false → t.pub = s.pub)

/-- Only the listed commands change the rings, the arbiter, staging and the answer on the host bus (R209, R213, R222, R461, R469,
R23, R3). For every command outside the list of the part, if exec answers a next state the Caique rings, the arbiter's and the
stewards' state, staging and the journal, and the answer on the host bus are unchanged. -/
def Obligations.RingsAndUpdateFrame : Prop :=
  ∀ (c : Instr) (s t : State), exec c s = .next t →
    (c.mayRing = false → t.ring = s.ring) ∧ (c.mayArb = false → t.arb = s.arb) ∧
    (c.mayUpd = false → t.upd = s.upd) ∧ (c.mayBus = false → t.bus = s.bus)

/-- The frame processor's ALU and shifter triggers compute O op T (R327). For every move into an ALU or shifter trigger that issues,
whose source gives the value v and leaves the state u: exec answers u with PC advanced, the result of the trigger's operation of
O and v in the unit's result, the carry or borrow of ADD, SUB, ADC and SBB in that ALU's flag, and nothing else changed but what
the next fetch does. -/
def Obligations.FpAluComputes : Prop :=
  ∀ (s u : State) (n alu : Nat) (m : FpMv) (v : Half),
    (∀ k : Half → State → Eff, s.fpSrcRead n m.src k = k v u) →
    ((Instr.fpAdd n alu m).wf = true → s.mainUp = true → s.fpIssues n m.guard m.long m.src (18 + 10 * alu) = true →
      let w := wingOf alu
      exec (.fpAdd n alu m) s = .next (((u.fpAdvance n (if m.long then 2 else 1)).onFp n (fun f =>
        { f with
            aluR := f.aluR.set w (f.aluO.at_ w + v)
            aluC := f.aluC.set w (decide (65536 ≤ (f.aluO.at_ w).toNat + v.toNat)) })).fpFetchNext n)) ∧
    ((Instr.fpSub n alu m).wf = true → s.mainUp = true → s.fpIssues n m.guard m.long m.src (19 + 10 * alu) = true →
      let w := wingOf alu
      exec (.fpSub n alu m) s = .next (((u.fpAdvance n (if m.long then 2 else 1)).onFp n (fun f =>
        { f with
            aluR := f.aluR.set w (f.aluO.at_ w - v)
            aluC := f.aluC.set w (decide ((f.aluO.at_ w).toNat < v.toNat)) })).fpFetchNext n)) ∧
    ((Instr.fpAnd n alu m).wf = true → s.mainUp = true → s.fpIssues n m.guard m.long m.src (20 + 10 * alu) = true →
      let w := wingOf alu
      exec (.fpAnd n alu m) s = .next (((u.fpAdvance n (if m.long then 2 else 1)).onFp n (fun f =>
        { f with
            aluR := f.aluR.set w (f.aluO.at_ w &&& v) })).fpFetchNext n)) ∧
    ((Instr.fpOr n alu m).wf = true → s.mainUp = true → s.fpIssues n m.guard m.long m.src (21 + 10 * alu) = true →
      let w := wingOf alu
      exec (.fpOr n alu m) s = .next (((u.fpAdvance n (if m.long then 2 else 1)).onFp n (fun f =>
        { f with
            aluR := f.aluR.set w (f.aluO.at_ w ||| v) })).fpFetchNext n)) ∧
    ((Instr.fpXor n alu m).wf = true → s.mainUp = true → s.fpIssues n m.guard m.long m.src (22 + 10 * alu) = true →
      let w := wingOf alu
      exec (.fpXor n alu m) s = .next (((u.fpAdvance n (if m.long then 2 else 1)).onFp n (fun f =>
        { f with
            aluR := f.aluR.set w (f.aluO.at_ w ^^^ v) })).fpFetchNext n)) ∧
    ((Instr.fpAndn n alu m).wf = true → s.mainUp = true → s.fpIssues n m.guard m.long m.src (23 + 10 * alu) = true →
      let w := wingOf alu
      exec (.fpAndn n alu m) s = .next (((u.fpAdvance n (if m.long then 2 else 1)).onFp n (fun f =>
        { f with
            aluR := f.aluR.set w (f.aluO.at_ w &&& ~~~v) })).fpFetchNext n)) ∧
    ((Instr.fpAdc n alu m).wf = true → s.mainUp = true → s.fpIssues n m.guard m.long m.src (24 + 10 * alu) = true →
      let w := wingOf alu
      exec (.fpAdc n alu m) s = .next (((u.fpAdvance n (if m.long then 2 else 1)).onFp n (fun f =>
        { f with
            aluR := f.aluR.set w (f.aluO.at_ w + v + (if f.aluC.at_ w then 1 else 0))
            aluC := f.aluC.set w (decide (65536 ≤ (f.aluO.at_ w).toNat + v.toNat + (if f.aluC.at_ w then 1 else 0))) })).fpFetchNext n)) ∧
    ((Instr.fpSbb n alu m).wf = true → s.mainUp = true → s.fpIssues n m.guard m.long m.src (25 + 10 * alu) = true →
      let w := wingOf alu
      exec (.fpSbb n alu m) s = .next (((u.fpAdvance n (if m.long then 2 else 1)).onFp n (fun f =>
        { f with
            aluR := f.aluR.set w (f.aluO.at_ w - v - (if f.aluC.at_ w then 1 else 0))
            aluC := f.aluC.set w (decide ((f.aluO.at_ w).toNat < v.toNat + (if f.aluC.at_ w then 1 else 0))) })).fpFetchNext n)) ∧
    ((Instr.fpShl n m).wf = true → s.mainUp = true → s.fpIssues n m.guard m.long m.src 38 = true →
      exec (.fpShl n m) s = .next (((u.fpAdvance n (if m.long then 2 else 1)).onFp n (fun f =>
        { f with shR := f.shO <<< (v.toNat % 16) })).fpFetchNext n)) ∧
    ((Instr.fpShr n m).wf = true → s.mainUp = true → s.fpIssues n m.guard m.long m.src 39 = true →
      exec (.fpShr n m) s = .next (((u.fpAdvance n (if m.long then 2 else 1)).onFp n (fun f =>
        { f with shR := f.shO >>> (v.toNat % 16) })).fpFetchNext n)) ∧
    ((Instr.fpSar n m).wf = true → s.mainUp = true → s.fpIssues n m.guard m.long m.src 40 = true →
      exec (.fpSar n m) s = .next (((u.fpAdvance n (if m.long then 2 else 1)).onFp n (fun f =>
        { f with shR := f.shO.sshiftRight (v.toNat % 16) })).fpFetchNext n)) ∧
    ((Instr.fpRol n m).wf = true → s.mainUp = true → s.fpIssues n m.guard m.long m.src 41 = true →
      exec (.fpRol n m) s = .next (((u.fpAdvance n (if m.long then 2 else 1)).onFp n (fun f =>
        { f with shR := f.shO.rotateLeft (v.toNat % 16) })).fpFetchNext n)) ∧
    ((Instr.fpRor n m).wf = true → s.mainUp = true → s.fpIssues n m.guard m.long m.src 42 = true →
      exec (.fpRor n m) s = .next (((u.fpAdvance n (if m.long then 2 else 1)).onFp n (fun f =>
        { f with shR := f.shO.rotateRight (v.toNat % 16) })).fpFetchNext n)) ∧
    ((Instr.fpSwap n m).wf = true → s.mainUp = true → s.fpIssues n m.guard m.long m.src 43 = true →
      exec (.fpSwap n m) s = .next (((u.fpAdvance n (if m.long then 2 else 1)).onFp n (fun f =>
        { f with shR := (v.setWidth 8 : Octet) ++ ((v >>> (8 : Nat)).setWidth 8 : Octet) })).fpFetchNext n))

/-- A comparison writes its result into the guard that CMP.G names (R328). For every move into a CMP trigger that issues, whose
source gives the value v and leaves the state u: exec answers u with PC advanced and the comparison of O with v in the guard
named by CMP.G[2:0]; the other guards and everything else stay, but for what the next fetch does. -/
def Obligations.FpCompareWritesGuard : Prop :=
  ∀ (s u : State) (n : Nat) (m : FpMv) (v : Half),
    (∀ k : Half → State → Eff, s.fpSrcRead n m.src k = k v u) →
    ((Instr.fpEq n m).wf = true → s.mainUp = true → s.fpIssues n m.guard m.long m.src 46 = true →
      exec (.fpEq n m) s = .next (((u.fpAdvance n (if m.long then 2 else 1)).onFp n (fun f =>
        { f with grd := setFld f.grd (f.cmpG.toNat % 8) 1 (bitOf (decide (f.cmpO = v))) })).fpFetchNext n)) ∧
    ((Instr.fpNe n m).wf = true → s.mainUp = true → s.fpIssues n m.guard m.long m.src 47 = true →
      exec (.fpNe n m) s = .next (((u.fpAdvance n (if m.long then 2 else 1)).onFp n (fun f =>
        { f with grd := setFld f.grd (f.cmpG.toNat % 8) 1 (bitOf (decide (f.cmpO ≠ v))) })).fpFetchNext n)) ∧
    ((Instr.fpLtu n m).wf = true → s.mainUp = true → s.fpIssues n m.guard m.long m.src 48 = true →
      exec (.fpLtu n m) s = .next (((u.fpAdvance n (if m.long then 2 else 1)).onFp n (fun f =>
        { f with grd := setFld f.grd (f.cmpG.toNat % 8) 1 (bitOf (decide (f.cmpO.toNat < v.toNat))) })).fpFetchNext n)) ∧
    ((Instr.fpLeu n m).wf = true → s.mainUp = true → s.fpIssues n m.guard m.long m.src 49 = true →
      exec (.fpLeu n m) s = .next (((u.fpAdvance n (if m.long then 2 else 1)).onFp n (fun f =>
        { f with grd := setFld f.grd (f.cmpG.toNat % 8) 1 (bitOf (decide (f.cmpO.toNat ≤ v.toNat))) })).fpFetchNext n)) ∧
    ((Instr.fpLt n m).wf = true → s.mainUp = true → s.fpIssues n m.guard m.long m.src 50 = true →
      exec (.fpLt n m) s = .next (((u.fpAdvance n (if m.long then 2 else 1)).onFp n (fun f =>
        { f with grd := setFld f.grd (f.cmpG.toNat % 8) 1 (bitOf (decide (f.cmpO.toInt < v.toInt))) })).fpFetchNext n)) ∧
    ((Instr.fpLe n m).wf = true → s.mainUp = true → s.fpIssues n m.guard m.long m.src 51 = true →
      exec (.fpLe n m) s = .next (((u.fpAdvance n (if m.long then 2 else 1)).onFp n (fun f =>
        { f with grd := setFld f.grd (f.cmpG.toNat % 8) 1 (bitOf (decide (f.cmpO.toInt ≤ v.toInt))) })).fpFetchNext n)) ∧
    ((Instr.fpBit n m).wf = true → s.mainUp = true → s.fpIssues n m.guard m.long m.src 52 = true →
      exec (.fpBit n m) s = .next (((u.fpAdvance n (if m.long then 2 else 1)).onFp n (fun f =>
        { f with grd := setFld f.grd (f.cmpG.toNat % 8) 1 (bitOf (decide (f.cmpO.getLsbD (v.toNat % 16) = true))) })).fpFetchNext n)) ∧
    ((Instr.fpAny n m).wf = true → s.mainUp = true → s.fpIssues n m.guard m.long m.src 53 = true →
      exec (.fpAny n m) s = .next (((u.fpAdvance n (if m.long then 2 else 1)).onFp n (fun f =>
        { f with grd := setFld f.grd (f.cmpG.toNat % 8) 1 (bitOf (decide (f.cmpO &&& v ≠ 0))) })).fpFetchNext n))

/-- The frame processor's return stack (R338). With at most eight addresses held: RS.DEPTH reads their number and RS.TOP the top one
or 0xFFFF. A CALL below depth 8 pushes; at depth 8 it discards the oldest entry under option 0, and traps with RS_OVERFLOW
(0x21) without a jump under option 1. A RET pops; at depth 0 it traps with RS_UNDERFLOW (0x22). The source of the move gives v
and leaves u. -/
def Obligations.FpReturnStack : Prop :=
  ∀ (s u : State) (n : Nat) (m : FpMv) (v : Half),
    n < 32 → (s.en n).fp.rs.length ≤ 8 → (u.en n).fp.rs = (s.en n).fp.rs →
    let len := if m.long then 2 else 1
    (∀ k : Half → State → Eff, s.fpRead n 95 k = k (BitVec.ofNat 16 (s.en n).fp.rs.length) s) ∧
    (∀ k : Half → State → Eff, s.fpRead n 94 k = k ((s.en n).fp.rs.headD 0xFFFF) s) ∧
    ((∀ k : Half → State → Eff, s.fpSrcRead n m.src k = k v u) →
      ((Instr.call n m).wf = true → s.mainUp = true → s.fpIssues n m.guard m.long m.src 88 = true →
        ((s.en n).fp.rs.length < 8 →
          exec (.call n m) s = .next (((u.fpAdvance n len).onFp n (fun f => { f with rs := f.pc :: f.rs, pc := v })).fpFetchNext n)) ∧
        (∀ k : Package, (s.en n).fp.rs.length = 8 → (u.en n).pkg = some k → k.rsTrap = false →
          exec (.call n m) s = .next (((u.fpAdvance n len).onFp n (fun f =>
            { f with rs := f.pc :: f.rs.take 7, pc := v })).fpFetchNext n)) ∧
        (∀ k : Package, (s.en n).fp.rs.length = 8 → (u.en n).pkg = some k → k.rsTrap = true →
          exec (.call n m) s = .next ((u.fpAdvance n len).engineTrap n .fp 0x21 (s.en n).fp.pc))) ∧
      ((Instr.ret n m).wf = true → s.mainUp = true → s.fpIssues n m.guard m.long m.src 89 = true →
        (∀ (a : Half) (l : List Half), (s.en n).fp.rs = a :: l →
          exec (.ret n m) s = .next (((u.fpAdvance n len).onFp n (fun f => { f with rs := l, pc := a })).fpFetchNext n)) ∧
        ((s.en n).fp.rs = [] →
          exec (.ret n m) s = .next ((u.fpAdvance n len).engineTrap n .fp 0x22 (s.en n).fp.pc))))

/-- Results and flags of the session processor's arithmetic (R345, R349, R350). For every arithmetic or logic instruction that
issues, with a the value of Dd, b the source, c the flag C and k = b[3:0] before it: exec answers the state in which PC has
advanced, SR holds the flags of R345 and no other change, Dd holds the result unless the instruction writes flags only, and
nothing else has changed but what the next fetch does. -/
def Obligations.SpFlags : Prop :=
  ∀ (s : State) (n d : Nat) (src : SpSrc),
    s.spIssues n (srcWords src) true = true →
    let a := s.dReg n d
    let b := s.srcVal n src
    let c := (s.sr n).getLsbD 1
    let k := b.toNat % 16
    ((Instr.mov n d src).wf = true → s.mainUp = true →
      let r := b
      exec (.mov n d src) s = .next (s.spDone n d src (some r) ⟨r.msb, r == 0, c, false⟩)) ∧
    ((Instr.spAdd n d src).wf = true → s.mainUp = true →
      let r := a + b
      exec (.spAdd n d src) s = .next (s.spDone n d src (some r) ⟨r.msb, r == 0, decide (65536 ≤ a.toNat + b.toNat), decide (a.toInt + b.toInt ≠ r.toInt)⟩)) ∧
    ((Instr.spAdc n d src).wf = true → s.mainUp = true →
      let r := a + b + (if c then 1 else 0)
      exec (.spAdc n d src) s = .next (s.spDone n d src (some r) ⟨r.msb, r == 0, decide (65536 ≤ a.toNat + b.toNat + (if c then 1 else 0)), decide (a.toInt + b.toInt + (if c then 1 else 0) ≠ r.toInt)⟩)) ∧
    ((Instr.spSub n d src).wf = true → s.mainUp = true →
      let r := a - b
      exec (.spSub n d src) s = .next (s.spDone n d src (some r) ⟨r.msb, r == 0, decide (a.toNat < b.toNat), decide (a.toInt - b.toInt ≠ r.toInt)⟩)) ∧
    ((Instr.spSbb n d src).wf = true → s.mainUp = true →
      let r := a - b - (if c then 1 else 0)
      exec (.spSbb n d src) s = .next (s.spDone n d src (some r) ⟨r.msb, r == 0, decide (a.toNat < b.toNat + (if c then 1 else 0)), decide (a.toInt - b.toInt - (if c then 1 else 0) ≠ r.toInt)⟩)) ∧
    ((Instr.cmp n d src).wf = true → s.mainUp = true →
      let r := a - b
      exec (.cmp n d src) s = .next (s.spDone n d src none ⟨r.msb, r == 0, decide (a.toNat < b.toNat), decide (a.toInt - b.toInt ≠ r.toInt)⟩)) ∧
    ((Instr.spAnd n d src).wf = true → s.mainUp = true →
      let r := a &&& b
      exec (.spAnd n d src) s = .next (s.spDone n d src (some r) ⟨r.msb, r == 0, c, false⟩)) ∧
    ((Instr.spOr n d src).wf = true → s.mainUp = true →
      let r := a ||| b
      exec (.spOr n d src) s = .next (s.spDone n d src (some r) ⟨r.msb, r == 0, c, false⟩)) ∧
    ((Instr.spXor n d src).wf = true → s.mainUp = true →
      let r := a ^^^ b
      exec (.spXor n d src) s = .next (s.spDone n d src (some r) ⟨r.msb, r == 0, c, false⟩)) ∧
    ((Instr.spAndn n d src).wf = true → s.mainUp = true →
      let r := a &&& ~~~b
      exec (.spAndn n d src) s = .next (s.spDone n d src (some r) ⟨r.msb, r == 0, c, false⟩)) ∧
    ((Instr.tst n d src).wf = true → s.mainUp = true →
      let r := a &&& b
      exec (.tst n d src) s = .next (s.spDone n d src none ⟨r.msb, r == 0, c, false⟩)) ∧
    ((Instr.spShl n d src).wf = true → s.mainUp = true →
      let r := a <<< k
      exec (.spShl n d src) s = .next (s.spDone n d src (some r) ⟨r.msb, r == 0, (if k = 0 then c else a.getLsbD (16 - k)), false⟩)) ∧
    ((Instr.spShr n d src).wf = true → s.mainUp = true →
      let r := a >>> k
      exec (.spShr n d src) s = .next (s.spDone n d src (some r) ⟨r.msb, r == 0, (if k = 0 then c else a.getLsbD (k - 1)), false⟩)) ∧
    ((Instr.spSar n d src).wf = true → s.mainUp = true →
      let r := a.sshiftRight k
      exec (.spSar n d src) s = .next (s.spDone n d src (some r) ⟨r.msb, r == 0, (if k = 0 then c else a.getLsbD (k - 1)), false⟩)) ∧
    ((Instr.spRol n d src).wf = true → s.mainUp = true →
      let r := a.rotateLeft k
      exec (.spRol n d src) s = .next (s.spDone n d src (some r) ⟨r.msb, r == 0, (if k = 0 then c else a.getLsbD (16 - k)), false⟩)) ∧
    ((Instr.spBit n d src).wf = true → s.mainUp = true →
      exec (.spBit n d src) s = .next (s.spDone n d src none { flagsOf (s.sr n) with z := !a.getLsbD k }))

/-- A short store of the session processor writes its one word (R346, R347, R349, R296). For every short-form store that issues into
a word the SP owns, with the next instruction in the SP's partition: exec answers a next state in which the data word at the
effective address holds the register, every other data word reads as before, and no other part of the state than the engines has
changed: no byte of the host bank, the image bank, the MRAM or the flash. -/
def Obligations.SpLocalStoreFrame : Prop :=
  ∀ (s : State) (n am : Nat) (x : SpReg) (mode : SpMode),
    (Instr.localStore n x am mode).wf = true → s.mainUp = true → s.spIssues n 1 true = true →
    s.fetchOk n .sp ((s.spAdvance n 1).spPc n).toNat = true →
    ownerOf (s.regionsOf n) (s.effAddr n am mode).toNat = 1 →
    ∃ t, exec (.localStore n x am mode) s = .next t ∧ t = { s with eng := t.eng } ∧
      Tab.get 0 (t.en n).data (s.effAddr n am mode).toNat = s.spReg n x ∧
      (∀ a : Nat, a ≠ (s.effAddr n am mode).toNat → Tab.get 0 (t.en n).data a = Tab.get 0 (s.en n).data a) ∧
      (∀ k : Nat, k ≠ n → t.en k = s.en k)

/-- A write of the host bank changes exactly the enabled bytes it is granted (R298, R396). For every write request that a live
function makes: exec answers a next state in which each byte whose enable is set, that data covers and that lies in a page
granted to the function holds its data byte, and every other byte of the bank reads as before. -/
def Obligations.HostBankWriteBytes : Prop :=
  ∀ (s : State) (fn off : Nat) (be : List Bool) (data : List Octet),
    (Instr.hostBankAccess fn off true be data).wf = true → s.reach fn = true →
    ∃ t, exec (.hostBankAccess fn off true be data) s = .next t ∧ t.bus.cpl = .ok ∧
      ∀ a : Nat, Tab.get 0 t.host.bank a =
        if off ≤ a ∧ a - off < min be.length data.length ∧ be.getD (a - off) false = true ∧ a < 0x200000 ∧ s.pageOk fn 1 a = true
        then data.getD (a - off) 0 else Tab.get 0 s.host.bank a

/-- The host writes the user area of the MRAM and nothing else of it (R450). For every write of bytes by the owner with P_CFG: exec
answers a next state that differs from the first in the MRAM alone, where each byte of the request inside the user area holds
its data byte and every other byte reads as before. -/
def Obligations.MramUserArea : Prop :=
  ∀ (s : State) (off : Nat) (data : List Octet),
    (Instr.mramUserWrite 0 off data).wf = true → s.reach 0 = true → s.pCfg 0 = true →
    ∃ t, exec (.mramUserWrite 0 off data) s = .next t ∧ t = { s with mram.mem := t.mram.mem } ∧
      ∀ a : Nat, Tab.get 0 t.mram.mem a =
        if off ≤ a ∧ a - off < data.length ∧ 0x8000 ≤ a ∧ a < 0x10000 then data.getD (a - off) 0 else Tab.get 0 s.mram.mem a

/-- A Thicket engine's FIFOs at their limits (R380, R381). A step of a running engine whose LUT entry says POP, with the TX FIFO
empty, leaves SR as the shift left it and sets UNDERRUN; one that says PUSH, with the RX FIFO full, drops the value, sets SR to
0 and sets OVERFLOW. Either flag raises TKn_FAULT (ES321 + 2n) on its change from 0 to 1. A host write to a full TX FIFO is
discarded and sets TXF_FULL_WR, with nothing else changed; a read of an empty RX FIFO gives 0. -/
def Obligations.ThicketFifoLimits : Prop :=
  ∀ (s : State) (n : Nat), n < 32 →
    (∀ pins : BitVec 48, s.mainUp = true → s.rb (Reg.TK_CTRL n) 31 = true → (s.tke n).run = true →
      let l := s.tkEntry n pins ((s.tke n).tickLeft == 0)
      let es := 321 + 2 * n
      (fld l 13 2 = 2 → (s.tke n).tx = [] →
        ∃ t, exec (.tkStep n pins) s = .next t ∧ (t.tke n).sr = ((s.tkShift n pins (fld l 15 2)).tke n).sr ∧
          (t.tke n).tx = [] ∧ t.rb (Reg.TK_STAT n) 31 = true ∧
          (s.rb (Reg.TK_STAT n) 31 = false → t.rb (Reg.ER_PEND (es / 32)) (es % 32) = true)) ∧
      (fld l 13 2 = 1 → 16 ≤ (s.tke n).rx.length →
        ∃ t, exec (.tkStep n pins) s = .next t ∧ (t.tke n).sr = 0 ∧ (t.tke n).rx = (s.tke n).rx ∧
          t.rb (Reg.TK_STAT n) 30 = true ∧
          (s.rb (Reg.TK_STAT n) 30 = false → t.rb (Reg.ER_PEND (es / 32)) (es % 32) = true))) ∧
    (∀ val : Word, s.ownerCfg 0 = true → 16 ≤ (s.tke n).tx.length →
      exec (.tkTxfifoWrite 0 n val) s = .next (s.wb (Reg.TK_STAT n) 29 true)) ∧
    (s.ownerIn 0 = true → (s.tke n).rx = [] →
      ∃ t, exec (.tkRxfifoRead 0 n 0 4) s = .next t ∧ t.bus.rdata = 0 ∧ t.bus.cpl = .ok)

/-- A fenced steward's configuration write changes nothing but FENCE_HITS (R31). For every write of a register of a fenced class by
the running steward of a fenced wing: exec answers the state with ARB_STATUS.FENCE_HITS one higher, or kept at its highest
value, and every other register, field and part of the state unchanged. -/
def Obligations.FencedStewardDiscarded : Prop :=
  ∀ (s : State) (w : Wing) (addr : Nat) (val : Word), s.mainUp = true → s.stewUp w = true → fencedClass addr = true → s.fenced w = true →
    ∃ t, exec (.stewardConfigWrite w addr val) s = .next t ∧ t = { s with regs := t.regs } ∧
      (∀ a : Nat, a ≠ Reg.ARB_STATUS → t.rd a = s.rd a) ∧
      t.rf Reg.ARB_STATUS 0 16 = min (s.rf Reg.ARB_STATUS 0 16 + 1) 0xFFFF ∧
      (∀ b : Nat, 16 ≤ b → t.rb Reg.ARB_STATUS b = s.rb Reg.ARB_STATUS b)

/-- A refused trip command changes no line and not LAST_SEQ (R166, R167). For every write of GO by a live function that fails a
check of R166, with PULSE or with CLEAR staged: exec answers a next state in which RESULT is the first check that failed,
LAST_SEQ, every host line, its end and every trip output are as before, one more refusal is counted, and TRIP_CMD_REFUSED
(ES570) is pending. -/
def Obligations.TripCommandRefused : Prop :=
  ∀ (s : State) (fn : Nat) (seq crc : Half) (c : Instr),
    c = .pulse fn seq crc ∨ c = .clear fn seq crc → fn < 256 → s.reach fn = true → s.tripCheck fn seq crc ≠ 0 →
    ∃ t, exec c s = .next t ∧ t.rf (Reg.TRIP_CMD_STAT fn) 29 3 = s.tripCheck fn seq crc ∧
      t.rf (Reg.TRIP_CMD_STAT fn) 0 16 = s.rf (Reg.TRIP_CMD_STAT fn) 0 16 ∧ t.trip = s.trip ∧
      t.rd Reg.TRIP_HCMD_STATE = s.rd Reg.TRIP_HCMD_STATE ∧
      t.rf Reg.TRIP_CMD_REFUSED_CNT 0 32 = min (s.rf Reg.TRIP_CMD_REFUSED_CNT 0 32 + 1) 0xFFFFFFFF ∧
      t.rb (Reg.ER_PEND 17) 26 = true

/-- An offset that no register occupies reads 0, and a write to it has no effect (R4). For every live function and every aligned
offset of its BAR0 at which neither a register nor a mailbox word lies, outside the MRAM window: a read of a word answers 0, and
a write leaves the state as it is. -/
def Obligations.UnoccupiedOffsets : Prop :=
  ∀ (s : State) (fn off a : Nat) (inc hw : Word) (val : BitVec 64),
    fn < 256 → s.reach fn = true → off % 4 = 0 → barAddr fn off = some a → regInfo a = none → s.mbWord a = none →
    ¬(fn = 0 ∧ 0x01100000 ≤ off ∧ off < 0x01140000) →
    (∃ t, exec (.readClear fn off 4 inc) s = .next t ∧ t.bus.rdata = 0 ∧ t.bus.cpl = .ok ∧
      t = { s with bus := t.bus, free := t.free }) ∧
    exec (.registerWrite fn off 4 val hw) s = .next s

/-- Accesses of 64 bits are two of 32, and narrow or misaligned writes are discarded (R3). Outside the MRAM window: a 64-bit write
is the 32-bit write of the low half and then that of the high half at the next word; a write narrower than 32 bits or not
aligned leaves the state as it is. A 64-bit read, clearing or of a register whose read acts, is the 32-bit read of the low word
and then that of the next one, whose data lie above the first's. -/
def Obligations.AccessWidths : Prop :=
  (∀ (s t u : State) (fn off : Nat) (val : BitVec 64) (hw : Word), (Instr.registerWrite fn off 8 val hw).wf = true → off % 4 = 0 →
    (fn = 0 → off + 8 ≤ 0x01100000 ∨ 0x01140000 ≤ off) →
    exec (.registerWrite fn off 4 val hw) s = .next t →
    exec (.registerWrite fn (off + 4) 4 (val >>> (32 : Nat)) 0) t = .next u →
    exec (.registerWrite fn off 8 val hw) s = .next u) ∧
  (∀ (s : State) (fn off size : Nat) (val : BitVec 64) (hw : Word), (fn = 0 → off + size ≤ 0x01100000 ∨ 0x01140000 ≤ off) →
    off % 4 ≠ 0 ∨ size < 4 → exec (.registerWrite fn off size val hw) s = .next s) ∧
  (∀ (s t u : State) (fn off : Nat) (inc : Word), (Instr.readClear fn off 8 inc).wf = true → s.reach fn = true → t.reach fn = true →
    (fn = 0 → off + 8 ≤ 0x01100000 ∨ 0x01140000 ≤ off) →
    exec (.readClear fn off 4 inc) s = .next t → exec (.readClear fn (off + 4) 4 0) t = .next u →
    t.bus.cpl = .ok → u.bus.cpl = .ok →
    ∃ v, exec (.readClear fn off 8 inc) s = .next v ∧ v.bus.cpl = .ok ∧ v.bus.rdata = t.bus.rdata ||| (u.bus.rdata <<< (32 : Nat)) ∧
      v = { u with bus := v.bus }) ∧
  (∀ (s : State) (w : Wing) (n j : Nat),
    (s.mainUp = true → (Instr.timeNowRead 0 w 0 8).wf = true →
      exec (.timeNowRead 0 w 0 8) s = .next (joinReads 4 (s.nowRead 0 w 0 4) (fun t => t.read32 0 (Reg.TIME_NOW_NS w + 4) 4 0))) ∧
    ((Instr.ltcRead 0 w 0 8).wf = true →
      exec (.ltcRead 0 w 0 8) s = .next (joinReads 4 (s.ltcLoRead 0 w 0 4) (fun t => t.read32 0 (Reg.LTC_LO w + 4) 4 0))) ∧
    ((Instr.timeTripleRead 0 w 0 8).wf = true →
      exec (.timeTripleRead 0 w 0 8) s = .next (joinReads 4 (s.tripleRead 0 w 0 4) (fun t => t.read32 0 (Reg.TIME_TRIPLE w 0 + 4) 4 0))) ∧
    (s.mainUp = true → (Instr.capturePop 0 n 0 8).wf = true →
      exec (.capturePop 0 n 0 8) s = .next (joinReads 4 (s.capPop 0 n 0 4)
        (fun t => t.read32 0 (Reg.CAP_FIFO (capWing n) (n % 4) 3 + 4) 4 0))) ∧
    ((Instr.tsqEntryPop 0 n 0 8).wf = true →
      exec (.tsqEntryPop 0 n 0 8) s = .next (joinReads 4 (s.tsqTake 0 n 0 4) (fun t => t.read32 0 (Reg.TSQ_ENTRY n 3 + 4) 4 0))) ∧
    ((Instr.hedgePhRead 0 w n 0 8).wf = true →
      exec (.hedgePhRead 0 w n 0 8) s = .next (joinReads 4 (s.phRead 0 w n 0 4) (fun t => t.read32 0 (Reg.HEDGE_PH w n 0 + 4) 4 0))) ∧
    ((Instr.cqCycleRead 0 n 0 8).wf = true →
      exec (.cqCycleRead 0 n 0 8) s = .next (joinReads 4 (s.cycleRead 0 n 0 4) (fun t => t.read32 0 (Reg.CQ_CYCLE_LO n + 4) 4 0))) ∧
    ((Instr.macCounterRead 0 n j 0 8).wf = true →
      exec (.macCounterRead 0 n j 0 8) s = .next (joinReads 4 (s.macLowRead 0 n j 0 4)
        (fun t => t.read32 0 (Reg.MAC_CNT n j 0 + 4) 4 0))) ∧
    ((Instr.tkRxfifoRead 0 n 0 8).wf = true →
      exec (.tkRxfifoRead 0 n 0 8) s = .next (joinReads 4 (s.rxFifoRead 0 n 0 4) (fun t => t.read32 0 (Reg.TK_RXFIFO n + 4) 4 0))))

/-- Every command answers a next state; with the domains down, or naming what the device lacks, it changes nothing (R12, R438). No
command stops. A command that names a unit, an index or a value that the device does not have leaves the state as it is (log
entry 132). A command of a block of MAIN or of a lane domain leaves it as it is while the domain is unpowered or a reset of the
device is asserted. -/
def Obligations.EveryCommandAnswers : Prop :=
  ∀ (c : Instr) (s : State),
    (∃ t, exec c s = .next t) ∧ (c.wf = false → exec c s = .next s) ∧
    (c.ofMain = true → s.mainUp = false → exec c s = .next s)

/-- Register writes, clearing reads and the board controller's reads and writes of retained memory complete (R3, R5, R450, R496). -/
def Obligations.AccessCommandsComplete : Prop :=
  (∀ (s : State) (fn off : Nat) (val : BitVec 64) (hw : Word),
     (Instr.registerWrite fn off 4 val hw).wf = true →
     (fn = 0 → off < 0x01100000 ∨ 0x01140000 < off + 4) →
     off % 4 = 0 →
     ∀ a,
     barAddr fn off = some a →
     s.reach fn = true →
     s.mbWord a = none →
     s.blockOn a = true →
     ∀ r,
     s.regAt a = some r →
     r.key ≠ Reg.ER_PEND 0 →
     byKey acts r.key = none →
     byKey pageActs r.key = none →
     s.mayWrite fn r = true →
     r.key ≠ Reg.SAFE_ALARM →
     r.key ≠ Reg.TIME_SERVO →
     exec (.registerWrite fn off 4 val hw) s = .next (s.store r a (val.setWidth 32) hw)) ∧
  (∀ (s : State) (fn off size : Nat) (inc : Word),
     (Instr.readClear fn off size inc).wf = true →
     s.reach fn = true →
     (fn = 0 → off < 0x01100000 ∨ 0x01140000 < off + size) →
     off % 4 + size ≤ 4 →
     ∀ a,
     barAddr fn (off / 4 * 4) = some a →
     s.mbWord a = none →
     s.blockOn a = true →
     s.readAct fn a (off % 4) size = none →
     exec (.readClear fn off size inc) s = .next (
       ((s.used 1).readClears a (off % 4) size inc).answer (laneData (s.shown fn a) (off % 4) size))) ∧
  (∀ (s : State) (idx : Octet),
     exec (.mspiRead idx) s = .next ({ s.used 1 with bus.bytes := if s.mgmtOn then wordBytes (s.mgmtReg idx) else [0xFF, 0xFF, 0xFF, 0xFF] })) ∧
  (∀ (s : State) (idx : Octet),
     exec (.mi2cRead idx) s = .next ({ s.used 1 with bus.bytes := if s.mgmtOn then wordBytes (s.mgmtReg idx) else [] })) ∧
  (∀ (s : State) (fn off : Nat) (data : List Octet),
     (Instr.mramUserWrite fn off data).wf = true →
     s.reach fn = true →
     fn = 0 →
     s.pCfg fn = true →
     let idx := (List.range data.length).filter (fun i => decide (0x8000 ≤ off + i) && decide (off + i < 0x10000))
     exec (.mramUserWrite fn off data) s = .next (eachIn idx (fun i t => { t with mram.mem := putBytes t.mram.mem (off + i) [data.getD i 0] }) s))

/-- Link, arbiter and steward commands complete (R16, R21, R23, R24, R25, R28, R31, R33, R35, R506). -/
def Obligations.StewardCommandsComplete : Prop :=
  (∀ (s : State) (lane : Nat),
     (Instr.iwlLaneUp lane).wf = true →
     s.mainUp = true →
     exec (.iwlLaneUp lane) s = .next (s.laneTo lane true)) ∧
  (∀ (s : State) (lane : Nat),
     (Instr.iwlLaneFail lane).wf = true →
     s.mainUp = true →
     exec (.iwlLaneFail lane) s = .next (s.laneTo lane false)) ∧
  (∀ (s : State),
     s.mainUp = true →
     s.arb.trained = false →
     s.arb.trainAt + 1000000 ≤ s.clk.ns →
     exec .iwlTrainDeadline s = .next ({ s with arb.trained := true }.lanesChanged 2)) ∧
  (∀ (s : State) (b : LinkBlock) (ok : Bool × Bool),
     s.mainUp = true →
     s.iwlDown = false →
     ok.1 = false →
     ok.2 = false →
     exec (.iwlBlockReceive b ok) s = .next ((s.dropTransfer b.sender b.kind).cnt Reg.IWL_STAT 0 16 1)) ∧
  (∀ (s : State) (d : Decision),
     s.mainUp = true →
     s.stewardRuns = true →
     exec (.globalDecision d) s = .next (s.mirrorOr (.decision d) (fun u => u.applyDecision d))) ∧
  (∀ (s : State) (w : Wing),
     s.mainUp = true →
     let soon := match s.arb.sentAt.at_ w with
       | some t => decide (s.clk.ns < t + 950000)
       | none => false
     s.stewUp w = true →
     s.arb.mute.at_ w = false →
     soon = false →
     let e := s.arb.known.at_ w
     let n := s.arb.hbSeq.at_ w
     let q := s.arb.linkBeats.at_ w
     exec (.heartbeatSend w) s = .next (
       ({ s with
         arb.hbSeq := s.arb.hbSeq.set w (n + 1)
         arb.sentAt := s.arb.sentAt.set w (some s.clk.ns)
         arb.beats := s.arb.beats ++ [Beat.mk w e n s.freshWord]
         arb.linkBeats := s.arb.linkBeats.set w (if s.iwlDown then q else q ++ [(s.arb.linkNo, e)]) }.used 1).linkNext)) ∧
  (∀ (s : State) (w : Wing) (epoch : Word),
     s.mainUp = true →
     ∀ z1 e q,
     s.arb.linkBeats.at_ w.other = (z1, e) :: q →
     let s1 := { s with arb.linkBeats := s.arb.linkBeats.set w.other q }
     epoch = e →
     exec (.heartbeatLinkReceive w epoch) s = .next (
       if s1.stewUp w then
         { s1 with
           arb.linkAt := s1.arb.linkAt.set w s.clk.ns
           arb.lost := s1.arb.lost.set w false
           arb.known := s1.arb.known.set w (if s.arb.known.at_ w < e then e else s.arb.known.at_ w) }
       else s1)) ∧
  (∀ (s : State) (w : Wing),
     s.mainUp = true →
     s.stewUp w = true →
     s.arb.linkAt.at_ w + 3500000 ≤ s.clk.ns →
     exec (.heartbeatLost w) s = .next ({ s with arb.lost := s.arb.lost.set w true })) ∧
  (∀ (s : State) (w : Wing) (addr : Nat) (val : Word),
     s.mainUp = true →
     s.stewUp w = true →
     fencedClass addr = true →
     s.fenced w = false →
     s.steward = some w →
     exec (.stewardConfigWrite w addr val) s = .next (s.mirrorOr (.config addr val) (fun u => u.stewardWr addr val))) ∧
  (∀ (s : State) (w : Wing),
     s.mainUp = true →
     s.iwlDown = false →
     s.steward ≠ some w →
     s.stewardRuns = true →
     s.stewUp w = true →
     s.arb.known.at_ w = s.rd Reg.ARB_EPOCH →
     exec (.mirrorRequest w) s = .next ({ s with arb.mirrorReq := s.arb.mirrorReq.set w (some s.clk.ns) })) ∧
  (∀ (s : State) (w : Wing),
     s.mainUp = true →
     s.iwlDown = false →
     s.stewardRuns = true →
     s.stewUp w = true →
     (s.arb.mirrorReq.at_ w).isNone = false →
     exec (.mirrorComplete w) s = .next ({ s with arb.mirrorReq := s.arb.mirrorReq.set w none, arb.mirrored := s.arb.mirrored.set w true })) ∧
  (∀ (s : State),
     s.mainUp = true →
     let s1 := s.arbWindowClose
     exec .claimWindowClose s = .next (
       match s1.upd.act, s1.upd.man with
       | some (1, _), _ =>
         if s.steward = some s1.upd.actWing && s1.steward = some s1.upd.actWing.other then s1.coreNow [s1.upd.actWing] 6 else s1
       | some (2, ph), some m =>
         if ph ≤ 2 && s1.steward = some s1.upd.actWing && !s1.dev.core.at_ s1.upd.actWing then s1.handover s1.upd.actWing m else s1
       | _, _ => s1)) ∧
  (∀ (s : State) (w : Wing),
     s.mainUp = true →
     let s0 := s.claimWindowClose
     let s1 := s0.arbRejoin w
     exec (.rejoinRequest w) s = .next (
       match s1.upd.act with
       | some (2, 3) =>
         if s1.deputyOk && !s0.deputyOk && !s1.safe.actExcl.at_ w then (s1.actDone).compareOn (!s1.iwlDown) else s1
       | _ => s1)) ∧
  (∀ (s : State) (w : Wing) (epoch : Word) (seq : Half) (health : Word),
     s.mainUp = true →
     exec (.heartbeatArbiter w epoch seq health) s = .next (s.claimWindowClose.beatArrives ⟨w, epoch, seq, health⟩)) ∧
  (∀ (s : State) (w : Wing),
     s.mainUp = true →
     exec (.claim w) s = .next (s.claimWindowClose.claimNow w)) ∧
  (∀ (s : State),
     s.mainUp = true →
     exec .deputyHeartbeatTimeout s = .next (s.claimWindowClose.deputyLapse)) ∧
  (∀ (s : State) (received : Bool),
     s.mainUp = true →
     s.deputyHears = true →
     ∀ before m after,
     ackSplit s.arb.inflight = some (before, m, after) →
     exec (.deputyAck received) s = .next (
       if received && s.stewardRuns && decide (s.clk.ns ≤ m.at_ + 200000) then
         { s with arb.inflight := before ++ after }.applyAct m.act
       else { s with arb.inflight := before ++ { m with acked := true } :: after })) ∧
  (∀ (s : State),
     s.mainUp = true →
     ∀ m z1,
     s.arb.inflight = m :: z1 →
     m.at_ + 200000 ≤ s.clk.ns →
     s.stewardRuns = true →
     exec .mirrorAckTimeout s = .next (({ s with arb.inflight := [] }.applyActs s.arb.inflight).dropDeputy))

/-- PTP messages and port states: the commands complete (R53, R54, R55). -/
def Obligations.PtpCommandsComplete : Prop :=
  (∀ (s : State) (p : Nat) (oneStep : Bool) (h : PtpHdr) (origin : Nat) (corr : Int) (phase : Nat),
     (Instr.syncReceive p oneStep h origin corr phase).wf = true →
     s.mainUp = true →
     s.fromParent p h = true →
     let rx := s.ingressT p 0 phase
     let s1 := if s.timeSource = 1 then { s with time.markAt := s.clk.ns } else s
     exec (.syncReceive p oneStep h origin corr phase) s = .next (
       if oneStep then s1.toServo p origin corr rx
       else { s1 with time.syncWait := some (p, h.seq, corr, rx) })) ∧
  (∀ (s : State) (p : Nat) (h : PtpHdr) (origin : Nat) (corr : Int),
     (Instr.followUpReceive p h origin corr).wf = true →
     s.mainUp = true →
     ∀ q n c rx,
     s.time.syncWait = some (q, n, c, rx) →
     q = p →
     n = h.seq →
     s.fromParent p h = true →
     let at_ := s.time.markAt
     let s1 := s.toServo p origin (corr + c) rx
     exec (.followUpReceive p h origin corr) s = .next ({ s1 with time.markAt := at_ })) ∧
  (∀ (s : State) (p : Nat) (seq : Half) (phase : Nat),
     (Instr.syncTransmit p seq phase).wf = true →
     s.mainUp = true →
     exec (.syncTransmit p seq phase) s = .next (
       if !Config.portMaster (s.rd (Reg.TIME_PORT_STATE p)) then s
       else
         let t := s.egressT p 0 phase
         let s1 := s.stampEvent p t seq
         let one := s.man.oneStepPorts.contains p
         let s2 := { s1 with time.sentSync := Tab.put s1.time.sentSync p (seq, if one then some t else none) }
         if one || decide (16 ≤ (Tab.get [] s.time.tsq p).length) then s2
         else { s2 with time.sentFu := Tab.put s2.time.sentFu p (seq, t) })) ∧
  (∀ (s : State) (p : Nat) (resp : Bool) (seq : Half) (out back : Nat × Fin 16),
     (Instr.pdelayExchange p resp seq out back).wf = true →
     s.mainUp = true →
     exec (.pdelayExchange p resp seq out back) s = .next (
       if !s.ptpOn p then s
       else if resp then s.stampEvent p (s.egressT p 0 out.2.val) seq
       else
         let t1 := s.egressT p out.1 out.2.val
         let t4 := s.ingressT p 0 back.2.val
         (s.stampEvent p t1 seq).wr (Reg.TIME_PORT_LINKDLY p) (BitVec.ofInt 32 (((t4 : Int) - t1 - back.1) / 8192)))) ∧
  (∀ (s : State) (p : Nat) (valid : Bool) (m : PtpNote) (phase : Nat),
     (Instr.announceReceive p valid m phase).wf = true →
     s.mainUp = true →
     m.domain = s.man.ptpDomain →
     (m.kind == .announce && !valid) = false →
     let s1 := if m.kind == .announce && decide (s.slavePort = some p) then s.parentAnnounce m.utc m.tlv else s
     let x := tsRec (s.ingressT p 0 phase) 0
     let ws := BitVec.ofNat 32 p :: (m.body ++ m.tlv ++ [x.w0, x.w1, x.w2, x.w3])
     exec (.announceReceive p valid m phase) s = .next (if s.ptpOn p then s1.send 0 ⟨0xF1, 0, 4 * ws.length, ws⟩ else s)) ∧
  (∀ (s : State) (p : Nat),
     (Instr.announceTransmit p).wf = true →
     s.mainUp = true →
     exec (.announceTransmit p) s = .next (
       if Config.portMaster (s.rd (Reg.TIME_PORT_STATE p)) then
         let n := match Tab.find s.time.sentAnn p with
           | some x => x.1 + 1
           | none => 1
         { s with time.sentAnn := Tab.put s.time.sentAnn p (n, Tab.get [] s.time.announce p ++ tlvWords s.free) }.used 5
       else s)) ∧
  (∀ (s : State) (pin pout : Nat) (kind : PtpKind) (m : PtpMsg) (age phaseIn phaseOut : Nat),
     (Instr.ptpTransit pin pout kind m age phaseIn phaseOut).wf = true →
     s.mainUp = true →
     exec (.ptpTransit pin pout kind m age phaseIn phaseOut) s = .next (
       if !(s.ptpOn pin && s.ptpOn pout && m.domain == s.man.ptpDomain) then s.forwardPtp pout m 0
       else
         let tout := s.egressT pout 0 phaseOut
         let res : Int := (tout : Int) - (s.ingressT pin age phaseIn : Nat)
         let q := s.freshHeld pin
         match kind with
         | .pdelay => (s.forwardPtp pout m res).stampEvent pout tout m.seq
         | .syncOneStep => (s.forwardPtp pout m (res + (s.linkDelay pin : Nat))).stampEvent pout tout m.seq
         | .syncTwoStep =>
           let h : HeldSync := ⟨m.port, m.seq, res + (s.linkDelay pin : Nat), s.clk.ns⟩
           ({ s with time.held := Tab.put s.time.held pin (if q.length < 64 then q ++ [h] else q) }.forwardPtp pout m 0).stampEvent
             pout tout m.seq
         | .followUp =>
           match q.find? (fun h => h.port == m.port && h.seq == m.seq) with
           | some h => { s with time.held := Tab.put s.time.held pin (q.erase h) }.forwardPtp pout m h.corr
           | none => (s.forwardPtp pout m 0).cnt Reg.TIME_PTP_CNT 0 16 1)) ∧
  (∀ (s : State) (p : Nat),
     (Instr.heldSyncExpiry p).wf = true →
     s.mainUp = true →
     exec (.heldSyncExpiry p) s = .next ({ s with time.held := Tab.put s.time.held p (s.freshHeld p) })) ∧
  (∀ (s : State) (p : Nat) (delayMsg : Bool) (x : Arrival),
     (Instr.ptpUnsupported p delayMsg x).wf = true →
     s.mainUp = true →
     exec (.ptpUnsupported p delayMsg x) s = .next (
       if !s.macOn p || !s.macUp p || !s.rb (Reg.MAC_CFG p) 18 then s.frameReceive p x
       else
         let first := s.rf Reg.TIME_PTP_CNT 16 16 == 0
         let s1 := (s.cnt Reg.TIME_PTP_CNT 16 16 1).raiseIf first 410
         if delayMsg then (s1.countAll p x.frame.len).countOk p x.frame else s1.frameReceive p x)) ∧
  (∀ (s : State) (fn p : Nat) (val : Word),
     (Instr.timePortStateWrite fn p val).wf = true →
     s.ownerCfg fn = true →
     let was := s.slavePort
     let slave := Config.portSlave val
     exec (.timePortStateWrite fn p val) s = .next (
       if slave && was.isSome && decide (was ≠ some p) then s.wb Reg.TIME_STATUS 24 true
       else
         let s1 := s.wr (Reg.TIME_PORT_STATE p) val
         if slave && was.isNone then
           { s1.wf Reg.TIME_STATUS 16 7 p with time.markAt := s.clk.ns, time.annAt := s.clk.ns }.gmChanged
         else if !slave && decide (was = some p) then
           let s2 := { s1.wf Reg.TIME_STATUS 16 7 0x7F with time.syncWait := none }.gmChanged
           if s2.timeSource = 1 then s2.loseSource else s2
         else s1))

/-- Device time, its sources, pulses and captures: the commands complete (R45, R47, R48, R49, R53, R56, R60, R61, R62, R65, R66,
R505). -/
def Obligations.TimeCommandsComplete : Prop :=
  (∀ (s : State) (writer target : Wing) (word : Nat) (val : Word),
     (Instr.timeShadowWrite writer target word val).wf = true →
     s.mainUp = true →
     s.fenced writer = false →
     s.steers writer target = true →
     exec (.timeShadowWrite writer target word val) s = .next ({ s with time.shadow := s.time.shadow.set target ((s.time.shadow.at_ target).setWord word val) })) ∧
  (∀ (s : State) (writer target : Wing),
     s.mainUp = true →
     s.fenced writer = false →
     s.steers writer target = true →
     let t := s.time.shadow.at_ target
     exec (.timeCommit writer target) s = .next (
       if writer ≠ target then s.commitTriple target t
       else if s.runsOn then s
       else s.mirrorOr (.commit t) (fun u => u.commitTriple target t))) ∧
  (∀ (s : State),
     s.mainUp = true →
     let s1 := s.capture
     exec .wingStrobe s = .next (
       if s1.iwlDown then s1
       else
         let bad (w : Wing) : Bool := twoBad ((s1.advOf w).take 2)
         let s2 := eachIn ([Wing.east, Wing.west].filter bad) (fun w t => t.exclude w 566) s1
         match s2.steward with
         | some st =>
           if !s2.stewardRuns || !s2.armed then s2
           else
             let d := timeDiff (s2.wingT st.other) (s2.wingT st)
             let s3 := s2.wf Reg.TIME_WING_DIFF 0 16 (diffField d)
             if s3.rf Reg.TIME_WING_DIFF 16 16 * 65536 < d.natAbs then s3.diffOver st d
             else
               { s3 with time.overRun := 0 }.setTriple st.other
                 (s3.movedTriple st.other 0 (steerRate (s3.time.act.at_ st).rate d))
         | none => s2)) ∧
  (∀ (s : State) (w : Wing),
     s.mainUp = true →
     exec (.servoUpdate w) s = .next (
       match s.time.servoIn with
       | none => s
       | some m =>
         if s.steward ≠ some w || !s.stewardRuns || !s.armed || s.timeSource = 0 || (s.timeSource == 1 && s.slavePort.isNone) then s
         else { s with time.servoIn := none }.gainSource.servoMove (offsetOf m))) ∧
  (∀ (s : State),
     s.mainUp = true →
     s.sourceGone = true →
     exec .sourceLost s = .next (s.loseSource)) ∧
  (∀ (s : State),
     s.mainUp = true →
     s.timeState = 3 →
     s.time.holdAt + s.man.holdLimitS * 1000000000 ≤ s.clk.ns →
     exec .holdLimitExpiry s = .next (s.setTimeState 4)) ∧
  (∀ (s : State) (fn : Nat) (amount : Int),
     (Instr.step fn amount).wf = true →
     s.ownerCfg fn = true →
     s.stewardRuns = true →
     s.armed = true →
     s.runsOn = false →
     exec (.step fn amount) s = .next (s.decideStep (amount * 65536))) ∧
  (∀ (s : State) (fn : Nat) (clockClass : BitVec 8),
     (Instr.gmChange fn clockClass).wf = true →
     s.ownerCfg fn = true →
     exec (.gmChange fn clockClass) s = .next ({ s with time.gmClass := clockClass }.gmChanged)) ∧
  (∀ (s : State) (widths : List Nat) (age phase : Nat),
     (Instr.irigbFrame widths age phase).wf = true →
     s.mainUp = true →
     exec (.irigbFrame widths age phase) s = .next (
       if widths.length = 100 ∧ (widths.zip (List.range 100)).all (fun p => irigPlaced p.2 p.1) then
         let sec := irigSec widths
         let ok := decide (s.time.irigPrev.map (fun q => q.toNat + 1) = some sec)
         let s1 := { s with time.irigPrev := some (BitVec.ofNat 48 sec) }
         if !ok then s1
         else
           let m := (sec * tick1s, s.stampAgo s.timeWing age phase)
           let s2 := { s1 with time.tod := some m }.measured 3 m
           if s2.timeSource = 3 then s2.setUtc (Config.irigUtc (irigControl widths)) else s2
       else ({ s with time.irigPrev := none }.cnt Reg.TIME_IRIG_CNT 0 16 1).raise 406)) ∧
  (∀ (s : State) (x : PpsPulse),
     s.mainUp = true →
     let ok := match s.time.ppsPrev with
       | some t => decide (t + 999900000 ≤ s.clk.ns) && decide (s.clk.ns ≤ t + 1000100000)
       | none => false
     let s1 := { s with time.ppsPrev := some s.clk.ns }
     exec (.ppsInEdge x) s = .next (
       if ok && decide (1000 ≤ x.high) && decide (x.high ≤ 500000000) then
         let t := s.stampT s.timeWing x.phase.val
         s1.measured 2 (s.ppsSecond t, t)
       else s1.raise 405)) ∧
  (∀ (s : State),
     s.mainUp = true →
     let sec := s.devT / tick1s
     exec .ppsOutRise s = .next (
       if s.steward.isNone || s.ppsHeld || !s.atSecond || sec = s.time.ppsSec then s
       else { s with time.pps := some s.clk.ns, time.ppsSec := sec })) ∧
  (∀ (s : State),
     s.mainUp = true →
     ∀ t,
     s.time.pps = some t →
     exec .ppsOutFall s = .next (if t + s.ppsWidth ≤ s.clk.ns then { s with time.pps := none } else s)) ∧
  (∀ (s : State) (c : Nat) (e : CapEdge) (width phase : Nat),
     (Instr.captureEdge c e width phase).wf = true →
     s.mainUp = true →
     exec (.captureEdge c e width phase) s = .next (
       if e.ball == (s.capMap c).isSome || decide (width < 8) || !Config.capSelects (s.rd (Reg.CAP_CTRL (capWing c) (c % 4))) e.rising then s
       else
         let q := Tab.get [] s.time.cap c
         if 8 ≤ q.length then
           { s with time.capOvf := if s.time.capOvf.contains c then s.time.capOvf else c :: s.time.capOvf }.raiseAt 408 c 0
         else
           ({ s with time.cap := Tab.put s.time.cap c (q ++ [tsRec (s.stampT (capWing c) phase - gateDelay (s.capMap c)) 0]) }).raiseIf q.isEmpty
             (411 + c))) ∧
  (∀ (s : State) (w : Wing) (lane size : Nat),
     (Instr.timeNowRead 0 w lane size).wf = true →
     size ≠ 8 →
     s.reach 0 = true →
     s.dev.st ≠ .safeTalk →
     exec (.timeNowRead 0 w lane size) s = .next (
       { s with time.nowLatch := Tab.put s.time.nowLatch (2 * 0 + w.idx) (s.wingT w) }.answer
         (laneData (BitVec.ofNat 32 (s.wingT w / 65536 % 1000000000)) lane size))) ∧
  (∀ (s : State) (w : Wing) (lane size : Nat),
     (Instr.ltcRead 0 w lane size).wf = true →
     size ≠ 8 →
     s.reach 0 = true →
     s.dev.st ≠ .safeTalk →
     exec (.ltcRead 0 w lane size) s = .next (
       { s with time.ltcLatch := Tab.put s.time.ltcLatch (2 * 0 + w.idx) (BitVec.ofNat 32 ((s.ltc w).toNat / 2 ^ 32)) }.answer
         (laneData ((s.ltc w).setWidth 32) lane size))) ∧
  (∀ (s : State) (w : Wing) (lane size : Nat),
     (Instr.timeTripleRead 0 w lane size).wf = true →
     size ≠ 8 →
     s.reach 0 = true →
     s.dev.st ≠ .safeTalk →
     exec (.timeTripleRead 0 w lane size) s = .next (
       { s with time.tripleLatch := Tab.put s.time.tripleLatch (2 * 0 + w.idx) (s.time.act.at_ w) }.answer
         (laneData ((s.time.act.at_ w).word 0) lane size))) ∧
  (∀ (s : State) (mid c lane size : Nat),
     (Instr.capturePop mid c lane size).wf = true →
     s.mainUp = true →
     size ≠ 8 →
     (if mid < 256 then mid = 0 ∧ s.reach 0 = true ∧ s.dev.st ≠ .safeTalk else s.fpRuns ((mid - 256) % 32) = true) →
     let q := Tab.get [] s.time.cap c
     let s1 := { s with time.cap := Tab.put s.time.cap c (q.drop 1) }
     exec (.capturePop mid c lane size) s = .next (
       if mid < 256 then s1.answer (laneData (headRec q).w3 lane size) else s.capTake c lane size)) ∧
  (∀ (s : State) (p lane size : Nat),
     (Instr.tsqEntryPop 0 p lane size).wf = true →
     size ≠ 8 →
     s.reach 0 = true →
     s.dev.st ≠ .safeTalk →
     let q := Tab.get [] s.time.tsq p
     exec (.tsqEntryPop 0 p lane size) s = .next (
       { s with time.tsq := Tab.put s.time.tsq p (q.drop 1) }.answer (laneData (headRec q).w3 lane size)))

/-- Trigger outputs and published streams: the commands complete (R63, R64, R92, R93, R384). -/
def Obligations.TriggerCommandsComplete : Prop :=
  (∀ (s : State) (fn m : Nat) (val : Word),
     (Instr.triggerArm fn m val).wf = true →
     s.ownerIn fn = true →
     let was := s.rb (trgCtrl m) 31
     let s1 := s.wr (trgCtrl m) (BitVec.ofNat 32 (fld val 23 9 * 2 ^ 23))
     exec (.triggerArm fn m val) s = .next (
       if !tst val 31 then s1.setTrg m { s1.trg m with armed := false }
       else if was then s1
       else s1.armTrg m)) ∧
  (∀ (s : State) (m : Nat),
     (Instr.triggerFire m).wf = true →
     s.mainUp = true →
     let x := s.trg m
     let t := s.fireAt m x.k
     let ctrl := s.rd (trgCtrl m)
     x.armed = true →
     t ≤ s.wingT (trgWing m) →
     let n := (s.rd (Reg.TRG_COUNT (trgWing m) (m % 8))).toNat
     let more := tst ctrl 30 && (n == 0 || decide (x.fired + 1 < n))
     let y : Trg := { x with
       k := x.k + 1, fired := x.fired + 1, armed := more
       pulseEnd := if tst ctrl 29 then some (s.clk.ns + s.trgWidth m) else x.pulseEnd }
     let s1 := s.setTrg m y
     let s2 := if tst ctrl 28 then s1.fireTargets m t ctrl else s1
     exec (.triggerFire m) s = .next (if tst ctrl 23 then s2.raiseAt (419 + m / 4) m (wingCode (trgWing m)) else s2)) ∧
  (∀ (s : State) (m : Nat),
     (Instr.triggerPulseEnd m).wf = true →
     s.mainUp = true →
     let x := s.trg m
     ∀ e,
     x.pulseEnd = some e →
     e ≤ s.clk.ns →
     exec (.triggerPulseEnd m) s = .next (s.setTrg m { x with pulseEnd := none })) ∧
  (∀ (s : State) (fn p : Nat) (val : Word),
     (Instr.pubWrAdvance fn p val).wf = true →
     ∀ c,
     s.pubCfg p = some c →
     s.ownerCfg fn = true →
     c.host = true →
     exec (.pubWrAdvance fn p val) s = .next (s.pubAdvance p (fld val 0 4))) ∧
  (∀ (s : State) (p : Nat),
     (Instr.pubFrameSend p).wf = true →
     s.mainUp = true →
     ∀ c,
     s.pubCfg p = some c →
     ∀ n,
     pubLatest c s.devT = some n →
     let x := s.pubSt p
     s.peState c.engine = 2 →
     (match x.built with | some b => decide (n ≤ b) | none => false) = false →
     let s0 := s.setPub p { x with built := some n }
     let keys := (List.range c.noAsdu).map (fun j => n + 1 - c.noAsdu + j)
     let (s1, l, ok) := s0.pubTake p c (pubInstant c.rate n + (c.delayUs - 5) * 1000 * 65536) keys
     exec (.pubFrameSend p) s = .next (
       if ok then
         let f : PubFrame := ⟨s1.rf Reg.TIME_STATUS 25 2, l⟩
         let (v, s2) := (s1.setPub p { s1.pubSt p with last := some f }).pubSign p c (pubContent c f)
         match v with
         | some x => (s2.roll (Reg.PUB_CNT_SENT p) 1).pubSend c x
         | none => s2
       else (s1.cnt (Reg.PUB_CNT_UNDERRUN p) 0 32 1).persCause c.engine (BitVec.ofNat 16 p) 1)) ∧
  (∀ (s : State) (p : Nat),
     (Instr.thicketPubDma p).wf = true →
     s.mainUp = true →
     ∀ c,
     s.pubCfg p = some c →
     ∀ key,
     (s.pubSt p).fire = some key →
     c.host = false →
     s.pubPushed c = true →
     let x := s.pubSt p
     let wr := s.rf (Reg.PUB_WR p) 0 4
     let (l, s1) := (s.setPub p { x with fire := none, ovf := [] }).pubPop x.ovf c.tks
     let ws : List Word := BitVec.ofNat 32 (key % c.rate) :: BitVec.ofNat 32 (key / c.rate) :: l
     exec (.thicketPubDma p) s = .next ((s1.hostWords (c.ring + 256 * wr) ws).pubAdvance p (wr + 1)))

/-- Sample intake: the commands complete (R74, R78, R81, R82, R83, R84, R88, R89). -/
def Obligations.IntakeCommandsComplete : Prop :=
  (∀ (s : State) (w : Wing) (port : Nat) (f : SvFrame) (ts : Nat),
     s.mainUp = true →
     let i := s.intake.at_ w
     ∀ x q,
     i.rx = x :: q →
     x = (port, f, ts) →
     exec (.svFrameReceive w port f ts) s = .next ({ s with intake := s.intake.set w { i with rx := q } }.svPipe w true port f ts)) ∧
  (∀ (s : State) (w : Wing) (port : Nat) (f : SvFrame) (ts : Nat),
     s.mainUp = true →
     let i := s.intake.at_ w
     ∀ no x q,
     i.fwd = (no, x) :: q →
     x = (port, f, ts) →
     s.linkTurnOf w.other no true = true →
     exec (.svForwardReceive w port f ts) s = .next ({ s with intake := s.intake.set w { i with fwd := q } }.svPipe w false port f ts)) ∧
  (∀ (s : State) (w : Wing) (n : Nat),
     (Instr.discardWindowExpiry w n).wf = true →
     s.mainUp = true →
     let x := s.stream w n
     exec (.discardWindowExpiry w n) s = .next (
       match x.accAt with
       | some t => if s.clk.ns < t + 400000000 then s else s.setStream w n { x with h := none, seen := 0 }
       | none => s.setStream w n { x with h := none, seen := 0 })) ∧
  (∀ (s : State) (w : Wing) (n : Nat),
     (Instr.policerToken w n).wf = true →
     s.mainUp = true →
     let x := s.stream w n
     let next := x.tokAt + s.strAsdus w n * 1000000000
     s.strState w n ≠ 0 →
     ¬ (s.clk.ns * s.strRate w n < next) →
     exec (.policerToken w n) s = .next (s.setStream w n { x with tokAt := next, tokens := min (x.tokens + 1) (fld (s.strW w n 4) 8 3) })) ∧
  (∀ (s : State) (w : Wing) (n : Nat),
     (Instr.pairingWindowEnd w n).wf = true →
     s.mainUp = true →
     let x := s.stream w n
     ∀ p q,
     x.pair = p :: q →
     p.until_ < s.clk.ns →
     let ts := p.tmin - fld (s.strW w n 5) 10 22 * 65536
     exec (.pairingWindowEnd w n) s = .next (eachIn p.out (fun a t => t.toWall w { a with ts := ts }) (s.setStream w n { x with pair := q }))) ∧
  (∀ (s : State) (w : Wing) (n : Nat),
     (Instr.streamLoss w n).wf = true →
     s.mainUp = true →
     s.strState w n = 2 →
     s.lossDue w n = true →
     exec (.streamLoss w n) s = .next (s.setStrState w n 3)) ∧
  (∀ (s : State) (fn : Nat) (w : Wing) (n : Nat) (val : Word),
     (Instr.confrevClear fn w n val).wf = true →
     s.ownerCfg fn = true →
     let a := Reg.STREAM_STAT w n
     let clears := tst val 28 && s.rb a 28
     let s1 := s.wr a (s.rd a &&& ~~~(val &&& 0x1FF00000#32))
     exec (.confrevClear fn w n val) s = .next (
       if clears && s1.strState w n = 4 then
         let s2 := s1.setStrState w n 1
         s2.setStream w n { s2.stream w n with prevCnt := none }
       else s1)) ∧
  (∀ (s : State) (fn : Nat) (w : Wing) (val : Word),
     (Instr.simEnWrite fn w val).wf = true →
     s.ownerCfg fn = true →
     let s1 := s.wb (Reg.INTAKE_CTRL w) 30 (tst val 30)
     exec (.simEnWrite fn w val) s = .next (if tst val 30 then s1 else s1.endSim w))

/-- Sample wall and slices: the commands complete (R107, R108, R110, R115, R119, R121, R124). -/
def Obligations.WallCommandsComplete : Prop :=
  (∀ (s : State) (w : Wing),
     s.mainUp = true →
     ∀ a q,
     (s.intake.at_ w).wallQ = a :: q →
     let s1 := { s with intake := s.intake.set w { s.intake.at_ w with wallQ := q } }.noteQueue w
     let n := fld (s1.strW w a.s 0) 22 3
     exec (.wallAsduWrite w) s = .next (if s1.sectOn w n && s1.armed then s1.putAsdu w n a else s1)) ∧
  (∀ (s : State) (w : Wing) (n : Nat),
     (Instr.rowOpen w n).wf = true →
     s.mainUp = true →
     let key := s.nextKey w n
     let rate := s.sectRate w n
     s.sectOn w n = true →
     s.sectF w n 30 1 ≠ 1 →
     s.armed = true →
     s.openDue w n key = true →
     let level := s.degLevel w n
     exec (.rowOpen w n) s = .next (
       if !keptAt level (key % rate) then (s.setSect w n { s.sect w n with lastOpen := some key }).skipKey w n key
       else
         let x := s.freeSlot w n key
         let s0 := match x.drNext with
           | some d => s.wf (Reg.WALL_SECT_CFG2 w n) 0 13 d
           | none => s
         let dr := s0.rf (Reg.WALL_SECT_CFG2 w n) 0 13
         let r : Row := { S := key / rate, k := key % rate, st := .opened, complete := false, deadline := false,
                          drUs := dr, wrote := [], cells := [], degraded := decide (0 < level) }
         ((s0.setSect w n { x with rows := x.rows ++ [r], lastOpen := some key, drNext := none }).readyComplete w n).wallStat w)) ∧
  (∀ (s : State) (w : Wing) (n : Nat),
     (Instr.rowDeadline w n).wf = true →
     s.mainUp = true →
     s.sectOn w n = true →
     let x := s.sect w n
     let rate := s.sectRate w n
     let late (r : Row) : Bool :=
       r.st == .opened && decide ((r.key rate) * tick1s + r.drUs * 1000 * 65536 * rate ≤ s.wingT w * rate)
     let upd (r : Row) : Row := if late r then { r with st := .ready, deadline := true } else r
     let s1 := s.setSect w n { x with rows := x.rows.map upd }
     exec (.rowDeadline w n) s = .next (s1.cnt (Reg.WALL_CNT w n 1) 0 32 (x.rows.filter late).length)) ∧
  (∀ (s : State) (w : Wing) (n : Nat) (ecc : List Nat),
     (Instr.rowRelease w n ecc).wf = true →
     s.mainUp = true →
     s.sectOn w n = true →
     s.sectF w n 30 1 ≠ 1 →
     ∀ h,
     s.releasable w n = some h →
     let x := s.sect w n
     let rate := s.sectRate w n
     let key := h.key rate
     let cols := s.cols w n
     let (h1, k1) := if s.sectF w n 29 1 == 1 then
         match (if key = 0 then none else x.row rate (key - 1)), x.row rate (key + 1) with
         | some p, some y => fillGaps cols p y s.free h
         | _, _ => (h, 0)
       else (h, 0)
     let bad := ecc.filter (fun c => (Tab.find h1.cells c).isSome)
     let lost := (bad.filter (fun c => tst (h1.cell c).w1 30)).length
     let h2 := { h1 with cells := bad.foldl (fun t c => Tab.put t c missingCell) h1.cells }
     let missing := cols - (h2.cells.filter (fun p => !tst p.2.w1 31)).length
     let s1 := (s.used cols).noteRelease w n h2 (k1 - lost) (k1 - lost) missing false
     exec (.rowRelease w n ecc) s = .next (if bad.isEmpty then s1 else s1.wallEcc w)) ∧
  (∀ (s : State) (w : Wing) (n : Nat),
     (Instr.derivedRowRelease w n).wf = true →
     s.mainUp = true →
     s.sectOn w n = true →
     s.sectF w n 30 1 ≠ 0 →
     let src := s.sectF w n 22 3
     let srcRate := s.sectRate w src
     let rate := s.sectRate w n
     ∀ l,
     (s.sect w src).lastRel = some l →
     let key := s.derivedKey w n l srcRate
     key * srcRate + 5 * srcRate < (l + 1) * rate →
     exec (.derivedRowRelease w n) s = .next (
       if !keptAt (s.degLevel w n) (key % rate) then
         (s.setSect w n { s.sect w n with lastRel := some key }).skipKey w n key
       else
         let win := s.window w src key srcRate rate
         let cells := (List.range (s.cols w n)).map (fun c =>
           (c, derivedCell srcRate rate (key * srcRate % rate) (win.map (fun o => match o with
             | some r => r.cell c
             | none => missingCell))))
         let r : Row := { S := key / rate, k := key % rate, st := .released, complete := false, deadline := false,
                          drUs := 0, wrote := [], cells := cells, degraded := decide (0 < s.degLevel w n) }
         let interp := (cells.filter (fun c => tst c.2.w1 30)).length
         let missing := (cells.filter (fun c => tst c.2.w1 31)).length
         s.noteRelease w n r interp 0 missing true)) ∧
  (∀ (s : State) (w : Wing),
     s.mainUp = true →
     ∀ t,
     (s.wall.at_ w).hiAt = some t →
     t + 10000 ≤ s.clk.ns →
     exec (.wallDegradeStep w) s = .next ({ s with wall := s.wall.set w { s.wall.at_ w with hiAt := some s.clk.ns } }.degradeStep w)) ∧
  (∀ (s : State) (w : Wing),
     s.mainUp = true →
     ∀ t,
     (s.wall.at_ w).loAt = some t →
     t + 10000000 ≤ s.clk.ns →
     exec (.wallRestoreStep w) s = .next ({ s with wall := s.wall.set w { s.wall.at_ w with loAt := some s.clk.ns } }.restoreStep w)) ∧
  (∀ (s : State) (fn g : Nat) (val : Word),
     (Instr.sliceEnable fn g val).wf = true →
     s.reach fn = true →
     s.ownsSlice fn g = true →
     let a := Reg.SLICE_CFG fn g
     s.rb a 31 = false →
     tst val 31 = true →
     3 ≤ fld val 0 4 →
     fld val 0 4 ≤ 12 →
     let s1 := ((s.wf a 0 4 (fld val 0 4)).wf a 22 6 (fld val 22 6)).wf a 28 1 (fld val 28 1)
     exec (.sliceEnable fn g val) s = .next (
       (({ s1 with slice := Tab.put s1.slice g { Slice.zero with first := true } }.wf a 30 2 3).wr (Reg.SLICE_PROD fn g) 0).wr
         (Reg.SLICE_CONS fn g) 0)) ∧
  (∀ (s : State) (fn g : Nat) (val : Word),
     (Instr.sliceDisable fn g val).wf = true →
     s.reach fn = true →
     s.ownsSlice fn g = true →
     let a := Reg.SLICE_CFG fn g
     s.rb a 31 = true →
     tst val 31 = false →
     let s1 := ((s.wf a 0 4 (s.rf a 0 4)).wf a 22 6 (fld val 22 6)).wf a 28 1 (fld val 28 1)
     exec (.sliceDisable fn g val) s = .next ({ s1 with slice := Tab.put s1.slice g { Slice.zero with first := true } }.wf a 30 2 0)) ∧
  (∀ (s : State) (fn g : Nat) (val : Word),
     (Instr.sliceConsWrite fn g val).wf = true →
     let cons := s.rd (Reg.SLICE_CONS fn g)
     let prod := s.rd (Reg.SLICE_PROD fn g)
     s.reach fn = true →
     s.ownsSlice fn g = true →
     (val - cons) ≤ (prod - cons) →
     exec (.sliceConsWrite fn g val) s = .next (s.wr (Reg.SLICE_CONS fn g) val)) ∧
  (∀ (s : State) (g : Nat),
     (Instr.sliceBlockWrite g).wf = true →
     s.mainUp = true →
     let fn := fld (s.sliceDesc g 0) 16 8
     let b := fld (s.sliceDesc g 0) 0 9
     let cfg := s.rd (Reg.SLICE_CFG fn g)
     let sl := Tab.get Slice.zero s.slice g
     s.sliceReady g = true →
     let rows := sl.part.take b
     let rest := sl.part.drop b
     let prod := s.rd (Reg.SLICE_PROD fn g)
     let cons := s.rd (Reg.SLICE_CONS fn g)
     let n := 2 ^ fld cfg 0 4
     let odd := match rows with
       | x :: _ => tst (x.1.getD 5 0) 0
       | [] => false
     exec (.sliceBlockWrite g) s = .next (
       if decide (n ≤ (prod - cons).toNat) || rows.any (fun x => s.rowGone g x.2) || (s.toll.steps.contains 4 && odd) then
         s.dropBlock fn g b rest
       else match s.dmaServe fn (s.sliceOctets g) with
         | some t => t.putBlock fn g b rows rest
         | none => s))

/-- The protection lease and the settings it guards: the commands complete (R147, R148, R151). -/
def Obligations.LeaseCommandsComplete : Prop :=
  (∀ (s : State) (fn : Nat) (seq : BitVec 16),
     (Instr.acquire fn seq).wf = true →
     s.reach fn = true →
     s.hasPriv fn 0 = true →
     let t := s.leaseTimeout
     t.lease.holder = none →
     let again := t.lease.last == some fn
     let s1 := { t with
       lease.holder := some fn, lease.seq := seq, lease.startCd2 := t.clk.cd2, lease.last := some fn }
     exec (.acquire fn seq) s = .next (((s1.leaseResult fn 0).leaseSeen true).raise (if again then 485 else 486))) ∧
  (∀ (s : State) (fn : Nat) (seq : BitVec 16),
     (Instr.refresh fn seq).wf = true →
     s.reach fn = true →
     s.hasPriv fn 0 = true →
     let t := s.leaseTimeout
     t.lease.holder = some fn →
     seq = t.lease.seq + 1 →
     exec (.refresh fn seq) s = .next ({ t with lease.seq := seq, lease.startCd2 := t.clk.cd2 }.leaseResult fn 0)) ∧
  (∀ (s : State) (fn : Nat) (seq : BitVec 16),
     (Instr.release fn seq).wf = true →
     s.reach fn = true →
     s.hasPriv fn 0 = true →
     let t := s.leaseTimeout
     t.lease.holder = some fn →
     exec (.release fn seq) s = .next ((t.leaseResult fn 0).lapse 2)) ∧
  (∀ (s : State),
     s.mainUp = true →
     s.leaseDue = true →
     exec .leaseTimeout s = .next (s.lapse 1)) ∧
  (∀ (s : State) (ch : Nat) (given : List HedgeRec),
     (Instr.hedgeSet ch given).wf = true →
     s.mainUp = true →
     ∀ rq,
     Tab.find s.host.taken ch = some rq →
     rq.typ.toNat = 0x10 →
     let m := s.msg ch ((hedgeWords given).flatMap wordBytes)
     let recs := hedgeRecs m
     msgHas m (1 + 5 * fld (msgWord m 0) 0 16) = true →
     s.chanPriv ch 0 = true →
     s.lease.pend.isSome = false →
     s.firstFault recs 0 = none →
     let t := s.devT + 2000000 * 65536
     let s1 := ({ s with lease.pend := some (recs, t) }.acceptRecs recs t).reply ch [0]
     exec (.hedgeSet ch given) s = .next (s1.journalAdd recs none)) ∧
  (∀ (s : State),
     s.mainUp = true →
     let s1 := s.hedgeTApply
     exec .settingsTApply s = .next (
       match s.upd.setPend with
       | some i => if s1.lease.pend.isNone then s1.finishSettings i else s1
       | none => s1))

/-- Hedge elements and comparison records: the commands complete (R131, R135, R140, R141, R142, R143, R144, R154, R157). -/
def Obligations.HedgeCommandsComplete : Prop :=
  (∀ (s : State) (w : Wing) (e : Nat),
     (Instr.elementOperate w e).wf = true →
     s.mainUp = true →
     let x := s.elem w e
     let g := s.elSettings w e
     tst (s.elCfg w e 0) 31 = true →
     [1, 2, 5, 6, 7, 8].contains (s.elType w e) = true →
     g.mode ≠ 0 →
     (x.pickup && x.drop.isNone && reached x.t g.delay) = true →
     exec (.elementOperate w e) s = .next ((s.putElem w e ({ x with operate := true })).driveLines w)) ∧
  (∀ (s : State) (w : Wing) (e : Nat),
     (Instr.elementResetDelayExpiry w e).wf = true →
     s.mainUp = true →
     let x := s.elem w e
     let g := s.elSettings w e
     tst (s.elCfg w e 0) 31 = true →
     [1, 2, 5, 6, 7, 8].contains (s.elType w e) = true →
     g.mode ≠ 0 →
     (match x.drop with | some d => x.pickup && reached d g.rd | none => false) = true →
     exec (.elementResetDelayExpiry w e) s = .next ((s.putElem w e ({ x with pickup := false, t := 0, drop := none })).driveLines w)) ∧
  (∀ (s : State) (w : Wing) (e : Nat),
     (Instr.inverseTimeOperate w e).wf = true →
     s.mainUp = true →
     let x := s.elem w e
     let g := s.elSettings w e
     tst (s.elCfg w e 0) 31 = true →
     [3, 4].contains (s.elType w e) = true →
     g.mode ≠ 0 →
     (x.pickup && x.drop.isNone && decide (2 ^ 40 ≤ x.theta) && reached x.t g.aux) = true →
     exec (.inverseTimeOperate w e) s = .next ((s.putElem w e ({ x with operate := true })).driveLines w)) ∧
  (∀ (s : State) (w : Wing) (e : Nat),
     (Instr.inverseResetExpiry w e).wf = true →
     s.mainUp = true →
     let x := s.elem w e
     let g := s.elSettings w e
     tst (s.elCfg w e 0) 31 = true →
     [3, 4].contains (s.elType w e) = true →
     g.mode ≠ 0 →
     (g.reset == 1 && (match x.drop with | some d => x.pickup && reached d g.rd | none => false)) = true →
     exec (.inverseResetExpiry w e) s = .next ((s.putElem w e (x.clear)).driveLines w)) ∧
  (∀ (s : State) (w : Wing) (e : Nat),
     (Instr.retrip w e).wf = true →
     s.mainUp = true →
     let x := s.elem w e
     let g := s.elSettings w e
     tst (s.elCfg w e 0) 31 = true →
     [9].contains (s.elType w e) = true →
     g.mode ≠ 0 →
     (x.pickup && g.aux != 0 && reached x.t g.aux) = true →
     exec (.retrip w e) s = .next ((s.putElem w e ({ x with retrip := true })).driveLines w)) ∧
  (∀ (s : State) (w : Wing) (e : Nat),
     (Instr.bfOperate w e).wf = true →
     s.mainUp = true →
     let x := s.elem w e
     let g := s.elSettings w e
     tst (s.elCfg w e 0) 31 = true →
     [9].contains (s.elType w e) = true →
     g.mode ≠ 0 →
     (x.pickup && reached x.t g.delay) = true →
     exec (.bfOperate w e) s = .next ((s.putElem w e ({ x with operate := true })).driveLines w)) ∧
  (∀ (s : State) (w : Wing) (e : Nat),
     (Instr.inputInvalidBlock w e).wf = true →
     s.mainUp = true →
     let x := s.elem w e
     let g := s.elSettings w e
     tst (s.elCfg w e 0) 31 = true →
     [1, 2, 3, 4, 5, 6, 7, 8, 9].contains (s.elType w e) = true →
     g.mode ≠ 0 →
     (match x.invalid with | some d => !x.blocked && reached d (s.invBlock w) | none => false) = true →
     exec (.inputInvalidBlock w e) s = .next ((s.putElem w e (x.block)).driveLines w)) ∧
  (∀ (s : State) (w : Wing) (t : Nat),
     (Instr.freqHoldTimeout w t).wf = true →
     s.mainUp = true →
     let x := s.freqRef w t
     ∀ a,
     x.heldAt = some a →
     x.held = true →
     a + 500000000 ≤ s.clk.ns →
     exec (.freqHoldTimeout w t) s = .next (
       (s.setHedge w { s.hedge.at_ w with
         freq := Tab.put (s.hedge.at_ w).freq t { x with f := s.fNom w, heldAt := none } }).showFreq w t)) ∧
  (∀ (s : State) (w : Wing) (r : CmpRec),
     s.mainUp = true →
     let o := s.hedge.at_ w.other
     ∀ no x q,
     o.sent = (no, x) :: q →
     x = r →
     s.linkTurnOf w.other no false = true →
     exec (.comparisonRecordReceive w r) s = .next ((s.setHedge w.other { o with sent := q }).takeRecord w r)) ∧
  (∀ (s : State) (w : Wing) (sec : Nat),
     (Instr.comparisonRecordTimeout w sec).wf = true →
     s.mainUp = true →
     let h := s.hedge.at_ w
     ∀ p,
     h.own.find? (fun p => p.1.sec == sec) = some p →
     p.2 + 100000 ≤ s.clk.ns →
     s.comparing w = true →
     exec (.comparisonRecordTimeout w sec) s = .next ((s.setHedge w { h with own := h.own.erase p }).rowMismatch w sec)) ∧
  (∀ (s : State) (w : Wing) (chkDiff : Bool),
     s.mainUp = true →
     let s1 := s.hedgeEvaluate w chkDiff
     exec (.hedgeRowEvaluate w chkDiff) s = .next (
       if s.safe.actExcl.at_ w && !(s.wall.at_ w).hedgeQ.isEmpty && s1.rb (Reg.HEDGE_STATUS w) 31 then
         let s2 := { s1 with safe.actExcl := s1.safe.actExcl.set w false }.unexclude w
         match s2.upd.act with
         | some (2, 1) => { s2.actPhase 2 2 with arb.mute := s2.arb.mute.set w.other true }
         | _ => s2
       else s1)) ∧
  (∀ (s : State) (w : Wing) (c lane size : Nat),
     (Instr.hedgePhRead 0 w c lane size).wf = true →
     size ≠ 8 →
     s.reach 0 = true →
     s.dev.st ≠ .safeTalk →
     exec (.hedgePhRead 0 w c lane size) s = .next (
       (s.setHedge w { s.hedge.at_ w with
         phLatch := Tab.put (s.hedge.at_ w).phLatch (0 * 1024 + c) ((s.phasor w false c).reg 1) }).answer
         (laneData ((s.phasor w false c).reg 0) lane size)))

/-- Trip path: the commands complete (R162, R163, R165, R167, R169, R172). -/
def Obligations.TripCommandsComplete : Prop :=
  (∀ (s : State) (t : Nat),
     (Instr.tpMinExpiry t).wf = true →
     s.mainUp = true →
     s.dev.st.computes = true →
     exec (.tpMinExpiry t) s = .next ((State.evalTarget t s).tripOutputs)) ∧
  (∀ (s : State) (n bit : Nat) (v : Bool) (q : GooseQual),
     (Instr.engineSourceWrite n bit v q).wf = true →
     s.mainUp = true →
     let w := engWing n
     let key := 160 * w.idx + bit
     s.man.engBits.contains (n, bit) = true →
     let s0 := { s with trip.hold := Tab.del s.trip.hold key, trip.stale := Tab.del s.trip.stale key }
     exec (.engineSourceWrite n bit v q) s = .next (
       if bit < 96 then (s0.setSource w bit v).evalTargets
       else if q.sim && !(s.rb Reg.TRIP_CTRL 31 && s.inTest) then s
       else if q.invalid || (q.test && !s.inTest) then (s0.takeFv w bit).evalTargets
       else ((s0.setSource w bit v).wb (Reg.TRIP_GSI_STAT w ((bit - 96) / 32)) ((bit - 96) % 32) false).evalTargets)) ∧
  (∀ (s : State) (w : Wing) (n : Nat),
     (Instr.gsiTalExpiry w n).wf = true →
     s.mainUp = true →
     exec (.gsiTalExpiry w n) s = .next ((s.takeFv w (96 + n)).evalTargets)) ∧
  (∀ (s : State) (w : Wing) (bit : Nat),
     (Instr.engHoldExpiry w bit).wf = true →
     s.mainUp = true →
     let key := 160 * w.idx + bit
     ∀ t0,
     Tab.find s.trip.hold key = some t0 →
     t0 + s.rf (Reg.TRIP_WING_CFG w) 16 7 * 1000000 ≤ s.clk.ns →
     let s1 := { s with trip.hold := Tab.del s.trip.hold key, trip.stale := Tab.put s.trip.stale key s.clk.ns }
     exec (.engHoldExpiry w bit) s = .next ((s1.takeFv w bit).evalTargets)) ∧
  (∀ (s : State) (fn : Nat) (seq crc : Half),
     (Instr.pulse fn seq crc).wf = true →
     s.reach fn = true →
     s.tripCheck fn seq crc = 0 →
     let mask := s.rd (Reg.TRIP_CMD_MASK fn)
     let ctl := s.rd (Reg.TRIP_CMD_CTL fn)
     let till := if fld ctl 28 4 = 1 then some (s.clk.ns + fld ctl 0 16 * 1000000) else none
     let s1 := ((s.wf (Reg.TRIP_CMD_STAT fn) 29 3 0).wf (Reg.TRIP_CMD_STAT fn) 0 16 seq.toNat).cnt Reg.TRIP_CMD_ACCEPTED 0 32 1
     exec (.pulse fn seq crc) s = .next ((each 32 (fun n t => if tst mask n then t.setLine n till else t) s1).evalTargets)) ∧
  (∀ (s : State) (fn : Nat) (seq crc : Half),
     (Instr.clear fn seq crc).wf = true →
     s.reach fn = true →
     s.tripCheck fn seq crc = 0 →
     let mask := s.rd (Reg.TRIP_CMD_MASK fn)
     let ctl := s.rd (Reg.TRIP_CMD_CTL fn)
     let till := if fld ctl 28 4 = 1 then some (s.clk.ns + fld ctl 0 16 * 1000000) else none
     let s1 := ((s.wf (Reg.TRIP_CMD_STAT fn) 29 3 0).wf (Reg.TRIP_CMD_STAT fn) 0 16 seq.toNat).cnt Reg.TRIP_CMD_ACCEPTED 0 32 1
     exec (.clear fn seq crc) s = .next ((each 32 (fun n t => if tst mask n then t.setLine n till else t) s1).evalTargets)) ∧
  (∀ (s : State) (n : Nat),
     (Instr.hcmdPulseEnd n).wf = true →
     s.mainUp = true →
     ∀ t,
     Tab.find s.trip.hcmd n = some t →
     t ≤ s.clk.ns →
     exec (.hcmdPulseEnd n) s = .next ((s.setLine n none).evalTargets)) ∧
  (∀ (s : State) (pin : Wing × Fin 8) (low : Bool),
     s.mainUp = true →
     let w := pin.1
     let i := pin.2.val
     let driven := s.rb (Reg.TRIP_PIN_STAT w) i
     let s1 := { s with
       trip.pull := s.trip.pull.set w (setFld (s.trip.pull.at_ w) i 1 (bitOf (low && !driven)))
       trip.stuck := s.trip.stuck.set w (setFld (s.trip.stuck.at_ w) i 1 (bitOf (!low && driven))) }.tripOutputs
     exec (.readbackMismatch pin low) s = .next (
       if low = driven || (low && s.rb (Reg.TRIP_TGT_CFG (8 * w.idx + i) 0) 28) then s1
       else ((s1.wb (Reg.TRIP_PIN_STAT w) (16 + i) true).raiseW 568 w).setAlarm 22 true)) ∧
  (∀ (s : State) (g : Nat),
     (Instr.tripPubChange g).wf = true →
     s.mainUp = true →
     ∀ c,
     s.pubOf g = some c →
     s.pubsLive = true →
     s.members g ≠ (Tab.get TripPub.zero s.trip.pub g).mem →
     exec (.tripPubChange g) s = .next (s.changePub g c (s.members g))) ∧
  (∀ (s : State) (g : Nat),
     (Instr.tripPubResend g).wf = true →
     s.mainUp = true →
     ∀ c,
     s.pubOf g = some c →
     ∀ p,
     Tab.find s.trip.pub g = some p →
     s.pubsLive = true →
     p.next ≤ s.clk.ns →
     let i := min p.intUs c.t0us
     let p1 := { p with sqNum := p.sqNum + 1, intUs := 2 * i, next := p.next + i * 1000 }
     exec (.tripPubResend g) s = .next ({ s with trip.pub := Tab.put s.trip.pub g p1 }.sendPub g c i))

/-- Caique rings, their start, cycles and epochs: the commands complete (R185, R204, R205, R209, R228, R238, R240). -/
def Obligations.RingCommandsComplete : Prop :=
  (∀ (s : State) (r : Nat),
     (Instr.caravanCutoff r).wf = true →
     s.mainUp = true →
     s.ringState r ≠ 0 →
     (s.rg r).cut = false →
     exec (.caravanCutoff r) s = .next (
       match s.cqNext r with
         | some t => if s.wingT (ringWing r) + 2000 * 65536 < t then s else s.cutOff r
         | none => s)) ∧
  (∀ (s : State) (r : Nat),
     (Instr.imageRotate r).wf = true →
     s.mainUp = true →
     s.ringState r ≠ 0 →
     (s.rg r).rotated = false →
     s.imageDue r = true →
     exec (.imageRotate r) s = .next (s.rotate r)) ∧
  (∀ (s : State) (r : Nat) (mramOk : Bool),
     (Instr.ringStart r mramOk).wf = true →
     s.mainUp = true →
     s.dev.st = .configuring →
     s.stewardRuns = true →
     exec (.ringStart r mramOk) s = .next (s.ringBegin r mramOk)) ∧
  (∀ (s : State) (r : Nat) (w : Wing) (sched : List (Word × Word)),
     (Instr.epochCommit r w sched).wf = true →
     s.mainUp = true →
     s.stewUp w = true →
     exec (.epochCommit r w sched) s = .next (
       if s.fenced w then s.fenceHits (2 * sched.length + 1)
       else if s.steward = some w then s.mirrorOr (.epoch r sched) (fun u => u.commitEpoch r sched)
       else s)) ∧
  (∀ (s : State) (r : Nat),
     (Instr.epochSwap r).wf = true →
     s.mainUp = true →
     let due := match s.cqDue r with
       | some t => decide (t ≤ s.wingT (ringWing r))
       | none => false
     s.ringState r ≠ 0 →
     s.swapDue r = true →
     due = true →
     exec (.epochSwap r) s = .next (s.swapBanks r)) ∧
  (∀ (s : State) (r : Nat),
     (Instr.triggerSourceStop r).wf = true →
     s.mainUp = true →
     let x := s.rg r
     s.ringState r ≠ 0 →
     s.trgRing r = true →
     x.trgLast.isSome = true →
     x.trgStop = false →
     exec (.triggerSourceStop r) s = .next ((s.setRg r { x with trgStop := true }).ringEvent r 7)) ∧
  (∀ (s : State) (r : Nat),
     (Instr.caravanDepart r).wf = true →
     s.mainUp = true →
     exec (.caravanDepart r) s = .next ((s.cqDepart r).standbyDone)) ∧
  (∀ (s : State) (r lane size : Nat),
     (Instr.cqCycleRead 0 r lane size).wf = true →
     size ≠ 8 →
     s.reach 0 = true →
     s.dev.st ≠ .safeTalk →
     let last : BitVec 48 := if (s.rg r).cycle = 0 then 0 else (s.rg r).cycle - 1
     exec (.cqCycleRead 0 r lane size) s = .next (
       (s.wr (Reg.CQ_CYCLE_HI r) ((last >>> 32).setWidth 32)).answer (laneData (s.rd (Reg.CQ_CYCLE_LO r)) lane size)))

/-- Caravans received, joins, breaks and ring commands: the commands complete (R195, R198, R212, R217, R221, R223, R224, R226, R227,
R249). -/
def Obligations.CaravanCommandsComplete : Prop :=
  (∀ (s : State) (r : Nat) (tail : Bool) (c : Caravan),
     (Instr.caravanReceive r tail c).wf = true →
     s.mainUp = true →
     s.ringState r ≠ 0 →
     let form := s.wellFormedCaravan r c
     let seq := s.inSequence r (laneOf (s.rg r) tail) c
     let s0 := s.onLane r tail (fun l => { l with soc := some s.clk.ns, seen := some s.clk.ns })
     exec (.caravanReceive r tail c) s = .next (
       if form && seq && s.tagGood r c then s0.validAt r tail c
       else
         let s1 := s0.invalidAt r tail
         if form && s.tagGood r c then (if isProbe tail c then s1 else s1.readLoop r tail c)
         else if form && seq && (s.rg r).auth then s1.readJoins r c true
         else s1)) ∧
  (∀ (s : State) (r : Nat) (tail : Bool),
     (Instr.caravanMissing r tail).wf = true →
     s.mainUp = true →
     s.ringState r ≠ 0 →
     ∀ a,
     (laneOf (s.rg r) tail).soc = some a →
     s.cqPassed r 1 a 1000 = true →
     exec (.caravanMissing r tail) s = .next ((s.onLane r tail (fun l => { l with soc := some (a + (s.cqPer r).1 / max 1 (s.cqPer r).2) })).invalidAt r tail)) ∧
  (∀ (s : State) (r : Nat) (tail : Bool),
     (Instr.laneSignalLoss r tail).wf = true →
     s.mainUp = true →
     s.rb (Reg.CQ_RING_CTRL r) 31 = true →
     exec (.laneSignalLoss r tail) s = .next ((s.onLane r tail (fun l => { l with sig := false, brk := true, last := none, rx := none })).showWrap r)) ∧
  (∀ (s : State) (r n : Nat),
     (Instr.nodeLost r n).wf = true →
     s.mainUp = true →
     let x := Tab.get RNode.zero (s.rg r).node n
     let v := s.rf (Reg.CQ_NODE_STAT r n) 29 3
     ((v == 2 || v == 3)) = true →
     3 ≤ x.missA →
     3 ≤ x.missB →
     exec (.nodeLost r n) s = .next ((s.nodeOut r n 4).ringEvent r 2)) ∧
  (∀ (s : State) (r : Nat),
     (Instr.joinAnswer r).wf = true →
     s.mainUp = true →
     let x := s.rg r
     ∀ eui tagBad t,
     x.joins = (eui, tagBad) :: t →
     let s1 := s.setRg r { x with joins := t }
     s.ringState r ≠ 0 →
     exec (.joinAnswer r) s = .next (
       if tagBad then s1.refuseJoin r eui 4
       else
         match s.listedAt r eui with
         | none => s1.refuseJoin r eui 1
         | some p =>
           if s.rf (Reg.CQ_RING_STAT r) 0 5 = 16 || s.heldByOther r p eui then s1.refuseJoin r eui 3
           else if hasSlots (s.bankOf r x.bank) p then s1.admitNode r p eui (s.rf (Reg.CQ_EPOCH r) 0 16)
           else if s.noSlots r p then s1.refuseJoin r eui 2
           else
             let n := Tab.get RNode.zero x.node p
             ((s1.setRg r { s1.rg r with node := Tab.put x.node p { n with joining := some eui } }).nodeOut r p 1).addSets r)) ∧
  (∀ (s : State) (r : Nat) (tail : Bool),
     (Instr.echoReqSend r tail).wf = true →
     s.mainUp = true →
     s.rb (Reg.CQ_RING_CTRL r) 31 = true →
     s.echoGap r tail = true →
     let x := s.rg r
     exec (.echoReqSend r tail) s = .next (
       s.setRg r { withLane x tail { laneOf x tail with
           echo := some (x.echoId, s.clk.ns), setTx := some (lineSet (s.isC10 r) (.echoReq x.echoId)) } with echoId := x.echoId + 1 })) ∧
  (∀ (s : State) (r : Nat) (tail : Bool) (x : LineSet) (turn : BitVec 24),
     (Instr.echoReqReceive r tail x turn).wf = true →
     s.mainUp = true →
     ∀ id,
     readSet (s.isC10 r) x = some (.echoReq id) →
     s.rb (Reg.CQ_RING_CTRL r) 31 = true →
     exec (.echoReqReceive r tail x turn) s = .next (s.onLane r tail (fun l => { l with setTx := some (lineSet (s.isC10 r) (.echoRsp id turn)) }))) ∧
  (∀ (s : State) (r : Nat) (tail : Bool) (x : LineSet) (ns : Nat) (sub : Fin 16),
     (Instr.echoRspReceive r tail x ns sub).wf = true →
     s.mainUp = true →
     let l := laneOf (s.rg r) tail
     ∀ id turn,
     readSet (s.isC10 r) x = some (.echoRsp id turn) →
     ∀ i at_,
     l.echo = some (i, at_) →
     i = id →
     s.clk.ns ≤ at_ + 10000 →
     exec (.echoRspReceive r tail x ns sub) s = .next (s.onLane r tail (fun z => { z with echo := none, dly := ((16 * ns + sub.val - turn.toNat) / 2 :: z.dly).take 16 }))) ∧
  (∀ (s : State) (r : Nat) (tail : Bool),
     (Instr.echoTimeout r tail).wf = true →
     s.mainUp = true →
     ∀ z1 at_,
     (laneOf (s.rg r) tail).echo = some (z1, at_) →
     at_ + 10000 ≤ s.clk.ns →
     exec (.echoTimeout r tail) s = .next (s.onLane r tail (fun l => { l with echo := none }))) ∧
  (∀ (s : State) (fn r : Nat),
     (Instr.unwrap fn r).wf = true →
     let x := s.rg r
     s.ownerIn fn = true →
     s.pCfg fn = true →
     (s.rg r).busy.isSome = false →
     s.rb (Reg.CQ_RING_STAT r) 22 = false →
     s.ringState r = 2 →
     (if s.rb (Reg.CQ_RING_STAT r) 28 then 0 else 3) = 0 →
     let t := s.setRg r { s.rg r with busy := some 1 }
     exec (.unwrap fn r) s = .next (t.unwrapRecs r x.head.loop x.tail.loop)) ∧
  (∀ (s : State) (fn r : Nat),
     (Instr.restore fn r).wf = true →
     let x := s.rg r
     let deny := if !s.rb (Reg.CQ_RING_STAT r) 27 then 3 else match x.iso with
       | some sp => if x.banned.contains sp then 4 else 0
       | none => 0
     s.ownerIn fn = true →
     s.pCfg fn = true →
     (s.rg r).busy.isSome = false →
     s.rb (Reg.CQ_RING_STAT r) 22 = false →
     s.ringState r = 2 →
     deny = 0 →
     let t := s.setRg r { s.rg r with busy := some 2 }
     exec (.restore fn r) s = .next (
       match x.iso with
       | some (lo, hi) =>
         let t1 := t.setRg r { t.rg r with iso := none, restored := (lo, hi, s.clk.ns) :: x.restored }
         let t2 := t1.unwrapRecs r (if lo = 0 then none else some (lo - 1)) (if s.ringN r ≤ hi + 1 then none else some (hi + 1))
         let t3 := each 16 (fun p u => if u.rf (Reg.CQ_NODE_STAT r p) 29 3 = 5 then (u.nodeTo r p 4).ringEvent r 2 else u) t2
         (t3.wb (Reg.CQ_RING_STAT r) 27 false).ringEvent r 1
       | none => t)) ∧
  (∀ (s : State) (fn r : Nat),
     (Instr.sleep fn r).wf = true →
     s.ownerIn fn = true →
     s.pCfg fn = true →
     (s.rg r).busy.isSome = false →
     s.rb (Reg.CQ_RING_STAT r) 22 = false →
     s.ringState r = 2 →
     let t := s.setRg r { s.rg r with busy := some 3 }
     exec (.sleep fn r) s = .next (t.cmdRec r ⟨true, true, none, recWords 4 (halvesOf 2 (t.rd (Reg.CQ_CMD_ARG r)).toNat), true⟩)) ∧
  (∀ (s : State) (fn r : Nat),
     (Instr.wake fn r).wf = true →
     s.ownerIn fn = true →
     s.pCfg fn = true →
     (s.rg r).busy.isSome = false →
     s.rb (Reg.CQ_RING_STAT r) 22 = false →
     s.ringState r = 2 →
     ((s.bankOf r (s.rg r).bank).any (fun e => entTyp e == 5)) = true →
     let t := s.setRg r { s.rg r with busy := some 4 }
     exec (.wake fn r) s = .next ((t.setRg r { t.rg r with wakeLeft := 4 }).used 1)) ∧
  (∀ (s : State) (fn r node : Nat),
     (Instr.nodeReset fn r node).wf = true →
     s.ownerIn fn = true →
     s.pCfg fn = true →
     (s.rg r).busy.isSome = false →
     s.rb (Reg.CQ_RING_STAT r) 22 = false →
     s.ringState r = 2 →
     (s.nodeArg r node) = 0 →
     let t := s.setRg r { s.rg r with busy := some 5 }
     let t1 := t.cmdRec r ⟨true, true, some node, nodeRec 9 node 0, true⟩
     exec (.nodeReset fn r node) s = .next (t1.setRg r { t1.rg r with applyQ := (t1.rg r).applyQ ++ [(node, none)] })) ∧
  (∀ (s : State) (fn r node : Nat),
     (Instr.clearFalseWake fn r node).wf = true →
     s.ownerIn fn = true →
     s.pCfg fn = true →
     (s.rg r).busy.isSome = false →
     s.rb (Reg.CQ_RING_STAT r) 22 = false →
     s.ringState r = 2 →
     (s.nodeArg r node) = 0 →
     let t := s.setRg r { s.rg r with busy := some 6 }
     exec (.clearFalseWake fn r node) s = .next (t.cmdRec r ⟨true, true, some node, nodeRec 8 node 0, true⟩)) ∧
  (∀ (s : State) (r : Nat),
     (Instr.applyInstant r).wf = true →
     s.mainUp = true →
     let x := s.rg r
     let now := s.wingT (ringWing r)
     let due (p : Nat × Option Nat) : Bool := match p.2 with
       | some t => decide (t ≤ now)
       | none => false
     exec (.applyInstant r) s = .next (
       eachIn (x.applyQ.filter due) (fun p t => (t.retireNode p.1 2).nodeTo r (posOf p.1) 0)
         (s.setRg r { x with applyQ := x.applyQ.filter (fun p => !due p) }))) ∧
  (∀ (s : State) (r : Nat) (tail : Bool),
     (Instr.laneSignalReturn r tail).wf = true →
     s.mainUp = true →
     s.rb (Reg.CQ_RING_CTRL r) 31 = true →
     exec (.laneSignalReturn r tail) s = .next (s.onLane r tail (fun l => { l with sig := true, last := none, inv := 0 })))

/-- Remote space and the bridge: the commands complete (R239, R240, R243, R244, R245, R248). -/
def Obligations.BridgeCommandsComplete : Prop :=
  (∀ (s : State) (fn off size : Nat),
     (Instr.bar2Read fn off size).wf = true →
     s.reach fn = true →
     let (l, s1) := s.bar2Words fn off (max 1 (size / 2)) 0 []
     let v := halvesVal l
     exec (.bar2Read fn off size) s = .next (s1.answer (BitVec.ofNat 64 (if size = 1 then v / 2 ^ (8 * (off % 2)) % 256 else v)))) ∧
  (∀ (s : State) (fn off size : Nat) (val : BitVec 64),
     (Instr.bar2Write fn off size val).wf = true →
     s.reach fn = true →
     size ≠ 1 →
     exec (.bar2Write fn off size val) s = .next (each (size / 2) (fun i t => t.bar2Put fn (bar2Addr off i) (BitVec.ofNat 16 (val.toNat / 2 ^ (16 * i)))) s)) ∧
  (∀ (s : State) (fn : Nat) (val : Word),
     (Instr.brSnapWrite fn val).wf = true →
     s.reach fn = true →
     let s1 := s.wr (Reg.BR_SNAP fn) (val &&& 0x8000003F#32)
     exec (.brSnapWrite fn val) s = .next (
       if tst val 31 then
         let node := fld val 0 6
         let r := s1.ringOf node
         (s1.latchNode fn node).wf (Reg.BR_SNAP_STAT fn) 0 16 (Tab.get 0 r.bufCyc r.latest).toNat
       else { s1 with bridge.snap := Tab.del s1.bridge.snap fn })) ∧
  (∀ (s : State) (fn node : Nat),
     (Instr.outHoldSet fn node).wf = true →
     s.reach fn = true →
     let s1 := (s.releaseHold fn).wr (Reg.BR_OUT_HOLD fn) (BitVec.ofNat 32 (2 ^ 31 + node))
     exec (.outHoldSet fn node) s = .next ({ s1 with bridge.holdAt := Tab.put s1.bridge.holdAt fn s.clk.ns })) ∧
  (∀ (s : State) (fn : Nat),
     (Instr.outHoldClear fn).wf = true →
     s.reach fn = true →
     exec (.outHoldClear fn) s = .next ((s.releaseHold fn).wb (Reg.BR_OUT_HOLD fn) 31 false)) ∧
  (∀ (s : State) (fn : Nat),
     (Instr.outHoldExpiry fn).wf = true →
     ∀ t,
     Tab.find s.bridge.holdAt fn = some t →
     s.cqPassed (s.rf (Reg.BR_OUT_HOLD fn) 0 6 / 16) 4 t 0 = true →
     exec (.outHoldExpiry fn) s = .next ((s.releaseHold fn).brErr fn 26)) ∧
  (∀ (s : State) (fn : Nat) (tail : Word),
     (Instr.sqDoorbell fn tail).wf = true →
     s.reach fn = true →
     exec (.sqDoorbell fn tail) s = .next (s.wr (Reg.BR_SQ_TAIL fn) tail)) ∧
  (∀ (s : State) (who : Nat) (e0 : List Word),
     (Instr.read who e0).wf = true →
     s.mainUp = true →
     let e := s.sqEntry who e0
     s.mayFetch who = true →
     sqOp e ≠ 2 →
     let a := sqWord e 1
     let s1 := s.fetched who
     exec (.read who e0) s = .next (
       match s1.ringRefusal who false e with
       | some c => s1.refuseReq who c a (sqUser e) (sqBuf e)
       | none =>
         if raCyclic a then
           let (l, s2) := s1.cyclicReads who a (sqCount e) []
           s2.completeNow who 0 a (sqUser e) (sqBuf e) l
         else
           match (if s1.tagQuota who ≤ s1.tagsUsed who then none else s1.pickTag) with
           | none => (s1.completeNow who 1 a (sqUser e) (sqBuf e) []).raiseAt 489 who 0
           | some t =>
             { s1.used 1 with
               bridge.tags := Tab.put s1.bridge.tags t who
               bridge.retired := Tab.del s1.bridge.retired t }.enqueue
               ⟨who, false, 0, t, a, sqCount e, [], sqUser e, sqBuf e, false, false, false, 0, false⟩)) ∧
  (∀ (s : State) (who : Nat) (e0 : List Word) (data : List Half),
     (Instr.write who e0 data).wf = true →
     s.mainUp = true →
     let e := s.sqEntry who e0
     s.mayFetch who = true →
     sqOp e ≠ 1 →
     let a := sqWord e 1
     let s1 := s.fetched who
     exec (.write who e0 data) s = .next (
       match s1.ringRefusal who true e with
       | some c => s1.refuseReq who c a (sqUser e) 0
       | none =>
         let d := (s.sqData who e data).take (sqCount e)
         if raCyclic a then
           (eachIn (d.zip (List.range d.length)) (fun p t => t.cyclicWrite who (a + BitVec.ofNat 32 p.2) p.1) s1).completeNow who 0 a
             (sqUser e) 0 []
         else s1.postWrite ⟨who, true, 0, 0, a, sqCount e, d, sqUser e, 0, false, false, false, 0, false⟩)) ∧
  (∀ (s : State) (node : Nat) (rseq : BitVec 11),
     (Instr.ack node rseq).wf = true →
     s.mainUp = true →
     let q := s.brQueue node
     ∀ f,
     q.find? (fun x => !x.acked) = some f →
     let d := (rseq - f.rseq).toNat
     let sent := (q.filter (fun x => x.sent && !x.acked)).length
     d < sent →
     let hit (x : BReq) : Bool := !x.acked && decide ((x.rseq - f.rseq).toNat ≤ d)
     let q1 := (q.filter (fun x => !(x.wr && hit x) && !(x.timed && hit x))).map
       (fun x => if hit x then { x with acked := true } else x)
     exec (.ack node rseq) s = .next ({ s.setQueue node q1 with bridge.ackAge := Tab.put s.bridge.ackAge node 0 })) ∧
  (∀ (s : State) (node : Nat) (rseq tag : BitVec 11) (status : BitVec 4) (data : List Half),
     (Instr.rdata node rseq tag status data).wf = true →
     s.mainUp = true →
     let q := s.brQueue node
     exec (.rdata node rseq tag status data) s = .next (
       match q.find? (fun x => !x.wr && x.sent && x.rseq == rseq && x.tag == tag.toNat) with
       | some x =>
         let s1 := s.setQueue node (if x.acked then q.erase x else q.map (fun y => if y = x then { y with timed := true } else y))
         if x.timed || Tab.find s.bridge.tags x.tag ≠ some x.who then
           { s1 with bridge.retired := Tab.del s1.bridge.retired x.tag }
         else
           let st := rdStatus status.toNat s.freshWord
           let d := if status = 0 then data.take x.count else []
           { s1.used 1 with bridge.resp := s1.bridge.resp ++ [⟨x.who, st, x.tag, x.addr, d, x.user, x.buf, s.clk.ns, some x.rseq, true⟩] }
       | none => { s with bridge.retired := Tab.del s.bridge.retired tag.toNat })) ∧
  (∀ (s : State) (node : Nat),
     (Instr.acycResend node).wf = true →
     s.mainUp = true →
     8 ≤ Tab.get 0 s.bridge.ackAge node →
     exec (.acycResend node) s = .next (
       { s.setQueue node ((s.brQueue node).map (fun q => if q.acked then q else { q with sent := false })) with
         bridge.ackAge := Tab.put s.bridge.ackAge node 0 })) ∧
  (∀ (s : State) (node : Nat),
     (Instr.acycTimeout node).wf = true →
     s.mainUp = true →
     let q := s.brQueue node
     let late (x : BReq) : Bool := !x.acked && !x.timed && decide (256 ≤ x.age)
     s.nodeState node = 2 →
     q.any late = true →
     let rs := (q.filter (fun x => late x && !x.wr && decide (Tab.find s.bridge.tags x.tag = some x.who))).map
       (fun x => x.resp 9 s.clk.ns)
     let s1 := s.setQueue node (q.map (fun x => if late x then { x with timed := true } else x))
     exec (.acycTimeout node) s = .next ({ s1 with bridge.resp := s1.bridge.resp ++ rs }.raiseAt 493 node 0)) ∧
  (∀ (s : State) (who : Nat),
     (Instr.completionWrite who).wf = true →
     s.mainUp = true →
     let next (x : BResp) : Bool := x.who == who && (match x.seq with
       | some q => !s.completesLater who (raNode x.addr) q
       | none => true)
     ∀ x,
     s.bridge.resp.find? next = some x →
     s.cqFree who = true →
     ∀ t,
     s.complServe who (16 + 2 * x.data.length) = some t →
     exec (.completionWrite who) s = .next ((t.dropResp x).writeCompletion x)) ∧
  (∀ (s : State) (who : Nat),
     (Instr.responseDiscard who).wf = true →
     s.mainUp = true →
     ∀ x,
     s.bridge.resp.find? (fun x => x.who == who && x.tagged) = some x →
     x.at_ + s.tdNs ≤ s.clk.ns →
     let s1 := s.dropResp x
     exec (.responseDiscard who) s = .next (
       if 256 ≤ who then s1
       else
         let first := s1.rd (Reg.BR_DISCARD who) == 0
         let s2 := s1.cnt (Reg.BR_DISCARD who) 0 32 1
         if first then s2.raiseAt 490 who 0 else s2))

/-- Switch: frames received and its tables: the commands complete (R257, R263, R264, R265, R276, R278, R282, R283, R288). -/
def Obligations.SwitchCommandsComplete : Prop :=
  (∀ (s : State) (p : Nat) (x : Arrival),
     (Instr.frameReceive p x).wf = true →
     s.mainUp = true →
     let f : Frame := if p < 40 then { x.frame with ts := s.ingressT p x.age x.phase.val } else x.frame
     exec (.frameReceive p x) s = .next (
       if 40 ≤ p then s.ingress p f none
       else if !s.macOn p || !s.macUp p then s
       else
         let s1 := s.countAll p f.len
         match macCheck f (s.rf (Reg.MAC_CFG p) 0 11) with
         | some j =>
           let s2 := s1.macCnt p j 1
           let s3 := if j = 4 ∧ f.oddOctet ∧ s.macMode p = 1 then s2.macCnt p 5 1 else s2
           if isRxErr j then s3.rxErr p else s3
         | none => if f.etype = 0x8808 then s1.macControl p f else (s1.countOk p f).fromMac p f)) ∧
  (∀ (s : State) (p : Nat) (quanta : Half),
     (Instr.pauseReceive p quanta).wf = true →
     s.mainUp = true →
     s.macOn p = true →
     s.macUp p = true →
     exec (.pauseReceive p quanta) s = .next ((s.countAll p 64).takePause p quanta)) ∧
  (∀ (s : State) (p : Nat) (vec : Octet) (quanta : List Half),
     (Instr.pfcReceive p vec quanta).wf = true →
     s.mainUp = true →
     s.macOn p = true →
     s.macUp p = true →
     exec (.pfcReceive p vec quanta) s = .next ((s.countAll p 64).takePfc p vec quanta)) ∧
  (∀ (s : State),
     s.mainUp = true →
     ∀ vid a port pr t,
     s.sw.learn = (vid, a, port, pr) :: t →
     let s1 := { s with sw.learn := t }
     let key := fdbKey vid a
     exec .learnRequest s = .next (
       match s1.staticPorts vid a with
       | some m =>
         let mine := if pr then tst m (s1.pairPort port false) || tst m (s1.pairPort port true) else tst m port
         if mine then s1 else s1.cnt Reg.SW_MOVE_BLOCKED 0 32 1
       | none =>
         match Tab.find s1.sw.fdb key with
         | some e =>
           if e.locked.isSome then s1.cnt Reg.SW_MOVE_BLOCKED 0 32 1
           else if e.port = port ∧ e.pair = pr then s1.fdbPut key { e with last := s.clk.ns }
           else s1.fdbMove key e port pr
         | none =>
           if s1.bucketFull vid a then (s1.cnt Reg.SW_LEARN_FULL 0 32 1).raiseIf (s1.rd Reg.SW_LEARN_FULL == 0) 387
           else s1.fdbPut key ⟨port, pr, none, s.clk.ns, 0, 0, 0⟩)) ∧
  (∀ (s : State) (vid : Nat) (mac : BitVec 48),
     (Instr.moveLockEnd vid mac).wf = true →
     s.mainUp = true →
     ∀ e,
     Tab.find s.sw.fdb (fdbKey vid mac) = some e →
     ∀ t,
     e.locked = some t →
     t + 10000000000 ≤ s.clk.ns →
     exec (.moveLockEnd vid mac) s = .next (s.fdbPut (fdbKey vid mac) { e with locked := none, moves := 0 })) ∧
  (∀ (s : State) (vid : Nat) (mac : BitVec 48),
     (Instr.macAgeOut vid mac).wf = true →
     s.mainUp = true →
     ∀ e,
     Tab.find s.sw.fdb (fdbKey vid mac) = some e →
     e.last + s.ageNs ≤ s.clk.ns →
     exec (.macAgeOut vid mac) s = .next ({ s with sw.fdb := Tab.del s.sw.fdb (fdbKey vid mac) })) ∧
  (∀ (s : State) (k dir : Nat),
     (Instr.entryForget k dir).wf = true →
     s.mainUp = true →
     ∀ e t,
     Tab.get [] s.sw.dup (2 * k + dir) = e :: t →
     e.at_ + (s.forgetNs k).1 ≤ s.clk.ns →
     let s1 := { s with sw.dup := Tab.put s.sw.dup (2 * k + dir) t }
     exec (.entryForget k dir) s = .next (if e.dup then s1 else s1.pairCnt k (if e.b then 5 else 4))) ∧
  (∀ (s : State) (k : Nat) (mac : BitVec 48),
     (Instr.nodeForget k mac).wf = true →
     s.mainUp = true →
     let keep (l : List (BitVec 48 × Nat)) : List (BitVec 48 × Nat) :=
       l.filter (fun p => !(p.1 == mac && decide (p.2 + (s.forgetNs k).2 ≤ s.clk.ns)))
     exec (.nodeForget k mac) s = .next (
       { s with
         sw.nodes := Tab.put s.sw.nodes k (keep (Tab.get [] s.sw.nodes k))
         sw.proxy := Tab.put s.sw.proxy k (keep (Tab.get [] s.sw.proxy k)) })) ∧
  (∀ (s : State) (fn : Nat) (val : Word),
     (Instr.fdbLookup fn val).wf = true →
     s.ownerIn fn = true →
     let v := val &&& 0x0FFFFFFF#32
     let s1 := s.wr (Reg.SW_FDB_KEY 1) v
     exec (.fdbLookup fn val) s = .next (s1.wr Reg.SW_FDB_RESULT (s1.fdbResult (fld v 16 12) ((v.setWidth 16 : Half) ++ s1.rd (Reg.SW_FDB_KEY 0))))) ∧
  (∀ (s : State) (p j lane size : Nat),
     (Instr.macCounterRead 0 p j lane size).wf = true →
     size ≠ 8 →
     s.reach 0 = true →
     s.dev.st ≠ .safeTalk →
     exec (.macCounterRead 0 p j lane size) s = .next (
       { s with sw.cntLatch := Tab.put s.sw.cntLatch (2048 * 0 + 33 * p + j) (s.rd (Reg.MAC_CNT p j 1) &&& 0xFFFF#32) }.answer
         (laneData (s.rd (Reg.MAC_CNT p j 0)) lane size)))

/-- Switch: pause, links, matching and transmission: the commands complete (R258, R273, R274, R276, R277). -/
def Obligations.TransmitCommandsComplete : Prop :=
  (∀ (s : State) (p : Nat) (cls : Option Nat),
     (Instr.pauseExpiry p cls).wf = true →
     s.mainUp = true →
     exec (.pauseExpiry p cls) s = .next (
       match cls with
       | none =>
         match Tab.find s.sw.pause p with
         | some t => if s.clk.ns < t then s else { s with sw.pause := Tab.del s.sw.pause p }.setPaused p false
         | none => s
       | some c =>
         match Tab.find s.sw.pfc (8 * p + c) with
         | some t => if s.clk.ns < t then s else { s with sw.pfc := Tab.del s.sw.pfc (8 * p + c) }.showPfc p
         | none => s)) ∧
  (∀ (s : State) (p pcp : Nat),
     (Instr.pauseSend p pcp).wf = true →
     s.mainUp = true →
     let pfc := s.rb (Reg.MAC_CFG p) 21
     s.macOn p = true →
     s.rb (Reg.MAC_CFG p) 22 = true →
     pfc = decide (pcp < 8) →
     let key := 9 * p + pcp
     let held := s.heldCells p pcp
     let sent := Tab.find s.sw.xoff key
     let cls : Option Nat := if pcp < 8 then some pcp else none
     let tx (v : Half) (t : State) : State :=
       { t with sw.pauseTx := Tab.put t.sw.pauseTx p (cls, v) }.macCnt p (if pfc then 29 else 28) 1
     let again : State := tx 0xFFFF { s with sw.xoff := Tab.put s.sw.xoff key s.clk.ns }
     exec (.pauseSend p pcp) s = .next (
       match sent with
       | none => if s.rf (Reg.MAC_PAUSE_CFG p) 16 16 < held then again else s
       | some t =>
         if held < s.rf (Reg.MAC_PAUSE_CFG p) 0 16 then tx 0 { s with sw.xoff := Tab.del s.sw.xoff key }
         else if s.rf (Reg.MAC_PAUSE_CFG p) 0 16 < held && decide (t + s.bitsNs p (0xFFFF * 256) ≤ s.clk.ns) then again
         else s)) ∧
  (∀ (s : State) (p : Nat),
     (Instr.linkDown p).wf = true →
     s.mainUp = true →
     s.macOn p = true →
     s.macUp p = true →
     exec (.linkDown p) s = .next ((s.linkChange p false).flushPort p)) ∧
  (∀ (s : State) (p : Nat) (speed : BitVec 2) (anDone : Bool),
     (Instr.linkUp p speed anDone).wf = true →
     s.mainUp = true →
     s.macOn p = true →
     exec (.linkUp p speed anDone) s = .next (((s.linkChange p true).wf (Reg.MAC_STAT p) 29 2 (if s.macMode p = 3 then speed.toNat else 3)).wb (Reg.MAC_STAT p) 16 anDone)) ∧
  (∀ (s : State),
     s.mainUp = true →
     let outs := (List.range 52).filterMap (fun o =>
       if s.requests o then (s.topQueue (s.laneOfPort o)).map (fun q => (o, q)) else none)
     let m := s.matchIter false outs (s.matchIter false outs (s.matchIter true outs ⟨[], s.sw.grant, s.sw.accept⟩))
     exec .crossbarMatch s = .next (
       eachIn m.pairs (fun p t => t.transfer p.1 p.2 (((outs.find? (fun o => o.1 == p.2)).map (fun o => o.2)).getD 0))
         { s with sw.grant := m.grant, sw.accept := m.accept })) ∧
  (∀ (s : State) (p : Nat) (ecc begun : Bool) (phase : Nat),
     (Instr.frameTransmit p ecc begun phase).wf = true →
     s.mainUp = true →
     ∀ z1 x t,
     Tab.get [] s.sw.staged p = (z1, x) :: t →
     Tab.get 0 s.sw.wire p ≤ s.clk.ns →
     (Tab.find s.sw.pause p).isSome = false →
     let s0 := { s with sw.staged := Tab.put s.sw.staged p t }
     let wire (more : Nat) (u : State) : State :=
       { u with
         sw.wire := Tab.put u.sw.wire p (s.clk.ns + s.bitsNs p ((x.frame.len + more + 20) * 8))
         sw.lastTx := some (p, { x.frame with fcsBad := ecc }) }
     exec (.frameTransmit p ecc begun phase) s = .next (
       if ecc && !begun then (s0.bufBack x).eccDrop p
       else if ecc then ((wire 0 s0).bufBack x).eccDrop p
       else if 48 ≤ p then (wire 0 s0).bufBack x
       else if 40 ≤ p then
         let n := 4 * (p - 40) + x.frame.cls.1 % 4
         match (Tab.get Engine.zero s.eng n).freeBuf with
         | some b => ((wire 0 s0).toEngine n x b).bufBack x
         | none => s
       else if 1528 < x.frame.len then (s0.bufBack x).macCnt p 31 1
       else
         match s0.msecTx p with
         | (none, s1) => s1.bufBack x
         | (some n, s1) =>
           let s2 := ((wire n s1).bufBack x).countTx p x.frame
           match x.frame.stamp with
           | some id => s2.tsqPush p (tsRec (s2.egressT p 0 phase) id)
           | none => s2))

/-- Coprocessor operations of an engine complete (R300, R301, R302). -/
def Obligations.CoprocessorCommandsComplete : Prop :=
  (∀ (s : State) (n : Nat) (st : CopStart),
     (Instr.crc n st).wf = true →
     s.mainUp = true →
     s.copIssues n st = true →
     exec (.crc n st) s = .next (s.copDo n 1 st)) ∧
  (∀ (s : State) (n : Nat) (st : CopStart),
     (Instr.shaBlock n st).wf = true →
     s.mainUp = true →
     s.copIssues n st = true →
     exec (.shaBlock n st) s = .next (s.copDo n 2 st)) ∧
  (∀ (s : State) (n : Nat) (st : CopStart),
     (Instr.gmacCheck n st).wf = true →
     s.mainUp = true →
     s.copIssues n st = true →
     exec (.gmacCheck n st) s = .next (s.copDo n 3 st)) ∧
  (∀ (s : State) (n : Nat) (st : CopStart),
     (Instr.gmacSign n st).wf = true →
     s.mainUp = true →
     s.copIssues n st = true →
     exec (.gmacSign n st) s = .next (s.copDo n 4 st)) ∧
  (∀ (s : State) (n : Nat) (st : CopStart),
     (Instr.gcmSeal n st).wf = true →
     s.mainUp = true →
     s.copIssues n st = true →
     exec (.gcmSeal n st) s = .next (s.copDo n 5 st)) ∧
  (∀ (s : State) (n : Nat) (st : CopStart),
     (Instr.gcmOpen n st).wf = true →
     s.mainUp = true →
     s.copIssues n st = true →
     exec (.gcmOpen n st) s = .next (s.copDo n 6 st)) ∧
  (∀ (s : State) (n : Nat) (st : CopStart),
     (Instr.keyLoad n st).wf = true →
     s.mainUp = true →
     s.copIssues n st = true →
     exec (.keyLoad n st) s = .next (s.copDo n 7 st)) ∧
  (∀ (s : State) (n : Nat) (st : CopStart),
     (Instr.rng n st).wf = true →
     s.mainUp = true →
     s.copIssues n st = true →
     exec (.rng n st) s = .next (s.copDo n 8 st)) ∧
  (∀ (s : State) (n : Nat) (p : Proc),
     (Instr.copComplete n p).wf = true →
     s.mainUp = true →
     ∀ k res st stores,
     (s.cop n p).op = some (k, res, st, stores) →
     exec (.copComplete n p) s = .next (
       ((s.setCop n p { s.cop n p with op := none, busy := false, status := st, res := res, resIdx := 0 }).localPuts n
         (s.cop n p).dst.toNat stores).copEdge n p))

/-- Engines: load, restart, watchdog and personality events complete (R295, R307, R309, R312, R316). -/
def Obligations.EngineCommandsComplete : Prop :=
  (∀ (s : State) (n : Nat) (flashOk : Bool),
     (Instr.engineLoad n flashOk).wf = true →
     s.mainUp = true →
     let w := engWing n
     s.dev.stew.at_ w = true →
     s.dev.core.at_ w = false →
     s.peState n = 0 →
     (s.dev.st.serving || s.dev.st == .configuring) = true →
     let s1 := if s.actEngines.contains n then { s with upd.loaded := n :: s.upd.loaded } else s
     exec (.engineLoad n flashOk) s = .next (
       if !flashOk then s1.actCheck
       else
         (match s1.goodPackage n with
           | some k => s1.loadEngine n k
           | none => s1.notePkgFault n).actCheck)) ∧
  (∀ (s : State) (n : Nat),
     (Instr.engineRestart n).wf = true →
     s.mainUp = true →
     let e := s.en n
     ∀ k,
     e.pkg = some k →
     let recent := e.restarts.filter (fun t => decide (e.trapAt < t + 10000000000))
     s.peState n = 3 →
     k.autoRestart = true →
     s.stewUp (engWing n) = true →
     ¬ (s.clk.ns < e.trapAt + 1000000) →
     ¬ (3 ≤ recent.length) →
     exec (.engineRestart n) s = .next (((s.setEn n { e with restarts := e.trapAt :: recent }).cnt (Reg.PE_RESTARTS n) 0 32 1).loadEngine n k)) ∧
  (∀ (s : State) (n : Nat),
     (Instr.watchdog n).wf = true →
     s.mainUp = true →
     ∀ k,
     (s.en n).pkg = some k →
     k.wdtMs ≠ 0 →
     s.peState n = 2 →
     ¬ (s.clk.ns < (s.en n).kickAt + k.wdtMs * 1000000) →
     let w := (s.freshWord &&& 0x4000FFFF#32) ||| 0x80060000#32
     exec (.watchdog n) s = .next ((s.used 1).engineTrapWith n w)) ∧
  (∀ (s : State) (n : Nat) (p : EngStore),
     (Instr.wdtKick n p).wf = true →
     s.mainUp = true →
     s.storeIssues n p = true →
     exec (.wdtKick n p) s = .next (s.storeDo n p)) ∧
  (∀ (s : State) (n : Nat) (p : EngStore),
     (Instr.persEvent n p).wf = true →
     s.mainUp = true →
     s.storeIssues n p = true →
     exec (.persEvent n p) s = .next (s.storeDo n p)) ∧
  (∀ (s : State) (fn n : Nat) (val : Word),
     (Instr.peDbankAddrWrite fn n val).wf = true →
     s.ownerIn fn = true →
     exec (.peDbankAddrWrite fn n val) s = .next (s.wf (Reg.PE_DBANK_ADDR n) 0 16 (fld val 0 16)))

/-- Frame processor: moves into the ALUs, the shifter and the comparator complete (R327, R328). -/
def Obligations.FpArithmeticComplete : Prop :=
  (∀ (s : State) (n alu : Nat) (m : FpMv),
     (Instr.fpAdd n alu m).wf = true →
     s.mainUp = true →
     s.fpIssues n m.guard m.long m.src (18 + 10 * alu) = true →
     exec (.fpAdd n alu m) s = .next (s.fpMoveDo n m.long m.src (fun v t => eff (t.fpAluGo n alu .add v)))) ∧
  (∀ (s : State) (n alu : Nat) (m : FpMv),
     (Instr.fpSub n alu m).wf = true →
     s.mainUp = true →
     s.fpIssues n m.guard m.long m.src (19 + 10 * alu) = true →
     exec (.fpSub n alu m) s = .next (s.fpMoveDo n m.long m.src (fun v t => eff (t.fpAluGo n alu .sub v)))) ∧
  (∀ (s : State) (n alu : Nat) (m : FpMv),
     (Instr.fpAnd n alu m).wf = true →
     s.mainUp = true →
     s.fpIssues n m.guard m.long m.src (20 + 10 * alu) = true →
     exec (.fpAnd n alu m) s = .next (s.fpMoveDo n m.long m.src (fun v t => eff (t.fpAluGo n alu .and v)))) ∧
  (∀ (s : State) (n alu : Nat) (m : FpMv),
     (Instr.fpOr n alu m).wf = true →
     s.mainUp = true →
     s.fpIssues n m.guard m.long m.src (21 + 10 * alu) = true →
     exec (.fpOr n alu m) s = .next (s.fpMoveDo n m.long m.src (fun v t => eff (t.fpAluGo n alu .or v)))) ∧
  (∀ (s : State) (n alu : Nat) (m : FpMv),
     (Instr.fpXor n alu m).wf = true →
     s.mainUp = true →
     s.fpIssues n m.guard m.long m.src (22 + 10 * alu) = true →
     exec (.fpXor n alu m) s = .next (s.fpMoveDo n m.long m.src (fun v t => eff (t.fpAluGo n alu .xor v)))) ∧
  (∀ (s : State) (n alu : Nat) (m : FpMv),
     (Instr.fpAndn n alu m).wf = true →
     s.mainUp = true →
     s.fpIssues n m.guard m.long m.src (23 + 10 * alu) = true →
     exec (.fpAndn n alu m) s = .next (s.fpMoveDo n m.long m.src (fun v t => eff (t.fpAluGo n alu .andn v)))) ∧
  (∀ (s : State) (n alu : Nat) (m : FpMv),
     (Instr.fpAdc n alu m).wf = true →
     s.mainUp = true →
     s.fpIssues n m.guard m.long m.src (24 + 10 * alu) = true →
     exec (.fpAdc n alu m) s = .next (s.fpMoveDo n m.long m.src (fun v t => eff (t.fpAluGo n alu .adc v)))) ∧
  (∀ (s : State) (n alu : Nat) (m : FpMv),
     (Instr.fpSbb n alu m).wf = true →
     s.mainUp = true →
     s.fpIssues n m.guard m.long m.src (25 + 10 * alu) = true →
     exec (.fpSbb n alu m) s = .next (s.fpMoveDo n m.long m.src (fun v t => eff (t.fpAluGo n alu .sbb v)))) ∧
  (∀ (s : State) (n : Nat) (m : FpMv),
     (Instr.fpShl n m).wf = true →
     s.mainUp = true →
     s.fpIssues n m.guard m.long m.src 38 = true →
     exec (.fpShl n m) s = .next (s.fpMoveDo n m.long m.src (fun v t => eff (t.fpShiftGo n .shl v)))) ∧
  (∀ (s : State) (n : Nat) (m : FpMv),
     (Instr.fpShr n m).wf = true →
     s.mainUp = true →
     s.fpIssues n m.guard m.long m.src 39 = true →
     exec (.fpShr n m) s = .next (s.fpMoveDo n m.long m.src (fun v t => eff (t.fpShiftGo n .shr v)))) ∧
  (∀ (s : State) (n : Nat) (m : FpMv),
     (Instr.fpSar n m).wf = true →
     s.mainUp = true →
     s.fpIssues n m.guard m.long m.src 40 = true →
     exec (.fpSar n m) s = .next (s.fpMoveDo n m.long m.src (fun v t => eff (t.fpShiftGo n .sar v)))) ∧
  (∀ (s : State) (n : Nat) (m : FpMv),
     (Instr.fpRol n m).wf = true →
     s.mainUp = true →
     s.fpIssues n m.guard m.long m.src 41 = true →
     exec (.fpRol n m) s = .next (s.fpMoveDo n m.long m.src (fun v t => eff (t.fpShiftGo n .rol v)))) ∧
  (∀ (s : State) (n : Nat) (m : FpMv),
     (Instr.fpRor n m).wf = true →
     s.mainUp = true →
     s.fpIssues n m.guard m.long m.src 42 = true →
     exec (.fpRor n m) s = .next (s.fpMoveDo n m.long m.src (fun v t => eff (t.fpShiftGo n .ror v)))) ∧
  (∀ (s : State) (n : Nat) (m : FpMv),
     (Instr.fpSwap n m).wf = true →
     s.mainUp = true →
     s.fpIssues n m.guard m.long m.src 43 = true →
     exec (.fpSwap n m) s = .next (s.fpMoveDo n m.long m.src (fun v t => eff (t.fpShiftGo n .swap v)))) ∧
  (∀ (s : State) (n : Nat) (m : FpMv),
     (Instr.fpEq n m).wf = true →
     s.mainUp = true →
     s.fpIssues n m.guard m.long m.src 46 = true →
     exec (.fpEq n m) s = .next (s.fpMoveDo n m.long m.src (fun v t => eff (t.fpCmpGo n .eq v)))) ∧
  (∀ (s : State) (n : Nat) (m : FpMv),
     (Instr.fpNe n m).wf = true →
     s.mainUp = true →
     s.fpIssues n m.guard m.long m.src 47 = true →
     exec (.fpNe n m) s = .next (s.fpMoveDo n m.long m.src (fun v t => eff (t.fpCmpGo n .ne v)))) ∧
  (∀ (s : State) (n : Nat) (m : FpMv),
     (Instr.fpLtu n m).wf = true →
     s.mainUp = true →
     s.fpIssues n m.guard m.long m.src 48 = true →
     exec (.fpLtu n m) s = .next (s.fpMoveDo n m.long m.src (fun v t => eff (t.fpCmpGo n .ltu v)))) ∧
  (∀ (s : State) (n : Nat) (m : FpMv),
     (Instr.fpLeu n m).wf = true →
     s.mainUp = true →
     s.fpIssues n m.guard m.long m.src 49 = true →
     exec (.fpLeu n m) s = .next (s.fpMoveDo n m.long m.src (fun v t => eff (t.fpCmpGo n .leu v)))) ∧
  (∀ (s : State) (n : Nat) (m : FpMv),
     (Instr.fpLt n m).wf = true →
     s.mainUp = true →
     s.fpIssues n m.guard m.long m.src 50 = true →
     exec (.fpLt n m) s = .next (s.fpMoveDo n m.long m.src (fun v t => eff (t.fpCmpGo n .lt v)))) ∧
  (∀ (s : State) (n : Nat) (m : FpMv),
     (Instr.fpLe n m).wf = true →
     s.mainUp = true →
     s.fpIssues n m.guard m.long m.src 51 = true →
     exec (.fpLe n m) s = .next (s.fpMoveDo n m.long m.src (fun v t => eff (t.fpCmpGo n .le v)))) ∧
  (∀ (s : State) (n : Nat) (m : FpMv),
     (Instr.fpBit n m).wf = true →
     s.mainUp = true →
     s.fpIssues n m.guard m.long m.src 52 = true →
     exec (.fpBit n m) s = .next (s.fpMoveDo n m.long m.src (fun v t => eff (t.fpCmpGo n .bit v)))) ∧
  (∀ (s : State) (n : Nat) (m : FpMv),
     (Instr.fpAny n m).wf = true →
     s.mainUp = true →
     s.fpIssues n m.guard m.long m.src 53 = true →
     exec (.fpAny n m) s = .next (s.fpMoveDo n m.long m.src (fun v t => eff (t.fpCmpGo n .any v)))) ∧
  (∀ (s : State) (n : Nat) (m : FpMv),
     (Instr.fpGrd n m).wf = true →
     s.mainUp = true →
     s.fpIssues n m.guard m.long m.src 54 = true →
     exec (.fpGrd n m) s = .next (s.fpMoveDo n m.long m.src (fun v t => eff (t.onFp n (fun f => { f with grd := v.setWidth 8 })))))

/-- Frame processor: plain moves, jumps, repetitions, events and semaphores complete (R319, R333, R337, R338, R339, R340, R341). -/
def Obligations.FpControlComplete : Prop :=
  (∀ (s : State) (n : Nat) (w0 w1 : Half),
     (Instr.fpMove n w0 w1).wf = true →
     s.mainUp = true →
     (tst w0 15 = false →
       let src : FpSrc := if tst w0 7 then .imm (BitVec.ofNat 16 (fld w0 0 7)) else .port (fld w0 0 7)
       s.fpIssues n .always false src (fld w0 8 7) = true →
       exec (.fpMove n w0 w1) s = .next (s.fpMoveDo n false src (fun v t => t.fpWrite n (fld w0 8 7) v none))) ∧
     (tst w0 15 = true → tst w0 8 = false → fld w0 9 2 ≠ 3 → (tst w0 14 = true ∨ fld w1 8 8 = 0) →
       let src : FpSrc := if tst w0 14 then .imm w1 else .port (fld w1 0 8)
       let g : FpGuard := if fld w0 9 2 = 1 then .ifOne (fld w0 11 3) else if fld w0 9 2 = 2 then .ifZero (fld w0 11 3) else .always
       s.fpIssues n g true src (fld w0 0 8) = true →
       exec (.fpMove n w0 w1) s = .next (s.fpMoveDo n true src (fun v t => t.fpWrite n (fld w0 0 8) v none)))) ∧
  (∀ (s : State) (n : Nat) (m : FpMv),
     (Instr.jmp n m).wf = true →
     s.mainUp = true →
     s.fpIssues n m.guard m.long m.src 87 = true →
     exec (.jmp n m) s = .next (s.fpMoveDo n m.long m.src (fun v t => eff (t.fpGoto n v)))) ∧
  (∀ (s : State) (n : Nat) (m : FpMv),
     (Instr.call n m).wf = true →
     s.mainUp = true →
     s.fpIssues n m.guard m.long m.src 88 = true →
     exec (.call n m) s = .next (s.fpMoveDo n m.long m.src (fun v t => t.fpCallGo n v))) ∧
  (∀ (s : State) (n : Nat) (m : FpMv),
     (Instr.ret n m).wf = true →
     s.mainUp = true →
     s.fpIssues n m.guard m.long m.src 89 = true →
     exec (.ret n m) s = .next (s.fpMoveDo n m.long m.src (fun _ t => t.fpRetGo n))) ∧
  (∀ (s : State) (n : Nat) (m : FpMv),
     (Instr.eret n m).wf = true →
     s.mainUp = true →
     s.fpIssues n m.guard m.long m.src 90 = true →
     exec (.eret n m) s = .next (s.fpMoveDo n m.long m.src (fun _ t => t.fpEretGo n))) ∧
  (∀ (s : State) (n : Nat) (m : FpMv),
     (Instr.ipendClear n m).wf = true →
     s.mainUp = true →
     s.fpIssues n m.guard m.long m.src 92 = true →
     exec (.ipendClear n m) s = .next (s.fpMoveDo n m.long m.src (fun v t => eff (t.onFp n (fun f => { f with ipend := f.ipend &&& ~~~ v.setWidth 8 }))))) ∧
  (∀ (s : State) (n : Nat) (m : FpMv),
     (Instr.rpt n m).wf = true →
     s.mainUp = true →
     s.fpIssues n m.guard m.long m.src 96 = true →
     exec (.rpt n m) s = .next (s.fpMoveDo n m.long m.src (fun v t => t.fpRptGo n v))) ∧
  (∀ (s : State) (n : Nat),
     (Instr.fpEventEntry n).wf = true →
     s.mainUp = true →
     let f := (s.en n).fp
     let take := (s.fpPending n &&& f.ien &&& 0xFF)
     s.fpRuns n = true →
     tst f.ien 15 = true →
     f.inEv = false →
     take ≠ 0 →
     (decide (0 < f.rptLeft) && f.rptHard) = false →
     ∀ e,
     ((List.range 8).find? (fun e => tst take e)) = some e →
     ∀ k,
     (s.en n).pkg = some k →
     exec (.fpEventEntry n) s = .next (
       ((s.copSettle n .fp).onFp n (fun h => { h with
         epc := h.pc, savG := h.grd
         erpt := if h.rptLeft = 0 then 0 else BitVec.ofNat 16 (h.rptLeft + bitOf h.rptHard * 2 ^ 15)
         rptLeft := 0, rptHard := false, ien := h.ien &&& 0x7FFF, inEv := true
         pc := BitVec.ofNat 16 (k.fpBase + 2 * e) })).fpFetchNext n)) ∧
  (∀ (s : State) (n : Nat) (m : FpMv),
     (Instr.tas n m).wf = true →
     s.mainUp = true →
     s.fpIssues n m.guard m.long m.src 97 = true →
     exec (.tas n m) s = .next (s.fpMoveDo n m.long m.src (fun v t => eff (t.fpTas n v)))) ∧
  (∀ (s : State) (n : Nat) (m : FpMv),
     (Instr.semClr n m).wf = true →
     s.mainUp = true →
     s.fpIssues n m.guard m.long m.src 99 = true →
     exec (.semClr n m) s = .next (s.fpMoveDo n m.long m.src (fun v t => eff (t.fpSemClr n v))))

/-- Frame processor: cursors, checks, queues, timestamps and tables complete (R329, R330, R331, R332, R334, R335). -/
def Obligations.FpUnitsComplete : Prop :=
  (∀ (s : State) (n cur dst : Nat) (m : FpGd),
     (Instr.caRw n cur dst m).wf = true →
     s.mainUp = true →
     s.fpIssues n m.guard m.long (.port (58 + 8 * cur)) dst = true →
     exec (.caRw n cur dst m) s = .next (State.fpEnd n (s.en n).fp.pc (s.curWord n cur (fun v t =>
       ((t.advance n cur 2).fpAdvance n (if m.long then 2 else 1)).fpWrite n dst v none)))) ∧
  (∀ (s : State) (n cur dst : Nat) (m : FpGd),
     (Instr.caRb n cur dst m).wf = true →
     s.mainUp = true →
     s.fpIssues n m.guard m.long (.port (59 + 8 * cur)) dst = true →
     exec (.caRb n cur dst m) s = .next (State.fpEnd n (s.en n).fp.pc (s.curOctet n cur (fun v t =>
       ((t.advance n cur 1).fpAdvance n (if m.long then 2 else 1)).fpWrite n dst v none)))) ∧
  (∀ (s : State) (n cur : Nat) (m : FpMv),
     (Instr.caWw n cur m).wf = true →
     s.mainUp = true →
     s.fpIssues n m.guard m.long m.src (60 + 8 * cur) = true →
     exec (.caWw n cur m) s = .next (s.fpMoveDo n m.long m.src (fun v t => (t.curPut n cur v).bind (fun u => eff (u.advance n cur 2))))) ∧
  (∀ (s : State) (n cur : Nat) (m : FpMv),
     (Instr.caWb n cur m).wf = true →
     s.mainUp = true →
     s.fpIssues n m.guard m.long m.src (61 + 8 * cur) = true →
     exec (.caWb n cur m) s = .next (s.fpMoveDo n m.long m.src (fun v t => (t.curByte n cur v).bind (fun u => eff (u.advance n cur 1))))) ∧
  (∀ (s : State) (n cur dst : Nat) (m : FpGd),
     (Instr.caPk n cur dst m).wf = true →
     s.mainUp = true →
     s.fpIssues n m.guard m.long (.port (62 + 8 * cur)) dst = true →
     exec (.caPk n cur dst m) s = .next (State.fpEnd n (s.en n).fp.pc (s.curWord n cur (fun v t =>
       (t.fpAdvance n (if m.long then 2 else 1)).fpWrite n dst v none)))) ∧
  (∀ (s : State) (n : Nat) (m : FpMv),
     (Instr.crcCfg n m).wf = true →
     s.mainUp = true →
     s.fpIssues n m.guard m.long m.src 71 = true →
     exec (.crcCfg n m) s = .next (s.fpMoveDo n m.long m.src (fun v t => eff (t.crcCfgGo n v)))) ∧
  (∀ (s : State) (n : Nat) (m : FpMv),
     (Instr.crcT n m).wf = true →
     s.mainUp = true →
     s.fpIssues n m.guard m.long m.src 72 = true →
     exec (.crcT n m) s = .next (s.fpMoveDo n m.long m.src (fun v t => eff (t.crcFeed n (halvesOctets [v]))))) ∧
  (∀ (s : State) (n : Nat) (m : FpMv),
     (Instr.crcTb n m).wf = true →
     s.mainUp = true →
     s.fpIssues n m.guard m.long m.src 73 = true →
     exec (.crcTb n m) s = .next (s.fpMoveDo n m.long m.src (fun v t => eff (t.crcFeed n [v.setWidth 8])))) ∧
  (∀ (s : State) (n : Nat) (m : FpMv),
     (Instr.sumSet n m).wf = true →
     s.mainUp = true →
     s.fpIssues n m.guard m.long m.src 76 = true →
     exec (.sumSet n m) s = .next (s.fpMoveDo n m.long m.src (fun v t => eff (t.onFp n (fun f => { f with sum := v }))))) ∧
  (∀ (s : State) (n : Nat) (m : FpMv),
     (Instr.sumT n m).wf = true →
     s.mainUp = true →
     s.fpIssues n m.guard m.long m.src 77 = true →
     exec (.sumT n m) s = .next (s.fpMoveDo n m.long m.src (fun v t => eff (t.onFp n (fun f => { f with sum := onesAdd f.sum v }))))) ∧
  (∀ (s : State) (n : Nat) (m : FpMv),
     (Instr.qinPop n m).wf = true →
     s.mainUp = true →
     s.fpIssues n m.guard m.long m.src 79 = true →
     exec (.qinPop n m) s = .next (s.fpMoveDo n m.long m.src (fun v t => eff (t.qinPopGo n v)))) ∧
  (∀ (s : State) (n : Nat) (m : FpMv),
     (Instr.qinFree n m).wf = true →
     s.mainUp = true →
     s.fpIssues n m.guard m.long m.src 82 = true →
     exec (.qinFree n m) s = .next (s.fpMoveDo n m.long m.src (fun v t => t.qinFreeGo n v))) ∧
  (∀ (s : State) (n : Nat) (m : FpMv),
     (Instr.qoutPush n m).wf = true →
     s.mainUp = true →
     s.fpIssues n m.guard m.long m.src 84 = true →
     exec (.qoutPush n m) s = .next (s.fpMoveDo n m.long m.src (fun _ t => t.qoutPushGo n))) ∧
  (∀ (s : State) (n dst : Nat) (m : FpGd),
     (Instr.qoutDone n dst m).wf = true →
     s.mainUp = true →
     s.fpIssues n m.guard m.long (.port 86) dst = true →
     exec (.qoutDone n dst m) s = .next (State.fpEnd n (s.en n).fp.pc
       (((s.onFp n (fun g => { g with done := g.done.drop 1 })).fpAdvance n (if m.long then 2 else 1)).fpWrite n dst
         ((s.en n).fp.done.headD 0xFFFF) none))) ∧
  (∀ (s : State) (n : Nat) (m : FpMv),
     (Instr.tsqPop n m).wf = true →
     s.mainUp = true →
     s.fpIssues n m.guard m.long m.src 101 = true →
     exec (.tsqPop n m) s = .next (s.fpMoveDo n m.long m.src (fun _ t => eff (t.tsqPopGo n)))) ∧
  (∀ (s : State) (n : Nat) (m : FpMv),
     (Instr.now n m).wf = true →
     s.mainUp = true →
     s.fpIssues n m.guard m.long m.src 102 = true →
     exec (.now n m) s = .next (s.fpMoveDo n m.long m.src (fun _ t => eff (t.tsqNowGo n)))) ∧
  (∀ (s : State) (n : Nat) (m : FpMv),
     (Instr.rx n m).wf = true →
     s.mainUp = true →
     s.fpIssues n m.guard m.long m.src 103 = true →
     exec (.rx n m) s = .next (s.fpMoveDo n m.long m.src (fun v t => eff (t.tsqRxGo n v)))) ∧
  (∀ (s : State) (n : Nat) (m : FpMv),
     (Instr.lutT n m).wf = true →
     s.mainUp = true →
     s.fpIssues n m.guard m.long m.src 107 = true →
     exec (.lutT n m) s = .next (s.fpMoveDo n m.long m.src (fun _ t => t.lutGo n)))

/-- Session processor: arithmetic and logic complete (R349). -/
def Obligations.SpArithmeticComplete : Prop :=
  (∀ (s : State) (n d : Nat) (src : SpSrc),
     (Instr.mov n d src).wf = true →
     s.mainUp = true →
     s.spIssues n (srcWords src) true = true →
     exec (.mov n d src) s = .next (s.spDo n (srcWords src) (fun t => t.spAluGo n d .mov src))) ∧
  (∀ (s : State) (n d : Nat) (src : SpSrc),
     (Instr.spAdd n d src).wf = true →
     s.mainUp = true →
     s.spIssues n (srcWords src) true = true →
     exec (.spAdd n d src) s = .next (s.spDo n (srcWords src) (fun t => t.spAluGo n d .add src))) ∧
  (∀ (s : State) (n d : Nat) (src : SpSrc),
     (Instr.spAdc n d src).wf = true →
     s.mainUp = true →
     s.spIssues n (srcWords src) true = true →
     exec (.spAdc n d src) s = .next (s.spDo n (srcWords src) (fun t => t.spAluGo n d .adc src))) ∧
  (∀ (s : State) (n d : Nat) (src : SpSrc),
     (Instr.spSub n d src).wf = true →
     s.mainUp = true →
     s.spIssues n (srcWords src) true = true →
     exec (.spSub n d src) s = .next (s.spDo n (srcWords src) (fun t => t.spAluGo n d .sub src))) ∧
  (∀ (s : State) (n d : Nat) (src : SpSrc),
     (Instr.spSbb n d src).wf = true →
     s.mainUp = true →
     s.spIssues n (srcWords src) true = true →
     exec (.spSbb n d src) s = .next (s.spDo n (srcWords src) (fun t => t.spAluGo n d .sbb src))) ∧
  (∀ (s : State) (n d : Nat) (src : SpSrc),
     (Instr.cmp n d src).wf = true →
     s.mainUp = true →
     s.spIssues n (srcWords src) true = true →
     exec (.cmp n d src) s = .next (s.spDo n (srcWords src) (fun t => t.spAluGo n d .cmp src))) ∧
  (∀ (s : State) (n d : Nat) (src : SpSrc),
     (Instr.spAnd n d src).wf = true →
     s.mainUp = true →
     s.spIssues n (srcWords src) true = true →
     exec (.spAnd n d src) s = .next (s.spDo n (srcWords src) (fun t => t.spAluGo n d .and src))) ∧
  (∀ (s : State) (n d : Nat) (src : SpSrc),
     (Instr.spOr n d src).wf = true →
     s.mainUp = true →
     s.spIssues n (srcWords src) true = true →
     exec (.spOr n d src) s = .next (s.spDo n (srcWords src) (fun t => t.spAluGo n d .or src))) ∧
  (∀ (s : State) (n d : Nat) (src : SpSrc),
     (Instr.spXor n d src).wf = true →
     s.mainUp = true →
     s.spIssues n (srcWords src) true = true →
     exec (.spXor n d src) s = .next (s.spDo n (srcWords src) (fun t => t.spAluGo n d .xor src))) ∧
  (∀ (s : State) (n d : Nat) (src : SpSrc),
     (Instr.spAndn n d src).wf = true →
     s.mainUp = true →
     s.spIssues n (srcWords src) true = true →
     exec (.spAndn n d src) s = .next (s.spDo n (srcWords src) (fun t => t.spAluGo n d .andn src))) ∧
  (∀ (s : State) (n d : Nat) (src : SpSrc),
     (Instr.tst n d src).wf = true →
     s.mainUp = true →
     s.spIssues n (srcWords src) true = true →
     exec (.tst n d src) s = .next (s.spDo n (srcWords src) (fun t => t.spAluGo n d .tst src))) ∧
  (∀ (s : State) (n d : Nat) (src : SpSrc),
     (Instr.spShl n d src).wf = true →
     s.mainUp = true →
     s.spIssues n (srcWords src) true = true →
     exec (.spShl n d src) s = .next (s.spDo n (srcWords src) (fun t => t.spAluGo n d .shl src))) ∧
  (∀ (s : State) (n d : Nat) (src : SpSrc),
     (Instr.spShr n d src).wf = true →
     s.mainUp = true →
     s.spIssues n (srcWords src) true = true →
     exec (.spShr n d src) s = .next (s.spDo n (srcWords src) (fun t => t.spAluGo n d .shr src))) ∧
  (∀ (s : State) (n d : Nat) (src : SpSrc),
     (Instr.spSar n d src).wf = true →
     s.mainUp = true →
     s.spIssues n (srcWords src) true = true →
     exec (.spSar n d src) s = .next (s.spDo n (srcWords src) (fun t => t.spAluGo n d .sar src))) ∧
  (∀ (s : State) (n d : Nat) (src : SpSrc),
     (Instr.spRol n d src).wf = true →
     s.mainUp = true →
     s.spIssues n (srcWords src) true = true →
     exec (.spRol n d src) s = .next (s.spDo n (srcWords src) (fun t => t.spAluGo n d .rol src))) ∧
  (∀ (s : State) (n d : Nat) (src : SpSrc),
     (Instr.spBit n d src).wf = true →
     s.mainUp = true →
     s.spIssues n (srcWords src) true = true →
     exec (.spBit n d src) s = .next (s.spDo n (srcWords src) (fun t => t.spAluGo n d .bit src))) ∧
  (∀ (s : State) (n ac db : Nat),
     (Instr.asr n ac db).wf = true →
     s.mainUp = true →
     s.spIssues n 1 true = true →
     exec (.asr n ac db) s = .next (s.spDo n 1 (fun t => eff (t.setAcc n ac ((t.acc n ac).sshiftRight (fld (t.dReg n db) 0 5))))))

/-- Session processor: loads, stores, address registers and the stack complete (R343, R349, R350, R352, R353). -/
def Obligations.SpMemoryComplete : Prop :=
  (∀ (s : State) (n : Nat) (x : SpReg) (am : Nat) (mode : SpMode),
     (Instr.localLoad n x am mode).wf = true →
     s.mainUp = true →
     s.spIssues n 1 true = true →
     exec (.localLoad n x am mode) s = .next (s.spDo n 1 (fun t => t.spLoad n .loc x (t.effAddr n am mode) am (t.stepAddr n am mode)))) ∧
  (∀ (s : State) (n : Nat) (x : SpReg) (am : Nat) (mode : SpMode),
     (Instr.localStore n x am mode).wf = true →
     s.mainUp = true →
     s.spIssues n 1 true = true →
     exec (.localStore n x am mode) s = .next (s.spDo n 1 (fun t => t.spStore n .loc x (t.effAddr n am mode) am (t.stepAddr n am mode)))) ∧
  (∀ (s : State) (n : Nat) (sp : Space) (am dn : Nat) (d16 : Half),
     (Instr.ldD n sp am dn d16).wf = true →
     s.mainUp = true →
     s.spIssues n 2 true = true →
     exec (.ldD n sp am dn d16) s = .next (s.spDo n 2 (fun t => t.spLoad n sp (.d dn) (t.dispAddr n am d16) am (t.aReg n am)))) ∧
  (∀ (s : State) (n : Nat) (sp : Space) (am an : Nat) (d16 : Half),
     (Instr.ldA n sp am an d16).wf = true →
     s.mainUp = true →
     s.spIssues n 2 true = true →
     exec (.ldA n sp am an d16) s = .next (s.spDo n 2 (fun t => t.spLoad n sp (.a an) (t.dispAddr n am d16) am (t.aReg n am)))) ∧
  (∀ (s : State) (n : Nat) (sp : Space) (am dn : Nat) (d16 : Half),
     (Instr.stD n sp am dn d16).wf = true →
     s.mainUp = true →
     s.spIssues n 2 true = true →
     exec (.stD n sp am dn d16) s = .next (s.spDo n 2 (fun t => t.spStore n sp (.d dn) (t.dispAddr n am d16) am (t.aReg n am)))) ∧
  (∀ (s : State) (n : Nat) (sp : Space) (am an : Nat) (d16 : Half),
     (Instr.stA n sp am an d16).wf = true →
     s.mainUp = true →
     s.spIssues n 2 true = true →
     exec (.stA n sp am an d16) s = .next (s.spDo n 2 (fun t => t.spStore n sp (.a an) (t.dispAddr n am d16) am (t.aReg n am)))) ∧
  (∀ (s : State) (n : Nat) (sp : Space) (am dn : Nat) (mode : SpMode),
     (Instr.ldx n sp am dn mode).wf = true →
     s.mainUp = true →
     s.spIssues n 2 true = true →
     exec (.ldx n sp am dn mode) s = .next (s.spDo n 2 (fun t => t.spLoad n sp (.d dn) (t.effAddr n am mode) am (t.stepAddr n am mode)))) ∧
  (∀ (s : State) (n : Nat) (sp : Space) (am dn : Nat) (mode : SpMode),
     (Instr.stx n sp am dn mode).wf = true →
     s.mainUp = true →
     s.spIssues n 2 true = true →
     exec (.stx n sp am dn mode) s = .next (s.spDo n 2 (fun t => t.spStore n sp (.d dn) (t.effAddr n am mode) am (t.stepAddr n am mode)))) ∧
  (∀ (s : State) (n : Nat) (sp : Space) (dn : Nat) (a : Half),
     (Instr.ldabs n sp dn a).wf = true →
     s.mainUp = true →
     s.spIssues n 2 true = true →
     exec (.ldabs n sp dn a) s = .next (s.spDo n 2 (fun t => effRead t (t.memRead n .sp sp a) (fun v u => eff (u.setD n dn v))))) ∧
  (∀ (s : State) (n : Nat) (sp : Space) (dn : Nat) (a : Half),
     (Instr.stabs n sp dn a).wf = true →
     s.mainUp = true →
     s.spIssues n 2 true = true →
     exec (.stabs n sp dn a) s = .next (s.spDo n 2 (fun t => effOf t (t.memWrite n .sp sp a (t.dReg n dn))))) ∧
  (∀ (s : State) (n an : Nat) (s9 : BitVec 9),
     (Instr.aaddShort n an s9).wf = true →
     s.mainUp = true →
     s.spIssues n 1 true = true →
     exec (.aaddShort n an s9) s = .next (s.spDo n 1 (fun t => eff (t.setA n an (t.aReg n an + s9.signExtend 16))))) ∧
  (∀ (s : State) (n : Nat) (dst src : SpReg),
     (Instr.xmov n dst src).wf = true →
     s.mainUp = true →
     s.spIssues n 1 true = true →
     exec (.xmov n dst src) s = .next (s.spDo n 1 (fun t => eff (t.setSpReg n (t.spReg n src) dst)))) ∧
  (∀ (s : State) (n an : Nat) (v : Half),
     (Instr.amov n an v).wf = true →
     s.mainUp = true →
     s.spIssues n 2 true = true →
     exec (.amov n an v) s = .next (s.spDo n 2 (fun t => eff (t.setA n an v)))) ∧
  (∀ (s : State) (n an : Nat) (v : Half),
     (Instr.aadd n an v).wf = true →
     s.mainUp = true →
     s.spIssues n 2 true = true →
     exec (.aadd n an v) s = .next (s.spDo n 2 (fun t => eff (t.setA n an (t.aReg n an + v))))) ∧
  (∀ (s : State) (n an : Nat) (v : Half),
     (Instr.asub n an v).wf = true →
     s.mainUp = true →
     s.spIssues n 2 true = true →
     exec (.asub n an v) s = .next (s.spDo n 2 (fun t => eff (t.setA n an (t.aReg n an - v))))) ∧
  (∀ (s : State) (n : Nat) (x : SpReg),
     (Instr.push n x).wf = true →
     s.mainUp = true →
     s.spIssues n 1 true = true →
     exec (.push n x) s = .next (s.spDo n 1 (fun t => t.pushWord n (t.spReg n x)))) ∧
  (∀ (s : State) (n : Nat) (x : SpReg),
     (Instr.pop n x).wf = true →
     s.mainUp = true →
     s.spIssues n 1 true = true →
     exec (.pop n x) s = .next (s.spDo n 1 (fun t => t.popWord n (fun v u => eff (u.setSpReg n v x))))) ∧
  (∀ (s : State) (n : Nat) (sp : Space) (am dn : Nat),
     (Instr.ldres n sp am dn).wf = true →
     s.mainUp = true →
     s.spIssues n 2 false = true →
     exec (.ldres n sp am dn) s = .next (s.spDo n 2 (fun t => t.ldresGo n sp am dn))) ∧
  (∀ (s : State) (n : Nat) (sp : Space) (am dn : Nat),
     (Instr.stcond n sp am dn).wf = true →
     s.mainUp = true →
     s.spIssues n 2 false = true →
     exec (.stcond n sp am dn) s = .next (s.spDo n 2 (fun t => t.stcondGo n sp am dn))) ∧
  (∀ (s : State) (n d i : Nat),
     (Instr.semtas n d i).wf = true →
     s.mainUp = true →
     s.spIssues n 1 true = true →
     exec (.semtas n d i) s = .next (
       s.spDo n 1 (fun t =>
         let old := t.sem n i
         eff (((t.setSem n i true).setD n d (BitVec.ofNat 16 (bitOf old))).setZ n (!old))))) ∧
  (∀ (s : State) (n i : Nat),
     (Instr.semclr n i).wf = true →
     s.mainUp = true →
     s.spIssues n 1 true = true →
     exec (.semclr n i) s = .next (s.spDo n 1 (fun t => eff ((t.setSem n i false).fpEdge n 4))))

/-- Session processor: multiplication and the accumulators complete (R349). -/
def Obligations.SpAccumulatorsComplete : Prop :=
  (∀ (s : State) (n ac da db : Nat),
     (Instr.mul n ac da db).wf = true →
     s.mainUp = true →
     s.spIssues n 1 true = true →
     exec (.mul n ac da db) s = .next (s.spDo n 1 (fun t => eff (t.accPut n ac (t.mulS n da db))))) ∧
  (∀ (s : State) (n ac da db : Nat),
     (Instr.mac n ac da db).wf = true →
     s.mainUp = true →
     s.spIssues n 1 true = true →
     exec (.mac n ac da db) s = .next (s.spDo n 1 (fun t => eff (t.accPut n ac ((t.acc n ac).toInt + t.mulS n da db))))) ∧
  (∀ (s : State) (n ac da db : Nat),
     (Instr.msu n ac da db).wf = true →
     s.mainUp = true →
     s.spIssues n 1 true = true →
     exec (.msu n ac da db) s = .next (s.spDo n 1 (fun t => eff (t.accPut n ac ((t.acc n ac).toInt - t.mulS n da db))))) ∧
  (∀ (s : State) (n ac da db : Nat),
     (Instr.mulu n ac da db).wf = true →
     s.mainUp = true →
     s.spIssues n 1 true = true →
     exec (.mulu n ac da db) s = .next (s.spDo n 1 (fun t => eff (t.accPut n ac (t.mulU n da db))))) ∧
  (∀ (s : State) (n ac da db : Nat),
     (Instr.macu n ac da db).wf = true →
     s.mainUp = true →
     s.spIssues n 1 true = true →
     exec (.macu n ac da db) s = .next (s.spDo n 1 (fun t => eff (t.accPut n ac ((t.acc n ac).toInt + t.mulU n da db))))) ∧
  (∀ (s : State) (n ac : Nat),
     (Instr.accClr n ac).wf = true →
     s.mainUp = true →
     s.spIssues n 1 true = true →
     exec (.accClr n ac) s = .next (s.spDo n 1 (fun t => eff (t.setAcc n ac 0)))) ∧
  (∀ (s : State) (n ac : Nat),
     (Instr.sat n ac).wf = true →
     s.mainUp = true →
     s.spIssues n 1 true = true →
     exec (.sat n ac) s = .next (
       s.spDo n 1 (fun t => eff (
         let x := (t.acc n ac).toInt
         if out32 x then (t.setAcc n ac (BitVec.ofInt 40 (if x < 0 then -(2 ^ 31) else 2 ^ 31 - 1))).setSat n else t)))) ∧
  (∀ (s : State) (n ac da : Nat),
     (Instr.norm n ac da).wf = true →
     s.mainUp = true →
     s.spIssues n 1 true = true →
     exec (.norm n ac da) s = .next (
       s.spDo n 1 (fun t => eff (
         let k := normShift (t.acc n ac)
         (t.setAcc n ac (t.acc n ac <<< k)).setD n da (BitVec.ofNat 16 k))))) ∧
  (∀ (s : State) (n ac : Nat),
     (Instr.rnd n ac).wf = true →
     s.mainUp = true →
     s.spIssues n 1 true = true →
     exec (.rnd n ac) s = .next (s.spDo n 1 (fun t => eff (t.accPut n ac ((t.acc n ac).toInt + 0x8000))))) ∧
  (∀ (s : State) (n ac da : Nat),
     (Instr.movh n ac da).wf = true →
     s.mainUp = true →
     s.spIssues n 1 true = true →
     exec (.movh n ac da) s = .next (
       s.spDo n 1 (fun t => eff (
         let x := (t.acc n ac).toInt
         if out32 x then (t.setD n da (if x < 0 then 0x8000 else 0x7FFF)).setSat n
         else t.setD n da ((t.acc n ac >>> (16 : Nat)).setWidth 16))))) ∧
  (∀ (s : State) (n ac da : Nat),
     (Instr.movl n ac da).wf = true →
     s.mainUp = true →
     s.spIssues n 1 true = true →
     exec (.movl n ac da) s = .next (s.spDo n 1 (fun t => eff (t.setD n da ((t.acc n ac).setWidth 16))))) ∧
  (∀ (s : State) (n ac da : Nat),
     (Instr.ldh n ac da).wf = true →
     s.mainUp = true →
     s.spIssues n 1 true = true →
     exec (.ldh n ac da) s = .next (s.spDo n 1 (fun t => eff (t.setAcc n ac (BitVec.ofInt 40 ((t.dReg n da).toInt * 65536)))))) ∧
  (∀ (s : State) (n ac : Nat),
     (Instr.addac n ac).wf = true →
     s.mainUp = true →
     s.spIssues n 1 true = true →
     exec (.addac n ac) s = .next (s.spDo n 1 (fun t => eff (t.accPut n ac ((t.acc n ac).toInt + (t.acc n (1 - ac)).toInt)))))

/-- Session processor: branches, calls, repetitions, events and control registers complete (R344, R349, R351, R354, R355, R356). -/
def Obligations.SpControlComplete : Prop :=
  (∀ (s : State) (n : Nat) (cond : BitVec 4) (disp : SpDisp),
     (Instr.bcc n cond disp).wf = true →
     s.mainUp = true →
     s.spIssues n (dispWords disp) false = true →
     exec (.bcc n cond disp) s = .next (
       s.spDo n (dispWords disp) (fun t =>
         eff (if condHolds cond (flagsOf (t.sr n)) then t.setSpPc n (t.spPc n + dispOf disp) else t)))) ∧
  (∀ (s : State) (n : Nat) (disp : SpDisp),
     (Instr.call0 n disp).wf = true →
     s.mainUp = true →
     s.spIssues n (dispWords disp) false = true →
     exec (.call0 n disp) s = .next (s.spDo n (dispWords disp) (fun t => t.callGo n (t.spPc n + dispOf disp) false 0))) ∧
  (∀ (s : State) (n an : Nat) (acs : Bool) (mask : Half),
     (Instr.spCall n an acs mask).wf = true →
     s.mainUp = true →
     s.spIssues n 2 false = true →
     exec (.spCall n an acs mask) s = .next (s.spDo n 2 (fun t => t.callGo n (t.aReg n an) acs mask))) ∧
  (∀ (s : State) (n : Nat),
     (Instr.spRet n).wf = true →
     s.mainUp = true →
     s.spIssues n 1 false = true →
     exec (.spRet n) s = .next (s.spDo n 1 (fun t => t.retGo n))) ∧
  (∀ (s : State) (n : Nat),
     (Instr.spEret n).wf = true →
     s.mainUp = true →
     s.spIssues n 1 false = true →
     exec (.spEret n) s = .next (s.spDo n 1 (fun t => t.spEretGo n))) ∧
  (∀ (s : State) (n : Nat) (cnt : SpRep),
     (Instr.rep n cnt).wf = true →
     s.mainUp = true →
     s.spIssues n (repWords cnt) false = true →
     exec (.rep n cnt) s = .next (s.spDo n (repWords cnt) (fun t => t.repGo n false cnt))) ∧
  (∀ (s : State) (n : Nat) (cnt : SpRep),
     (Instr.repi n cnt).wf = true →
     s.mainUp = true →
     s.spIssues n (repWords cnt) false = true →
     exec (.repi n cnt) s = .next (s.spDo n (repWords cnt) (fun t => t.repGo n true cnt))) ∧
  (∀ (s : State) (n an : Nat),
     (Instr.jmpAn n an).wf = true →
     s.mainUp = true →
     s.spIssues n 1 false = true →
     exec (.jmpAn n an) s = .next (s.spDo n 1 (fun t => eff (t.setSpPc n (t.aReg n an))))) ∧
  (∀ (s : State) (n : Nat),
     (Instr.wait n).wf = true →
     s.mainUp = true →
     s.spIssues n 1 false = true →
     exec (.wait n) s = .next (s.spDo n 1 (fun t => eff (t.onSp n (fun f => { f with waiting := true }))))) ∧
  (∀ (s : State) (n : Nat),
     (Instr.di n).wf = true →
     s.mainUp = true →
     s.spIssues n 1 true = true →
     exec (.di n) s = .next (s.spDo n 1 (fun t => eff (t.setSr n (t.sr n &&& 0x7FFF))))) ∧
  (∀ (s : State) (n : Nat),
     (Instr.ei n).wf = true →
     s.mainUp = true →
     s.spIssues n 1 true = true →
     exec (.ei n) s = .next (s.spDo n 1 (fun t => eff (t.setSr n (t.sr n ||| 0x8000))))) ∧
  (∀ (s : State) (n d k : Nat),
     (Instr.mfc n d k).wf = true →
     s.mainUp = true →
     s.spIssues n 1 true = true →
     exec (.mfc n d k) s = .next (
       s.spDo n 1 (fun t => match t.crRead n k with
         | some v => eff (t.setD n d v)
         | none => (t, some 0x40)))) ∧
  (∀ (s : State) (n k d : Nat),
     (Instr.mtc n k d).wf = true →
     s.mainUp = true →
     s.spIssues n 1 true = true →
     exec (.mtc n k d) s = .next (s.spDo n 1 (fun t => t.crWrite n k (t.dReg n d)))) ∧
  (∀ (s : State) (n d k : Nat),
     (Instr.copr n d k).wf = true →
     s.mainUp = true →
     s.spIssues n 1 true = true →
     exec (.copr n d k) s = .next (
       s.spDo n 1 (fun t =>
         let u := t.copFinish n .sp
         eff (u.setD n d ((u.cop n .sp).res.getD k 0))))) ∧
  (∀ (s : State) (n k d : Nat),
     (Instr.copw n k d).wf = true →
     s.mainUp = true →
     s.spIssues n 1 true = true →
     exec (.copw n k d) s = .next (
       s.spDo n 1 (fun t =>
         let v := t.dReg n d
         match k with
         | 0 => eff (t.copOperand n .sp (fun c => { c with src := v }))
         | 1 => eff (t.copOperand n .sp (fun c => { c with len := v }))
         | 2 => eff (t.copOperand n .sp (fun c => { c with dst := v }))
         | 15 => (t, some 0x40)
         | _ => eff (t.copOperand n .sp (fun c => { c with arg := (seqWrite c.arg 12 (k - 3) v).1 }))))) ∧
  (∀ (s : State) (n d : Nat),
     (Instr.copst n d).wf = true →
     s.mainUp = true →
     s.spIssues n 1 true = true →
     exec (.copst n d) s = .next (s.spDo n 1 (fun t => eff (t.setD n d (t.cop n .sp).st)))) ∧
  (∀ (s : State) (n : Nat),
     (Instr.nop n).wf = true →
     s.mainUp = true →
     s.spIssues n 1 true = true →
     exec (.nop n) s = .next (s.spDo n 1 eff)) ∧
  (∀ (s : State) (n : Nat),
     (Instr.spEventEntry n).wf = true →
     s.mainUp = true →
     let f := (s.en n).sp
     let take := s.spWants n
     s.peState n = 2 →
     f.susp = false →
     tst f.sr 15 = true →
     tst f.sr 12 = false →
     take ≠ 0 →
     (decide (0 < f.repLeft) && !f.repI) = false →
     ∀ e,
     ((List.range 8).find? (fun e => tst take e)) = some e →
     ∀ k,
     (s.en n).pkg = some k →
     exec (.spEventEntry n) s = .next (
       ((s.copSettle n .sp).onSp n (fun h => { h with
         epc := h.pc, esr := h.sr
         erpt := if h.repLeft = 0 then 0 else BitVec.ofNat 16 (h.repLeft + bitOf h.repI * 2 ^ 15)
         repLeft := 0, repI := false, resv := none, waiting := false
         sr := (h.sr &&& 0x7FFF) ||| 0x1000, pc := BitVec.ofNat 16 (k.spBase + 2 * e) })).spFetchNext n))

/-- Interlock cycles, modes and forces: the commands complete (R359, R360, R362, R363, R365). -/
def Obligations.InterlockCommandsComplete : Prop :=
  (∀ (s : State) (n : Nat),
     (Instr.endcyc n).wf = true →
     s.mainUp = true →
     s.spIssues n 1 false = true →
     exec (.endcyc n) s = .next (s.spDo n 1 (fun t => t.endcycGo n))) ∧
  (∀ (s : State) (n d k b : Nat),
     (Instr.rise n d k b).wf = true →
     s.mainUp = true →
     s.spIssues n 2 true = true →
     exec (.rise n d k b) s = .next (s.spDo n 2 (fun t => t.edgeGo n d k b true))) ∧
  (∀ (s : State) (n d k b : Nat),
     (Instr.fall n d k b).wf = true →
     s.mainUp = true →
     s.spIssues n 2 true = true →
     exec (.fall n d k b) s = .next (s.spDo n 2 (fun t => t.edgeGo n d k b false))) ∧
  (∀ (s : State) (n : Nat),
     (Instr.ilkCycleStart n).wf = true →
     s.mainUp = true →
     ∀ k,
     s.ilkPkg n = some k →
     s.cycleDue n k = true →
     let s1 := (s.snapshot n k).wb (Reg.ILK_STAT n) 28 true
     let s2 := s1.onIlk n (fun q => { q with started := some s.clk.ns, overran := false, fire := false })
     exec (.ilkCycleStart n) s = .next ((s2.onSp n (fun f => { f with susp := false })).spEdge n 0)) ∧
  (∀ (s : State) (n : Nat),
     (Instr.ilkOverrun n).wf = true →
     s.mainUp = true →
     ∀ k,
     s.ilkPkg n = some k →
     s.ilkMode n = 1 →
     s.rb (Reg.ILK_STAT n) 28 = true →
     (s.en n).ilk.overran = false →
     s.pastTmax n k = true →
     exec (.ilkOverrun n) s = .next (s.overrunNow n k)) ∧
  (∀ (s : State) (ch nG : Nat),
     (Instr.ilkRun ch nG).wf = true →
     s.mainUp = true →
     ∀ rq,
     Tab.find s.host.taken ch = some rq →
     rq.typ.toNat = 0x11 →
     let m := s.msg ch ([ilkWord 1 nG].flatMap wordBytes)
     let n := fld (msgWord m 0) 16 5
     fld (msgWord m 0) 24 8 = 1 →
     msgHas m 1 = true →
     s.chanPriv ch (if s.ilkMode n = 2 then 4 else 2) = true →
     s.dev.st ≠ .safeTalk →
     s.isIlk n = true →
     exec (.ilkRun ch nG) s = .next (((s.toRun n).journalAdd [] (some (n, 1))).reply ch [0])) ∧
  (∀ (s : State) (ch nG : Nat),
     (Instr.ilkStop ch nG).wf = true →
     s.mainUp = true →
     ∀ rq,
     Tab.find s.host.taken ch = some rq →
     rq.typ.toNat = 0x11 →
     let m := s.msg ch ([ilkWord 2 nG].flatMap wordBytes)
     let n := fld (msgWord m 0) 16 5
     fld (msgWord m 0) 24 8 = 2 →
     msgHas m 1 = true →
     s.chanPriv ch 2 = true →
     s.dev.st ≠ .safeTalk →
     s.isIlk n = true →
     exec (.ilkStop ch nG) s = .next (((s.toStop n).journalAdd [] (some (n, 0))).reply ch [0])) ∧
  (∀ (s : State) (ch nG : Nat),
     (Instr.hold ch nG).wf = true →
     s.mainUp = true →
     ∀ rq,
     Tab.find s.host.taken ch = some rq →
     rq.typ.toNat = 0x11 →
     let m := s.msg ch ([ilkWord 3 nG].flatMap wordBytes)
     let n := fld (msgWord m 0) 16 5
     fld (msgWord m 0) 24 8 = 3 →
     msgHas m 1 = true →
     s.chanPriv ch 4 = true →
     s.dev.st = .maintenance →
     s.isIlk n = true →
     exec (.hold ch nG) s = .next ((s.toHold n).reply ch [0])) ∧
  (∀ (s : State) (ch nG : Nat) (u1 u2 : Word),
     (Instr.forceSet ch nG u1 u2).wf = true →
     s.mainUp = true →
     ∀ rq,
     Tab.find s.host.taken ch = some rq →
     rq.typ.toNat = 0x11 →
     let m := s.msg ch ([ilkWord 4 nG, u1, u2].flatMap wordBytes)
     let n := fld (msgWord m 0) 16 5
     let w1 := msgWord m 1
     let w2 := msgWord m 2
     let (out, idx) := forceIdx w1
     let f : Force := ⟨out, idx, (w2 >>> (16 : Nat)).setWidth 16, w2.setWidth 16⟩
     fld (msgWord m 0) 24 8 = 4 →
     msgHas m 3 = true →
     s.chanPriv ch 4 = true →
     s.forceState = true →
     s.isIlk n = true →
     forceBad w1 = false →
     exec (.forceSet ch nG u1 u2) s = .next (
       match (s.forces n).find? (fun p => p.2.out == out && p.2.idx == idx) with
       | some (k, _) => (s.forcesChanged n k ((s.forces n).map (fun p => if p.1 = k then (k, f) else p))).reply ch [0]
       | none =>
         match (List.range 64).find? (fun k => !(s.forces n).any (fun p => p.1 == k)) with
         | some k => (s.forcesChanged n k (s.forces n ++ [(k, f)])).reply ch [0]
         | none => s.reply ch [4])) ∧
  (∀ (s : State) (ch nG : Nat) (u1 : Word),
     (Instr.forceClear ch nG u1).wf = true →
     s.mainUp = true →
     ∀ rq,
     Tab.find s.host.taken ch = some rq →
     rq.typ.toNat = 0x11 →
     let m := s.msg ch ([ilkWord 5 nG, u1].flatMap wordBytes)
     let n := fld (msgWord m 0) 16 5
     let w1 := msgWord m 1
     let (out, idx) := forceIdx w1
     fld (msgWord m 0) 24 8 = 5 →
     msgHas m 2 = true →
     s.chanPriv ch 4 = true →
     (s.forceState || s.dev.st == .testBlocked) = true →
     s.isIlk n = true →
     forceBad w1 = false →
     exec (.forceClear ch nG u1) s = .next (
       match (s.forces n).find? (fun p => p.2.out == out && p.2.idx == idx) with
       | some (k, _) => (s.forcesChanged n k ((s.forces n).filter (fun p => p.1 != k))).reply ch [0]
       | none => s.reply ch [0])) ∧
  (∀ (s : State) (ch nG : Nat),
     (Instr.forceClearAll ch nG).wf = true →
     s.mainUp = true →
     ∀ rq,
     Tab.find s.host.taken ch = some rq →
     rq.typ.toNat = 0x11 →
     let m := s.msg ch ([ilkWord 6 nG].flatMap wordBytes)
     let n := fld (msgWord m 0) 16 5
     fld (msgWord m 0) 24 8 = 6 →
     msgHas m 1 = true →
     s.chanPriv ch 4 = true →
     s.isIlk n = true →
     exec (.forceClearAll ch nG) s = .next ((s.dropForces n).reply ch [0]))

/-- CAN controllers: the commands complete (R368, R369, R370, R371, R372, R376, R377, R385). -/
def Obligations.CanCommandsComplete : Prop :=
  (∀ (s : State) (fn x : Nat) (val : Word),
     (Instr.canModeWrite fn x val).wf = true →
     s.ownerCfg fn = true →
     exec (.canModeWrite fn x val) s = .next (s.canCtrl x val)) ∧
  (∀ (s : State) (fn x off : Nat) (val : Word),
     (Instr.canTimingWrite fn x off val).wf = true →
     s.ownerCfg fn = true →
     exec (.canTimingWrite fn x off val) s = .next (
       if (s.cn x).mode ≠ 0 then s.wb (Reg.CAN_STAT x) 26 true
       else match off with
         | 8 => s.wr (Reg.CAN_BTR_NOM x) (val &&& 0xFFFF7F7F#32)
         | 12 => s.wr (Reg.CAN_BTR_DATA x) (val &&& 0x9F1F0F0F#32)
         | _ => s.wr (Reg.CAN_TDC x) (val &&& 0x00007F7F#32))) ∧
  (∀ (s : State) (fn x : Nat) (bits : BitVec 64),
     (Instr.canTxreq fn x bits).wf = true →
     s.ownerCfg fn = true →
     (s.canEngine x).isSome = false →
     exec (.canTxreq fn x bits) s = .next ((each 64 (fun i t => if tst bits i then t.requestTx x i else t) s).canIdle x)) ∧
  (∀ (s : State) (fn x : Nat) (bits : BitVec 64),
     (Instr.canTxabort fn x bits).wf = true →
     s.ownerCfg fn = true →
     exec (.canTxabort fn x bits) s = .next (
       each 64 (fun i t =>
         if !tst bits i then t
         else match t.txState x i with
           | 1 => (t.setTx x i 5 0).txEnded x i
           | 6 => (t.setTx x i 5 0).txEnded x i
           | 2 => t.onCan x (fun c => { c with abort := some i })
           | _ => t) (s.canIdle x))) ∧
  (∀ (s : State) (fn x : Nat),
     (Instr.canRxpop fn x).wf = true →
     s.ownerCfg fn = true →
     (s.canEngine x).isSome = false →
     let q := (s.cn x).rx.drop 1
     exec (.canRxpop fn x) s = .next ((s.onCan x (fun c => { c with rx := q })).wf (Reg.CAN_STAT x) 0 8 q.length)) ∧
  (∀ (s : State) (fn x : Nat),
     (Instr.recover fn x).wf = true →
     s.ownerCfg fn = true →
     exec (.recover fn x) s = .next (s.canCtrl x (s.rd (Reg.CAN_CTRL x) ||| 0x08000000#32))) ∧
  (∀ (s : State) (x : Nat) (r : CanRx),
     (Instr.canFrameReceive x r).wf = true →
     s.mainUp = true →
     let m := (s.cn x).mode
     (m == 1 || m == 2 || m == 4) = true →
     ¬ (2 ≤ s.estate x) →
     exec (.canFrameReceive x r) s = .next (
       if !s.canJoined x then s.onCan x (fun c => { c with joinAt := s.clk.ns + s.canBits x 3 })
       else
         (match r with
         | .error add => if m = 2 then s else s.judge x (s.tec x) (s.rec_ x + add)
         | .frame f =>
           if f.fdf && !s.rb (Reg.CAN_CTRL x) 26 then s
           else
             let s1 := if m = 2 then s else
               let (v, t) := recDown s (s.rec_ x)
               t.judge x (t.tec x) v
             s1.canFiltered x f).canIdle x)) ∧
  (∀ (u : State) (x : Nat) (res : CanTxRes),
     (Instr.canTxAttemptEnd x res).wf = true →
     u.mainUp = true →
     let s := u.canIdle x
     ∀ i,
     s.txActive x = some i →
     let s1 := (s.endBuffer x i res).ackRun x res
     let s2 := match res with
       | .ok => s1.wakeValid x
       | _ => s1
     let s3 := s2.judge x (s.tecAfter x res) (s.rec_ x)
     let s4 := match res with
       | .ok => if (s.cn x).mode = 3 then s3.canFiltered x (s.txbuf x i) else s3
       | _ => s3
     exec (.canTxAttemptEnd x res) u = .next (s4.canIdle x)) ∧
  (∀ (s : State) (x runs : Nat),
     (Instr.canRecoveryEnd x runs).wf = true →
     s.mainUp = true →
     s.estate x = 3 →
     128 ≤ runs →
     exec (.canRecoveryEnd x runs) s = .next ((((s.judge x 0 0).txMove x [6] 1).canIdle x))) ∧
  (∀ (s : State) (x : Nat),
     (Instr.canTxRingFetch x).wf = true →
     s.mainUp = true →
     ∀ z1 b,
     s.canEngine x = some (z1, b) →
     exec (.canTxRingFetch x) s = .next ((times (fun t => t.fetchTx x b) 64 s).canIdle x)) ∧
  (∀ (s : State) (x : Nat),
     (Instr.canWakeValidityExpiry x).wf = true →
     s.mainUp = true →
     ∀ t,
     (s.cn x).wakeAt = some t →
     t * 100 + s.rf (Reg.CAN_WAKE_CFG x) 8 12 * 32768 ≤ s.clk.cd0 * 100 →
     let s1 := (s.onCan x (fun c => { c with wakeAt := none })).cnt (Reg.CAN_WAKE_STAT x) 0 8 1
     let lim := s.rf (Reg.CAN_WAKE_CFG x) 0 8
     exec (.canWakeValidityExpiry x) s = .next (
       if lim ≠ 0 ∧ lim ≤ s1.rf (Reg.CAN_WAKE_STAT x) 0 8 ∧ !s1.rb (Reg.CAN_WAKE_STAT x) 31 then
         (s1.wb (Reg.CAN_WAKE_STAT x) 31 true).canEvent x 0
       else s1)) ∧
  (∀ (s : State) (fn x : Nat) (val : Word),
     (Instr.wakeDisClear fn x val).wf = true →
     s.ownerCfg fn = true →
     tst val 31 = true →
     exec (.wakeDisClear fn x val) s = .next ((s.wb (Reg.CAN_WAKE_STAT x) 31 false).wf (Reg.CAN_WAKE_STAT x) 0 8 0)) ∧
  (∀ (s : State) (x : Nat) (f : CanFrame) (crcOk : Bool),
     (Instr.canWakeMatch x f crcOk).wf = true →
     s.wakeWatch = true →
     s.wakeFrame x f crcOk = true →
     exec (.canWakeMatch x f crcOk) s = .next (s.canWakes x)) ∧
  (∀ (s : State) (x : Nat),
     (Instr.canWakePin x).wf = true →
     s.wakeWatch = true →
     s.wakeEdge x = true →
     exec (.canWakePin x) s = .next (s.canWakes x))

/-- Thicket engines: the commands complete (R380, R381, R383). -/
def Obligations.ThicketCommandsComplete : Prop :=
  (∀ (s : State) (n : Nat) (pins : BitVec 48),
     (Instr.tkStep n pins).wf = true →
     s.mainUp = true →
     let en := s.rb (Reg.TK_CTRL n) 31
     let e := s.tke n
     exec (.tkStep n pins) s = .next (
       if en && e.run then s.tkRun n pins
       else if en then
         ((s.onTk n (fun e => { e with
           run := true, state := 0, sr := 0, count := 0, trig := false
           tickLeft := s.freshWord.toNat % (s.tickDiv n + 1) })).used 1).tkRun n pins
       else if e.run then s.onTk n (fun e => { e with run := false, out := BitVec.ofNat 8 (s.rf (Reg.TK_CFG n) 16 8) })
       else s)) ∧
  (∀ (s : State) (fn n : Nat) (val : Word),
     (Instr.tkEnable fn n val).wf = true →
     s.ownerCfg fn = true →
     tst val 31 = true →
     exec (.tkEnable fn n val) s = .next (s.wb (Reg.TK_CTRL n) 31 true)) ∧
  (∀ (s : State) (fn n : Nat) (val : Word),
     (Instr.tkDisable fn n val).wf = true →
     s.ownerCfg fn = true →
     tst val 31 = false →
     exec (.tkDisable fn n val) s = .next (s.wb (Reg.TK_CTRL n) 31 false)) ∧
  (∀ (s : State) (fn n i : Nat) (val : Word),
     (Instr.tkLutWrite fn n i val).wf = true →
     s.ownerCfg fn = true →
     exec (.tkLutWrite fn n i val) s = .next (
       if s.rb (Reg.TK_CTRL n) 31 then s.wb (Reg.TK_STAT n) 28 true
       else s.wr (Reg.TK_LUT n i) val)) ∧
  (∀ (s : State) (fn n : Nat) (val : Word),
     (Instr.tkTxfifoWrite fn n val).wf = true →
     s.ownerCfg fn = true →
     exec (.tkTxfifoWrite fn n val) s = .next (
       if 16 ≤ (s.tke n).tx.length then s.wb (Reg.TK_STAT n) 29 true
       else s.onTk n (fun e => { e with tx := e.tx ++ [val] }))) ∧
  (∀ (s : State) (n lane size : Nat),
     (Instr.tkRxfifoRead 0 n lane size).wf = true →
     size ≠ 8 →
     s.reach 0 = true →
     s.dev.st ≠ .safeTalk →
     exec (.tkRxfifoRead 0 n lane size) s = .next ((s.tkRxPop n).answer (laneData ((s.tke n).rx.headD 0) lane size)))

/-- Keys, fuses, random numbers and debug: the commands complete (R423, R426, R428, R430, R431). -/
def Obligations.SecurityCommandsComplete : Prop :=
  (∀ (s : State) (ch : Nat) (slot : Octet) (attr : BitVec 24) (w1G : Word) (keyG : List Octet),
     (Instr.keyInstall ch slot attr w1G keyG).wf = true →
     s.mainUp = true →
     ∀ rq,
     Tab.find s.host.taken ch = some rq →
     rq.typ.toNat = 0x40 →
     s.secSender ch = true →
     let m := s.msg ch (wordBytes (attr ++ slot) ++ wordBytes w1G ++ keyG)
     let w0 := msgWord m 0
     let w1 := msgWord m 1
     let payload := m.drop 8
     let k := fld w0 0 8
     let typ := fld w0 8 4
     let use := fld w0 12 3
     k < 248 →
     typ ≠ 0 →
     typ ≤ 3 →
     use ≤ 4 →
     keyOctets typ + 8 * bitOf (tst w0 17) ≤ payload.length →
     s.slotInUse k = false →
     ∀ key,
     s.installKey w0 w1 payload = some key →
     exec (.keyInstall ch slot attr w1G keyG) s = .next ((s.storeKey k ⟨key, typ, use, tst w0 16⟩).reply ch [0])) ∧
  (∀ (s : State) (ch : Nat) (w0G : Word),
     (Instr.keyErase ch w0G).wf = true →
     s.mainUp = true →
     ∀ rq,
     Tab.find s.host.taken ch = some rq →
     rq.typ.toNat = 0x41 →
     s.secSender ch = true →
     let w0 := msgWord (s.msg ch (wordBytes w0G)) 0
     let k := fld w0 0 8
     k < 248 →
     (s.slotInUse k && !tst w0 31) = false →
     exec (.keyErase ch w0G) s = .next (
       if (Tab.find s.sec.box k).isNone && (Tab.find s.mram.sealed_ k).isNone then s.reply ch [0]
       else (s.clearSlot k).reply ch [0])) ∧
  (∀ (s : State) (ch : Nat) (w0 : Word),
     (Instr.keyInfo ch w0).wf = true →
     s.mainUp = true →
     ∀ rq,
     Tab.find s.host.taken ch = some rq →
     rq.typ.toNat = 0x42 →
     s.secSender ch = true →
     let k := fld (msgWord (s.msg ch (wordBytes w0)) 0) 0 8
     k < 248 →
     let kcv := match Tab.find s.sec.box k with
       | some b => Config.keyCheck b.key
       | none => 0
     exec (.keyInfo ch w0) s = .next (s.reply ch [0, s.slotWord k, kcv])) ∧
  (∀ (s : State) (ch : Nat) (w0 : Word),
     (Instr.svnCommit ch w0).wf = true →
     s.mainUp = true →
     ∀ rq,
     Tab.find s.host.taken ch = some rq →
     rq.typ.toNat = 0x43 →
     s.secSender ch = true →
     let c := fld (msgWord (s.msg ch (wordBytes w0)) 0) 0 2
     c ≠ 3 →
     s.fuseState = true →
     let free := (List.range 64).filter (fun b => !(s.blown (5 + c)).contains b)
     exec (.svnCommit ch w0) s = .next (((s.blow (5 + c) (free.take (s.activeSvn c - s.svnFuse c))).raise 529).reply ch [0])) ∧
  (∀ (s : State) (ch fieldG : Nat) (bitsG : List Octet) (stuck : Option Nat),
     (Instr.fuseProg ch fieldG bitsG stuck).wf = true →
     s.mainUp = true →
     ∀ rq,
     Tab.find s.host.taken ch = some rq →
     rq.typ.toNat = 0x44 →
     s.secSender ch = true →
     let m := s.msg ch (wordBytes (BitVec.ofNat 32 fieldG) ++ bitsG)
     let field := (msgWord m 0).toNat
     let bits := bitsOf (m.drop 4)
     field < 12 →
     ¬ (5 ≤ field && field < 8) →
     bits.any (fun b => decide (fuseBits field ≤ b)) = false →
     s.fuseState = true →
     ¬ (field = 8 && (s.blown 8).contains 2) →
     let l := if field = 8 then bits ++ [2] else bits
     let bad := l.filter (fun b => stuck == some b && !(s.blown field).contains b)
     let t1 := s.blow field (l.filter (fun b => !bad.contains b))
     bad.isEmpty = true →
     exec (.fuseProg ch fieldG bitsG stuck) s = .next ((t1.raise 529).reply ch [0])) ∧
  (∀ (s : State) (fn u : Nat) (val : Word),
     (Instr.txAnWrite fn u val).wf = true →
     s.ownerIn fn = true →
     s.hasPriv fn 3 = true →
     exec (.txAnWrite fn u val) s = .next (s.wr (Reg.MSEC_TX_CTRL u) (BitVec.ofNat 32 (fld val 25 7 * 2 ^ 25 + fld val 0 2)))) ∧
  (∀ (s : State),
     s.mainUp = true →
     exec .trngHealthFail s = .next (({ s with sec.trngOk := false }.raise 527).setAlarm 26 true)) ∧
  (∀ (s : State) (healthy : Nat),
     s.mainUp = true →
     s.sec.trngOk = false →
     1024 ≤ healthy →
     exec (.trngRecover healthy) s = .next ({ s with sec.trngOk := true, sec.drbg := s.sec.drbg + 1 }.setAlarm 26 false)) ∧
  (∀ (s : State) (x : Jtag),
     s.mainUp = true →
     let s1 := eachIn x.tck (fun e t => t.tapClock e) s
     exec (.debugUnlock x) s = .next (
       if !s1.sec.tap.trst then s1
       else match x.req with
       | .none => s1
       | .challenge => s1.challenge
       | .response k pub sig => s1.unlock k pub sig))

/-- Mailboxes and interrupt vectors: the commands complete (R401, R402, R404, R406, R409, R410). -/
def Obligations.HostMessageCommandsComplete : Prop :=
  (∀ (s : State) (mid ch : Nat) (val : Word),
     (Instr.tdCtlWrite mid ch val).wf = true →
     s.mainUp = true →
     s.pathTo mid ch = true →
     s.boundTo mid ch = true →
     s.tdDead ch = false →
     s.tdFull ch = false →
     exec (.tdCtlWrite mid ch val) s = .next ((s.wr (s.mbAt ch 3) val).wb (s.mbStat ch) 31 true)) ∧
  (∀ (s : State) (ch : Nat),
     (Instr.tdTake ch).wf = true →
     s.mainUp = true →
     s.tdFull ch = true →
     s.tdDead ch = false →
     exec (.tdTake ch) s = .next (
       if 272 ≤ ch then s.tdClear ch
       else if !(s.stewardRuns || s.romServes ch) || (Tab.find s.host.taken ch).isSome then s
       else (s.tdClear ch).dispatchReq ch (s.rd (s.mbAt ch 3)))) ∧
  (∀ (s : State) (ch : Nat),
     (Instr.fdPost ch).wf = true →
     s.mainUp = true →
     ∀ m q,
     Tab.get [] s.host.out ch = m :: q →
     s.replyFree ch = true →
     s.fdDead ch = false →
     (s.stewardRuns || s.romServes ch) = true →
     let s1 := { s with host.out := if q.isEmpty then Tab.del s.host.out ch else Tab.put s.host.out ch q }.fdFill ch m
     exec (.fdPost ch) s = .next (
       match s1.chanFn ch with
       | some t => s1.doorbell t
       | none => s1)) ∧
  (∀ (s : State) (ch : Nat) (given : List Octet),
     (Instr.ping ch given).wf = true →
     s.mainUp = true →
     ∀ rq,
     Tab.find s.host.taken ch = some rq →
     rq.typ.toNat = 1 →
     let payload := s.msg ch given
     payload.length ≤ 2044 →
     exec (.ping ch given) s = .next (s.replyLen ch (payload.length + 4) (0 :: bytesWords payload))) ∧
  (∀ (s : State) (ch pG : Nat) (contentG : List Word),
     (Instr.ptpTxSet ch pG contentG).wf = true →
     s.mainUp = true →
     ∀ rq,
     Tab.find s.host.taken ch = some rq →
     rq.typ.toNat = 0x30 →
     let m := bytesWords (s.msg ch ((BitVec.ofNat 32 pG :: contentG).flatMap wordBytes))
     let p := (m.headD 0).toNat
     let content := m.drop 1
     s.chanPriv ch 2 = true →
     exec (.ptpTxSet ch pG contentG) s = .next (
       if 40 ≤ p || !Config.portMaster (s.rd (Reg.TIME_PORT_STATE p)) then s.reply ch [2]
       else { s with time.announce := Tab.put s.time.announce p content }.reply ch [0])) ∧
  (∀ (s : State) (fn vec : Nat),
     (Instr.msixPost fn vec).wf = true →
     let port := s.fnPort fn
     s.turnOf port = some fn →
     (s.waitingVecs fn).contains vec = true →
     let masked := s.vecMasked fn vec
     let s1 := { s with host.turn := Tab.put s.host.turn port fn }.vecGo fn vec
     exec (.msixPost fn vec) s = .next (if masked then s1 else s1.startHoldoff fn)) ∧
  (∀ (s : State) (fn : Nat),
     (Instr.holdoffEnd fn).wf = true →
     ∀ a n,
     Tab.find s.host.hold fn = some (a, n) →
     (decide (s.clk.ns < a + s.holdoffNs fn) && (s.holdCount fn == 0 || decide (n < s.holdCount fn))) = false →
     let l := s.waitingVecs fn
     let posts := l.any (fun v => !s.vecMasked fn v)
     let s1 := eachIn l (fun v t => t.vecGo fn v) { s with host.hold := Tab.del s.host.hold fn }
     exec (.holdoffEnd fn) s = .next (if posts then s1.startHoldoff fn else s1)) ∧
  (∀ (s : State) (fn vec : Nat) (all : Bool),
     (Instr.vectorUnmask fn vec all).wf = true →
     s.reach fn = true →
     exec (.vectorUnmask fn vec all) s = .next (
       if all then
         each 64 (fun v t => t.postPending fn v) { s with host.fmask := s.host.fmask.filter (fun t => t != fn) }
       else if s.rf (Reg.FN_ID fn) 0 8 ≤ vec then s
       else (s.wb (Reg.MSIX_TABLE fn vec 3) 0 false).postPending fn vec)) ∧
  (∀ (s : State) (mid ch lane size : Nat),
     (Instr.fdPtrLoRead mid ch lane size).wf = true →
     s.mainUp = true →
     size ≠ 8 →
     s.pathTo mid ch = true →
     s.boundTo mid ch = true →
     exec (.fdPtrLoRead mid ch lane size) s = .next ((s.wb (s.mbStat ch) 30 false).answer (laneData (s.rd (s.mbAt ch 4)) lane size)))

/-- Host ports and functions: the commands complete (R393, R396, R412, R413, R414, R415, R416, R418). -/
def Obligations.HostPortCommandsComplete : Prop :=
  (∀ (s : State) (port rate width : Nat),
     (Instr.hostLinkUp port rate width).wf = true →
     s.mainUp = true →
     let a := Reg.HOST_PORT_STAT port
     let same := s.rb a 31 && s.rf a 28 3 == rate && s.rf a 24 4 == width
     port < s.ports →
     (Tab.get (false, 0) s.host.perst port).1 = true →
     width ≤ s.portLanes port →
     same = false →
     let s1 := (((s.wb a 31 true).wf a 28 3 rate).wf a 24 4 width).raiseAt (496 + port) port 0
     exec (.hostLinkUp port rate width) s = .next (if s1.dev.st == .safeTalk then s1.enableFn port else s1)) ∧
  (∀ (s : State) (port : Nat) (cause : PortReset),
     (Instr.hostPortReset port cause).wf = true →
     port < s.ports →
     exec (.hostPortReset port cause) s = .next (
       match cause with
       | .hot => s.portReset port 2
       | .perst => { s with host.perst := Tab.put s.host.perst port (false, s.clk.ns) }.portReset port 3)) ∧
  (∀ (s : State) (port : Nat) (linkLoss : Bool),
     (Instr.dmaPauseStart port linkLoss).wf = true →
     s.mainUp = true →
     port < s.ports →
     exec (.dmaPauseStart port linkLoss) s = .next (
       match Tab.find s.host.pause port with
       | some (_, l) => if linkLoss && !l then { s with host.pause := Tab.put s.host.pause port (s.clk.ns, true) } else s
       | none => ({ s with host.pause := Tab.put s.host.pause port (s.clk.ns, linkLoss) }.showPause port true).raiseAt 509 port 0)) ∧
  (∀ (s : State) (port : Nat),
     (Instr.dmaPauseEnd port).wf = true →
     s.mainUp = true →
     (Tab.find s.host.pause port).isNone = false →
     exec (.dmaPauseEnd port) s = .next (({ s with host.pause := Tab.del s.host.pause port }.showPause port false).raiseAt 509 port 0)) ∧
  (∀ (s : State) (port : Nat),
     (Instr.linkLossTimeout port).wf = true →
     s.mainUp = true →
     ∀ t,
     Tab.find s.host.pause port = some (t, true) →
     t + 100000000 ≤ s.clk.ns →
     exec (.linkLossTimeout port) s = .next (s.portReset port 4)) ∧
  (∀ (s : State) (fn : Nat),
     (Instr.functionLevelReset fn).wf = true →
     s.fnLive fn = true →
     exec (.functionLevelReset fn) s = .next (s.flr fn 1 3)) ∧
  (∀ (s : State) (port : Nat) (enable : Bool) (num : Nat),
     (Instr.numvfsWrite port enable num).wf = true →
     s.mainUp = true →
     s.reach port = true →
     port < s.ports →
     ¬ (s.man.totalVfs.getD port 0 < num) →
     s.dev.st ≠ .safeTalk →
     let want := if enable then (s.vfsOf port).take num else []
     let gone := (s.vfsOf port).filter (fun t => s.host.en.contains t && !want.contains t)
     let fresh := want.filter (fun t => !s.host.en.contains t)
     let s1 := s.wf (Reg.HOST_PORT_STAT port) 0 8 num
     let s2 := eachIn gone (fun t u => (u.flr t 6 3).disableFn t) s1
     let s3 := eachIn fresh (fun t u => u.enableFn t) s2
     exec (.numvfsWrite port enable num) s = .next (if gone.isEmpty && fresh.isEmpty then s3 else s3.raiseAt 505 port 0)) ∧
  (∀ (s : State) (fn : Nat),
     (Instr.d3hotEntry fn).wf = true →
     s.fnLive fn = true →
     s.host.d3.contains fn = false →
     exec (.d3hotEntry fn) s = .next ((({ s with host.d3 := fn :: s.host.d3 }).wb (Reg.FN_STAT fn) 27 true).showSlices fn)) ∧
  (∀ (s : State) (fn : Nat) (noSoftReset : Bool),
     (Instr.d0Return fn noSoftReset).wf = true →
     s.host.d3.contains fn = true →
     let s1 := (({ s with host.d3 := s.host.d3.filter (fun x => x != fn) }).wb (Reg.FN_STAT fn) 27 false).showSlices fn
     exec (.d0Return fn noSoftReset) s = .next (if noSoftReset then s1 else s1.flr fn 7 3)) ∧
  (∀ (s : State) (fn off : Nat) (wr : Bool) (be : List Bool) (data : List Octet),
     (Instr.hostBankAccess fn off wr be data).wf = true →
     s.reach fn = true →
     let n := if wr then min be.length data.length else be.length
     let idx := (List.range n).filter (fun i => be.getD i false && decide (off + i < 0x200000))
     let dir := bitOf wr
     let bad := idx.any (fun i => !s.pageOk fn dir (off + i))
     let s1 := if bad then s.barDenied fn else s
     exec (.hostBankAccess fn off wr be data) s = .next (
       if wr then
         let s2 := eachIn (idx.filter (fun i => s.pageOk fn 1 (off + i))) (fun i t => t.bankPut (off + i) (data.getD i 0)) s1
         { s2 with bus.cpl := .ok }
       else
         { s1 with
           bus.bytes := (List.range n).map (fun i =>
             if s.pageOk fn 0 (off + i) && decide (off + i < 0x200000) then Tab.get 0 s.host.bank (off + i) else 0xFF)
           bus.cpl := .ok })) ∧
  (∀ (s : State) (fn : Nat) (kind : DmaKind),
     (Instr.dmaFault fn kind).wf = true →
     s.fnLive fn = true →
     let s1 := (s.wb (Reg.FN_STAT fn) 28 true).raiseAt 508 fn 0
     exec (.dmaFault fn kind) s = .next (
       match kind with
       | .slice g =>
         let b := fld (s1.sliceDesc g 0) 0 9
         let sl := Tab.get Slice.zero s1.slice g
         if s1.ownsSlice fn g && decide (b ≤ sl.part.length) then s1.dropBlock fn g b (sl.part.drop b) else s1
       | .bridge => s1.respLost fn
       | .mailbox ch => if s1.chanFn ch = some fn then s1.reply ch [0xFD] else s1)) ∧
  (∀ (s : State) (fn : Nat),
     (Instr.functionResetComplete fn).wf = true →
     ∀ z1,
     Tab.find s.host.frst fn = some z1 →
     let s1 := { s with host.frst := Tab.del s.host.frst fn }
     let s2 := if s1.host.en.contains fn then s1.wb (Reg.FN_STAT fn) 31 true else s1
     exec (.functionResetComplete fn) s = .next ((s2.wf Reg.HOST_FLR_TID 0 8 fn).raiseAt 504 fn 0)) ∧
  (∀ (s : State) (port : Nat),
     (Instr.perstRelease port).wf = true →
     port < s.ports →
     (Tab.get (false, 0) s.host.perst port).1 = false →
     exec (.perstRelease port) s = .next ({ s with host.perst := Tab.put s.host.perst port (true, s.clk.ns) })) ∧
  (∀ (s : State) (fn : Nat) (fatal : Bool),
     (Instr.pcieAerError fn fatal).wf = true →
     exec (.pcieAerError fn fatal) s = .next (s.raiseAt (if fatal then 512 else 511) fn 0))

/-- Toll governor and the hold-up tasks: the commands complete (R444, R445, R446, R447). -/
def Obligations.TollCommandsComplete : Prop :=
  (∀ (s : State) (mw : Nat),
     s.dev.st.serving = true →
     let s1 := { s with toll.samp := (mw :: s.toll.samp).take 1000 }
     let high := decide (s1.tollCap < s1.mean1)
     let s2 := (s1.wr Reg.TOLL_POWER (BitVec.ofNat 32 s1.mean1))
     let s3 := { s2 with toll.fullAt := if high && s2.tollNext.isNone then some (s2.toll.fullAt.getD s.clk.ns) else none }
     exec (.tollMeasure mw) s = .next (if high then s3 else s3.wb Reg.TOLL_STAT 31 false)) ∧
  (∀ (s : State),
     s.dev.st.serving = true →
     s.tollCap < s.mean1 →
     s.toll.lastTake + 1000000 ≤ s.clk.ns →
     exec .tollThrottleStep s = .next (
       match s.tollNext with
         | some st => { s with toll.lastTake := s.clk.ns }.takeStep st
         | none => s)) ∧
  (∀ (s : State),
     s.dev.st.serving = true →
     s.toll.forced = false →
     s.mean100 < s.tollCap - s.tollHyst →
     s.toll.lastRel + 100000000 ≤ s.clk.ns →
     exec .tollReleaseStep s = .next ({ s with toll.lastRel := s.clk.ns }.dropStep)) ∧
  (∀ (s : State),
     ∀ t,
     s.toll.fullAt = some t →
     t + 100000000 ≤ s.clk.ns →
     s.rb Reg.TOLL_STAT 31 = false →
     exec .tollCapUnmet s = .next ((s.wb Reg.TOLL_STAT 31 true).raise 542)) ∧
  (∀ (s : State) (uv : Nat),
     exec (.holdupSample uv) s = .next (
       if s.dev.st == .powerFail then
         let s1 := s.sampleE uv
         if s1.toll.task = 0 then s1.tryTask 1 uv else s1
       else if s.dev.st.serving then
         let s1 := s.sampleE uv
         let low := decide (s.holdE uv < s.taskCost 1 + s.taskCost 2 + s.taskCost 3 + s.taskCost 4 + eRes)
         let s2 := s1.wb Reg.TOLL_STAT 30 low
         s2.raiseIf (low && !s.rb Reg.TOLL_STAT 30) 543
       else s)) ∧
  (∀ (s : State) (uv : Nat),
     let k := s.toll.task
     s.dev.st = .powerFail →
     k ≠ 0 →
     k ≤ 4 →
     let s1 := { s with toll.done := s.toll.done ||| BitVec.ofNat 4 (2 ^ (k - 1)) }.pfRecord.sampleE uv
     exec (.holdupTaskEnd uv) s = .next (if s1.toll.backAt.isSome then s1.sysReset 9 else s1.tryTask (k + 1) uv)) ∧
  (∀ (s : State),
     s.dev.st = .powerFail →
     let s1 := { s with dev.vinOk := true }
     exec .powerReturn s = .next (if 1 ≤ s.toll.task && s.toll.task ≤ 4 then { s1 with toll.backAt := some s.clk.ns } else s1.sysReset 9)) ∧
  (∀ (s : State) (lowNs : Nat),
     exec (.vinOkLow lowNs) s = .next (
       match s.dev.st with
       | .off => s
       | .standby => s
       | .powerFail => { s with dev.vinOk := false }
       | .boot => { s with dev.vinOk := false }
       | _ =>
         if lowNs < 2000 then s
         else
           let s1 := { s with
             dev.vinOk := false, dev.stopping := false, toll.task := 0, toll.done := 0, toll.skipped := 0
             toll.backAt := none, toll.forced := true }
           (s1.turn .powerFail).takeAll))

/-- Resets, supplies and power states: the commands complete (R435, R436, R439, R440, R441, R448, R449, R453). -/
def Obligations.PowerCommandsComplete : Prop :=
  (∀ (s : State) (i : Nat),
     (Instr.supplyWarn i).wf = true →
     s.dev.st ≠ .off →
     (s.dev.st == .standby && i != 0) = false →
     exec (.supplyWarn i) s = .next ((s.wb Reg.SYS_PWR i true).raise 540)) ∧
  (∀ (s : State) (i : Nat),
     (Instr.brownOut i).wf = true →
     s.dev.st ≠ .off →
     (s.dev.st == .standby && i != 0) = false →
     exec (.brownOut i) s = .next (
       if i = 0 then s.powerOff
       else s.restart .power 2)) ∧
  (∀ (s : State) (x : PowerUp),
     let t := if x.vaon then s.restart .power 1 else s
     (x.vaon || (s.dev.rst && s.rf Reg.SYS_RESET_CAUSE 20 4 == 1)) = true →
     exec (.powerOn x) s = .next ({ t with dev.sel := x.sel }.resetEnds)) ∧
  (∀ (s : State) (lowNs : Nat),
     1000 ≤ lowNs →
     exec (.resetPin lowNs) s = .next (
       if 3000 ≤ lowNs then s.sysReset 3
       else
         let s1 := s.used 1
         if Config.shortResetTaken s.free then s1.sysReset 3 else s1)) ∧
  (∀ (s : State) (w : Wing),
     s.mainUp = true →
     s.dev.stew.at_ w = true →
     exec (.stewardWatchdog w) s = .next (s.coreNow [w] (4 + w.idx))) ∧
  (∀ (s : State),
     (s.sec.unlocked || s.debugLevel == 0) = true →
     exec .debugReset s = .next (s.sysReset 8)) ∧
  (∀ (s : State),
     exec .stormClear s = .next (
       match s.dev.storms with
       | t :: _ => if s.dev.storm && decide (t + 1966080 ≤ s.clk.cd0) then { s with dev.storm := false } else s
       | [] => { s with dev.storm := false })) ∧
  (∀ (s : State) (fn : Nat) (val : Word),
     (Instr.setMode fn val).wf = true →
     s.reach fn = true →
     fn = 0 →
     fld (setFld val 28 4 1) 28 4 = 1 →
     fld (setFld val 28 4 1) 16 12 = 0xA5C →
     s.pCfg fn = true →
     (fld (setFld val 28 4 1) 0 4 = 9 → s.hasPriv fn 4 = true) →
     ∀ d,
     modeOf (fld (setFld val 28 4 1) 0 4) = some d →
     s.dev.st.serving = true →
     s.dev.stopping = false →
     exec (.setMode fn val) s = .next ((s.turn d).sysResult 0)) ∧
  (∀ (s : State) (fn : Nat) (val : Word),
     (Instr.coreReset fn val).wf = true →
     s.reach fn = true →
     fn = 0 →
     fld (setFld val 28 4 2) 28 4 = 2 →
     fld (setFld val 28 4 2) 16 12 = 0xA5C →
     s.pCfg fn = true →
     ∀ ws,
     wingsOf (fld (setFld val 28 4 2) 0 4) = some ws →
     exec (.coreReset fn val) s = .next ((s.coreNow ws 6).sysResult 0)) ∧
  (∀ (s : State) (fn : Nat) (val : Word),
     (Instr.systemReset fn val).wf = true →
     s.reach fn = true →
     fn = 0 →
     fld (setFld val 28 4 3) 28 4 = 3 →
     fld (setFld val 28 4 3) 16 12 = 0xA5C →
     s.pCfg fn = true →
     exec (.systemReset fn val) s = .next ((s.sysResult 0).sysReset 6)) ∧
  (∀ (s : State) (fn : Nat) (val : Word),
     (Instr.standby fn val).wf = true →
     s.reach fn = true →
     fn = 0 →
     fld (setFld val 28 4 4) 28 4 = 4 →
     fld (setFld val 28 4 4) 16 12 = 0xA5C →
     s.pCfg fn = true →
     (s.dev.st.serving || s.dev.st == .safeTalk) = true →
     s.dev.stopping = false →
     exec (.standby fn val) s = .next ((s.sysResult 0).beginStandby)) ∧
  (∀ (s : State) (bits : Word),
     let w := bits &&& 0x001FFF00#32 &&& s.rd Reg.SYS_WAKE_CFG &&& 0x003FFFFF#32
     s.dev.st = .standby →
     w ≠ 0 →
     exec (.standbyWake bits) s = .next (
       { ({ s with dev.pwrReq := true }.wr Reg.SYS_WAKE_CAUSE w).restart .standbyExit 0x0A with dev.wakeCyc := some s.cd1Cyc })) ∧
  (∀ (s : State),
     s.clk.rtc.setWidth 32 = s.rd Reg.RTC_ALARM →
     exec .rtcAlarm s = .next (
       if s.wakeWatch then s.wakeUp 0x00200000#32
       else s.raise 547)) ∧
  (∀ (s : State),
     s.dev.rst = true →
     s.dev.rstEnd ≤ s.clk.ns →
     s.rf Reg.SYS_RESET_CAUSE 20 4 ≠ 1 →
     exec .resetRelease s = .next (s.resetEnds))

/-- Start-up: the commands complete (R438, R444, R463, R464, R466, R467). -/
def Obligations.StartCommandsComplete : Prop :=
  (∀ (s : State) (flashE flashW held : Bool),
     s.mainUp = true →
     s.dev.st = .boot →
     s.dev.rst = false →
     held = true →
     exec (.bootComplete flashE flashW held) s = .next (
       if !(flashE && flashW) then { s with dev.vinOk := true }.safeTalk 0x0B
       else
         let (e, s1) := s.bootSlot .east
         let (w, s2) := s1.bootSlot .west
         let s3 := { s2 with dev.vinOk := true, dev.stew := ⟨e, w⟩ }.wf (Reg.BKUP 0) 16 8 (fld s2.upd.word2 24 8)
         if !e && !w then s3.safeTalk 1
         else if s3.dev.storm then s3.safeTalk 0x0C
         else { s3 with dev.step := 2, dev.stepAt := s.clk.ns }.turn .selfTest)) ∧
  (∀ (s : State) (res : SelfTest),
     s.mainUp = true →
     s.dev.st = .selfTest →
     exec (.selfTestComplete res) s = .next (
       if res == .pass then ({ s.mendRecord with dev.step := 3, dev.stepAt := s.clk.ns }.unseal).turn .configuring
       else s.mendRecord.startFail (testStatus res))) ∧
  (∀ (s : State) (flashOk mramOk : Bool),
     s.mainUp = true →
     let k := fld s.upd.word2 31 1
     s.dev.st = .configuring →
     s.stewardRuns = true →
     exec (.configuringComplete flashOk mramOk) s = .next (
       if !flashOk then s.startFail 0x0B
       else match s.manFault k with
       | some c => (s.noteManFault k).startFail c
       | none =>
         let s1 := s.withMan k
         if !s1.rulesOk then s.startFail 8
         else
           let s2 := eachIn wings (fun w t => (t.failSources w).startWing w) s1.startCentre
           let s3 := s2.startSettings
           match wings.findSome? s3.loadFault with
           | some (kind, c) => (if c = 0 then s3.evalTargets else s3.evalTargets.imageRefused kind c).startFail 9
           | none =>
             let s4 := eachIn wings (fun w t => t.thicketsRun w) ((s3.loadAll s3.pkgEngines).clustersRun (List.range 8))
             (s4.startTime mramOk).enterService)) ∧
  (∀ (s : State),
     s.mainUp = true →
     let due := decide (s.dev.stepAt + stepBound s.dev.step * 1000000 ≤ s.clk.ns)
     exec .stepTimeout s = .next (
       match s.dev.st with
       | .boot => if s.dev.rst || !s.dev.vinOk || !due then s else s.safeTalk 0x0A
       | .selfTest => if due then s.startFail 0x0A else s
       | .configuring => if due then s.startFail 0x0A else s
       | _ => s)) ∧
  (∀ (s : State),
     s.mainUp = true →
     let t0 := if s.upd.trialAt = 0 then s.dev.since else s.upd.trialAt
     let here := s.upd.trialAt ≠ 0 || s.dev.st == s.startMode
     tst s.upd.word2 3 = true →
     s.upd.act.isNone = true →
     here = true →
     t0 + 10000000000 ≤ s.clk.ns →
     exec .trialClear s = .next (s.writeBoot (setFld (setFld s.upd.word2 3 1 0) 0 2 0))) ∧
  (∀ (s : State),
     s.mainUp = true →
     s.dev.st = .safeTalk →
     (s.dev.diag.isSome && decide (s.clk.ns < s.dev.diagAt + 1000000000)) = false →
     exec .diagLine s = .next (
       { s with
         dev.diag := some (BitVec.ofNat 8 s.dev.st.code, BitVec.ofNat 8 (s.rf Reg.MAN_STAT 24 8),
           BitVec.ofNat 8 (s.rf Reg.SYS_RESET_CAUSE 24 8))
         dev.diagAt := s.clk.ns })) ∧
  (∀ (s : State) (w : Wing),
     s.mainUp = true →
     s.dev.core.at_ w = true →
     s.dev.rst = false →
     exec (.coreResetEnd w) s = .next (
       if s.loadFails w then s.actFails w
       else
         let (ok, s1) := s.bootSlot w
         let s2 := { s1 with
           dev.core := s1.dev.core.set w false, dev.stew := s1.dev.stew.set w ok
           arb.hbSeq := s1.arb.hbSeq.set w 0, arb.run := s1.arb.run.set w 0, arb.sentAt := s1.arb.sentAt.set w none
           arb.linkAt := s1.arb.linkAt.set w s1.clk.ns, arb.lost := s1.arb.lost.set w false
           arb.mute := s1.arb.mute.set w (s1.excluded w && !s1.safe.actExcl.at_ w) }
         if ok then s2.reloadWing w else s2))

/-- Staging, activation and the settings journal: the commands complete (R310, R461, R469, R470, R471). -/
def Obligations.UpdateCommandsComplete : Prop :=
  (∀ (s : State) (ch targetG : Nat),
     (Instr.stageOpen ch targetG).wf = true →
     s.mainUp = true →
     ∀ rq,
     Tab.find s.host.taken ch = some rq →
     rq.typ.toNat = 0x20 →
     s.chanPriv ch 2 = true →
     (s.dev.st.serving || s.dev.st == .safeTalk) = true →
     s.manBusy ch = false →
     let target := fld (msgWord (s.msg ch (wordBytes (BitVec.ofNat 32 targetG))) 0) 0 2
     target ≠ 3 →
     (s.romServes ch && target != 0) = false →
     ∀ k,
     s.freeImage target = some k →
     let t1 := ((((s.setVerified target k false).unstage target).eraseFlash (slotBase target k) (slotSize target)).dropBody target k)
     exec (.stageOpen ch targetG) s = .next ({ t1 with upd.stage := some (ch, target, k, 0) }.manReply ch [0])) ∧
  (∀ (s : State) (ch offG : Nat) (dataG : List Octet) (flashOk : Bool),
     (Instr.stageWrite ch offG dataG flashOk).wf = true →
     s.mainUp = true →
     ∀ rq,
     Tab.find s.host.taken ch = some rq →
     rq.typ.toNat = 0x21 →
     s.chanPriv ch 2 = true →
     (s.dev.st.serving || s.dev.st == .safeTalk) = true →
     s.manBusy ch = false →
     let m := s.msg ch (wordBytes (BitVec.ofNat 32 offG) ++ dataG)
     let off := (msgWord m 0).toNat
     let data := m.drop 4
     ∀ z1 tg k nx,
     s.upd.stage = some (z1, tg, k, nx) →
     nx ≤ off →
     data.length ≤ 65520 →
     off + data.length ≤ slotSize tg →
     flashOk = true →
     exec (.stageWrite ch offG dataG flashOk) s = .next (
       { s with
         upd.flash := putFlash s.upd.flash (slotBase tg k + off) data
         upd.stage := some (ch, tg, k, off + data.length) }.manReply ch [0])) ∧
  (∀ (s : State) (ch : Nat) (body : ImageBody),
     (Instr.stageClose ch body).wf = true →
     s.mainUp = true →
     ∀ rq,
     Tab.find s.host.taken ch = some rq →
     rq.typ.toNat = 0x22 →
     s.chanPriv ch 2 = true →
     (s.dev.st.serving || s.dev.st == .safeTalk) = true →
     s.manBusy ch = false →
     ∀ z1 tg k z2,
     s.upd.stage = some (z1, tg, k, z2) →
     let t1 := { s with upd.stage := none }
     exec (.stageClose ch body) s = .next (
       match t1.targetFault tg k with
       | some c => ((t1.raise 520).raise 582).manReply ch [5, BitVec.ofNat 32 c]
       | none =>
         ({ (t1.setVerified tg k true).keepBody tg k body with
           upd.staged := (tg, k) :: s.upd.staged.filter (fun p => p.1 != tg) }).manReply ch [0])) ∧
  (∀ (s : State) (ch cG : Nat) (flashOk : Bool),
     (Instr.activateCluster ch cG flashOk).wf = true →
     s.mainUp = true →
     ∀ rq,
     Tab.find s.host.taken ch = some rq →
     rq.typ.toNat = 0x23 →
     s.chanPriv ch 2 = true →
     (s.dev.st.serving || s.dev.st == .safeTalk) = true →
     s.manBusy ch = false →
     let w0 := msgWord (s.msg ch (wordBytes (BitVec.ofNat 32 (cG * 256)))) 0
     fld w0 0 2 = 0 →
     let c := fld w0 8 3
     ∀ k,
     s.stagedSlot 0 = some k →
     flashOk = true →
     s.scopeFits k false (fun n => n / 4 == c) = true →
     let t1 := (s.select (fun w => setFld w (16 + c) 1 k)).manReply ch [0]
     let gone := ((List.range 8).map (fun q => (t1.swQueue (40 + c) q).length)).sum
       + (Tab.get [] t1.sw.staged (40 + c)).length
     let t2 := (t1.wf (Reg.PE_CL_STAT c) 30 2 1).flushPort (40 + c)
     let t3 := each 4 (fun i u => u.resetEngine (4 * c + i)) (t2.cnt (Reg.PE_CL_REFUSED c) 0 32 gone)
     let t4 := (t3.wf (Reg.PE_CL_STAT c) 30 2 2).wf Reg.MAN_STAT 20 4 4
     exec (.activateCluster ch cG flashOk) s = .next (({ t4 with upd.act := some (0, 16 + c), upd.loaded := [] }).actCheck)) ∧
  (∀ (s : State) (ch : Nat) (wG : Wing) (flashOk : Bool),
     (Instr.activateWing ch wG flashOk).wf = true →
     s.mainUp = true →
     ∀ rq,
     Tab.find s.host.taken ch = some rq →
     rq.typ.toNat = 0x23 →
     s.chanPriv ch 2 = true →
     (s.dev.st.serving || s.dev.st == .safeTalk) = true →
     s.manBusy ch = false →
     let w0 := msgWord (s.msg ch (wordBytes (BitVec.ofNat 32 (1 + 256 * wG.idx)))) 0
     fld w0 0 2 = 1 →
     let w := wingOf (fld w0 8 1)
     ∀ k,
     s.stagedSlot 0 = some k →
     flashOk = true →
     s.scopeFits k true (fun n => engWing n == w) = true →
     (decide (s.steward = some w) && !s.deputyOk) = false →
     let sel (x : Word) : Word := setFld (setFld x (fwSelBit w) 1 k) (16 + 4 * w.idx) 4 (15 * k)
     let t1 := (s.select sel).manReply ch [0]
     let t2 : State := { t1.actPhase 1 5 with upd.actWing := w, upd.loaded := [] }
     exec (.activateWing ch wG flashOk) s = .next (if t2.steward = some w then { t2 with arb.mute := t2.arb.mute.set w true } else t2.coreNow [w] 6)) ∧
  (∀ (s : State) (ch : Nat) (arg : BitVec 30) (flashOk : Bool),
     (Instr.activateDevice ch arg flashOk).wf = true →
     s.mainUp = true →
     ∀ rq,
     Tab.find s.host.taken ch = some rq →
     rq.typ.toNat = 0x23 →
     s.chanPriv ch 2 = true →
     (s.dev.st.serving || s.dev.st == .safeTalk) = true →
     s.manBusy ch = false →
     let w0 := msgWord (s.msg ch (wordBytes (arg ++ 2#2))) 0
     fld w0 0 2 = 2 →
     s.deviceFault = none →
     flashOk = true →
     let m := s.slotMan s.newManSlot
     let set := if s.newId then s.setFor (s.slotManId s.newManSlot) else none
     let t1 := { s.selectAll with upd.staged := s.upd.staged.filter (fun p => p.1 == 2 && set.isNone) }.manReply ch [0]
     exec (.activateDevice ch arg flashOk) s = .next (
       if t1.dev.st == .safeTalk then { t1 with upd.half := set.getD t1.upd.half }.restart .system 6
       else match t1.steward with
       | none => t1
       | some h =>
         let d := h.other
         let t2 := (t1.compareOn false).actPhase 2 1
         let t3 := { t2 with
           upd.actWing := d, upd.man := some m, upd.actSet := set.map s.halfSettings, safe.actExcl := t2.safe.actExcl.set d true }
         let t4 := t3.exclude d 566
         if t4.dev.rst then t4 else t4.coreNow [d] 6)) ∧
  (∀ (s : State) (ch : Nat) (flashOk : Bool),
     (Instr.settingsLoad ch flashOk).wf = true →
     s.mainUp = true →
     ∀ rq,
     Tab.find s.host.taken ch = some rq →
     rq.typ.toNat = 0x24 →
     s.chanPriv ch 2 = true →
     (s.dev.st.serving || s.dev.st == .safeTalk) = true →
     s.manBusy ch = false →
     ∀ h,
     s.stagedSlot 2 = some h →
     flashOk = true →
     s.halfReason h = 0 →
     let i := s.halfSettings h
     let at_ := s.devT + 2000000 * 65536
     exec (.settingsLoad ch flashOk) s = .next (({ s.acceptRecs i.recs at_ with lease.pend := some (i.recs, at_), upd.setPend := some i }.unstage 2).manReply ch [0])) ∧
  (∀ (s : State) (ch : Nat),
     (Instr.abort ch).wf = true →
     s.mainUp = true →
     ∀ rq,
     Tab.find s.host.taken ch = some rq →
     rq.typ.toNat = 0x25 →
     s.chanPriv ch 2 = true →
     (s.dev.st.serving || s.dev.st == .safeTalk) = true →
     s.manBusy ch = false →
     s.upd.stage.isNone = false →
     exec (.abort ch) s = .next ({ s with upd.stage := none }.manReply ch [0])) ∧
  (∀ (s : State),
     s.mainUp = true →
     4096 ≤ (s.setHalf s.upd.half).log.length →
     let o := 1 - s.upd.half
     let s1 := (s.eraseFlash (slotBase 2 0) (2 * slotSize 2)).unstage 2
     exec .journalCompact s = .next (
       { s1 with
         upd.half := o, upd.halves := [(o, ⟨s.settingsNow, some s.dev.manId, []⟩)]
         upd.stage := match s.upd.stage with
           | some (c, tg, k, n) => if tg = 2 then none else some (c, tg, k, n)
           | none => none }))

/-- Safety diagnostics: the commands complete (R478, R479, R480, R481). -/
def Obligations.SafetyCommandsComplete : Prop :=
  (∀ (s : State) (d : Nat) (out lost : Bool),
     (Instr.clockWindow d out lost).wf = true →
     s.mainUp = true →
     s.watching = true →
     d ≠ 2 →
     s.clockRuns d = true →
     let was := Tab.get 0 s.safe.clk d
     let n := if lost then 3 else if out then capAt 3 (was + 1) else 0
     let s1 := { s with safe.clk := if n = 0 then Tab.del s.safe.clk d else Tab.put s.safe.clk d n }
     exec (.clockWindow d out lost) s = .next (if n = 3 && (lost || decide (was < 3)) then s1.clockFault d else s1)) ∧
  (∀ (s : State) (centre west east : Octet),
     s.mainUp = true →
     s.watching = true →
     let l := [centre.toNat, west.toNat, east.toNat]
     let top := l.foldl max 0
     let m := s.tmax
     let at_ := if east.toNat = top then 1 else if west.toNat = top then 2 else 3
     let s1 := s.wr Reg.SAFE_TEMP_RD (BitVec.ofNat 32 (centre.toNat * 65536 + west.toNat * 256 + east.toNat))
     let s2 := { s1 with
       safe.hotAt := if m + 10 < top then some (s.safe.hotAt.getD s.clk.ns) else none
       safe.coolAt := if top < m - 5 then some (s.safe.coolAt.getD s.clk.ns) else none }
     let s3 := if m < top && !s2.rb Reg.SAFE_ALARM 24 then s2.reactAlarm 24 564 at_ else s2
     let s4 := if m < top || s3.toll.forced then { s3 with toll.forced := true }.takeAll else s3
     exec (.tempRead centre west east) s = .next (
       match s4.safe.coolAt with
       | some t => if t + 1000000000 ≤ s4.clk.ns then { s4 with toll.forced := false }.setAlarm 24 false else s4
       | none => s4)) ∧
  (∀ (s : State),
     s.mainUp = true →
     ∀ t,
     s.safe.hotAt = some t →
     s.watching = true →
     ¬ (s.clk.ns < t + 10000000) →
     exec .tempShutdown s = .next (s.reactReset 564)) ∧
  (∀ (s : State) (ok : Bool),
     s.mainUp = true →
     ok = false →
     s.watching = true →
     s.dev.manOk = true →
     exec (.manifestCrcRecheck ok) s = .next (s.reactReset 565)) ∧
  (∀ (s : State) (w : Wing),
     s.mainUp = true →
     s.watching = true →
     s.dev.core.at_ w = false →
     let s1 := ((s.raiseAt 561 0 (wingCode w)).wingFault w).exclude w 561
     exec (.lockstepFault w) s = .next (if s1.dev.rst then s1 else (s1.safeLast 561 3 (wingCode w)).coreNow [w] 7)) ∧
  (∀ (s : State) (w : Option Wing),
     s.mainUp = true →
     s.watching = true →
     exec (.parityError w) s = .next (
       match w with
       | some x => s.reactExclude 20 562 x
       | none => s.reactAlarm 20 562 3)) ∧
  (∀ (s : State) (u : EccSite),
     s.mainUp = true →
     s.watching = true →
     exec (.eccUe u) s = .next (
       match u with
       | .wall w n key c => (s.loseCell w n key c).wallEcc w
       | .hedge w => ((s.setAlarm 21 true).raiseAt 563 0 (wingCode w)).hedgeFault w 563
       | .serai => s.reactAlarm 21 563 3
       | .engine n p => s.engineEcc n p
       | .image a => s.imageEcc a
       | .mram r k b two => s.mramEcc r k b two
       | .other => (s.setAlarm 21 true).reactReset 563)) ∧
  (∀ (s : State) (east west : Bool),
     s.mainUp = true →
     ∀ t,
     s.safe.directed = some t →
     (!east && !west && decide (s.clk.ns < t + 100000000)) = false →
     let s1 := { s with safe.directed := none }
     let s2 := if east then s1.hedgeFault .east 566 else s1
     exec (.directedCheckEnd east west) s = .next (if west then s2.hedgeFault .west 566 else s2)) ∧
  (∀ (s : State) (n : Option Nat),
     s.mainUp = true →
     s.watching = true →
     let s1 := s.cnt Reg.SAFE_CE_CNT 0 32 1
     exec (.eccCe n) s = .next (
       match n with
       | some e => s1.cnt (Reg.PE_ECC_CE e) 0 32 1
       | none => s1))
end

