-- ==== Sys2Proof/Laws/Memory.lean ====
section
/-! SUPPORT. Tables and memories: a read after a write, and the canonical form, which every memory operation keeps. -/

namespace Sys2Proof.Machine

/-! A read after a write -/

theorem Tab.find_put {α : Type} (t : Tab α) (a b : Nat) (x : α) :
    Tab.find (Tab.put t a x) b = if a = b then some x else Tab.find t b := by
  induction t with
  | nil => simp [Tab.put, Tab.find]
  | cons p t ih =>
    obtain ⟨k, v⟩ := p
    unfold Tab.put
    split
    · simp [Tab.find]
    · split
      · subst_vars; simp only [Tab.find]; split <;> rfl
      · rename_i h1 h2
        simp only [Tab.find, ih]
        split
        · subst_vars; simp [h2]
        · rfl

theorem Tab.find_del {α : Type} (t : Tab α) (a b : Nat) : Tab.find (Tab.del t a) b = if a = b then none else Tab.find t b := by
  induction t with
  | nil => simp [Tab.del, Tab.find]
  | cons p t ih =>
    obtain ⟨k, v⟩ := p
    unfold Tab.del
    split
    · subst_vars; rw [ih]; split
      · rfl
      · simp [Tab.find, *]
    · rename_i h1
      simp only [Tab.find, ih]
      split
      · subst_vars; simp [Ne.symm h1]
      · rfl

@[simp] theorem Tab.get_put {α : Type} (d : α) (t : Tab α) (a b : Nat) (x : α) :
    Tab.get d (Tab.put t a x) b = if a = b then x else Tab.get d t b := by
  unfold Tab.get; rw [Tab.find_put]; split <;> rfl

@[simp] theorem Tab.get_store {α : Type} [DecidableEq α] (d : α) (t : Tab α) (a b : Nat) (x : α) :
    Tab.get d (Tab.store d t a x) b = if a = b then x else Tab.get d t b := by
  unfold Tab.store
  split
  · unfold Tab.get; rw [Tab.find_del]; subst_vars; split <;> rfl
  · rw [Tab.get_put]

/-! The canonical form -/

theorem Tab.rising_mono {α : Type} (t : Tab α) : ∀ {lo lo' : Nat}, lo' ≤ lo → Tab.risingFrom lo t = true → Tab.risingFrom lo' t = true := by
  intro lo lo' h
  cases t with
  | nil => intro _; rfl
  | cons p t =>
    simp only [Tab.risingFrom, Bool.and_eq_true, decide_eq_true_eq]
    intro ⟨h1, h2⟩; exact ⟨Nat.le_trans h h1, h2⟩

theorem Tab.rising_put {α : Type} (t : Tab α) (a : Nat) (x : α) :
    ∀ lo, lo ≤ a → Tab.risingFrom lo t = true → Tab.risingFrom lo (Tab.put t a x) = true := by
  induction t with
  | nil => intro lo h _; simp [Tab.put, Tab.risingFrom, h]
  | cons p t ih =>
    obtain ⟨k, v⟩ := p
    intro lo hlo h
    simp only [Tab.risingFrom, Bool.and_eq_true, decide_eq_true_eq] at h
    unfold Tab.put
    split
    · rename_i hk
      simp only [Tab.risingFrom, Bool.and_eq_true, decide_eq_true_eq]
      exact ⟨hlo, hk, h.2⟩
    · split
      · simp only [Tab.risingFrom, Bool.and_eq_true, decide_eq_true_eq]; exact h
      · simp only [Tab.risingFrom, Bool.and_eq_true, decide_eq_true_eq]
        exact ⟨h.1, ih (k + 1) (by omega) h.2⟩

theorem Tab.rising_filter {α : Type} (f : Nat × α → Bool) (t : Tab α) :
    ∀ lo, Tab.risingFrom lo t = true → Tab.risingFrom lo (t.filter f) = true := by
  induction t with
  | nil => intro lo h; exact h
  | cons p t ih =>
    obtain ⟨k, v⟩ := p
    intro lo h
    simp only [Tab.risingFrom, Bool.and_eq_true, decide_eq_true_eq] at h
    rw [List.filter_cons]
    split
    · simp only [Tab.risingFrom, Bool.and_eq_true, decide_eq_true_eq]; exact ⟨h.1, ih _ h.2⟩
    · exact ih lo (Tab.rising_mono t (by omega) h.2)

theorem Tab.del_eq {α : Type} (t : Tab α) (a : Nat) : Tab.del t a = t.filter (fun p => decide (p.1 ≠ a)) := by
  induction t with
  | nil => rfl
  | cons p t ih =>
    obtain ⟨k, v⟩ := p
    unfold Tab.del
    rw [List.filter_cons, ih]
    by_cases h : k = a <;> simp [h]

theorem Tab.mem_put {α : Type} (t : Tab α) (a : Nat) (x : α) (p : Nat × α) : p ∈ Tab.put t a x → p = (a, x) ∨ p ∈ t := by
  induction t with
  | nil => intro h; simpa [Tab.put] using h
  | cons q t ih =>
    obtain ⟨k, v⟩ := q
    unfold Tab.put
    split
    · intro h; simpa using h
    · split
      · intro h; rcases List.mem_cons.1 h with h | h
        · left; subst_vars; rfl
        · right; exact List.mem_cons_of_mem _ h
      · intro h; rcases List.mem_cons.1 h with h | h
        · right; rw [h]; exact List.mem_cons_self
        · rcases ih h with h | h
          · left; exact h
          · right; exact List.mem_cons_of_mem _ h

theorem Memory.wf_filter {α : Type} [DecidableEq α] (d : α) (f : Nat × α → Bool) (t : Tab α) (h : Memory.wf d t = true) :
    Memory.wf d (t.filter f) = true := by
  simp only [Memory.wf, Bool.and_eq_true, List.all_eq_true] at h ⊢
  exact ⟨Tab.rising_filter f t 0 h.1, fun p hp => h.2 p (List.mem_filter.1 hp).1⟩

theorem Memory.wf_put {α : Type} [DecidableEq α] {d : α} (t : Tab α) (a : Nat) (x : α) (hx : x ≠ d) (h : Memory.wf d t = true) :
    Memory.wf d (Tab.put t a x) = true := by
  simp only [Memory.wf, Bool.and_eq_true, List.all_eq_true] at h ⊢
  refine ⟨Tab.rising_put t a x 0 (Nat.zero_le _) h.1, fun p hp => ?_⟩
  rcases Tab.mem_put t a x p hp with rfl | hp
  · simpa using hx
  · exact h.2 p hp

/-- A write keeps the canonical form. -/
theorem Memory.wf_store {α : Type} [DecidableEq α] {d : α} (t : Tab α) (a : Nat) (x : α) (h : Memory.wf d t = true) :
    Memory.wf d (Tab.store d t a x) = true := by
  unfold Tab.store
  split
  · rw [Tab.del_eq]; exact Memory.wf_filter d _ t h
  · exact Memory.wf_put t a x (by assumption) h

theorem putBytes_wf (l : List Octet) : ∀ (m : Tab Octet) (a : Nat), Memory.wf 0 m = true → Memory.wf 0 (putBytes m a l) = true := by
  induction l with
  | nil => intro m a h; exact h
  | cons b l ih => intro m a h; exact ih _ _ (Memory.wf_store m a b h)

theorem putWords_wf (l : List Word) : ∀ (m : Tab Octet) (a : Nat), Memory.wf 0 m = true → Memory.wf 0 (putWords m a l) = true := by
  induction l with
  | nil => intro m a h; exact h
  | cons b l ih => intro m a h; exact ih _ _ (putBytes_wf _ m a h)

theorem putHalves_wf (l : List Half) : ∀ (m : Tab Half) (a : Nat), Memory.wf 0 m = true → Memory.wf 0 (putHalves m a l) = true := by
  induction l with
  | nil => intro m a h; exact h
  | cons b l ih => intro m a h; exact ih _ _ (Memory.wf_store m a b h)

theorem putFlash_wf (l : List Octet) : ∀ (m : Tab Octet) (a : Nat), Memory.wf 0xFF m = true → Memory.wf 0xFF (putFlash m a l) = true := by
  induction l with
  | nil => intro m a h; exact h
  | cons b l ih => intro m a h; exact ih _ _ (Memory.wf_store m a b h)

/-- A byte after a write of bytes. -/
theorem get_putBytes (l : List Octet) : ∀ (m : Tab Octet) (a b : Nat),
    Tab.get 0 (putBytes m a l) b = if a ≤ b ∧ b - a < l.length then l.getD (b - a) 0 else Tab.get 0 m b := by
  induction l with
  | nil => intro m a b; simp [putBytes]
  | cons x l ih =>
    intro m a b
    rw [putBytes, ih, Tab.get_store]
    by_cases h : a = b
    · subst h; simp
    · by_cases h2 : a + 1 ≤ b
      · have e : b - a = (b - (a + 1)) + 1 := by omega
        simp only [h, if_false, h2, true_and, e, List.length_cons, List.getD_cons_succ]
        have h3 : a ≤ b := by omega
        simp only [h3, true_and, Nat.add_lt_add_iff_right]
      · have h3 : ¬ a ≤ b := by omega
        simp [h2, h3, h]

end Sys2Proof.Machine
end

