-- ==== Sys2Proof/Laws/Issue.lean ====
section
/-! SUPPORT. What a command does with the power of its domain and with operands the device has, or without; an instruction of an engine's processor that issues: the move or the instruction is its advance and its effect, with no trap
before it; and what an engine's state reads as after an update of it. -/

namespace Sys2Proof.Machine

/-- A command of a powered block with operands the device has takes effect (R12, R438). -/
theorem live_of {ok : Bool} {s t : State} (h : ok = true) (k : s.mainUp = true) : live ok s t = .next t := by rw [live, h, k]; rfl

/-- With its domain down, such a command changes nothing. -/
theorem live_down {ok : Bool} {s t : State} (k : s.mainUp = false) : live ok s t = .next s := by
  rw [live, k, Bool.and_false]; rfl

/-- A command that names what the device lacks changes nothing (log entry 132). -/
theorem live_ill {ok : Bool} {s t : State} (h : ok = false) : live ok s t = .next s := by rw [live, h, Bool.false_and]; rfl

/-- A command that needs no power of MAIN, with operands the device has, takes effect. -/
theorem checked_of {ok : Bool} {s t : State} (h : ok = true) : checked ok s t = .next t := by rw [checked, h]; rfl

/-- One that names what the device lacks changes nothing (log entry 132). -/
theorem checked_ill {ok : Bool} {s t : State} (h : ok = false) : checked ok s t = .next s := by rw [checked, h]; rfl

/-- A move of the frame processor that issues: the source is read, PC advances, the destination is written (R319). -/
theorem State.fpMv_do (s : State) (n : Nat) (src : FpSrc) (g : FpGuard) (long : Bool) (dst : Nat) (op : Option Nat)
    (h : s.fpIssues n g long src dst = true) :
    s.fpMv n src g long dst op = s.fpMoveDo n long src (fun v t => t.fpWrite n dst v op) := by
  simp only [State.fpIssues, Bool.and_eq_true, Bool.or_eq_true, Bool.not_eq_true'] at h
  obtain ⟨⟨⟨⟨⟨⟨h1, h2⟩, h3⟩, h4⟩, h5⟩, h6⟩, h7⟩ := h
  have h8 : srcBad fpReserved src = false := by
    cases src <;> simp_all [srcBad, fpReserved]
  have h9 : fpReserved dst = false := by simp [fpReserved, h5]
  have h3 : long = false ∨ s.fetchOk n .fp ((s.en n).fp.pc + 1#16).toNat = true := h3
  rcases h3 with h3 | h3 <;>
    simp [-BitVec.toNat_add, State.fpMv, h1, h2, h3, h4, h5, h6, h7, h8, h9, State.fpMoveDo]

/-- An instruction of the session processor that issues: PC advances, then its effect (R349). -/
theorem State.spIssue_do (s : State) (n len : Nat) (rep : Bool) (go : State → Eff) (h : s.spIssues n len rep = true) :
    s.spIssue n len rep go = s.spDo n len go := by
  simp only [State.spIssues, Bool.and_eq_true, Bool.or_eq_true, decide_eq_true_eq, beq_iff_eq] at h
  obtain ⟨⟨⟨h1, h2⟩, h3⟩, h4⟩ := h
  have h3 : len ≠ 2 ∨ s.fetchOk n .sp (s.spPc n + 1#16).toNat = true := h3
  rcases h3 with h3 | h3 <;> rcases h4 with h4 | h4 <;>
    simp [-BitVec.toNat_add, State.spIssue, h1, h2, h3, h4, State.spDo]

/-- A move that issues, whose source gives a value and leaves a state: the destination's effect on that state with PC advanced. -/
theorem State.fpMv_val (s u : State) (n : Nat) (m : FpMv) (dst : Nat) (v : Half)
    (hk : ∀ k : Half → State → Eff, s.fpSrcRead n m.src k = k v u) (h : s.fpIssues n m.guard m.long m.src dst = true) :
    s.fpTo n dst m
      = State.fpEnd n (s.en n).fp.pc ((u.fpAdvance n (if m.long then 2 else 1)).fpWrite n dst v none) := by
  rw [State.fpTo, State.fpMv_do _ _ _ _ _ _ _ h, State.fpMoveDo, hk]

/-- An engine's state after a write of it. -/
@[simp] theorem State.en_setEn (s : State) (n k : Nat) (e : Engine) : (s.setEn n e).en k = if n = k then e else s.en k := by
  simp only [State.en, State.setEn, Tab.get_put]

/-- A processor's state after a change of it. -/
@[simp] theorem State.en_onFp (s : State) (n k : Nat) (g : Fp → Fp) :
    (s.onFp n g).en k = if n = k then { s.en n with fp := g (s.en n).fp } else s.en k := by
  simp only [State.onFp, State.en_setEn]

end Sys2Proof.Machine
end

