-- ==== Sys2Proof/Laws/Within.lean ====
section
/-! SUPPORT. What a shared operation may change, said once: `Within m s t` says that t differs from s in no other part of the state than
those whose bit `m` has, that the queue and every blown fuse stand, and that canonical memories stay canonical. -/

namespace Sys2Proof.Machine

/-- The parts of the state in which t may differ from s are those of the mask; the queue stands, blown fuses stay blown, canonical memories
stay canonical. -/
structure Within (m : Nat) (s t : State) : Prop where
  pending : t.pending = s.pending
  mem : s.memOk = true → t.memOk = true
  fuse : ∀ f b, b ∈ s.blown f → b ∈ t.blown f
  free : m.testBit 0 = false → t.free = s.free
  regs : m.testBit 1 = false → t.regs = s.regs
  clk : m.testBit 2 = false → t.clk = s.clk
  bus : m.testBit 3 = false → t.bus = s.bus
  dev : m.testBit 4 = false → t.dev = s.dev
  arb : m.testBit 5 = false → t.arb = s.arb
  time : m.testBit 6 = false → t.time = s.time
  intake : m.testBit 7 = false → t.intake = s.intake
  wall : m.testBit 8 = false → t.wall = s.wall
  slice : m.testBit 9 = false → t.slice = s.slice
  hedge : m.testBit 10 = false → t.hedge = s.hedge
  lease : m.testBit 11 = false → t.lease = s.lease
  trip : m.testBit 12 = false → t.trip = s.trip
  ring : m.testBit 13 = false → t.ring = s.ring
  bridge : m.testBit 14 = false → t.bridge = s.bridge
  sw : m.testBit 15 = false → t.sw = s.sw
  eng : m.testBit 16 = false → t.eng = s.eng
  can : m.testBit 17 = false → t.can = s.can
  tk : m.testBit 18 = false → t.tk = s.tk
  pub : m.testBit 19 = false → t.pub = s.pub
  host : m.testBit 20 = false → t.host = s.host
  sec : m.testBit 21 = false → t.sec = s.sec
  upd : m.testBit 22 = false → t.upd = s.upd
  toll : m.testBit 23 = false → t.toll = s.toll
  safe : m.testBit 24 = false → t.safe = s.safe
  mram : m.testBit 25 = false → t.mram = s.mram
  man : m.testBit 26 = false → t.man = s.man

/-- One mask lies in another. -/
abbrev Sub (a b : Nat) : Prop := a &&& b = a

theorem Within.refl (m : Nat) (s : State) : Within m s s :=
  ⟨rfl, id, fun _ _ h => h, fun _ => rfl, fun _ => rfl, fun _ => rfl, fun _ => rfl, fun _ => rfl, fun _ => rfl, fun _ => rfl, fun _ => rfl, fun _ => rfl, fun _ => rfl, fun _ => rfl, fun _ => rfl, fun _ => rfl, fun _ => rfl, fun _ => rfl, fun _ => rfl, fun _ => rfl, fun _ => rfl, fun _ => rfl, fun _ => rfl, fun _ => rfl, fun _ => rfl, fun _ => rfl, fun _ => rfl, fun _ => rfl, fun _ => rfl, fun _ => rfl⟩

theorem bit_of_sub {a b i : Nat} (h : Sub a b) (hb : b.testBit i = false) : a.testBit i = false := by
  unfold Sub at h; rw [← h, Nat.testBit_land, hb, Bool.and_false]

/-- One change after another; the second may touch less. -/
theorem Within.step {m n : Nat} {s t u : State} (h : Within m s t) (k : Within n t u) (hs : Sub n m) : Within m s u :=
  ⟨k.pending.trans h.pending, fun x => k.mem (h.mem x), fun f b x => k.fuse f b (h.fuse f b x),
    fun x => (k.free (bit_of_sub hs x)).trans (h.free x), fun x => (k.regs (bit_of_sub hs x)).trans (h.regs x),
    fun x => (k.clk (bit_of_sub hs x)).trans (h.clk x), fun x => (k.bus (bit_of_sub hs x)).trans (h.bus x),
    fun x => (k.dev (bit_of_sub hs x)).trans (h.dev x), fun x => (k.arb (bit_of_sub hs x)).trans (h.arb x),
    fun x => (k.time (bit_of_sub hs x)).trans (h.time x), fun x => (k.intake (bit_of_sub hs x)).trans (h.intake x),
    fun x => (k.wall (bit_of_sub hs x)).trans (h.wall x), fun x => (k.slice (bit_of_sub hs x)).trans (h.slice x),
    fun x => (k.hedge (bit_of_sub hs x)).trans (h.hedge x), fun x => (k.lease (bit_of_sub hs x)).trans (h.lease x),
    fun x => (k.trip (bit_of_sub hs x)).trans (h.trip x), fun x => (k.ring (bit_of_sub hs x)).trans (h.ring x),
    fun x => (k.bridge (bit_of_sub hs x)).trans (h.bridge x), fun x => (k.sw (bit_of_sub hs x)).trans (h.sw x),
    fun x => (k.eng (bit_of_sub hs x)).trans (h.eng x), fun x => (k.can (bit_of_sub hs x)).trans (h.can x),
    fun x => (k.tk (bit_of_sub hs x)).trans (h.tk x), fun x => (k.pub (bit_of_sub hs x)).trans (h.pub x),
    fun x => (k.host (bit_of_sub hs x)).trans (h.host x), fun x => (k.sec (bit_of_sub hs x)).trans (h.sec x),
    fun x => (k.upd (bit_of_sub hs x)).trans (h.upd x), fun x => (k.toll (bit_of_sub hs x)).trans (h.toll x),
    fun x => (k.safe (bit_of_sub hs x)).trans (h.safe x), fun x => (k.mram (bit_of_sub hs x)).trans (h.mram x),
    fun x => (k.man (bit_of_sub hs x)).trans (h.man x)⟩

theorem Within.on_free {m : Nat} {s t : State} {v : Nat} (h : Within m s t) (hm : m.testBit 0 = true) :
    Within m s { t with free := v } :=
  ⟨h.pending, h.mem, h.fuse,
    fun x => absurd x (by simp [hm]), h.regs, h.clk, h.bus, h.dev, h.arb, h.time, h.intake, h.wall, h.slice, h.hedge, h.lease, h.trip, h.ring, h.bridge, h.sw, h.eng, h.can, h.tk, h.pub, h.host, h.sec, h.upd, h.toll, h.safe, h.mram, h.man⟩

theorem Within.on_regs {m : Nat} {s t : State} {v : Tab Word} (h : Within m s t) (hm : m.testBit 1 = true) :
    Within m s { t with regs := v } :=
  ⟨h.pending, h.mem, h.fuse,
    h.free, fun x => absurd x (by simp [hm]), h.clk, h.bus, h.dev, h.arb, h.time, h.intake, h.wall, h.slice, h.hedge, h.lease, h.trip, h.ring, h.bridge, h.sw, h.eng, h.can, h.tk, h.pub, h.host, h.sec, h.upd, h.toll, h.safe, h.mram, h.man⟩

theorem Within.on_clk {m : Nat} {s t : State} {v : Clocks} (h : Within m s t) (hm : m.testBit 2 = true) :
    Within m s { t with clk := v } :=
  ⟨h.pending, h.mem, h.fuse,
    h.free, h.regs, fun x => absurd x (by simp [hm]), h.bus, h.dev, h.arb, h.time, h.intake, h.wall, h.slice, h.hedge, h.lease, h.trip, h.ring, h.bridge, h.sw, h.eng, h.can, h.tk, h.pub, h.host, h.sec, h.upd, h.toll, h.safe, h.mram, h.man⟩

theorem Within.on_bus {m : Nat} {s t : State} {v : Bus} (h : Within m s t) (hm : m.testBit 3 = true) :
    Within m s { t with bus := v } :=
  ⟨h.pending, h.mem, h.fuse,
    h.free, h.regs, h.clk, fun x => absurd x (by simp [hm]), h.dev, h.arb, h.time, h.intake, h.wall, h.slice, h.hedge, h.lease, h.trip, h.ring, h.bridge, h.sw, h.eng, h.can, h.tk, h.pub, h.host, h.sec, h.upd, h.toll, h.safe, h.mram, h.man⟩

theorem Within.on_dev {m : Nat} {s t : State} {v : Dev} (h : Within m s t) (hm : m.testBit 4 = true) :
    Within m s { t with dev := v } :=
  ⟨h.pending, h.mem, h.fuse,
    h.free, h.regs, h.clk, h.bus, fun x => absurd x (by simp [hm]), h.arb, h.time, h.intake, h.wall, h.slice, h.hedge, h.lease, h.trip, h.ring, h.bridge, h.sw, h.eng, h.can, h.tk, h.pub, h.host, h.sec, h.upd, h.toll, h.safe, h.mram, h.man⟩

theorem Within.on_arb {m : Nat} {s t : State} {v : Arb} (h : Within m s t) (hm : m.testBit 5 = true) :
    Within m s { t with arb := v } :=
  ⟨h.pending, h.mem, h.fuse,
    h.free, h.regs, h.clk, h.bus, h.dev, fun x => absurd x (by simp [hm]), h.time, h.intake, h.wall, h.slice, h.hedge, h.lease, h.trip, h.ring, h.bridge, h.sw, h.eng, h.can, h.tk, h.pub, h.host, h.sec, h.upd, h.toll, h.safe, h.mram, h.man⟩

theorem Within.on_time {m : Nat} {s t : State} {v : Time} (h : Within m s t) (hm : m.testBit 6 = true) :
    Within m s { t with time := v } :=
  ⟨h.pending, h.mem, h.fuse,
    h.free, h.regs, h.clk, h.bus, h.dev, h.arb, fun x => absurd x (by simp [hm]), h.intake, h.wall, h.slice, h.hedge, h.lease, h.trip, h.ring, h.bridge, h.sw, h.eng, h.can, h.tk, h.pub, h.host, h.sec, h.upd, h.toll, h.safe, h.mram, h.man⟩

theorem Within.on_intake {m : Nat} {s t : State} {v : Pair Intake} (h : Within m s t) (hm : m.testBit 7 = true) :
    Within m s { t with intake := v } :=
  ⟨h.pending, h.mem, h.fuse,
    h.free, h.regs, h.clk, h.bus, h.dev, h.arb, h.time, fun x => absurd x (by simp [hm]), h.wall, h.slice, h.hedge, h.lease, h.trip, h.ring, h.bridge, h.sw, h.eng, h.can, h.tk, h.pub, h.host, h.sec, h.upd, h.toll, h.safe, h.mram, h.man⟩

theorem Within.on_wall {m : Nat} {s t : State} {v : Pair Wall} (h : Within m s t) (hm : m.testBit 8 = true) :
    Within m s { t with wall := v } :=
  ⟨h.pending, h.mem, h.fuse,
    h.free, h.regs, h.clk, h.bus, h.dev, h.arb, h.time, h.intake, fun x => absurd x (by simp [hm]), h.slice, h.hedge, h.lease, h.trip, h.ring, h.bridge, h.sw, h.eng, h.can, h.tk, h.pub, h.host, h.sec, h.upd, h.toll, h.safe, h.mram, h.man⟩

theorem Within.on_slice {m : Nat} {s t : State} {v : Tab Slice} (h : Within m s t) (hm : m.testBit 9 = true) :
    Within m s { t with slice := v } :=
  ⟨h.pending, h.mem, h.fuse,
    h.free, h.regs, h.clk, h.bus, h.dev, h.arb, h.time, h.intake, h.wall, fun x => absurd x (by simp [hm]), h.hedge, h.lease, h.trip, h.ring, h.bridge, h.sw, h.eng, h.can, h.tk, h.pub, h.host, h.sec, h.upd, h.toll, h.safe, h.mram, h.man⟩

theorem Within.on_hedge {m : Nat} {s t : State} {v : Pair Hedge} (h : Within m s t) (hm : m.testBit 10 = true) :
    Within m s { t with hedge := v } :=
  ⟨h.pending, h.mem, h.fuse,
    h.free, h.regs, h.clk, h.bus, h.dev, h.arb, h.time, h.intake, h.wall, h.slice, fun x => absurd x (by simp [hm]), h.lease, h.trip, h.ring, h.bridge, h.sw, h.eng, h.can, h.tk, h.pub, h.host, h.sec, h.upd, h.toll, h.safe, h.mram, h.man⟩

theorem Within.on_lease {m : Nat} {s t : State} {v : Lease} (h : Within m s t) (hm : m.testBit 11 = true) :
    Within m s { t with lease := v } :=
  ⟨h.pending, h.mem, h.fuse,
    h.free, h.regs, h.clk, h.bus, h.dev, h.arb, h.time, h.intake, h.wall, h.slice, h.hedge, fun x => absurd x (by simp [hm]), h.trip, h.ring, h.bridge, h.sw, h.eng, h.can, h.tk, h.pub, h.host, h.sec, h.upd, h.toll, h.safe, h.mram, h.man⟩

theorem Within.on_trip {m : Nat} {s t : State} {v : Trip} (h : Within m s t) (hm : m.testBit 12 = true) :
    Within m s { t with trip := v } :=
  ⟨h.pending, h.mem, h.fuse,
    h.free, h.regs, h.clk, h.bus, h.dev, h.arb, h.time, h.intake, h.wall, h.slice, h.hedge, h.lease, fun x => absurd x (by simp [hm]), h.ring, h.bridge, h.sw, h.eng, h.can, h.tk, h.pub, h.host, h.sec, h.upd, h.toll, h.safe, h.mram, h.man⟩

theorem Within.on_ring {m : Nat} {s t : State} {v : Tab Ring} (h : Within m s t) (hm : m.testBit 13 = true) :
    Within m s { t with ring := v } :=
  ⟨h.pending, h.mem, h.fuse,
    h.free, h.regs, h.clk, h.bus, h.dev, h.arb, h.time, h.intake, h.wall, h.slice, h.hedge, h.lease, h.trip, fun x => absurd x (by simp [hm]), h.bridge, h.sw, h.eng, h.can, h.tk, h.pub, h.host, h.sec, h.upd, h.toll, h.safe, h.mram, h.man⟩

theorem Within.on_bridge {m : Nat} {s t : State} {v : Bridge} (h : Within m s t) (hm : m.testBit 14 = true)
    (hb : Memory.wf 0 t.bridge.image = true → Memory.wf 0 v.image = true) (hd : Memory.wf 0 t.bridge.draft = true → Memory.wf 0 v.draft = true) :
    Within m s { t with bridge := v } :=
  ⟨h.pending, fun x => by
      have a := h.mem x
      simp only [State.memOk, Bool.and_eq_true] at a ⊢
      obtain ⟨⟨⟨⟨⟨a1, a2⟩, a3⟩, a4⟩, a5⟩, a6⟩ := a
      exact ⟨⟨⟨⟨⟨hb a1, hd a2⟩, a3⟩, a4⟩, a5⟩, a6⟩, h.fuse,
    h.free, h.regs, h.clk, h.bus, h.dev, h.arb, h.time, h.intake, h.wall, h.slice, h.hedge, h.lease, h.trip, h.ring, fun x => absurd x (by simp [hm]), h.sw, h.eng, h.can, h.tk, h.pub, h.host, h.sec, h.upd, h.toll, h.safe, h.mram, h.man⟩

theorem Within.on_sw {m : Nat} {s t : State} {v : Switch} (h : Within m s t) (hm : m.testBit 15 = true) :
    Within m s { t with sw := v } :=
  ⟨h.pending, h.mem, h.fuse,
    h.free, h.regs, h.clk, h.bus, h.dev, h.arb, h.time, h.intake, h.wall, h.slice, h.hedge, h.lease, h.trip, h.ring, h.bridge, fun x => absurd x (by simp [hm]), h.eng, h.can, h.tk, h.pub, h.host, h.sec, h.upd, h.toll, h.safe, h.mram, h.man⟩

theorem Within.on_eng {m : Nat} {s t : State} {v : Tab Engine} (h : Within m s t) (hm : m.testBit 16 = true)
    (hb : t.eng.all (fun p => Memory.wf 0 p.2.code && Memory.wf 0 p.2.data) = true → v.all (fun p => Memory.wf 0 p.2.code && Memory.wf 0 p.2.data) = true) :
    Within m s { t with eng := v } :=
  ⟨h.pending, fun x => by
      have a := h.mem x
      simp only [State.memOk, Bool.and_eq_true] at a ⊢
      obtain ⟨⟨⟨⟨⟨a1, a2⟩, a3⟩, a4⟩, a5⟩, a6⟩ := a
      exact ⟨⟨⟨⟨⟨a1, a2⟩, a3⟩, a4⟩, a5⟩, hb a6⟩, h.fuse,
    h.free, h.regs, h.clk, h.bus, h.dev, h.arb, h.time, h.intake, h.wall, h.slice, h.hedge, h.lease, h.trip, h.ring, h.bridge, h.sw, fun x => absurd x (by simp [hm]), h.can, h.tk, h.pub, h.host, h.sec, h.upd, h.toll, h.safe, h.mram, h.man⟩

theorem Within.on_can {m : Nat} {s t : State} {v : Tab Can} (h : Within m s t) (hm : m.testBit 17 = true) :
    Within m s { t with can := v } :=
  ⟨h.pending, h.mem, h.fuse,
    h.free, h.regs, h.clk, h.bus, h.dev, h.arb, h.time, h.intake, h.wall, h.slice, h.hedge, h.lease, h.trip, h.ring, h.bridge, h.sw, h.eng, fun x => absurd x (by simp [hm]), h.tk, h.pub, h.host, h.sec, h.upd, h.toll, h.safe, h.mram, h.man⟩

theorem Within.on_tk {m : Nat} {s t : State} {v : Tab Tk} (h : Within m s t) (hm : m.testBit 18 = true) :
    Within m s { t with tk := v } :=
  ⟨h.pending, h.mem, h.fuse,
    h.free, h.regs, h.clk, h.bus, h.dev, h.arb, h.time, h.intake, h.wall, h.slice, h.hedge, h.lease, h.trip, h.ring, h.bridge, h.sw, h.eng, h.can, fun x => absurd x (by simp [hm]), h.pub, h.host, h.sec, h.upd, h.toll, h.safe, h.mram, h.man⟩

theorem Within.on_pub {m : Nat} {s t : State} {v : Tab Pub} (h : Within m s t) (hm : m.testBit 19 = true) :
    Within m s { t with pub := v } :=
  ⟨h.pending, h.mem, h.fuse,
    h.free, h.regs, h.clk, h.bus, h.dev, h.arb, h.time, h.intake, h.wall, h.slice, h.hedge, h.lease, h.trip, h.ring, h.bridge, h.sw, h.eng, h.can, h.tk, fun x => absurd x (by simp [hm]), h.host, h.sec, h.upd, h.toll, h.safe, h.mram, h.man⟩

theorem Within.on_host {m : Nat} {s t : State} {v : HostIf} (h : Within m s t) (hm : m.testBit 20 = true)
    (hb : Memory.wf 0 t.host.bank = true → Memory.wf 0 v.bank = true) :
    Within m s { t with host := v } :=
  ⟨h.pending, fun x => by
      have a := h.mem x
      simp only [State.memOk, Bool.and_eq_true] at a ⊢
      obtain ⟨⟨⟨⟨⟨a1, a2⟩, a3⟩, a4⟩, a5⟩, a6⟩ := a
      exact ⟨⟨⟨⟨⟨a1, a2⟩, hb a3⟩, a4⟩, a5⟩, a6⟩, h.fuse,
    h.free, h.regs, h.clk, h.bus, h.dev, h.arb, h.time, h.intake, h.wall, h.slice, h.hedge, h.lease, h.trip, h.ring, h.bridge, h.sw, h.eng, h.can, h.tk, h.pub, fun x => absurd x (by simp [hm]), h.sec, h.upd, h.toll, h.safe, h.mram, h.man⟩

theorem Within.on_sec {m : Nat} {s t : State} {v : Sec} (h : Within m s t) (hm : m.testBit 21 = true)
    (hb : ∀ f b, b ∈ Tab.get [] t.sec.fuse f → b ∈ Tab.get [] v.fuse f) :
    Within m s { t with sec := v } :=
  ⟨h.pending, h.mem, fun f b x => hb f b (h.fuse f b x),
    h.free, h.regs, h.clk, h.bus, h.dev, h.arb, h.time, h.intake, h.wall, h.slice, h.hedge, h.lease, h.trip, h.ring, h.bridge, h.sw, h.eng, h.can, h.tk, h.pub, h.host, fun x => absurd x (by simp [hm]), h.upd, h.toll, h.safe, h.mram, h.man⟩

theorem Within.on_upd {m : Nat} {s t : State} {v : Upd} (h : Within m s t) (hm : m.testBit 22 = true)
    (hb : Memory.wf 0xFF t.upd.flash = true → Memory.wf 0xFF v.flash = true) :
    Within m s { t with upd := v } :=
  ⟨h.pending, fun x => by
      have a := h.mem x
      simp only [State.memOk, Bool.and_eq_true] at a ⊢
      obtain ⟨⟨⟨⟨⟨a1, a2⟩, a3⟩, a4⟩, a5⟩, a6⟩ := a
      exact ⟨⟨⟨⟨⟨a1, a2⟩, a3⟩, a4⟩, hb a5⟩, a6⟩, h.fuse,
    h.free, h.regs, h.clk, h.bus, h.dev, h.arb, h.time, h.intake, h.wall, h.slice, h.hedge, h.lease, h.trip, h.ring, h.bridge, h.sw, h.eng, h.can, h.tk, h.pub, h.host, h.sec, fun x => absurd x (by simp [hm]), h.toll, h.safe, h.mram, h.man⟩

theorem Within.on_toll {m : Nat} {s t : State} {v : Toll} (h : Within m s t) (hm : m.testBit 23 = true) :
    Within m s { t with toll := v } :=
  ⟨h.pending, h.mem, h.fuse,
    h.free, h.regs, h.clk, h.bus, h.dev, h.arb, h.time, h.intake, h.wall, h.slice, h.hedge, h.lease, h.trip, h.ring, h.bridge, h.sw, h.eng, h.can, h.tk, h.pub, h.host, h.sec, h.upd, fun x => absurd x (by simp [hm]), h.safe, h.mram, h.man⟩

theorem Within.on_safe {m : Nat} {s t : State} {v : Safe} (h : Within m s t) (hm : m.testBit 24 = true) :
    Within m s { t with safe := v } :=
  ⟨h.pending, h.mem, h.fuse,
    h.free, h.regs, h.clk, h.bus, h.dev, h.arb, h.time, h.intake, h.wall, h.slice, h.hedge, h.lease, h.trip, h.ring, h.bridge, h.sw, h.eng, h.can, h.tk, h.pub, h.host, h.sec, h.upd, h.toll, fun x => absurd x (by simp [hm]), h.mram, h.man⟩

theorem Within.on_mram {m : Nat} {s t : State} {v : Mram} (h : Within m s t) (hm : m.testBit 25 = true)
    (hb : Memory.wf 0 t.mram.mem = true → Memory.wf 0 v.mem = true) :
    Within m s { t with mram := v } :=
  ⟨h.pending, fun x => by
      have a := h.mem x
      simp only [State.memOk, Bool.and_eq_true] at a ⊢
      obtain ⟨⟨⟨⟨⟨a1, a2⟩, a3⟩, a4⟩, a5⟩, a6⟩ := a
      exact ⟨⟨⟨⟨⟨a1, a2⟩, a3⟩, hb a4⟩, a5⟩, a6⟩, h.fuse,
    h.free, h.regs, h.clk, h.bus, h.dev, h.arb, h.time, h.intake, h.wall, h.slice, h.hedge, h.lease, h.trip, h.ring, h.bridge, h.sw, h.eng, h.can, h.tk, h.pub, h.host, h.sec, h.upd, h.toll, h.safe, fun x => absurd x (by simp [hm]), h.man⟩

theorem Within.on_man {m : Nat} {s t : State} {v : ManCfg} (h : Within m s t) (hm : m.testBit 26 = true) :
    Within m s { t with man := v } :=
  ⟨h.pending, h.mem, h.fuse,
    h.free, h.regs, h.clk, h.bus, h.dev, h.arb, h.time, h.intake, h.wall, h.slice, h.hedge, h.lease, h.trip, h.ring, h.bridge, h.sw, h.eng, h.can, h.tk, h.pub, h.host, h.sec, h.upd, h.toll, h.safe, h.mram, fun x => absurd x (by simp [hm])⟩

theorem Within.on_arb_intake {m : Nat} {s t : State} {v_arb : Arb} {v_intake : Pair Intake} (h : Within m s t)
    (m_arb : m.testBit 5 = true) (m_intake : m.testBit 7 = true)
     :
    Within m s { t with arb := v_arb, intake := v_intake } :=
  Within.on_intake (t := { t with arb := v_arb }) (Within.on_arb (t := t) (h) m_arb) m_intake

theorem Within.on_bridge_host {m : Nat} {s t : State} {v_bridge : Bridge} {v_host : HostIf} (h : Within m s t)
    (m_bridge : m.testBit 14 = true) (m_host : m.testBit 20 = true)
    (hb : Memory.wf 0 t.bridge.image = true → Memory.wf 0 v_bridge.image = true) (hd : Memory.wf 0 t.bridge.draft = true → Memory.wf 0 v_bridge.draft = true) (hh : Memory.wf 0 t.host.bank = true → Memory.wf 0 v_host.bank = true) :
    Within m s { t with bridge := v_bridge, host := v_host } :=
  Within.on_host (t := { t with bridge := v_bridge }) (Within.on_bridge (t := t) (h) m_bridge hb hd) m_host hh

theorem Within.on_clk_dev_sec {m : Nat} {s t : State} {v_clk : Clocks} {v_dev : Dev} {v_sec : Sec} (h : Within m s t)
    (m_clk : m.testBit 2 = true) (m_dev : m.testBit 4 = true) (m_sec : m.testBit 21 = true)
    (hf : ∀ f b, b ∈ Tab.get [] t.sec.fuse f → b ∈ Tab.get [] v_sec.fuse f) :
    Within m s { t with clk := v_clk, dev := v_dev, sec := v_sec } :=
  Within.on_sec (t := { t with clk := v_clk, dev := v_dev }) (Within.on_dev (t := { t with clk := v_clk }) (Within.on_clk (t := t) (h) m_clk) m_dev) m_sec hf

theorem Within.on_dev_arb {m : Nat} {s t : State} {v_dev : Dev} {v_arb : Arb} (h : Within m s t)
    (m_dev : m.testBit 4 = true) (m_arb : m.testBit 5 = true)
     :
    Within m s { t with dev := v_dev, arb := v_arb } :=
  Within.on_arb (t := { t with dev := v_dev }) (Within.on_dev (t := t) (h) m_dev) m_arb

theorem Within.on_dev_arb_lease_can_sec_upd_mram {m : Nat} {s t : State} {v_dev : Dev} {v_arb : Arb} {v_lease : Lease} {v_can : Tab Can} {v_sec : Sec} {v_upd : Upd} {v_mram : Mram} (h : Within m s t)
    (m_dev : m.testBit 4 = true) (m_arb : m.testBit 5 = true) (m_lease : m.testBit 11 = true) (m_can : m.testBit 17 = true) (m_sec : m.testBit 21 = true) (m_upd : m.testBit 22 = true) (m_mram : m.testBit 25 = true)
    (hf : ∀ f b, b ∈ Tab.get [] t.sec.fuse f → b ∈ Tab.get [] v_sec.fuse f) (hu : Memory.wf 0xFF t.upd.flash = true → Memory.wf 0xFF v_upd.flash = true) (hr : Memory.wf 0 t.mram.mem = true → Memory.wf 0 v_mram.mem = true) :
    Within m s { t with dev := v_dev, arb := v_arb, lease := v_lease, can := v_can, sec := v_sec, upd := v_upd, mram := v_mram } :=
  Within.on_mram (t := { t with dev := v_dev, arb := v_arb, lease := v_lease, can := v_can, sec := v_sec, upd := v_upd }) (Within.on_upd (t := { t with dev := v_dev, arb := v_arb, lease := v_lease, can := v_can, sec := v_sec }) (Within.on_sec (t := { t with dev := v_dev, arb := v_arb, lease := v_lease, can := v_can }) (Within.on_can (t := { t with dev := v_dev, arb := v_arb, lease := v_lease }) (Within.on_lease (t := { t with dev := v_dev, arb := v_arb }) (Within.on_arb (t := { t with dev := v_dev }) (Within.on_dev (t := t) (h) m_dev) m_arb) m_lease) m_can) m_sec hf) m_upd hu) m_mram hr

theorem Within.on_dev_host {m : Nat} {s t : State} {v_dev : Dev} {v_host : HostIf} (h : Within m s t)
    (m_dev : m.testBit 4 = true) (m_host : m.testBit 20 = true)
    (hh : Memory.wf 0 t.host.bank = true → Memory.wf 0 v_host.bank = true) :
    Within m s { t with dev := v_dev, host := v_host } :=
  Within.on_host (t := { t with dev := v_dev }) (Within.on_dev (t := t) (h) m_dev) m_host hh

theorem Within.on_dev_mram {m : Nat} {s t : State} {v_dev : Dev} {v_mram : Mram} (h : Within m s t)
    (m_dev : m.testBit 4 = true) (m_mram : m.testBit 25 = true)
    (hr : Memory.wf 0 t.mram.mem = true → Memory.wf 0 v_mram.mem = true) :
    Within m s { t with dev := v_dev, mram := v_mram } :=
  Within.on_mram (t := { t with dev := v_dev }) (Within.on_dev (t := t) (h) m_dev) m_mram hr

theorem Within.on_dev_sec_man {m : Nat} {s t : State} {v_dev : Dev} {v_sec : Sec} {v_man : ManCfg} (h : Within m s t)
    (m_dev : m.testBit 4 = true) (m_sec : m.testBit 21 = true) (m_man : m.testBit 26 = true)
    (hf : ∀ f b, b ∈ Tab.get [] t.sec.fuse f → b ∈ Tab.get [] v_sec.fuse f) :
    Within m s { t with dev := v_dev, sec := v_sec, man := v_man } :=
  Within.on_man (t := { t with dev := v_dev, sec := v_sec }) (Within.on_sec (t := { t with dev := v_dev }) (Within.on_dev (t := t) (h) m_dev) m_sec hf) m_man

theorem Within.on_dev_toll {m : Nat} {s t : State} {v_dev : Dev} {v_toll : Toll} (h : Within m s t)
    (m_dev : m.testBit 4 = true) (m_toll : m.testBit 23 = true)
     :
    Within m s { t with dev := v_dev, toll := v_toll } :=
  Within.on_toll (t := { t with dev := v_dev }) (Within.on_dev (t := t) (h) m_dev) m_toll

theorem Within.on_eng_sec_mram {m : Nat} {s t : State} {v_eng : Tab Engine} {v_sec : Sec} {v_mram : Mram} (h : Within m s t)
    (m_eng : m.testBit 16 = true) (m_sec : m.testBit 21 = true) (m_mram : m.testBit 25 = true)
    (he : t.eng.all (fun p => Memory.wf 0 p.2.code && Memory.wf 0 p.2.data) = true → v_eng.all (fun p => Memory.wf 0 p.2.code && Memory.wf 0 p.2.data) = true) (hf : ∀ f b, b ∈ Tab.get [] t.sec.fuse f → b ∈ Tab.get [] v_sec.fuse f) (hr : Memory.wf 0 t.mram.mem = true → Memory.wf 0 v_mram.mem = true) :
    Within m s { t with eng := v_eng, sec := v_sec, mram := v_mram } :=
  Within.on_mram (t := { t with eng := v_eng, sec := v_sec }) (Within.on_sec (t := { t with eng := v_eng }) (Within.on_eng (t := t) (h) m_eng he) m_sec hf) m_mram hr

theorem Within.on_free_mram {m : Nat} {s t : State} {v_free : Nat} {v_mram : Mram} (h : Within m s t)
    (m_free : m.testBit 0 = true) (m_mram : m.testBit 25 = true)
    (hr : Memory.wf 0 t.mram.mem = true → Memory.wf 0 v_mram.mem = true) :
    Within m s { t with free := v_free, mram := v_mram } :=
  Within.on_mram (t := { t with free := v_free }) (Within.on_free (t := t) (h) m_free) m_mram hr

theorem Within.on_hedge_safe {m : Nat} {s t : State} {v_hedge : Pair Hedge} {v_safe : Safe} (h : Within m s t)
    (m_hedge : m.testBit 10 = true) (m_safe : m.testBit 24 = true)
     :
    Within m s { t with hedge := v_hedge, safe := v_safe } :=
  Within.on_safe (t := { t with hedge := v_hedge }) (Within.on_hedge (t := t) (h) m_hedge) m_safe

theorem Within.on_host_upd {m : Nat} {s t : State} {v_host : HostIf} {v_upd : Upd} (h : Within m s t)
    (m_host : m.testBit 20 = true) (m_upd : m.testBit 22 = true)
    (hh : Memory.wf 0 t.host.bank = true → Memory.wf 0 v_host.bank = true) (hu : Memory.wf 0xFF t.upd.flash = true → Memory.wf 0xFF v_upd.flash = true) :
    Within m s { t with host := v_host, upd := v_upd } :=
  Within.on_upd (t := { t with host := v_host }) (Within.on_host (t := t) (h) m_host hh) m_upd hu

theorem Within.on_intake_wall_hedge {m : Nat} {s t : State} {v_intake : Pair Intake} {v_wall : Pair Wall} {v_hedge : Pair Hedge} (h : Within m s t)
    (m_intake : m.testBit 7 = true) (m_wall : m.testBit 8 = true) (m_hedge : m.testBit 10 = true)
     :
    Within m s { t with intake := v_intake, wall := v_wall, hedge := v_hedge } :=
  Within.on_hedge (t := { t with intake := v_intake, wall := v_wall }) (Within.on_wall (t := { t with intake := v_intake }) (Within.on_intake (t := t) (h) m_intake) m_wall) m_hedge

theorem Within.on_lease_host {m : Nat} {s t : State} {v_lease : Lease} {v_host : HostIf} (h : Within m s t)
    (m_lease : m.testBit 11 = true) (m_host : m.testBit 20 = true)
    (hh : Memory.wf 0 t.host.bank = true → Memory.wf 0 v_host.bank = true) :
    Within m s { t with lease := v_lease, host := v_host } :=
  Within.on_host (t := { t with lease := v_lease }) (Within.on_lease (t := t) (h) m_lease) m_host hh

theorem Within.on_lease_upd {m : Nat} {s t : State} {v_lease : Lease} {v_upd : Upd} (h : Within m s t)
    (m_lease : m.testBit 11 = true) (m_upd : m.testBit 22 = true)
    (hu : Memory.wf 0xFF t.upd.flash = true → Memory.wf 0xFF v_upd.flash = true) :
    Within m s { t with lease := v_lease, upd := v_upd } :=
  Within.on_upd (t := { t with lease := v_lease }) (Within.on_lease (t := t) (h) m_lease) m_upd hu

theorem Within.on_sec_mram {m : Nat} {s t : State} {v_sec : Sec} {v_mram : Mram} (h : Within m s t)
    (m_sec : m.testBit 21 = true) (m_mram : m.testBit 25 = true)
    (hf : ∀ f b, b ∈ Tab.get [] t.sec.fuse f → b ∈ Tab.get [] v_sec.fuse f) (hr : Memory.wf 0 t.mram.mem = true → Memory.wf 0 v_mram.mem = true) :
    Within m s { t with sec := v_sec, mram := v_mram } :=
  Within.on_mram (t := { t with sec := v_sec }) (Within.on_sec (t := t) (h) m_sec hf) m_mram hr

theorem Within.on_sec_upd {m : Nat} {s t : State} {v_sec : Sec} {v_upd : Upd} (h : Within m s t)
    (m_sec : m.testBit 21 = true) (m_upd : m.testBit 22 = true)
    (hf : ∀ f b, b ∈ Tab.get [] t.sec.fuse f → b ∈ Tab.get [] v_sec.fuse f) (hu : Memory.wf 0xFF t.upd.flash = true → Memory.wf 0xFF v_upd.flash = true) :
    Within m s { t with sec := v_sec, upd := v_upd } :=
  Within.on_upd (t := { t with sec := v_sec }) (Within.on_sec (t := t) (h) m_sec hf) m_upd hu

theorem Within.on_slice_host {m : Nat} {s t : State} {v_slice : Tab Slice} {v_host : HostIf} (h : Within m s t)
    (m_slice : m.testBit 9 = true) (m_host : m.testBit 20 = true)
    (hh : Memory.wf 0 t.host.bank = true → Memory.wf 0 v_host.bank = true) :
    Within m s { t with slice := v_slice, host := v_host } :=
  Within.on_host (t := { t with slice := v_slice }) (Within.on_slice (t := t) (h) m_slice) m_host hh

theorem Within.on_trip_sw {m : Nat} {s t : State} {v_trip : Trip} {v_sw : Switch} (h : Within m s t)
    (m_trip : m.testBit 12 = true) (m_sw : m.testBit 15 = true)
     :
    Within m s { t with trip := v_trip, sw := v_sw } :=
  Within.on_sw (t := { t with trip := v_trip }) (Within.on_trip (t := t) (h) m_trip) m_sw

theorem Within.on_upd_safe {m : Nat} {s t : State} {v_upd : Upd} {v_safe : Safe} (h : Within m s t)
    (m_upd : m.testBit 22 = true) (m_safe : m.testBit 24 = true)
    (hu : Memory.wf 0xFF t.upd.flash = true → Memory.wf 0xFF v_upd.flash = true) :
    Within m s { t with upd := v_upd, safe := v_safe } :=
  Within.on_safe (t := { t with upd := v_upd }) (Within.on_upd (t := t) (h) m_upd hu) m_safe

theorem Within.sub {m n : Nat} {s t : State} (k : Within n s t) (hs : Sub n m) : Within m s t := (Within.refl m s).step k hs

/-- The engines' banks, all of them. -/
abbrev engOk (l : Tab Engine) : Bool := l.all (fun p => Memory.wf 0 p.2.code && Memory.wf 0 p.2.data)

theorem eng_put {t : Tab Engine} (n : Nat) (e : Engine) (hc : Memory.wf 0 e.code = true) (hd : Memory.wf 0 e.data = true) :
    engOk t = true → engOk (Tab.put t n e) = true := by
  intro h
  rw [List.all_eq_true] at h ⊢
  intro p hp
  rcases Tab.mem_put t n e p hp with rfl | hp
  · simp only [Bool.and_eq_true]; exact ⟨hc, hd⟩
  · exact h p hp

/-- A change made for each number of a range, for each member of a list. -/
theorem Within.foldl {α : Type} {m : Nat} {s : State} {f : State → α → State} (hf : ∀ t x, Within m s t → Within m s (f t x)) :
    ∀ (l : List α) (t : State), Within m s t → Within m s (l.foldl f t)
  | [], _, h => h
  | x :: l, t, h => Within.foldl hf l (f t x) (hf t x h)

theorem Within.each {m : Nat} {s t : State} {n : Nat} {f : Nat → State → State} (h : Within m s t)
    (hf : ∀ i u, Within m s u → Within m s (f i u)) : Within m s (each n f t) :=
  Within.foldl (fun u i hu => hf i u hu) _ _ h

theorem Within.eachIn {α : Type} {m : Nat} {s t : State} {l : List α} {f : α → State → State} (h : Within m s t)
    (hf : ∀ x u, Within m s u → Within m s (f x u)) : Within m s (eachIn l f t) :=
  Within.foldl (fun u x hu => hf x u hu) _ _ h

theorem Within.times {m : Nat} {s : State} {f : State → State} (hf : ∀ t, Within m s t → Within m s (f t)) :
    ∀ (n : Nat) (t : State), Within m s t → Within m s (times f n t)
  | 0, _, h => h
  | n + 1, t, h => Within.times hf n (f t) (hf t h)

theorem Within.ite {m : Nat} {s a b : State} {c : Prop} [Decidable c] (ha : Within m s a) (hb : Within m s b) :
    Within m s (if c then a else b) := by split <;> assumption

end Sys2Proof.Machine
end

