-- ==== Sys2Proof/Laws/OnlyOps.lean ====
section
/-! SUPPORT. What each operation of Machine/Ops.lean may change (Laws/Within.lean). -/

set_option linter.unusedTactic false
set_option linter.unreachableTactic false
set_option linter.unusedVariables false

namespace Sys2Proof.Machine

theorem State.wr_only (s : State) (a : Nat) (v : Word) : Within 2 s (State.wr s a v) := by
  unfold State.wr
  repeat' (first
    | with_reducible exact Within.refl _ _
    | with_reducible assumption
    | with_reducible refine Within.ite ?_ ?_
    | split
    | with_reducible refine Within.on_regs ?_ (by decide))

theorem State.wf_only (s : State) (a lo n v : Nat) : Within 2 s (State.wf s a lo n v) := by
  unfold State.wf
  repeat' (first
    | with_reducible exact Within.refl _ _
    | with_reducible assumption
    | with_reducible apply Within.step (m := 2) (k := State.wr_only _ _ _) (hs := by decide)
    | with_reducible refine Within.ite ?_ ?_
    | split)

theorem State.wb_only (s : State) (a b : Nat) (v : Bool) : Within 2 s (State.wb s a b v) := by
  unfold State.wb
  repeat' (first
    | with_reducible exact Within.refl _ _
    | with_reducible assumption
    | with_reducible apply Within.step (m := 2) (k := State.wf_only _ _ _ _ _) (hs := by decide)
    | with_reducible refine Within.ite ?_ ?_
    | split)

theorem State.cnt_only (s : State) (a lo n k : Nat) : Within 2 s (State.cnt s a lo n k) := by
  unfold State.cnt
  repeat' (first
    | with_reducible exact Within.refl _ _
    | with_reducible assumption
    | with_reducible apply Within.step (m := 2) (k := State.wf_only _ _ _ _ _) (hs := by decide)
    | with_reducible refine Within.ite ?_ ?_
    | split)

theorem State.roll_only (s : State) (a k : Nat) : Within 2 s (State.roll s a k) := by
  unfold State.roll
  repeat' (first
    | with_reducible exact Within.refl _ _
    | with_reducible assumption
    | with_reducible apply Within.step (m := 2) (k := State.wr_only _ _ _) (hs := by decide)
    | with_reducible refine Within.ite ?_ ?_
    | split)

theorem State.used_only (s : State) (k : Nat) : Within 1 s (State.used s k) := by
  unfold State.used
  repeat' (first
    | with_reducible exact Within.refl _ _
    | with_reducible assumption
    | with_reducible refine Within.ite ?_ ?_
    | split
    | with_reducible refine Within.on_free ?_ (by decide))

theorem State.setRg_only (s : State) (r : Nat) (x : Ring) : Within 8192 s (State.setRg s r x) := by
  unfold State.setRg
  repeat' (first
    | with_reducible exact Within.refl _ _
    | with_reducible assumption
    | with_reducible refine Within.ite ?_ ?_
    | split
    | with_reducible refine Within.on_ring ?_ (by decide))

theorem State.postVec_only (s : State) (t v : Nat) : Within 1048578 s (State.postVec s t v) := by
  unfold State.postVec
  repeat' (first
    | with_reducible exact Within.refl _ _
    | with_reducible assumption
    | with_reducible apply Within.step (m := 1048578) (k := State.wb_only _ _ _ _) (hs := by decide)
    | with_reducible refine Within.ite ?_ ?_
    | split
    | (with_reducible refine Within.on_host ?_ (by decide) ?_; rotate_left; (first | exact id | exact putBytes_wf _ _ _ | exact putWords_wf _ _ _)))

theorem State.doorbell_only (s : State) (t : Nat) : Within 1048578 s (State.doorbell s t) := by
  unfold State.doorbell
  repeat' (first
    | with_reducible exact Within.refl _ _
    | with_reducible assumption
    | with_reducible apply Within.step (m := 1048578) (k := State.postVec_only _ _ _) (hs := by decide)
    | with_reducible refine Within.ite ?_ ?_
    | split)

theorem State.signal_only (s : State) (t v : Nat) : Within 1048576 s (State.signal s t v) := by
  unfold State.signal
  repeat' (first
    | with_reducible exact Within.refl _ _
    | with_reducible assumption
    | with_reducible refine Within.ite ?_ ?_
    | split
    | (with_reducible refine Within.on_host ?_ (by decide) ?_; rotate_left; (first | exact id | exact putBytes_wf _ _ _ | exact putWords_wf _ _ _)))

theorem State.logEvent_only (s : State) (es inst wing : Nat) : Within 33554435 s (State.logEvent s es inst wing) := by
  unfold State.logEvent
  repeat' (first
    | with_reducible exact Within.refl _ _
    | with_reducible assumption
    | with_reducible refine Within.ite ?_ ?_
    | split
    | (with_reducible refine Within.on_free_mram ?_ (by decide) (by decide) ?_; rotate_left; (first | exact id | exact putWords_wf _ _ _ | exact putBytes_wf _ _ _)))

theorem State.route_only (s : State) (es d : Nat) : Within 1048576 s (State.route s es d) := by
  unfold State.route
  try dsimp only
  repeat' (first
    | with_reducible exact Within.refl _ _
    | with_reducible assumption
    | with_reducible apply Within.step (m := 1048576) (k := State.signal_only _ _ _) (hs := by decide)
    | with_reducible refine Within.ite ?_ ?_
    | split)

theorem State.raiseAt_only (s : State) (es inst wing : Nat) : Within 34603011 s (State.raiseAt s es inst wing) := by
  unfold State.raiseAt
  try dsimp only
  repeat' (first
    | with_reducible exact Within.refl _ _
    | with_reducible assumption
    | with_reducible apply Within.step (m := 34603011) (k := State.logEvent_only _ _ _ _) (hs := by decide)
    | with_reducible apply Within.step (m := 34603011) (k := State.route_only _ _ _) (hs := by decide)
    | with_reducible apply Within.step (m := 34603011) (k := State.wb_only _ _ _ _) (hs := by decide)
    | with_reducible refine Within.ite ?_ ?_
    | split)

theorem State.raise_only (s : State) (es : Nat) : Within 34603011 s (State.raise s es) := by
  unfold State.raise
  repeat' (first
    | with_reducible exact Within.refl _ _
    | with_reducible assumption
    | with_reducible apply Within.step (m := 34603011) (k := State.raiseAt_only _ _ _ _) (hs := by decide)
    | with_reducible refine Within.ite ?_ ?_
    | split)

theorem State.raiseW_only (s : State) (es : Nat) (w : Wing) : Within 34603011 s (State.raiseW s es w) := by
  unfold State.raiseW
  repeat' (first
    | with_reducible exact Within.refl _ _
    | with_reducible assumption
    | with_reducible apply Within.step (m := 34603011) (k := State.raiseAt_only _ _ _ _) (hs := by decide)
    | with_reducible refine Within.ite ?_ ?_
    | split)

theorem State.raiseIf_only (s : State) (c : Bool) (es : Nat) : Within 34603011 s (State.raiseIf s c es) := by
  unfold State.raiseIf
  repeat' (first
    | with_reducible exact Within.refl _ _
    | with_reducible assumption
    | with_reducible apply Within.step (m := 34603011) (k := State.raise_only _ _) (hs := by decide)
    | with_reducible refine Within.ite ?_ ?_
    | split)

theorem State.answer_only (s : State) (v : BitVec 64) : Within 8 s (State.answer s v) := by
  unfold State.answer
  repeat' (first
    | with_reducible exact Within.refl _ _
    | with_reducible assumption
    | with_reducible refine Within.ite ?_ ?_
    | split
    | with_reducible refine Within.on_bus ?_ (by decide))

theorem State.refuseBus_only (s : State) (c : Cpl) : Within 8 s (State.refuseBus s c) := by
  unfold State.refuseBus
  repeat' (first
    | with_reducible exact Within.refl _ _
    | with_reducible assumption
    | with_reducible refine Within.ite ?_ ?_
    | split
    | with_reducible refine Within.on_bus ?_ (by decide))

theorem State.unreached_only (s : State) (t : Nat) : Within 8 s (State.unreached s t) := by
  unfold State.unreached
  repeat' (first
    | with_reducible exact Within.refl _ _
    | with_reducible assumption
    | with_reducible apply Within.step (m := 8) (k := State.refuseBus_only _ _) (hs := by decide)
    | with_reducible refine Within.ite ?_ ?_
    | split)

theorem State.ownerRead_in {m : Nat} {b s : State} {fn lane size : Nat} {v : Word} {act : State → State} (h : Within m b s)
    (hs : Sub 8 m) (ha : ∀ t, Within m b t → Within m b (act t)) : Within m b (s.ownerRead fn lane size v act) := by
  unfold State.ownerRead
  split
  · exact h.step (State.unreached_only _ _) hs
  · split
    · exact h.step (State.refuseBus_only _ _) hs
    · split
      · exact h.step (State.answer_only _ _) hs
      · exact (ha _ h).step (State.answer_only _ _) hs

theorem State.tagPorts_only (s : State) (ports : List Nat) : Within 2 s (State.tagPorts s ports).2 := by
  unfold State.tagPorts
  generalize hl : List.filter _ (List.range 8) = l
  generalize List.map _ _ = acc
  clear hl
  suffices h : ∀ (l : List Nat) (a : List (Nat × RedTag) × State), Within 2 s a.2 → Within 2 s (l.foldl (fun a k =>
      (a.1 ++ [(s.pairPort k false, s.redTag k false (a.2.nextSeq k).1), (s.pairPort k true, s.redTag k true (a.2.nextSeq k).1)],
        (a.2.nextSeq k).2)) a).2 from h l (acc, s) (Within.refl _ _)
  intro l
  induction l with
  | nil => exact fun a ha => ha
  | cons k l ih => exact fun a ha => ih _ (ha.step (State.wf_only _ _ _ _ _) (by decide))

end Sys2Proof.Machine
end

