-- ==== Sys2Proof/Laws/OnlyTrip.lean ====
section
/-! SUPPORT. What each operation of Machine/Trip.lean may change (Laws/Within.lean). -/

set_option linter.unusedTactic false
set_option linter.unreachableTactic false
set_option linter.unusedVariables false

namespace Sys2Proof.Machine

theorem State.setAlarm_only (s : State) (b : Nat) (v : Bool) : Within 34603027 s (State.setAlarm s b v) := by
  unfold State.setAlarm
  try dsimp only
  repeat' (first
    | with_reducible exact Within.refl _ _
    | with_reducible assumption
    | with_reducible apply Within.step (m := 34603027) (k := State.raise_only _ _) (hs := by decide)
    | with_reducible apply Within.step (m := 34603027) (k := State.wb_only _ _ _ _) (hs := by decide)
    | with_reducible refine Within.ite ?_ ?_
    | split
    | with_reducible refine Within.on_dev ?_ (by decide))

theorem State.showVote_only (s : State) : Within 3 s (State.showVote s) := by
  unfold State.showVote
  try dsimp only
  repeat' (first
    | with_reducible exact Within.refl _ _
    | with_reducible assumption
    | with_reducible apply Within.step (m := 3) (k := State.used_only _ _) (hs := by decide)
    | with_reducible apply Within.step (m := 3) (k := State.wr_only _ _ _) (hs := by decide)
    | with_reducible refine Within.ite ?_ ?_
    | split)

theorem State.tripOutputs_only (s : State) : Within 34607107 s (State.tripOutputs s) := by
  unfold State.tripOutputs
  try dsimp only
  repeat' (first
    | with_reducible exact Within.refl _ _
    | with_reducible assumption
    | with_reducible apply Within.step (m := 34607107) (k := State.raise_only _ _) (hs := by decide)
    | with_reducible apply Within.step (m := 34607107) (k := State.wb_only _ _ _ _) (hs := by decide)
    | with_reducible apply Within.step (m := 34607107) (k := State.wf_only _ _ _ _ _) (hs := by decide)
    | with_reducible refine Within.ite ?_ ?_
    | split
    | with_reducible refine Within.on_trip ?_ (by decide))

theorem State.evalTarget_only (t : Nat) (s : State) : Within 34672643 s (State.evalTarget t s) := by
  unfold State.evalTarget
  try dsimp only
  repeat' (first
    | with_reducible exact Within.refl _ _
    | with_reducible assumption
    | with_reducible apply Within.step (m := 34672643) (k := State.raise_only _ _) (hs := by decide)
    | with_reducible apply Within.step (m := 34672643) (k := State.rise_only _ _ _ _ _) (hs := by decide)
    | with_reducible apply Within.step (m := 34672643) (k := State.wb_only _ _ _ _) (hs := by decide)
    | with_reducible refine Within.ite ?_ ?_
    | split
    | with_reducible refine Within.on_trip ?_ (by decide))

theorem State.evalTargets_only (s : State) : Within 34672643 s (State.evalTargets s) := by
  unfold State.evalTargets
  repeat' (first
    | with_reducible exact Within.refl _ _
    | with_reducible assumption
    | with_reducible apply Within.step (m := 34672643) (k := State.evalTarget_only _ _) (hs := by decide)
    | with_reducible apply Within.step (m := 34672643) (k := State.tripOutputs_only _) (hs := by decide)
    | with_reducible refine Within.each ?_ (fun _ _ _ => ?_)
    | with_reducible refine Within.ite ?_ ?_
    | split)

theorem State.revote_only (s : State) : Within 34672643 s (State.revote s) := by
  unfold State.revote
  repeat' (first
    | with_reducible exact Within.refl _ _
    | with_reducible assumption
    | with_reducible apply Within.step (m := 34672643) (k := State.evalTargets_only _) (hs := by decide)
    | with_reducible apply Within.step (m := 34672643) (k := State.showVote_only _) (hs := by decide)
    | with_reducible refine Within.ite ?_ ?_
    | split)

theorem State.tpMinExpiry_only (s : State) (t : Nat) : Within 34672643 s (State.tpMinExpiry s t) := by
  unfold State.tpMinExpiry
  repeat' (first
    | with_reducible exact Within.refl _ _
    | with_reducible assumption
    | with_reducible apply Within.step (m := 34672643) (k := State.evalTarget_only _ _) (hs := by decide)
    | with_reducible apply Within.step (m := 34672643) (k := State.tripOutputs_only _) (hs := by decide)
    | with_reducible refine Within.ite ?_ ?_
    | split)

theorem State.setSource_only (s : State) (w : Wing) (b : Nat) (v : Bool) : Within 4096 s (State.setSource s w b v) := by
  unfold State.setSource
  repeat' (first
    | with_reducible exact Within.refl _ _
    | with_reducible assumption
    | with_reducible refine Within.ite ?_ ?_
    | split
    | with_reducible refine Within.on_trip ?_ (by decide))

theorem State.takeFv_only (s : State) (w : Wing) (b : Nat) : Within 34607107 s (State.takeFv s w b) := by
  unfold State.takeFv
  try dsimp only
  repeat' (first
    | with_reducible exact Within.refl _ _
    | with_reducible assumption
    | with_reducible apply Within.step (m := 34607107) (k := State.raiseW_only _ _ _) (hs := by decide)
    | with_reducible apply Within.step (m := 34607107) (k := State.setSource_only _ _ _ _) (hs := by decide)
    | with_reducible apply Within.step (m := 34607107) (k := State.wb_only _ _ _ _) (hs := by decide)
    | with_reducible refine Within.ite ?_ ?_
    | split)

theorem State.engineSourceWrite_only (s : State) (n bit : Nat) (v : Bool) (q : GooseQual) : Within 34672643 s (State.engineSourceWrite s n bit v q) := by
  unfold State.engineSourceWrite
  try dsimp only
  repeat' (first
    | with_reducible exact Within.refl _ _
    | with_reducible assumption
    | with_reducible apply Within.step (m := 34672643) (k := State.evalTargets_only _) (hs := by decide)
    | with_reducible apply Within.step (m := 34672643) (k := State.setSource_only _ _ _ _) (hs := by decide)
    | with_reducible apply Within.step (m := 34672643) (k := State.takeFv_only _ _ _) (hs := by decide)
    | with_reducible apply Within.step (m := 34672643) (k := State.wb_only _ _ _ _) (hs := by decide)
    | with_reducible refine Within.ite ?_ ?_
    | split
    | with_reducible refine Within.on_trip ?_ (by decide))

theorem State.gsiTalExpiry_only (s : State) (w : Wing) (n : Nat) : Within 34672643 s (State.gsiTalExpiry s w n) := by
  unfold State.gsiTalExpiry
  repeat' (first
    | with_reducible exact Within.refl _ _
    | with_reducible assumption
    | with_reducible apply Within.step (m := 34672643) (k := State.evalTargets_only _) (hs := by decide)
    | with_reducible apply Within.step (m := 34672643) (k := State.takeFv_only _ _ _) (hs := by decide)
    | with_reducible refine Within.ite ?_ ?_
    | split)

theorem State.holdSources_only (s : State) (n : Nat) : Within 34607107 s (State.holdSources s n) := by
  unfold State.holdSources
  try dsimp only
  repeat' (first
    | with_reducible exact Within.refl _ _
    | with_reducible assumption
    | with_reducible apply Within.step (m := 34607107) (k := State.raise_only _ _) (hs := by decide)
    | with_reducible refine Within.foldl (fun _ _ _ => ?_) _ _ ?_
    | with_reducible refine Within.ite ?_ ?_
    | split
    | with_reducible refine Within.on_trip ?_ (by decide))

theorem State.engHoldExpiry_only (s : State) (w : Wing) (bit : Nat) : Within 34672643 s (State.engHoldExpiry s w bit) := by
  unfold State.engHoldExpiry
  try dsimp only
  repeat' (first
    | with_reducible exact Within.refl _ _
    | with_reducible assumption
    | with_reducible apply Within.step (m := 34672643) (k := State.evalTargets_only _) (hs := by decide)
    | with_reducible apply Within.step (m := 34672643) (k := State.takeFv_only _ _ _) (hs := by decide)
    | with_reducible refine Within.ite ?_ ?_
    | split
    | with_reducible refine Within.on_trip ?_ (by decide))

theorem State.setLine_only (s : State) (n : Nat) (till : Option Nat) : Within 4098 s (State.setLine s n till) := by
  unfold State.setLine
  repeat' (first
    | with_reducible exact Within.refl _ _
    | with_reducible assumption
    | with_reducible apply Within.step (m := 4098) (k := State.wb_only _ _ _ _) (hs := by decide)
    | with_reducible refine Within.ite ?_ ?_
    | split
    | with_reducible refine Within.on_trip ?_ (by decide))

theorem State.tripDo_only (s : State) (fn : Nat) (seq : Half) : Within 34672643 s (State.tripDo s fn seq) := by
  unfold State.tripDo
  try dsimp only
  repeat' (first
    | with_reducible exact Within.refl _ _
    | with_reducible assumption
    | with_reducible apply Within.step (m := 34672643) (k := State.cnt_only _ _ _ _ _) (hs := by decide)
    | with_reducible apply Within.step (m := 34672643) (k := State.evalTargets_only _) (hs := by decide)
    | with_reducible apply Within.step (m := 34672643) (k := State.setLine_only _ _ _) (hs := by decide)
    | with_reducible apply Within.step (m := 34672643) (k := State.wf_only _ _ _ _ _) (hs := by decide)
    | with_reducible refine Within.each ?_ (fun _ _ _ => ?_)
    | with_reducible refine Within.ite ?_ ?_
    | split)

theorem State.tripGo_only (s : State) (fn : Nat) (seq crc : Half) : Within 34672643 s (State.tripGo s fn seq crc) := by
  unfold State.tripGo
  try dsimp only
  repeat' (first
    | with_reducible exact Within.refl _ _
    | with_reducible assumption
    | with_reducible apply Within.step (m := 34672643) (k := State.cnt_only _ _ _ _ _) (hs := by decide)
    | with_reducible apply Within.step (m := 34672643) (k := State.raise_only _ _) (hs := by decide)
    | with_reducible apply Within.step (m := 34672643) (k := State.tripDo_only _ _ _) (hs := by decide)
    | with_reducible apply Within.step (m := 34672643) (k := State.wf_only _ _ _ _ _) (hs := by decide)
    | with_reducible refine Within.ite ?_ ?_
    | split)

theorem State.pulse_only (s : State) (fn : Nat) (seq crc : Half) : Within 34672643 s (State.pulse s fn seq crc) := by
  unfold State.pulse
  repeat' (first
    | with_reducible exact Within.refl _ _
    | with_reducible assumption
    | with_reducible apply Within.step (m := 34672643) (k := State.tripGo_only _ _ _ _) (hs := by decide)
    | with_reducible refine Within.ite ?_ ?_
    | split)

theorem State.clear_only (s : State) (fn : Nat) (seq crc : Half) : Within 34672643 s (State.clear s fn seq crc) := by
  unfold State.clear
  repeat' (first
    | with_reducible exact Within.refl _ _
    | with_reducible assumption
    | with_reducible apply Within.step (m := 34672643) (k := State.tripGo_only _ _ _ _) (hs := by decide)
    | with_reducible refine Within.ite ?_ ?_
    | split)

theorem State.hcmdPulseEnd_only (s : State) (n : Nat) : Within 34672643 s (State.hcmdPulseEnd s n) := by
  unfold State.hcmdPulseEnd
  repeat' (first
    | with_reducible exact Within.refl _ _
    | with_reducible assumption
    | with_reducible apply Within.step (m := 34672643) (k := State.evalTargets_only _) (hs := by decide)
    | with_reducible apply Within.step (m := 34672643) (k := State.setLine_only _ _ _) (hs := by decide)
    | with_reducible refine Within.ite ?_ ?_
    | split)

theorem State.readbackMismatch_only (s : State) (pin : Wing × Fin 8) (low : Bool) : Within 34607123 s (State.readbackMismatch s pin low) := by
  unfold State.readbackMismatch
  try dsimp only
  repeat' (first
    | with_reducible exact Within.refl _ _
    | with_reducible assumption
    | with_reducible apply Within.step (m := 34607123) (k := State.raiseW_only _ _ _) (hs := by decide)
    | with_reducible apply Within.step (m := 34607123) (k := State.setAlarm_only _ _ _) (hs := by decide)
    | with_reducible apply Within.step (m := 34607123) (k := State.tripOutputs_only _) (hs := by decide)
    | with_reducible apply Within.step (m := 34607123) (k := State.wb_only _ _ _ _) (hs := by decide)
    | with_reducible refine Within.ite ?_ ?_
    | split
    | with_reducible refine Within.on_trip ?_ (by decide))

theorem State.queueTrip_only (s : State) (f : TripFrame) : Within 34607107 s (State.queueTrip s f) := by
  unfold State.queueTrip
  try dsimp only
  repeat' (first
    | with_reducible exact Within.refl _ _
    | with_reducible assumption
    | with_reducible apply Within.step (m := 34607107) (k := State.cnt_only _ _ _ _ _) (hs := by decide)
    | with_reducible apply Within.step (m := 34607107) (k := State.raiseIf_only _ _ _) (hs := by decide)
    | with_reducible refine Within.ite ?_ ?_
    | split
    | with_reducible refine Within.on_trip ?_ (by decide))

theorem State.sendOut_only (s : State) (g : Nat) (c : TripPubCfg) (m : Goose) : Within 34607107 s (State.sendOut s g c m) := by
  unfold State.sendOut
  exact Within.eachIn ((State.tagPorts_only s c.ports).sub (by decide)) (fun _ _ h => h.step (State.queueTrip_only _ _) (by decide))

theorem State.sendPub_only (s : State) (g : Nat) (c : TripPubCfg) (i : Nat) : Within 34607123 s (State.sendPub s g c i) := by
  unfold State.sendPub
  try dsimp only
  repeat' (first
    | with_reducible exact Within.refl _ _
    | with_reducible assumption
    | with_reducible apply Within.step (m := 34607123) (k := State.raise_only _ _) (hs := by decide)
    | with_reducible apply Within.step (m := 34607123) (k := State.raiseIf_only _ _ _) (hs := by decide)
    | with_reducible apply Within.step (m := 34607123) (k := State.sendOut_only _ _ _ _) (hs := by decide)
    | with_reducible apply Within.step (m := 34607123) (k := State.setAlarm_only _ _ _) (hs := by decide)
    | with_reducible refine Within.ite ?_ ?_
    | split
    | with_reducible refine Within.on_trip ?_ (by decide))

theorem State.changePub_only (s : State) (g : Nat) (c : TripPubCfg) (m : Octet) : Within 34607123 s (State.changePub s g c m) := by
  unfold State.changePub
  try dsimp only
  repeat' (first
    | with_reducible exact Within.refl _ _
    | with_reducible assumption
    | with_reducible apply Within.step (m := 34607123) (k := State.sendPub_only _ _ _ _) (hs := by decide)
    | with_reducible refine Within.ite ?_ ?_
    | split
    | with_reducible refine Within.on_trip ?_ (by decide))

theorem State.tripPubChange_only (s : State) (g : Nat) : Within 34607123 s (State.tripPubChange s g) := by
  unfold State.tripPubChange
  repeat' (first
    | with_reducible exact Within.refl _ _
    | with_reducible assumption
    | with_reducible apply Within.step (m := 34607123) (k := State.changePub_only _ _ _ _) (hs := by decide)
    | with_reducible refine Within.ite ?_ ?_
    | split)

theorem State.tripPubResend_only (s : State) (g : Nat) : Within 34607123 s (State.tripPubResend s g) := by
  unfold State.tripPubResend
  try dsimp only
  repeat' (first
    | with_reducible exact Within.refl _ _
    | with_reducible assumption
    | with_reducible apply Within.step (m := 34607123) (k := State.sendPub_only _ _ _ _) (hs := by decide)
    | with_reducible refine Within.ite ?_ ?_
    | split
    | with_reducible refine Within.on_trip ?_ (by decide))

end Sys2Proof.Machine
end

