-- ==== Sys2Proof/Laws/OnlyDev.lean ====
section
/-! SUPPORT. What each operation of Machine/Dev.lean may change (Laws/Within.lean). -/

set_option linter.unusedTactic false
set_option linter.unreachableTactic false
set_option linter.unusedVariables false

namespace Sys2Proof.Machine

theorem State.send_only (s : State) (ch : Nat) (m : Msg) : Within 1048576 s (State.send s ch m) := by
  unfold State.send
  repeat' (first
    | with_reducible exact Within.refl _ _
    | with_reducible assumption
    | with_reducible refine Within.ite ?_ ?_
    | split
    | (with_reducible refine Within.on_host ?_ (by decide) ?_; rotate_left; (first | exact id | exact putBytes_wf _ _ _ | exact putWords_wf _ _ _)))

theorem State.replyLen_only (s : State) (ch len : Nat) (ws : List Word) : Within 1048576 s (State.replyLen s ch len ws) := by
  unfold State.replyLen
  repeat' (first
    | with_reducible exact Within.refl _ _
    | with_reducible assumption
    | with_reducible apply Within.step (m := 1048576) (k := State.send_only _ _ _) (hs := by decide)
    | with_reducible refine Within.ite ?_ ?_
    | split
    | (with_reducible refine Within.on_host ?_ (by decide) ?_; rotate_left; (first | exact id | exact putBytes_wf _ _ _ | exact putWords_wf _ _ _)))

theorem State.reply_only (s : State) (ch : Nat) (ws : List Word) : Within 1048576 s (State.reply s ch ws) := by
  unfold State.reply
  repeat' (first
    | with_reducible exact Within.refl _ _
    | with_reducible assumption
    | with_reducible apply Within.step (m := 1048576) (k := State.replyLen_only _ _ _ _) (hs := by decide)
    | with_reducible refine Within.ite ?_ ?_
    | split)

theorem State.request_in {m : Nat} {b s : State} {ch ty : Nat} {go : State → State} (h : Within m b s)
    (ha : ∀ t, Within m b t → Within m b (go t)) : Within m b (s.request ch ty go) := by
  unfold State.request
  split
  · split
    · exact ha _ h
    · exact h
  · exact h

theorem State.journalAdd_only (s : State) (recs : List HedgeRec) (ilk : Option (Nat × Nat)) : Within 4194304 s (State.journalAdd s recs ilk) := by
  unfold State.journalAdd
  try dsimp only
  repeat' (first
    | with_reducible exact Within.refl _ _
    | with_reducible assumption
    | with_reducible refine Within.ite ?_ ?_
    | split
    | (with_reducible refine Within.on_upd ?_ (by decide) ?_; rotate_left; exact id))

theorem State.peerReset_only (s : State) : Within 1048576 s (State.peerReset s) := by
  unfold State.peerReset
  repeat' (first
    | with_reducible exact Within.refl _ _
    | with_reducible assumption
    | with_reducible apply Within.step (m := 1048576) (k := State.send_only _ _ _) (hs := by decide)
    | with_reducible refine Within.eachIn ?_ (fun _ _ _ => ?_)
    | with_reducible refine Within.ite ?_ ?_
    | split
    | (with_reducible refine Within.on_host ?_ (by decide) ?_; rotate_left; (first | exact id | exact putBytes_wf _ _ _ | exact putWords_wf _ _ _)))

theorem State.enter_only (s : State) (d : DevState) : Within 34672659 s (State.enter s d) := by
  unfold State.enter
  try dsimp only
  repeat' (first
    | with_reducible exact Within.refl _ _
    | with_reducible assumption
    | with_reducible apply Within.step (m := 34672659) (k := State.evalTargets_only _) (hs := by decide)
    | with_reducible apply Within.step (m := 34672659) (k := State.raise_only _ _) (hs := by decide)
    | with_reducible apply Within.step (m := 34672659) (k := State.setAlarm_only _ _ _) (hs := by decide)
    | with_reducible refine Within.ite ?_ ?_
    | split
    | (with_reducible refine Within.on_dev_mram ?_ (by decide) (by decide) ?_; rotate_left; (first | exact id | exact putWords_wf _ _ _ | exact putBytes_wf _ _ _)))

theorem State.restoreRegs_only (s : State) (hit : RegRow → Nat → Bool) : Within 2 s (State.restoreRegs s hit) := by
  unfold State.restoreRegs
  repeat' (first
    | with_reducible exact Within.refl _ _
    | with_reducible assumption
    | with_reducible refine Within.ite ?_ ?_
    | split
    | with_reducible refine Within.on_regs ?_ (by decide))

theorem State.histRecord_only (s : State) : Within 33554435 s (State.histRecord s) := by
  unfold State.histRecord
  repeat' (first
    | with_reducible exact Within.refl _ _
    | with_reducible assumption
    | with_reducible refine Within.ite ?_ ?_
    | split
    | (with_reducible refine Within.on_free_mram ?_ (by decide) (by decide) ?_; rotate_left; (first | exact id | exact putWords_wf _ _ _ | exact putBytes_wf _ _ _)))

theorem State.setCause_only (s : State) (cause level prev cnt : Nat) : Within 2 s (State.setCause s cause level prev cnt) := by
  unfold State.setCause
  repeat' (first
    | with_reducible exact Within.refl _ _
    | with_reducible assumption
    | with_reducible apply Within.step (m := 2) (k := State.wr_only _ _ _) (hs := by decide)
    | with_reducible refine Within.ite ?_ ?_
    | split)

theorem keepLast_only (old : State) (lr : Nat → Nat) (s : State) : Within 2 s (keepLast old lr s) := by
  unfold keepLast
  refine Within.each (Within.each (Within.refl _ _) (fun i u h => ?_)) (fun i u h => ?_) <;> split <;>
    first | exact h | exact h.step (State.wf_only ..) (by decide)

theorem State.clearMain_only (s : State) (r : Restart) : Within 100663295 s (State.clearMain s r) := by
  refine ⟨rfl, fun h => ?_, fun _ _ h => h, ?free, ?regs, ?clk, ?bus, ?dev, ?arb, ?time, ?intake, ?wall, ?slice, ?hedge, ?lease, ?trip, ?ring,
    ?bridge, ?sw, ?eng, ?can, ?tk, ?pub, ?host, ?sec, ?upd, ?toll, ?safe, fun _ => rfl, ?man⟩
  · simp only [State.memOk, Bool.and_eq_true] at h
    obtain ⟨⟨⟨⟨⟨_, _⟩, _⟩, h4⟩, h5⟩, _⟩ := h
    simp only [State.memOk, Bool.and_eq_true]
    exact ⟨⟨⟨⟨⟨rfl, rfl⟩, rfl⟩, h4⟩, h5⟩, rfl⟩
  all_goals exact fun x => absurd x (by decide)

theorem State.lastReports_only (s : State) (r : Restart) : Within 34603011 s (State.lastReports s r) := by
  unfold State.lastReports
  repeat' (first
    | with_reducible exact Within.refl _ _
    | with_reducible assumption
    | with_reducible apply Within.step (m := 34603011) (k := State.raiseIf_only _ _ _) (hs := by decide)
    | with_reducible refine Within.ite ?_ ?_
    | split)

theorem State.resetAll_only (s : State) (r : Restart) (cause : Nat) : Within 134217727 s (State.resetAll s r cause) := by
  unfold State.resetAll
  dsimp only
  refine Within.ite (Within.step ?h10 (State.setAlarm_only ..) (by decide)) ?h10
  refine Within.ite (Within.step ?h9 (State.raise_only ..) (by decide)) ?h9
  refine Within.step ?h8 (State.enter_only ..) (by decide)
  refine Within.on_dev_arb ?h7 (by decide) (by decide)
  refine Within.ite (Within.on_lease ?h6 (by decide)) ?h6
  refine Within.step (Within.step (Within.step (Within.step (Within.step ?h2 (keepLast_only ..) (by decide)) (State.wr_only ..) (by decide))
    (State.wb_only ..) (by decide)) (State.setCause_only ..) (by decide)) (State.histRecord_only ..) (by decide)
  have h1 : Within 134217727 s (s.clearMain r) := (State.clearMain_only s r).sub (by decide)
  split
  · exact Within.on_dev h1 (by decide)
  · exact Within.on_clk_dev_sec h1 (by decide) (by decide) (by decide) (fun _ _ h => h)
  · exact Within.on_dev h1 (by decide)

theorem State.restart_only (s : State) (r : Restart) (cause : Nat) : Within 134217727 s (State.restart s r cause) := by
  unfold State.restart
  repeat' (first
    | with_reducible exact Within.refl _ _
    | with_reducible assumption
    | with_reducible apply Within.step (m := 134217727) (k := State.lastReports_only _ _) (hs := by decide)
    | with_reducible apply Within.step (m := 134217727) (k := State.resetAll_only _ _ _) (hs := by decide)
    | with_reducible refine Within.ite ?_ ?_
    | split)

theorem State.safeLast_only (s : State) (es lvl wing : Nat) : Within 2 s (State.safeLast s es lvl wing) := by
  unfold State.safeLast
  repeat' (first
    | with_reducible exact Within.refl _ _
    | with_reducible assumption
    | with_reducible apply Within.step (m := 2) (k := State.wr_only _ _ _) (hs := by decide)
    | with_reducible refine Within.ite ?_ ?_
    | split)

theorem State.voteAlarm_only (s : State) : Within 34603027 s (State.voteAlarm s) := by
  unfold State.voteAlarm
  repeat' (first
    | with_reducible exact Within.refl _ _
    | with_reducible assumption
    | with_reducible apply Within.step (m := 34603027) (k := State.setAlarm_only _ _ _) (hs := by decide)
    | with_reducible refine Within.ite ?_ ?_
    | split)

theorem State.reactSystem_only (s : State) (es : Nat) : Within 134217727 s (State.reactSystem s es) := by
  unfold State.reactSystem
  repeat' (first
    | with_reducible exact Within.refl _ _
    | with_reducible assumption
    | with_reducible apply Within.step (m := 134217727) (k := State.restart_only _ _ _) (hs := by decide)
    | with_reducible apply Within.step (m := 134217727) (k := State.safeLast_only _ _ _ _) (hs := by decide)
    | with_reducible refine Within.ite ?_ ?_
    | split)

theorem State.exclude_only (s : State) (w : Wing) (es : Nat) : Within 134217727 s (State.exclude s w es) := by
  unfold State.exclude
  try dsimp only
  repeat' (first
    | with_reducible exact Within.refl _ _
    | with_reducible assumption
    | with_reducible apply Within.step (m := 134217727) (k := State.raise_only _ _) (hs := by decide)
    | with_reducible apply Within.step (m := 134217727) (k := State.raiseAt_only _ _ _ _) (hs := by decide)
    | with_reducible apply Within.step (m := 134217727) (k := State.reactSystem_only _ _) (hs := by decide)
    | with_reducible apply Within.step (m := 134217727) (k := State.revote_only _) (hs := by decide)
    | with_reducible apply Within.step (m := 134217727) (k := State.safeLast_only _ _ _ _) (hs := by decide)
    | with_reducible apply Within.step (m := 134217727) (k := State.voteAlarm_only _) (hs := by decide)
    | with_reducible apply Within.step (m := 134217727) (k := State.wb_only _ _ _ _) (hs := by decide)
    | with_reducible refine Within.ite ?_ ?_
    | split
    | with_reducible refine Within.on_arb ?_ (by decide)
    | with_reducible refine Within.on_safe ?_ (by decide))

theorem State.unexclude_only (s : State) (w : Wing) : Within 34672659 s (State.unexclude s w) := by
  unfold State.unexclude
  repeat' (first
    | with_reducible exact Within.refl _ _
    | with_reducible assumption
    | with_reducible apply Within.step (m := 34672659) (k := State.raise_only _ _) (hs := by decide)
    | with_reducible apply Within.step (m := 34672659) (k := State.raiseAt_only _ _ _ _) (hs := by decide)
    | with_reducible apply Within.step (m := 34672659) (k := State.revote_only _) (hs := by decide)
    | with_reducible apply Within.step (m := 34672659) (k := State.voteAlarm_only _) (hs := by decide)
    | with_reducible apply Within.step (m := 34672659) (k := State.wb_only _ _ _ _) (hs := by decide)
    | with_reducible refine Within.ite ?_ ?_
    | split)

theorem State.wingFault_only (s : State) (w : Wing) : Within 16777216 s (State.wingFault s w) := by
  unfold State.wingFault
  repeat' (first
    | with_reducible exact Within.refl _ _
    | with_reducible assumption
    | with_reducible refine Within.ite ?_ ?_
    | split
    | with_reducible refine Within.on_safe ?_ (by decide))

theorem State.resetEngine_only (s : State) (n : Nat) : Within 34672643 s (State.resetEngine s n) := by
  unfold State.resetEngine
  have h := State.holdSources_only (s.restoreRegs (fun row a => row.lvl == .k && engOfAddr a == n)) n
  refine Within.on_eng (((State.restoreRegs_only s _).sub (by decide)).step h (by decide)) (by decide) (fun x => ?_)
  rw [h.eng (by decide)] at x
  exact eng_put n _ rfl rfl x

theorem State.coreResetWing_only (s : State) (w : Wing) : Within 34672691 s (State.coreResetWing s w) := by
  unfold State.coreResetWing
  try dsimp only
  repeat' (first
    | with_reducible exact Within.refl _ _
    | with_reducible assumption
    | with_reducible apply Within.step (m := 34672691) (k := State.resetEngine_only _ _) (hs := by decide)
    | with_reducible apply Within.step (m := 34672691) (k := State.restoreRegs_only _ _) (hs := by decide)
    | with_reducible apply Within.step (m := 34672691) (k := State.wf_only _ _ _ _ _) (hs := by decide)
    | with_reducible refine Within.each ?_ (fun _ _ _ => ?_)
    | with_reducible refine Within.ite ?_ ?_
    | split
    | with_reducible refine Within.on_dev_arb ?_ (by decide) (by decide))

theorem State.coreReset0_only (s : State) (ws : List Wing) (cause : Nat) : Within 34672691 s (State.coreReset0 s ws cause) := by
  unfold State.coreReset0
  try dsimp only
  repeat' (first
    | with_reducible exact Within.refl _ _
    | with_reducible assumption
    | with_reducible apply Within.step (m := 34672691) (k := State.coreResetWing_only _ _) (hs := by decide)
    | with_reducible apply Within.step (m := 34672691) (k := State.histRecord_only _) (hs := by decide)
    | with_reducible apply Within.step (m := 34672691) (k := State.raise_only _ _) (hs := by decide)
    | with_reducible apply Within.step (m := 34672691) (k := State.setCause_only _ _ _ _ _) (hs := by decide)
    | with_reducible refine Within.eachIn ?_ (fun _ _ _ => ?_)
    | with_reducible refine Within.ite ?_ ?_
    | split)

end Sys2Proof.Machine
end

