-- ==== Sys2Proof/Laws/OnlyArb.lean ====
section
/-! SUPPORT. What each operation of Machine/Arb.lean may change (Laws/Within.lean). -/

set_option linter.unusedTactic false
set_option linter.unreachableTactic false
set_option linter.unusedVariables false

namespace Sys2Proof.Machine

theorem State.compareOn_only (s : State) (on : Bool) : Within 1026 s (State.compareOn s on) := by
  unfold State.compareOn
  try dsimp only
  repeat' (first
    | with_reducible exact Within.refl _ _
    | with_reducible assumption
    | with_reducible apply Within.step (m := 1026) (k := State.wb_only _ _ _ _) (hs := by decide)
    | with_reducible apply Within.step (m := 1026) (k := State.wf_only _ _ _ _ _) (hs := by decide)
    | with_reducible refine Within.ite ?_ ?_
    | split
    | with_reducible refine Within.on_hedge ?_ (by decide))

theorem State.linkLost_only (s : State) : Within 160 s (State.linkLost s) := by
  unfold State.linkLost
  repeat' (first
    | with_reducible exact Within.refl _ _
    | with_reducible assumption
    | with_reducible refine Within.ite ?_ ?_
    | split
    | with_reducible refine Within.on_arb_intake ?_ (by decide) (by decide))

theorem State.linkSet_only (s : State) (down : Bool) : Within 34604211 s (State.linkSet s down) := by
  unfold State.linkSet
  try dsimp only
  repeat' (first
    | with_reducible exact Within.refl _ _
    | with_reducible assumption
    | with_reducible apply Within.step (m := 34604211) (k := State.compareOn_only _ _) (hs := by decide)
    | with_reducible apply Within.step (m := 34604211) (k := State.linkLost_only _) (hs := by decide)
    | with_reducible apply Within.step (m := 34604211) (k := State.voteAlarm_only _) (hs := by decide)
    | with_reducible apply Within.step (m := 34604211) (k := State.wb_only _ _ _ _) (hs := by decide)
    | with_reducible refine Within.ite ?_ ?_
    | split)

theorem State.linkTurn_only (s : State) (down : Bool) : Within 34673843 s (State.linkTurn s down) := by
  unfold State.linkTurn
  repeat' (first
    | with_reducible exact Within.refl _ _
    | with_reducible assumption
    | with_reducible apply Within.step (m := 34673843) (k := State.linkSet_only _ _) (hs := by decide)
    | with_reducible apply Within.step (m := 34673843) (k := State.raise_only _ _) (hs := by decide)
    | with_reducible apply Within.step (m := 34673843) (k := State.revote_only _) (hs := by decide)
    | with_reducible refine Within.ite ?_ ?_
    | split
    | with_reducible refine Within.on_arb ?_ (by decide))

theorem State.lanesChanged_only (s : State) (before : Nat) : Within 34673843 s (State.lanesChanged s before) := by
  unfold State.lanesChanged
  try dsimp only
  repeat' (first
    | with_reducible exact Within.refl _ _
    | with_reducible assumption
    | with_reducible apply Within.step (m := 34673843) (k := State.linkTurn_only _ _) (hs := by decide)
    | with_reducible apply Within.step (m := 34673843) (k := State.raiseIf_only _ _ _) (hs := by decide)
    | with_reducible refine Within.ite ?_ ?_
    | split)

theorem State.laneTo_only (s : State) (lane : Nat) (up : Bool) : Within 34673843 s (State.laneTo s lane up) := by
  unfold State.laneTo
  try dsimp only
  repeat' (first
    | with_reducible exact Within.refl _ _
    | with_reducible assumption
    | with_reducible apply Within.step (m := 34673843) (k := State.lanesChanged_only _ _) (hs := by decide)
    | with_reducible apply Within.step (m := 34673843) (k := State.linkSet_only _ _) (hs := by decide)
    | with_reducible apply Within.step (m := 34673843) (k := State.wb_only _ _ _ _) (hs := by decide)
    | with_reducible refine Within.ite ?_ ?_
    | split)

theorem State.iwlLaneUp_only (s : State) (lane : Nat) : Within 34673843 s (State.iwlLaneUp s lane) := by
  unfold State.iwlLaneUp
  repeat' (first
    | with_reducible exact Within.refl _ _
    | with_reducible assumption
    | with_reducible apply Within.step (m := 34673843) (k := State.laneTo_only _ _ _) (hs := by decide)
    | with_reducible refine Within.ite ?_ ?_
    | split)

theorem State.iwlLaneFail_only (s : State) (lane : Nat) : Within 34673843 s (State.iwlLaneFail s lane) := by
  unfold State.iwlLaneFail
  repeat' (first
    | with_reducible exact Within.refl _ _
    | with_reducible assumption
    | with_reducible apply Within.step (m := 34673843) (k := State.laneTo_only _ _ _) (hs := by decide)
    | with_reducible refine Within.ite ?_ ?_
    | split)

theorem State.iwlTrainDeadline_only (s : State) : Within 34673843 s (State.iwlTrainDeadline s) := by
  unfold State.iwlTrainDeadline
  repeat' (first
    | with_reducible exact Within.refl _ _
    | with_reducible assumption
    | with_reducible apply Within.step (m := 34673843) (k := State.lanesChanged_only _ _) (hs := by decide)
    | with_reducible refine Within.ite ?_ ?_
    | split
    | with_reducible refine Within.on_arb ?_ (by decide))

theorem State.linkNext_only (s : State) : Within 32 s (State.linkNext s) := by
  unfold State.linkNext
  repeat' (first
    | with_reducible exact Within.refl _ _
    | with_reducible assumption
    | with_reducible refine Within.ite ?_ ?_
    | split
    | with_reducible refine Within.on_arb ?_ (by decide))

theorem State.dropTransfer_only (s : State) (w : Wing) (kind : LinkKind) : Within 1184 s (State.dropTransfer s w kind) := by
  unfold State.dropTransfer
  repeat' (first
    | with_reducible exact Within.refl _ _
    | with_reducible assumption
    | with_reducible refine Within.ite ?_ ?_
    | split
    | with_reducible refine Within.on_arb ?_ (by decide)
    | with_reducible refine Within.on_hedge ?_ (by decide)
    | with_reducible refine Within.on_intake ?_ (by decide))

theorem State.iwlBlockReceive_only (s : State) (b : LinkBlock) (ok : Bool × Bool) : Within 1186 s (State.iwlBlockReceive s b ok) := by
  unfold State.iwlBlockReceive
  repeat' (first
    | with_reducible exact Within.refl _ _
    | with_reducible assumption
    | with_reducible apply Within.step (m := 1186) (k := State.cnt_only _ _ _ _ _) (hs := by decide)
    | with_reducible apply Within.step (m := 1186) (k := State.dropTransfer_only _ _ _) (hs := by decide)
    | with_reducible refine Within.ite ?_ ?_
    | split)

theorem State.setDeputy_only (s : State) (ok : Bool) : Within 34603027 s (State.setDeputy s ok) := by
  unfold State.setDeputy
  try dsimp only
  repeat' (first
    | with_reducible exact Within.refl _ _
    | with_reducible assumption
    | with_reducible apply Within.step (m := 34603027) (k := State.raise_only _ _) (hs := by decide)
    | with_reducible apply Within.step (m := 34603027) (k := State.setAlarm_only _ _ _) (hs := by decide)
    | with_reducible apply Within.step (m := 34603027) (k := State.wb_only _ _ _ _) (hs := by decide)
    | with_reducible refine Within.ite ?_ ?_
    | split)

theorem State.dropDeputy_only (s : State) : Within 34603027 s (State.dropDeputy s) := by
  unfold State.dropDeputy
  repeat' (first
    | with_reducible exact Within.refl _ _
    | with_reducible assumption
    | with_reducible apply Within.step (m := 34603027) (k := State.setDeputy_only _ _) (hs := by decide)
    | with_reducible refine Within.ite ?_ ?_
    | split)

theorem State.stewardWr_only (s : State) (a : Nat) (v : Word) : Within 2 s (State.stewardWr s a v) := by
  unfold State.stewardWr
  repeat' (first
    | with_reducible exact Within.refl _ _
    | with_reducible assumption
    | with_reducible apply Within.step (m := 2) (k := State.wr_only _ _ _) (hs := by decide)
    | with_reducible refine Within.ite ?_ ?_
    | split)

theorem State.fenceHits_only (s : State) (n : Nat) : Within 2 s (State.fenceHits s n) := by
  unfold State.fenceHits
  repeat' (first
    | with_reducible exact Within.refl _ _
    | with_reducible assumption
    | with_reducible apply Within.step (m := 2) (k := State.cnt_only _ _ _ _ _) (hs := by decide)
    | with_reducible refine Within.ite ?_ ?_
    | split)

theorem State.fenceHit_only (s : State) : Within 2 s (State.fenceHit s) := by
  unfold State.fenceHit
  repeat' (first
    | with_reducible exact Within.refl _ _
    | with_reducible assumption
    | with_reducible apply Within.step (m := 2) (k := State.fenceHits_only _ _) (hs := by decide)
    | with_reducible refine Within.ite ?_ ?_
    | split)

theorem State.mirrorOr_in {m : Nat} {b s : State} {a : Act} {now : State → State} (h : Within m b s) (hm : m.testBit 5 = true)
    (ha : ∀ t, Within m b t → Within m b (now t)) : Within m b (s.mirrorOr a now) := by
  unfold State.mirrorOr
  exact Within.ite (Within.on_arb h hm) (ha _ h)

theorem State.stewardConfigWrite_only (s : State) (w : Wing) (addr : Nat) (val : Word) : Within 34 s (State.stewardConfigWrite s w addr val) := by
  unfold State.stewardConfigWrite
  repeat' (first
    | with_reducible exact Within.refl _ _
    | with_reducible assumption
    | with_reducible refine State.mirrorOr_in ?_ (by decide) (fun _ _ => ?_)
    | with_reducible apply Within.step (m := 34) (k := State.fenceHit_only _) (hs := by decide)
    | with_reducible apply Within.step (m := 34) (k := State.stewardWr_only _ _ _) (hs := by decide)
    | with_reducible refine Within.ite ?_ ?_
    | split)

theorem State.applyDecision_only (s : State) (d : Decision) : Within 2 s (State.applyDecision s d) := by
  unfold State.applyDecision
  repeat' (first
    | with_reducible exact Within.refl _ _
    | with_reducible assumption
    | with_reducible apply Within.step (m := 2) (k := State.stewardWr_only _ _ _) (hs := by decide)
    | with_reducible refine Within.eachIn ?_ (fun _ _ _ => ?_)
    | with_reducible refine Within.ite ?_ ?_
    | split)

theorem State.globalDecision_only (s : State) (d : Decision) : Within 34 s (State.globalDecision s d) := by
  unfold State.globalDecision
  repeat' (first
    | with_reducible exact Within.refl _ _
    | with_reducible assumption
    | with_reducible refine State.mirrorOr_in ?_ (by decide) (fun _ _ => ?_)
    | with_reducible apply Within.step (m := 34) (k := State.applyDecision_only _ _) (hs := by decide)
    | with_reducible refine Within.ite ?_ ?_
    | split)

theorem State.heartbeatSend_only (s : State) (w : Wing) : Within 33 s (State.heartbeatSend s w) := by
  unfold State.heartbeatSend
  try dsimp only
  repeat' (first
    | with_reducible exact Within.refl _ _
    | with_reducible assumption
    | with_reducible apply Within.step (m := 33) (k := State.linkNext_only _) (hs := by decide)
    | with_reducible apply Within.step (m := 33) (k := State.used_only _ _) (hs := by decide)
    | with_reducible refine Within.ite ?_ ?_
    | split
    | with_reducible refine Within.on_arb ?_ (by decide))

theorem State.heartbeatLinkReceive_only (s : State) (w : Wing) (epoch : Word) : Within 32 s (State.heartbeatLinkReceive s w epoch) := by
  unfold State.heartbeatLinkReceive
  try dsimp only
  repeat' (first
    | with_reducible exact Within.refl _ _
    | with_reducible assumption
    | with_reducible refine Within.ite ?_ ?_
    | split
    | with_reducible refine Within.on_arb ?_ (by decide))

theorem State.heartbeatLost_only (s : State) (w : Wing) : Within 32 s (State.heartbeatLost s w) := by
  unfold State.heartbeatLost
  repeat' (first
    | with_reducible exact Within.refl _ _
    | with_reducible assumption
    | with_reducible refine Within.ite ?_ ?_
    | split
    | with_reducible refine Within.on_arb ?_ (by decide))

theorem State.claimNow_only (s : State) (w : Wing) : Within 32 s (State.claimNow s w) := by
  unfold State.claimNow
  repeat' (first
    | with_reducible exact Within.refl _ _
    | with_reducible assumption
    | with_reducible refine Within.ite ?_ ?_
    | split
    | with_reducible refine Within.on_arb ?_ (by decide))

theorem State.refuseClaim_only (s : State) (w : Wing) (beats : Bool) : Within 34603043 s (State.refuseClaim s w beats) := by
  unfold State.refuseClaim
  try dsimp only
  repeat' (first
    | with_reducible exact Within.refl _ _
    | with_reducible assumption
    | with_reducible apply Within.step (m := 34603043) (k := State.raiseAt_only _ _ _ _) (hs := by decide)
    | with_reducible refine Within.ite ?_ ?_
    | split
    | with_reducible refine Within.on_arb ?_ (by decide))

theorem State.mirrorRequest_only (s : State) (w : Wing) : Within 32 s (State.mirrorRequest s w) := by
  unfold State.mirrorRequest
  repeat' (first
    | with_reducible exact Within.refl _ _
    | with_reducible assumption
    | with_reducible refine Within.ite ?_ ?_
    | split
    | with_reducible refine Within.on_arb ?_ (by decide))

theorem State.mirrorComplete_only (s : State) (w : Wing) : Within 32 s (State.mirrorComplete s w) := by
  unfold State.mirrorComplete
  repeat' (first
    | with_reducible exact Within.refl _ _
    | with_reducible assumption
    | with_reducible refine Within.ite ?_ ?_
    | split
    | with_reducible refine Within.on_arb ?_ (by decide))

end Sys2Proof.Machine
end

