-- ==== Sys2Proof/Laws/OnlyWall.lean ====
section
/-! SUPPORT. What each operation of Machine/Wall.lean may change (Laws/Within.lean). -/

set_option linter.unusedTactic false
set_option linter.unreachableTactic false
set_option linter.unusedVariables false

namespace Sys2Proof.Machine

theorem State.setSect_only (s : State) (w : Wing) (n : Nat) (x : Sect) : Within 256 s (State.setSect s w n x) := by
  unfold State.setSect
  repeat' (first
    | with_reducible exact Within.refl _ _
    | with_reducible assumption
    | with_reducible refine Within.ite ?_ ?_
    | split
    | with_reducible refine Within.on_wall ?_ (by decide))

theorem State.wallStat_only (s : State) (w : Wing) : Within 2 s (State.wallStat s w) := by
  unfold State.wallStat
  try dsimp only
  repeat' (first
    | with_reducible exact Within.refl _ _
    | with_reducible assumption
    | with_reducible apply Within.step (m := 2) (k := State.wf_only _ _ _ _ _) (hs := by decide)
    | with_reducible refine Within.each ?_ (fun _ _ _ => ?_)
    | with_reducible refine Within.foldl (fun _ _ _ => ?_) _ _ ?_
    | with_reducible refine Within.ite ?_ ?_
    | split)

theorem State.wallEvent_only (s : State) (es : Nat) (w : Wing) (n : Nat) : Within 34603011 s (State.wallEvent s es w n) := by
  unfold State.wallEvent
  repeat' (first
    | with_reducible exact Within.refl _ _
    | with_reducible assumption
    | with_reducible apply Within.step (m := 34603011) (k := State.raiseAt_only _ _ _ _) (hs := by decide)
    | with_reducible refine Within.ite ?_ ?_
    | split)

theorem State.readyComplete_only (s : State) (w : Wing) (n : Nat) : Within 256 s (State.readyComplete s w n) := by
  unfold State.readyComplete
  try dsimp only
  repeat' (first
    | with_reducible exact Within.refl _ _
    | with_reducible assumption
    | with_reducible apply Within.step (m := 256) (k := State.setSect_only _ _ _ _) (hs := by decide)
    | with_reducible refine Within.ite ?_ ?_
    | split)

theorem State.rowDeadline_only (s : State) (w : Wing) (n : Nat) : Within 258 s (State.rowDeadline s w n) := by
  unfold State.rowDeadline
  try dsimp only
  repeat' (first
    | with_reducible exact Within.refl _ _
    | with_reducible assumption
    | with_reducible apply Within.step (m := 258) (k := State.cnt_only _ _ _ _ _) (hs := by decide)
    | with_reducible apply Within.step (m := 258) (k := State.setSect_only _ _ _ _) (hs := by decide)
    | with_reducible refine Within.ite ?_ ?_
    | split)

theorem State.skipKey_only (s : State) (w : Wing) (n key : Nat) : Within 258 s (State.skipKey s w n key) := by
  unfold State.skipKey
  try dsimp only
  repeat' (first
    | with_reducible exact Within.refl _ _
    | with_reducible assumption
    | with_reducible apply Within.step (m := 258) (k := State.cnt_only _ _ _ _ _) (hs := by decide)
    | with_reducible apply Within.step (m := 258) (k := State.setSect_only _ _ _ _) (hs := by decide)
    | with_reducible refine Within.ite ?_ ?_
    | split)

theorem State.rowOpen_only (s : State) (w : Wing) (n : Nat) : Within 258 s (State.rowOpen s w n) := by
  unfold State.rowOpen
  try dsimp only
  repeat' (first
    | with_reducible exact Within.refl _ _
    | with_reducible assumption
    | with_reducible apply Within.step (m := 258) (k := State.readyComplete_only _ _ _) (hs := by decide)
    | with_reducible apply Within.step (m := 258) (k := State.setSect_only _ _ _ _) (hs := by decide)
    | with_reducible apply Within.step (m := 258) (k := State.skipKey_only _ _ _ _) (hs := by decide)
    | with_reducible apply Within.step (m := 258) (k := State.wallStat_only _ _) (hs := by decide)
    | with_reducible apply Within.step (m := 258) (k := State.wf_only _ _ _ _ _) (hs := by decide)
    | with_reducible refine Within.ite ?_ ?_
    | split)

theorem State.lateAsdu_only (s : State) (w : Wing) (n : Nat) (a : AsduOut) : Within 34603011 s (State.lateAsdu s w n a) := by
  unfold State.lateAsdu
  try dsimp only
  repeat' (first
    | with_reducible exact Within.refl _ _
    | with_reducible assumption
    | with_reducible apply Within.step (m := 34603011) (k := State.cnt_only _ _ _ _ _) (hs := by decide)
    | with_reducible apply Within.step (m := 34603011) (k := State.wallEvent_only _ _ _ _) (hs := by decide)
    | with_reducible refine Within.ite ?_ ?_
    | split)

theorem State.putAsdu_only (s : State) (w : Wing) (n : Nat) (a : AsduOut) : Within 34603267 s (State.putAsdu s w n a) := by
  unfold State.putAsdu
  try dsimp only
  repeat' (first
    | with_reducible exact Within.refl _ _
    | with_reducible assumption
    | with_reducible apply Within.step (m := 34603267) (k := State.cnt_only _ _ _ _ _) (hs := by decide)
    | with_reducible apply Within.step (m := 34603267) (k := State.lateAsdu_only _ _ _ _) (hs := by decide)
    | with_reducible apply Within.step (m := 34603267) (k := State.readyComplete_only _ _ _) (hs := by decide)
    | with_reducible apply Within.step (m := 34603267) (k := State.rowOpen_only _ _ _) (hs := by decide)
    | with_reducible apply Within.step (m := 34603267) (k := State.setSect_only _ _ _ _) (hs := by decide)
    | with_reducible apply Within.step (m := 34603267) (k := State.wallStat_only _ _) (hs := by decide)
    | with_reducible refine Within.times (fun _ _ => ?_) _ _ ?_
    | with_reducible refine Within.ite ?_ ?_
    | split)

theorem State.noteQueue_only (s : State) (w : Wing) : Within 256 s (State.noteQueue s w) := by
  unfold State.noteQueue
  try dsimp only
  repeat' (first
    | with_reducible exact Within.refl _ _
    | with_reducible assumption
    | with_reducible refine Within.ite ?_ ?_
    | split
    | with_reducible refine Within.on_wall ?_ (by decide))

theorem State.wallAsduWrite_only (s : State) (w : Wing) : Within 34603395 s (State.wallAsduWrite s w) := by
  unfold State.wallAsduWrite
  try dsimp only
  repeat' (first
    | with_reducible exact Within.refl _ _
    | with_reducible assumption
    | with_reducible apply Within.step (m := 34603395) (k := State.noteQueue_only _ _) (hs := by decide)
    | with_reducible apply Within.step (m := 34603395) (k := State.putAsdu_only _ _ _ _) (hs := by decide)
    | with_reducible refine Within.ite ?_ ?_
    | split
    | with_reducible refine Within.on_intake ?_ (by decide))

theorem State.loseCell_only (s : State) (w : Wing) (n key c : Nat) : Within 768 s (State.loseCell s w n key c) := by
  unfold State.loseCell
  exact Within.on_slice (Within.on_wall ((State.setSect_only ..).sub (by decide)) (by decide)) (by decide)

theorem State.wallEcc_only (s : State) (w : Wing) : Within 134217727 s (State.wallEcc s w) := by
  unfold State.wallEcc
  try dsimp only
  repeat' (first
    | with_reducible exact Within.refl _ _
    | with_reducible assumption
    | with_reducible apply Within.step (m := 134217727) (k := State.exclude_only _ _ _) (hs := by decide)
    | with_reducible apply Within.step (m := 134217727) (k := State.raiseAt_only _ _ _ _) (hs := by decide)
    | with_reducible apply Within.step (m := 134217727) (k := State.safeLast_only _ _ _ _) (hs := by decide)
    | with_reducible apply Within.step (m := 134217727) (k := State.setAlarm_only _ _ _) (hs := by decide)
    | with_reducible apply Within.step (m := 134217727) (k := State.wallEvent_only _ _ _ _) (hs := by decide)
    | with_reducible apply Within.step (m := 134217727) (k := State.wingFault_only _ _) (hs := by decide)
    | with_reducible refine Within.ite ?_ ?_
    | split
    | with_reducible refine Within.on_wall ?_ (by decide))

theorem State.deliver_only (s : State) (w : Wing) (n : Nat) (r : Row) (hdr : List Word) : Within 768 s (State.deliver s w n r hdr) := by
  unfold State.deliver
  try dsimp only
  repeat' (first
    | with_reducible exact Within.refl _ _
    | with_reducible assumption
    | with_reducible refine Within.eachIn ?_ (fun _ _ _ => ?_)
    | with_reducible refine Within.ite ?_ ?_
    | split
    | with_reducible refine Within.on_slice ?_ (by decide)
    | with_reducible refine Within.on_wall ?_ (by decide))

theorem State.noteRelease_only (s : State) (w : Wing) (n : Nat) (r : Row) (interp filled missing : Nat) (resampled : Bool) : Within 770 s (State.noteRelease s w n r interp filled missing resampled) := by
  unfold State.noteRelease
  try dsimp only
  repeat' (first
    | with_reducible exact Within.refl _ _
    | with_reducible assumption
    | with_reducible apply Within.step (m := 770) (k := State.cnt_only _ _ _ _ _) (hs := by decide)
    | with_reducible apply Within.step (m := 770) (k := State.deliver_only _ _ _ _ _) (hs := by decide)
    | with_reducible apply Within.step (m := 770) (k := State.roll_only _ _ _) (hs := by decide)
    | with_reducible apply Within.step (m := 770) (k := State.setSect_only _ _ _ _) (hs := by decide)
    | with_reducible apply Within.step (m := 770) (k := State.wallStat_only _ _) (hs := by decide)
    | with_reducible apply Within.step (m := 770) (k := State.wr_only _ _ _) (hs := by decide)
    | with_reducible refine Within.ite ?_ ?_
    | split)

theorem State.rowRelease_only (s : State) (w : Wing) (n : Nat) (ecc : List Nat) : Within 134217727 s (State.rowRelease s w n ecc) := by
  unfold State.rowRelease
  try dsimp only
  repeat' (first
    | with_reducible exact Within.refl _ _
    | with_reducible assumption
    | with_reducible apply Within.step (m := 134217727) (k := State.noteRelease_only _ _ _ _ _ _ _ _) (hs := by decide)
    | with_reducible apply Within.step (m := 134217727) (k := State.used_only _ _) (hs := by decide)
    | with_reducible apply Within.step (m := 134217727) (k := State.wallEcc_only _ _) (hs := by decide)
    | with_reducible refine Within.foldl (fun _ _ _ => ?_) _ _ ?_
    | with_reducible refine Within.ite ?_ ?_
    | split)

theorem State.derivedRowRelease_only (s : State) (w : Wing) (n : Nat) : Within 770 s (State.derivedRowRelease s w n) := by
  unfold State.derivedRowRelease
  try dsimp only
  repeat' (first
    | with_reducible exact Within.refl _ _
    | with_reducible assumption
    | with_reducible apply Within.step (m := 770) (k := State.noteRelease_only _ _ _ _ _ _ _ _) (hs := by decide)
    | with_reducible apply Within.step (m := 770) (k := State.setSect_only _ _ _ _) (hs := by decide)
    | with_reducible apply Within.step (m := 770) (k := State.skipKey_only _ _ _ _) (hs := by decide)
    | with_reducible refine Within.ite ?_ ?_
    | split)

theorem State.wallStep_only (s : State) (w : Wing) (d : Int) : Within 258 s (State.wallStep s w d) := by
  unfold State.wallStep
  try dsimp only
  repeat' (first
    | with_reducible exact Within.refl _ _
    | with_reducible assumption
    | with_reducible apply Within.step (m := 258) (k := State.cnt_only _ _ _ _ _) (hs := by decide)
    | with_reducible apply Within.step (m := 258) (k := State.setSect_only _ _ _ _) (hs := by decide)
    | with_reducible apply Within.step (m := 258) (k := State.wallStat_only _ _) (hs := by decide)
    | with_reducible refine Within.each ?_ (fun _ _ _ => ?_)
    | with_reducible refine Within.ite ?_ ?_
    | split)

theorem State.setLevel_only (s : State) (w : Wing) (n lv : Nat) : Within 34603011 s (State.setLevel s w n lv) := by
  unfold State.setLevel
  repeat' (first
    | with_reducible exact Within.refl _ _
    | with_reducible assumption
    | with_reducible apply Within.step (m := 34603011) (k := State.wallEvent_only _ _ _ _) (hs := by decide)
    | with_reducible apply Within.step (m := 34603011) (k := State.wallStat_only _ _) (hs := by decide)
    | with_reducible apply Within.step (m := 34603011) (k := State.wf_only _ _ _ _ _) (hs := by decide)
    | with_reducible refine Within.ite ?_ ?_
    | split)

theorem State.degradeStep_only (s : State) (w : Wing) : Within 34603267 s (State.degradeStep s w) := by
  unfold State.degradeStep
  repeat' (first
    | with_reducible exact Within.refl _ _
    | with_reducible assumption
    | with_reducible apply Within.step (m := 34603267) (k := State.setLevel_only _ _ _ _) (hs := by decide)
    | with_reducible refine Within.ite ?_ ?_
    | split
    | with_reducible refine Within.on_wall ?_ (by decide))

theorem State.restoreStep_only (s : State) (w : Wing) : Within 34603267 s (State.restoreStep s w) := by
  unfold State.restoreStep
  repeat' (first
    | with_reducible exact Within.refl _ _
    | with_reducible assumption
    | with_reducible apply Within.step (m := 34603267) (k := State.setLevel_only _ _ _ _) (hs := by decide)
    | with_reducible refine Within.ite ?_ ?_
    | split
    | with_reducible refine Within.on_wall ?_ (by decide))

theorem State.wallDegradeStep_only (s : State) (w : Wing) : Within 34603267 s (State.wallDegradeStep s w) := by
  unfold State.wallDegradeStep
  repeat' (first
    | with_reducible exact Within.refl _ _
    | with_reducible assumption
    | with_reducible apply Within.step (m := 34603267) (k := State.degradeStep_only _ _) (hs := by decide)
    | with_reducible refine Within.ite ?_ ?_
    | split
    | with_reducible refine Within.on_wall ?_ (by decide))

theorem State.wallRestoreStep_only (s : State) (w : Wing) : Within 34603267 s (State.wallRestoreStep s w) := by
  unfold State.wallRestoreStep
  repeat' (first
    | with_reducible exact Within.refl _ _
    | with_reducible assumption
    | with_reducible apply Within.step (m := 34603267) (k := State.restoreStep_only _ _) (hs := by decide)
    | with_reducible refine Within.ite ?_ ?_
    | split
    | with_reducible refine Within.on_wall ?_ (by decide))

theorem State.dmaServe_some {s t : State} {fn n : Nat} (h : s.dmaServe fn n = some t) : Within 1048576 s t := by
  unfold State.dmaServe at h
  dsimp only at h
  split at h
  · contradiction
  · injection h with h; subst h; exact Within.on_host (Within.refl _ _) (by decide) id

theorem State.sliceCfgWrite_only (s : State) (fn g : Nat) (val : Word) : Within 514 s (State.sliceCfgWrite s fn g val) := by
  unfold State.sliceCfgWrite
  try dsimp only
  repeat' (first
    | with_reducible exact Within.refl _ _
    | with_reducible assumption
    | with_reducible apply Within.step (m := 514) (k := State.wf_only _ _ _ _ _) (hs := by decide)
    | with_reducible apply Within.step (m := 514) (k := State.wr_only _ _ _) (hs := by decide)
    | with_reducible refine Within.ite ?_ ?_
    | split
    | with_reducible refine Within.on_slice ?_ (by decide))

theorem State.sliceEnable_only (s : State) (fn g : Nat) (val : Word) : Within 514 s (State.sliceEnable s fn g val) := by
  unfold State.sliceEnable
  repeat' (first
    | with_reducible exact Within.refl _ _
    | with_reducible assumption
    | with_reducible apply Within.step (m := 514) (k := State.sliceCfgWrite_only _ _ _ _) (hs := by decide)
    | with_reducible refine Within.ite ?_ ?_
    | split)

theorem State.sliceDisable_only (s : State) (fn g : Nat) (val : Word) : Within 514 s (State.sliceDisable s fn g val) := by
  unfold State.sliceDisable
  repeat' (first
    | with_reducible exact Within.refl _ _
    | with_reducible assumption
    | with_reducible apply Within.step (m := 514) (k := State.sliceCfgWrite_only _ _ _ _) (hs := by decide)
    | with_reducible refine Within.ite ?_ ?_
    | split)

theorem State.sliceConsWrite_only (s : State) (fn g : Nat) (val : Word) : Within 2 s (State.sliceConsWrite s fn g val) := by
  unfold State.sliceConsWrite
  try dsimp only
  repeat' (first
    | with_reducible exact Within.refl _ _
    | with_reducible assumption
    | with_reducible apply Within.step (m := 2) (k := State.wr_only _ _ _) (hs := by decide)
    | with_reducible refine Within.ite ?_ ?_
    | split)

theorem State.dropBlock_only (s : State) (fn g b : Nat) (rest : List (List Word × Row)) : Within 34603523 s (State.dropBlock s fn g b rest) := by
  unfold State.dropBlock
  try dsimp only
  repeat' (first
    | with_reducible exact Within.refl _ _
    | with_reducible assumption
    | with_reducible apply Within.step (m := 34603523) (k := State.cnt_only _ _ _ _ _) (hs := by decide)
    | with_reducible apply Within.step (m := 34603523) (k := State.wallEvent_only _ _ _ _) (hs := by decide)
    | with_reducible refine Within.ite ?_ ?_
    | split
    | with_reducible refine Within.on_slice ?_ (by decide))

theorem State.putBlock_only (s : State) (fn g b : Nat) (rows rest : List (List Word × Row)) : Within 1049090 s (State.putBlock s fn g b rows rest) := by
  unfold State.putBlock
  try dsimp only
  repeat' (first
    | with_reducible exact Within.refl _ _
    | with_reducible assumption
    | with_reducible apply Within.step (m := 1049090) (k := State.signal_only _ _ _) (hs := by decide)
    | with_reducible apply Within.step (m := 1049090) (k := State.wr_only _ _ _) (hs := by decide)
    | with_reducible refine Within.ite ?_ ?_
    | split
    | (with_reducible refine Within.on_slice_host ?_ (by decide) (by decide) ?_; rotate_left; (first | exact id | exact putBytes_wf _ _ _ | exact putWords_wf _ _ _)))

theorem State.sliceBlockWrite_only (s : State) (g : Nat) : Within 34603523 s (State.sliceBlockWrite s g) := by
  unfold State.sliceBlockWrite
  try dsimp only
  repeat' (first
    | with_reducible exact Within.refl _ _
    | with_reducible assumption
    | with_reducible refine Within.step (m := 34603523) ?_ (State.dmaServe_some (by assumption)) (by decide)
    | with_reducible apply Within.step (m := 34603523) (k := State.dropBlock_only _ _ _ _ _) (hs := by decide)
    | with_reducible apply Within.step (m := 34603523) (k := State.putBlock_only _ _ _ _ _ _) (hs := by decide)
    | with_reducible refine Within.ite ?_ ?_
    | split)

end Sys2Proof.Machine
end

