-- ==== Sys2Proof/Laws/OnlyIntake.lean ====
section
/-! SUPPORT. What each operation of Machine/Intake.lean may change (Laws/Within.lean). -/

set_option linter.unusedTactic false
set_option linter.unreachableTactic false
set_option linter.unusedVariables false

namespace Sys2Proof.Machine

theorem State.setStream_only (s : State) (w : Wing) (n : Nat) (x : Stream) : Within 128 s (State.setStream s w n x) := by
  unfold State.setStream
  repeat' (first
    | with_reducible exact Within.refl _ _
    | with_reducible assumption
    | with_reducible refine Within.ite ?_ ?_
    | split
    | with_reducible refine Within.on_intake ?_ (by decide))

theorem State.intakeEvent_only (s : State) (es : Nat) (w : Wing) (n : Nat) : Within 34603011 s (State.intakeEvent s es w n) := by
  unfold State.intakeEvent
  repeat' (first
    | with_reducible exact Within.refl _ _
    | with_reducible assumption
    | with_reducible apply Within.step (m := 34603011) (k := State.raiseAt_only _ _ _ _) (hs := by decide)
    | with_reducible refine Within.ite ?_ ?_
    | split)

theorem State.intakeStat_only (s : State) (w : Wing) : Within 2 s (State.intakeStat s w) := by
  unfold State.intakeStat
  try dsimp only
  repeat' (first
    | with_reducible exact Within.refl _ _
    | with_reducible assumption
    | with_reducible apply Within.step (m := 2) (k := State.wb_only _ _ _ _) (hs := by decide)
    | with_reducible apply Within.step (m := 2) (k := State.wf_only _ _ _ _ _) (hs := by decide)
    | with_reducible refine Within.ite ?_ ?_
    | split)

theorem State.setStrState_only (s : State) (w : Wing) (n v : Nat) : Within 34603267 s (State.setStrState s w n v) := by
  unfold State.setStrState
  try dsimp only
  repeat' (first
    | with_reducible exact Within.refl _ _
    | with_reducible assumption
    | with_reducible apply Within.step (m := 34603267) (k := State.intakeEvent_only _ _ _ _) (hs := by decide)
    | with_reducible apply Within.step (m := 34603267) (k := State.intakeStat_only _ _) (hs := by decide)
    | with_reducible apply Within.step (m := 34603267) (k := State.readyComplete_only _ _ _) (hs := by decide)
    | with_reducible apply Within.step (m := 34603267) (k := State.wf_only _ _ _ _ _) (hs := by decide)
    | with_reducible refine Within.ite ?_ ?_
    | split)

theorem State.sticky_only (s : State) (w : Wing) (n b : Nat) (es : Option Nat) : Within 34603011 s (State.sticky s w n b es) := by
  unfold State.sticky
  try dsimp only
  repeat' (first
    | with_reducible exact Within.refl _ _
    | with_reducible assumption
    | with_reducible apply Within.step (m := 34603011) (k := State.intakeEvent_only _ _ _ _) (hs := by decide)
    | with_reducible apply Within.step (m := 34603011) (k := State.wb_only _ _ _ _) (hs := by decide)
    | with_reducible refine Within.ite ?_ ?_
    | split)

theorem State.strCnt_only (s : State) (w : Wing) (n i k : Nat) : Within 2 s (State.strCnt s w n i k) := by
  unfold State.strCnt
  repeat' (first
    | with_reducible exact Within.refl _ _
    | with_reducible assumption
    | with_reducible apply Within.step (m := 2) (k := State.cnt_only _ _ _ _ _) (hs := by decide)
    | with_reducible refine Within.ite ?_ ?_
    | split)

theorem State.rejectCnt_only (s : State) (w : Wing) (a : Nat) : Within 34603011 s (State.rejectCnt s w a) := by
  unfold State.rejectCnt
  try dsimp only
  repeat' (first
    | with_reducible exact Within.refl _ _
    | with_reducible assumption
    | with_reducible apply Within.step (m := 34603011) (k := State.cnt_only _ _ _ _ _) (hs := by decide)
    | with_reducible apply Within.step (m := 34603011) (k := State.intakeEvent_only _ _ _ _) (hs := by decide)
    | with_reducible refine Within.ite ?_ ?_
    | split)

theorem State.toWall_only (s : State) (w : Wing) (a : AsduOut) : Within 386 s (State.toWall s w a) := by
  unfold State.toWall
  repeat' (first
    | with_reducible exact Within.refl _ _
    | with_reducible assumption
    | with_reducible apply Within.step (m := 386) (k := State.cnt_only _ _ _ _ _) (hs := by decide)
    | with_reducible apply Within.step (m := 386) (k := State.noteQueue_only _ _) (hs := by decide)
    | with_reducible refine Within.ite ?_ ?_
    | split
    | with_reducible refine Within.on_intake ?_ (by decide))

theorem State.noteAsdu_only (s : State) (w : Wing) (n : Nat) (a : SvAsdu) : Within 34603139 s (State.noteAsdu s w n a) := by
  unfold State.noteAsdu
  try dsimp only
  repeat' (first
    | with_reducible exact Within.refl _ _
    | with_reducible assumption
    | with_reducible apply Within.step (m := 34603139) (k := State.setStream_only _ _ _ _) (hs := by decide)
    | with_reducible apply Within.step (m := 34603139) (k := State.sticky_only _ _ _ _ _) (hs := by decide)
    | with_reducible apply Within.step (m := 34603139) (k := State.strCnt_only _ _ _ _ _) (hs := by decide)
    | with_reducible apply Within.step (m := 34603139) (k := State.wf_only _ _ _ _ _) (hs := by decide)
    | with_reducible refine Within.ite ?_ ?_
    | split)

theorem State.acceptFrame_only (s : State) (w : Wing) (n : Nat) (f : SvFrame) (ts : Nat) : Within 34603395 s (State.acceptFrame s w n f ts) := by
  unfold State.acceptFrame
  try dsimp only
  repeat' (first
    | with_reducible exact Within.refl _ _
    | with_reducible assumption
    | with_reducible apply Within.step (m := 34603395) (k := State.noteAsdu_only _ _ _ _) (hs := by decide)
    | with_reducible apply Within.step (m := 34603395) (k := State.roll_only _ _ _) (hs := by decide)
    | with_reducible apply Within.step (m := 34603395) (k := State.setStrState_only _ _ _ _) (hs := by decide)
    | with_reducible apply Within.step (m := 34603395) (k := State.setStream_only _ _ _ _) (hs := by decide)
    | with_reducible apply Within.step (m := 34603395) (k := State.toWall_only _ _ _) (hs := by decide)
    | with_reducible refine Within.eachIn ?_ (fun _ _ _ => ?_)
    | with_reducible refine Within.ite ?_ ?_
    | split)

theorem State.lastChecks_only (s : State) (w : Wing) (n : Nat) (f : SvFrame) (ts : Nat) : Within 34603395 s (State.lastChecks s w n f ts) := by
  unfold State.lastChecks
  try dsimp only
  repeat' (first
    | with_reducible exact Within.refl _ _
    | with_reducible assumption
    | with_reducible apply Within.step (m := 34603395) (k := State.acceptFrame_only _ _ _ _ _) (hs := by decide)
    | with_reducible apply Within.step (m := 34603395) (k := State.intakeEvent_only _ _ _ _) (hs := by decide)
    | with_reducible apply Within.step (m := 34603395) (k := State.setStrState_only _ _ _ _) (hs := by decide)
    | with_reducible apply Within.step (m := 34603395) (k := State.setStream_only _ _ _ _) (hs := by decide)
    | with_reducible apply Within.step (m := 34603395) (k := State.sticky_only _ _ _ _ _) (hs := by decide)
    | with_reducible apply Within.step (m := 34603395) (k := State.strCnt_only _ _ _ _ _) (hs := by decide)
    | with_reducible apply Within.step (m := 34603395) (k := State.wb_only _ _ _ _) (hs := by decide)
    | with_reducible refine Within.ite ?_ ?_
    | split)

theorem State.checkFrame_only (s : State) (w : Wing) (n : Nat) (f : SvFrame) (ts : Nat) : Within 34603395 s (State.checkFrame s w n f ts) := by
  unfold State.checkFrame
  try dsimp only
  repeat' (first
    | with_reducible exact Within.refl _ _
    | with_reducible assumption
    | with_reducible apply Within.step (m := 34603395) (k := State.lastChecks_only _ _ _ _ _) (hs := by decide)
    | with_reducible apply Within.step (m := 34603395) (k := State.roll_only _ _ _) (hs := by decide)
    | with_reducible apply Within.step (m := 34603395) (k := State.sticky_only _ _ _ _ _) (hs := by decide)
    | with_reducible apply Within.step (m := 34603395) (k := State.strCnt_only _ _ _ _ _) (hs := by decide)
    | with_reducible refine Within.ite ?_ ?_
    | split)

theorem State.enterPipe_some {s t : State} {w : Wing} (h : s.enterPipe w = some t) : Within 128 s t := by
  unfold State.enterPipe at h
  dsimp only at h
  split at h
  · contradiction
  · injection h with h; subst h; exact Within.on_intake (Within.refl _ _) (by decide)

theorem State.svCopy_only (s : State) (p : Nat) (f : Frame) : Within 36819139 s (State.svCopy s p f) := by
  unfold State.svCopy
  try dsimp only
  repeat' (first
    | with_reducible exact Within.refl _ _
    | with_reducible assumption
    | with_reducible apply Within.step (m := 36819139) (k := State.rx_only _ _ _) (hs := by decide)
    | with_reducible refine Within.ite ?_ ?_
    | split
    | with_reducible refine Within.on_intake ?_ (by decide))

theorem State.svForward_only (s : State) (w : Wing) (port : Nat) (f : SvFrame) (ts : Nat) : Within 34603171 s (State.svForward s w port f ts) := by
  unfold State.svForward
  try dsimp only
  repeat' (first
    | with_reducible exact Within.refl _ _
    | with_reducible assumption
    | with_reducible apply Within.step (m := 34603171) (k := State.cnt_only _ _ _ _ _) (hs := by decide)
    | with_reducible apply Within.step (m := 34603171) (k := State.rejectCnt_only _ _ _) (hs := by decide)
    | with_reducible refine Within.ite ?_ ?_
    | split
    | with_reducible refine Within.on_arb_intake ?_ (by decide) (by decide))

theorem State.svPipe_only (s : State) (w : Wing) (own : Bool) (port : Nat) (f : SvFrame) (ts : Nat) : Within 34603427 s (State.svPipe s w own port f ts) := by
  unfold State.svPipe
  try dsimp only
  repeat' (first
    | with_reducible exact Within.refl _ _
    | with_reducible assumption
    | with_reducible refine Within.step (m := 34603427) ?_ (State.enterPipe_some (by assumption)) (by decide)
    | with_reducible apply Within.step (m := 34603427) (k := State.checkFrame_only _ _ _ _ _) (hs := by decide)
    | with_reducible apply Within.step (m := 34603427) (k := State.rejectCnt_only _ _ _) (hs := by decide)
    | with_reducible apply Within.step (m := 34603427) (k := State.svForward_only _ _ _ _ _) (hs := by decide)
    | with_reducible refine Within.ite ?_ ?_
    | split)

theorem State.svFrameReceive_only (s : State) (w : Wing) (port : Nat) (f : SvFrame) (ts : Nat) : Within 36819427 s (State.svFrameReceive s w port f ts) := by
  unfold State.svFrameReceive
  try dsimp only
  repeat' (first
    | with_reducible exact Within.refl _ _
    | with_reducible assumption
    | with_reducible apply Within.step (m := 36819427) (k := State.rx_only _ _ _) (hs := by decide)
    | with_reducible apply Within.step (m := 36819427) (k := State.svPipe_only _ _ _ _ _ _) (hs := by decide)
    | with_reducible refine Within.ite ?_ ?_
    | split
    | with_reducible refine Within.on_intake ?_ (by decide))

theorem State.svForwardReceive_only (s : State) (w : Wing) (port : Nat) (f : SvFrame) (ts : Nat) : Within 34603427 s (State.svForwardReceive s w port f ts) := by
  unfold State.svForwardReceive
  try dsimp only
  repeat' (first
    | with_reducible exact Within.refl _ _
    | with_reducible assumption
    | with_reducible apply Within.step (m := 34603427) (k := State.svPipe_only _ _ _ _ _ _) (hs := by decide)
    | with_reducible refine Within.ite ?_ ?_
    | split
    | with_reducible refine Within.on_intake ?_ (by decide))

theorem State.discardWindowExpiry_only (s : State) (w : Wing) (n : Nat) : Within 128 s (State.discardWindowExpiry s w n) := by
  unfold State.discardWindowExpiry
  try dsimp only
  repeat' (first
    | with_reducible exact Within.refl _ _
    | with_reducible assumption
    | with_reducible apply Within.step (m := 128) (k := State.setStream_only _ _ _ _) (hs := by decide)
    | with_reducible refine Within.ite ?_ ?_
    | split)

theorem State.policerToken_only (s : State) (w : Wing) (n : Nat) : Within 128 s (State.policerToken s w n) := by
  unfold State.policerToken
  try dsimp only
  repeat' (first
    | with_reducible exact Within.refl _ _
    | with_reducible assumption
    | with_reducible apply Within.step (m := 128) (k := State.setStream_only _ _ _ _) (hs := by decide)
    | with_reducible refine Within.ite ?_ ?_
    | split)

theorem State.pairingWindowEnd_only (s : State) (w : Wing) (n : Nat) : Within 386 s (State.pairingWindowEnd s w n) := by
  unfold State.pairingWindowEnd
  try dsimp only
  repeat' (first
    | with_reducible exact Within.refl _ _
    | with_reducible assumption
    | with_reducible apply Within.step (m := 386) (k := State.setStream_only _ _ _ _) (hs := by decide)
    | with_reducible apply Within.step (m := 386) (k := State.toWall_only _ _ _) (hs := by decide)
    | with_reducible refine Within.eachIn ?_ (fun _ _ _ => ?_)
    | with_reducible refine Within.ite ?_ ?_
    | split)

theorem State.streamLoss_only (s : State) (w : Wing) (n : Nat) : Within 34603267 s (State.streamLoss s w n) := by
  unfold State.streamLoss
  repeat' (first
    | with_reducible exact Within.refl _ _
    | with_reducible assumption
    | with_reducible apply Within.step (m := 34603267) (k := State.setStrState_only _ _ _ _) (hs := by decide)
    | with_reducible refine Within.ite ?_ ?_
    | split)

theorem State.confrevClear_only (s : State) (fn : Nat) (w : Wing) (n : Nat) (val : Word) : Within 34603395 s (State.confrevClear s fn w n val) := by
  unfold State.confrevClear
  try dsimp only
  repeat' (first
    | with_reducible exact Within.refl _ _
    | with_reducible assumption
    | with_reducible apply Within.step (m := 34603395) (k := State.setStrState_only _ _ _ _) (hs := by decide)
    | with_reducible apply Within.step (m := 34603395) (k := State.setStream_only _ _ _ _) (hs := by decide)
    | with_reducible apply Within.step (m := 34603395) (k := State.wr_only _ _ _) (hs := by decide)
    | with_reducible refine Within.ite ?_ ?_
    | split)

theorem State.endSim_only (s : State) (w : Wing) : Within 34603267 s (State.endSim s w) := by
  unfold State.endSim
  repeat' (first
    | with_reducible exact Within.refl _ _
    | with_reducible assumption
    | with_reducible apply Within.step (m := 34603267) (k := State.setStrState_only _ _ _ _) (hs := by decide)
    | with_reducible refine Within.each ?_ (fun _ _ _ => ?_)
    | with_reducible refine Within.ite ?_ ?_
    | split)

theorem State.simEnWrite_only (s : State) (fn : Nat) (w : Wing) (val : Word) : Within 34603267 s (State.simEnWrite s fn w val) := by
  unfold State.simEnWrite
  try dsimp only
  repeat' (first
    | with_reducible exact Within.refl _ _
    | with_reducible assumption
    | with_reducible apply Within.step (m := 34603267) (k := State.endSim_only _ _) (hs := by decide)
    | with_reducible apply Within.step (m := 34603267) (k := State.wb_only _ _ _ _) (hs := by decide)
    | with_reducible refine Within.ite ?_ ?_
    | split)

theorem State.startStream_only (s : State) (w : Wing) (n : Nat) : Within 34603395 s (State.startStream s w n) := by
  unfold State.startStream
  try dsimp only
  repeat' (first
    | with_reducible exact Within.refl _ _
    | with_reducible assumption
    | with_reducible apply Within.step (m := 34603395) (k := State.setStrState_only _ _ _ _) (hs := by decide)
    | with_reducible apply Within.step (m := 34603395) (k := State.setStream_only _ _ _ _) (hs := by decide)
    | with_reducible refine Within.ite ?_ ?_
    | split)

end Sys2Proof.Machine
end

