-- ==== Sys2Proof/Laws/PerInstr.lean ====
section
/-! SUPPORT. What the lists of Safety.lean say of each command: one that may restart the device is in every part's list, and a host read
restarts nothing. -/

namespace Sys2Proof.Laws.Restart

/-- Every part that a list of Safety.lean names may change with the command. -/
def changesAll (c : Instr) : Bool :=
  c.mayMan && c.mayToll && c.maySafe && c.mayIntake && c.mayWall && c.maySlice && c.mayHedge && c.mayLease && c.mayCan && c.mayTk && c.mayPub && c.mayRing && c.mayArb && c.mayUpd && c.mayBus

/-- A command that may restart the device may change every part; a host read does not restart it. -/
def Statement (c : Instr) : Prop := (c.mayRestart = true → changesAll c = true) ∧ (c.isRead = true → c.mayRestart = false)

theorem registerWrite (fn off size : Nat) (val : BitVec 64) (hwSet : BitVec 32) : Statement (.registerWrite fn off size val hwSet) := ⟨fun _ => rfl, fun h => (nomatch h)⟩
theorem readClear (fn off size : Nat) (inc : BitVec 32) : Statement (.readClear fn off size inc) := ⟨fun h => (nomatch h), fun _ => rfl⟩
theorem iwlLaneUp (lane : Nat) : Statement (.iwlLaneUp lane) := ⟨fun h => (nomatch h), fun h => (nomatch h)⟩
theorem iwlLaneFail (lane : Nat) : Statement (.iwlLaneFail lane) := ⟨fun h => (nomatch h), fun h => (nomatch h)⟩
theorem iwlTrainDeadline : Statement .iwlTrainDeadline := ⟨fun h => (nomatch h), fun h => (nomatch h)⟩
theorem iwlBlockReceive (b : LinkBlock) (ok : Bool × Bool) : Statement (.iwlBlockReceive b ok) := ⟨fun h => (nomatch h), fun h => (nomatch h)⟩
theorem globalDecision (d : Decision) : Statement (.globalDecision d) := ⟨fun h => (nomatch h), fun h => (nomatch h)⟩
theorem deputyAck (received : Bool) : Statement (.deputyAck received) := ⟨fun h => (nomatch h), fun h => (nomatch h)⟩
theorem mirrorAckTimeout : Statement .mirrorAckTimeout := ⟨fun h => (nomatch h), fun h => (nomatch h)⟩
theorem heartbeatSend (w : Wing) : Statement (.heartbeatSend w) := ⟨fun h => (nomatch h), fun h => (nomatch h)⟩
theorem heartbeatArbiter (w : Wing) (epoch : BitVec 32) (seq : BitVec 16) (health : BitVec 32) : Statement (.heartbeatArbiter w epoch seq health) := ⟨fun _ => rfl, fun h => (nomatch h)⟩
theorem heartbeatLinkReceive (w : Wing) (epoch : BitVec 32) : Statement (.heartbeatLinkReceive w epoch) := ⟨fun h => (nomatch h), fun h => (nomatch h)⟩
theorem heartbeatLost (w : Wing) : Statement (.heartbeatLost w) := ⟨fun h => (nomatch h), fun h => (nomatch h)⟩
theorem claim (w : Wing) : Statement (.claim w) := ⟨fun _ => rfl, fun h => (nomatch h)⟩
theorem claimWindowClose : Statement .claimWindowClose := ⟨fun _ => rfl, fun h => (nomatch h)⟩
theorem stewardConfigWrite (w : Wing) (addr : Nat) (val : BitVec 32) : Statement (.stewardConfigWrite w addr val) := ⟨fun h => (nomatch h), fun h => (nomatch h)⟩
theorem mirrorRequest (w : Wing) : Statement (.mirrorRequest w) := ⟨fun h => (nomatch h), fun h => (nomatch h)⟩
theorem mirrorComplete (w : Wing) : Statement (.mirrorComplete w) := ⟨fun h => (nomatch h), fun h => (nomatch h)⟩
theorem rejoinRequest (w : Wing) : Statement (.rejoinRequest w) := ⟨fun _ => rfl, fun h => (nomatch h)⟩
theorem deputyHeartbeatTimeout : Statement .deputyHeartbeatTimeout := ⟨fun _ => rfl, fun h => (nomatch h)⟩
theorem timeShadowWrite (writer target : Wing) (word : Nat) (val : BitVec 32) : Statement (.timeShadowWrite writer target word val) := ⟨fun h => (nomatch h), fun h => (nomatch h)⟩
theorem timeCommit (writer target : Wing) : Statement (.timeCommit writer target) := ⟨fun h => (nomatch h), fun h => (nomatch h)⟩
theorem timeNowRead (fn : Nat) (w : Wing) (lane size : Nat) : Statement (.timeNowRead fn w lane size) := ⟨fun h => (nomatch h), fun _ => rfl⟩
theorem ltcRead (fn : Nat) (w : Wing) (lane size : Nat) : Statement (.ltcRead fn w lane size) := ⟨fun h => (nomatch h), fun _ => rfl⟩
theorem timeTripleRead (fn : Nat) (w : Wing) (lane size : Nat) : Statement (.timeTripleRead fn w lane size) := ⟨fun h => (nomatch h), fun _ => rfl⟩
theorem wingStrobe : Statement .wingStrobe := ⟨fun _ => rfl, fun h => (nomatch h)⟩
theorem servoUpdate (w : Wing) : Statement (.servoUpdate w) := ⟨fun h => (nomatch h), fun h => (nomatch h)⟩
theorem sourceLost : Statement .sourceLost := ⟨fun h => (nomatch h), fun h => (nomatch h)⟩
theorem holdLimitExpiry : Statement .holdLimitExpiry := ⟨fun h => (nomatch h), fun h => (nomatch h)⟩
theorem step (fn : Nat) (amount : Int) : Statement (.step fn amount) := ⟨fun h => (nomatch h), fun h => (nomatch h)⟩
theorem gmChange (fn : Nat) (clockClass : BitVec 8) : Statement (.gmChange fn clockClass) := ⟨fun h => (nomatch h), fun h => (nomatch h)⟩
theorem timePortStateWrite (fn p : Nat) (val : BitVec 32) : Statement (.timePortStateWrite fn p val) := ⟨fun h => (nomatch h), fun h => (nomatch h)⟩
theorem syncReceive (p : Nat) (oneStep : Bool) (h : PtpHdr) (origin : Nat) (corr : Int) (phase : Nat) : Statement (.syncReceive p oneStep h origin corr phase) := ⟨fun h => (nomatch h), fun h => (nomatch h)⟩
theorem followUpReceive (p : Nat) (h : PtpHdr) (origin : Nat) (corr : Int) : Statement (.followUpReceive p h origin corr) := ⟨fun h => (nomatch h), fun h => (nomatch h)⟩
theorem syncTransmit (p : Nat) (seq : BitVec 16) (phase : Nat) : Statement (.syncTransmit p seq phase) := ⟨fun h => (nomatch h), fun h => (nomatch h)⟩
theorem pdelayExchange (p : Nat) (resp : Bool) (seq : BitVec 16) (out back : Nat × Fin 16) : Statement (.pdelayExchange p resp seq out back) := ⟨fun h => (nomatch h), fun h => (nomatch h)⟩
theorem announceReceive (p : Nat) (valid : Bool) (m : PtpNote) (phase : Nat) : Statement (.announceReceive p valid m phase) := ⟨fun h => (nomatch h), fun h => (nomatch h)⟩
theorem announceTransmit (p : Nat) : Statement (.announceTransmit p) := ⟨fun h => (nomatch h), fun h => (nomatch h)⟩
theorem ptpTransit (pin pout : Nat) (kind : PtpKind) (m : PtpMsg) (age phaseIn phaseOut : Nat) : Statement (.ptpTransit pin pout kind m age phaseIn phaseOut) := ⟨fun h => (nomatch h), fun h => (nomatch h)⟩
theorem heldSyncExpiry (p : Nat) : Statement (.heldSyncExpiry p) := ⟨fun h => (nomatch h), fun h => (nomatch h)⟩
theorem ptpUnsupported (p : Nat) (delayMsg : Bool) (x : Arrival) : Statement (.ptpUnsupported p delayMsg x) := ⟨fun h => (nomatch h), fun h => (nomatch h)⟩
theorem irigbFrame (widths : List Nat) (age phase : Nat) : Statement (.irigbFrame widths age phase) := ⟨fun h => (nomatch h), fun h => (nomatch h)⟩
theorem ppsInEdge (x : PpsPulse) : Statement (.ppsInEdge x) := ⟨fun h => (nomatch h), fun h => (nomatch h)⟩
theorem ppsOutRise : Statement .ppsOutRise := ⟨fun h => (nomatch h), fun h => (nomatch h)⟩
theorem ppsOutFall : Statement .ppsOutFall := ⟨fun h => (nomatch h), fun h => (nomatch h)⟩
theorem triggerArm (fn m : Nat) (val : BitVec 32) : Statement (.triggerArm fn m val) := ⟨fun h => (nomatch h), fun h => (nomatch h)⟩
theorem triggerFire (m : Nat) : Statement (.triggerFire m) := ⟨fun h => (nomatch h), fun h => (nomatch h)⟩
theorem triggerPulseEnd (m : Nat) : Statement (.triggerPulseEnd m) := ⟨fun h => (nomatch h), fun h => (nomatch h)⟩
theorem captureEdge (c : Nat) (e : CapEdge) (width phase : Nat) : Statement (.captureEdge c e width phase) := ⟨fun h => (nomatch h), fun h => (nomatch h)⟩
theorem capturePop (mid c lane size : Nat) : Statement (.capturePop mid c lane size) := ⟨fun h => (nomatch h), fun _ => rfl⟩
theorem tsqEntryPop (fn p lane size : Nat) : Statement (.tsqEntryPop fn p lane size) := ⟨fun h => (nomatch h), fun _ => rfl⟩
theorem svFrameReceive (w : Wing) (port : Nat) (f : SvFrame) (ts : Nat) : Statement (.svFrameReceive w port f ts) := ⟨fun h => (nomatch h), fun h => (nomatch h)⟩
theorem svForwardReceive (w : Wing) (port : Nat) (f : SvFrame) (ts : Nat) : Statement (.svForwardReceive w port f ts) := ⟨fun h => (nomatch h), fun h => (nomatch h)⟩
theorem discardWindowExpiry (w : Wing) (s : Nat) : Statement (.discardWindowExpiry w s) := ⟨fun h => (nomatch h), fun h => (nomatch h)⟩
theorem policerToken (w : Wing) (s : Nat) : Statement (.policerToken w s) := ⟨fun h => (nomatch h), fun h => (nomatch h)⟩
theorem pairingWindowEnd (w : Wing) (s : Nat) : Statement (.pairingWindowEnd w s) := ⟨fun h => (nomatch h), fun h => (nomatch h)⟩
theorem streamLoss (w : Wing) (s : Nat) : Statement (.streamLoss w s) := ⟨fun h => (nomatch h), fun h => (nomatch h)⟩
theorem confrevClear (fn : Nat) (w : Wing) (s : Nat) (val : BitVec 32) : Statement (.confrevClear fn w s val) := ⟨fun h => (nomatch h), fun h => (nomatch h)⟩
theorem simEnWrite (fn : Nat) (w : Wing) (val : BitVec 32) : Statement (.simEnWrite fn w val) := ⟨fun h => (nomatch h), fun h => (nomatch h)⟩
theorem pubWrAdvance (fn p : Nat) (val : BitVec 32) : Statement (.pubWrAdvance fn p val) := ⟨fun h => (nomatch h), fun h => (nomatch h)⟩
theorem pubFrameSend (p : Nat) : Statement (.pubFrameSend p) := ⟨fun h => (nomatch h), fun h => (nomatch h)⟩
theorem thicketPubDma (p : Nat) : Statement (.thicketPubDma p) := ⟨fun h => (nomatch h), fun h => (nomatch h)⟩
theorem wallAsduWrite (w : Wing) : Statement (.wallAsduWrite w) := ⟨fun h => (nomatch h), fun h => (nomatch h)⟩
theorem rowOpen (w : Wing) (n : Nat) : Statement (.rowOpen w n) := ⟨fun h => (nomatch h), fun h => (nomatch h)⟩
theorem rowDeadline (w : Wing) (n : Nat) : Statement (.rowDeadline w n) := ⟨fun h => (nomatch h), fun h => (nomatch h)⟩
theorem rowRelease (w : Wing) (n : Nat) (ecc : List Nat) : Statement (.rowRelease w n ecc) := ⟨fun _ => rfl, fun h => (nomatch h)⟩
theorem derivedRowRelease (w : Wing) (n : Nat) : Statement (.derivedRowRelease w n) := ⟨fun h => (nomatch h), fun h => (nomatch h)⟩
theorem wallDegradeStep (w : Wing) : Statement (.wallDegradeStep w) := ⟨fun h => (nomatch h), fun h => (nomatch h)⟩
theorem wallRestoreStep (w : Wing) : Statement (.wallRestoreStep w) := ⟨fun h => (nomatch h), fun h => (nomatch h)⟩
theorem sliceEnable (fn g : Nat) (val : BitVec 32) : Statement (.sliceEnable fn g val) := ⟨fun h => (nomatch h), fun h => (nomatch h)⟩
theorem sliceDisable (fn g : Nat) (val : BitVec 32) : Statement (.sliceDisable fn g val) := ⟨fun h => (nomatch h), fun h => (nomatch h)⟩
theorem sliceConsWrite (fn g : Nat) (val : BitVec 32) : Statement (.sliceConsWrite fn g val) := ⟨fun h => (nomatch h), fun h => (nomatch h)⟩
theorem sliceBlockWrite (g : Nat) : Statement (.sliceBlockWrite g) := ⟨fun h => (nomatch h), fun h => (nomatch h)⟩
theorem hedgeRowEvaluate (w : Wing) (chkDiff : Bool) : Statement (.hedgeRowEvaluate w chkDiff) := ⟨fun _ => rfl, fun h => (nomatch h)⟩
theorem elementOperate (w : Wing) (e : Nat) : Statement (.elementOperate w e) := ⟨fun h => (nomatch h), fun h => (nomatch h)⟩
theorem elementResetDelayExpiry (w : Wing) (e : Nat) : Statement (.elementResetDelayExpiry w e) := ⟨fun h => (nomatch h), fun h => (nomatch h)⟩
theorem inverseTimeOperate (w : Wing) (e : Nat) : Statement (.inverseTimeOperate w e) := ⟨fun h => (nomatch h), fun h => (nomatch h)⟩
theorem inverseResetExpiry (w : Wing) (e : Nat) : Statement (.inverseResetExpiry w e) := ⟨fun h => (nomatch h), fun h => (nomatch h)⟩
theorem retrip (w : Wing) (e : Nat) : Statement (.retrip w e) := ⟨fun h => (nomatch h), fun h => (nomatch h)⟩
theorem bfOperate (w : Wing) (e : Nat) : Statement (.bfOperate w e) := ⟨fun h => (nomatch h), fun h => (nomatch h)⟩
theorem inputInvalidBlock (w : Wing) (e : Nat) : Statement (.inputInvalidBlock w e) := ⟨fun h => (nomatch h), fun h => (nomatch h)⟩
theorem freqHoldTimeout (w : Wing) (t : Nat) : Statement (.freqHoldTimeout w t) := ⟨fun h => (nomatch h), fun h => (nomatch h)⟩
theorem comparisonRecordReceive (w : Wing) (r : CmpRec) : Statement (.comparisonRecordReceive w r) := ⟨fun _ => rfl, fun h => (nomatch h)⟩
theorem comparisonRecordTimeout (w : Wing) (sec : Nat) : Statement (.comparisonRecordTimeout w sec) := ⟨fun _ => rfl, fun h => (nomatch h)⟩
theorem hedgePhRead (fn : Nat) (w : Wing) (c lane size : Nat) : Statement (.hedgePhRead fn w c lane size) := ⟨fun h => (nomatch h), fun _ => rfl⟩
theorem acquire (fn : Nat) (seq : BitVec 16) : Statement (.acquire fn seq) := ⟨fun h => (nomatch h), fun h => (nomatch h)⟩
theorem refresh (fn : Nat) (seq : BitVec 16) : Statement (.refresh fn seq) := ⟨fun h => (nomatch h), fun h => (nomatch h)⟩
theorem release (fn : Nat) (seq : BitVec 16) : Statement (.release fn seq) := ⟨fun h => (nomatch h), fun h => (nomatch h)⟩
theorem leaseTimeout : Statement .leaseTimeout := ⟨fun h => (nomatch h), fun h => (nomatch h)⟩
theorem hedgeSet (ch : Nat) (recs : List HedgeRec) : Statement (.hedgeSet ch recs) := ⟨fun h => (nomatch h), fun h => (nomatch h)⟩
theorem settingsTApply : Statement .settingsTApply := ⟨fun h => (nomatch h), fun h => (nomatch h)⟩
theorem tpMinExpiry (t : Nat) : Statement (.tpMinExpiry t) := ⟨fun h => (nomatch h), fun h => (nomatch h)⟩
theorem engineSourceWrite (n bit : Nat) (v : Bool) (q : GooseQual) : Statement (.engineSourceWrite n bit v q) := ⟨fun h => (nomatch h), fun h => (nomatch h)⟩
theorem gsiTalExpiry (w : Wing) (n : Nat) : Statement (.gsiTalExpiry w n) := ⟨fun h => (nomatch h), fun h => (nomatch h)⟩
theorem engHoldExpiry (w : Wing) (bit : Nat) : Statement (.engHoldExpiry w bit) := ⟨fun h => (nomatch h), fun h => (nomatch h)⟩
theorem pulse (fn : Nat) (seq crc : BitVec 16) : Statement (.pulse fn seq crc) := ⟨fun h => (nomatch h), fun h => (nomatch h)⟩
theorem clear (fn : Nat) (seq crc : BitVec 16) : Statement (.clear fn seq crc) := ⟨fun h => (nomatch h), fun h => (nomatch h)⟩
theorem hcmdPulseEnd (n : Nat) : Statement (.hcmdPulseEnd n) := ⟨fun h => (nomatch h), fun h => (nomatch h)⟩
theorem readbackMismatch (pin : Wing × Fin 8) (low : Bool) : Statement (.readbackMismatch pin low) := ⟨fun h => (nomatch h), fun h => (nomatch h)⟩
theorem tripPubChange (g : Nat) : Statement (.tripPubChange g) := ⟨fun h => (nomatch h), fun h => (nomatch h)⟩
theorem tripPubResend (g : Nat) : Statement (.tripPubResend g) := ⟨fun h => (nomatch h), fun h => (nomatch h)⟩
theorem caravanCutoff (r : Nat) : Statement (.caravanCutoff r) := ⟨fun h => (nomatch h), fun h => (nomatch h)⟩
theorem caravanDepart (r : Nat) : Statement (.caravanDepart r) := ⟨fun h => (nomatch h), fun h => (nomatch h)⟩
theorem caravanReceive (r : Nat) (tail : Bool) (c : Caravan) : Statement (.caravanReceive r tail c) := ⟨fun h => (nomatch h), fun h => (nomatch h)⟩
theorem caravanMissing (r : Nat) (tail : Bool) : Statement (.caravanMissing r tail) := ⟨fun h => (nomatch h), fun h => (nomatch h)⟩
theorem laneSignalLoss (r : Nat) (tail : Bool) : Statement (.laneSignalLoss r tail) := ⟨fun h => (nomatch h), fun h => (nomatch h)⟩
theorem nodeLost (r n : Nat) : Statement (.nodeLost r n) := ⟨fun h => (nomatch h), fun h => (nomatch h)⟩
theorem joinAnswer (r : Nat) : Statement (.joinAnswer r) := ⟨fun h => (nomatch h), fun h => (nomatch h)⟩
theorem imageRotate (r : Nat) : Statement (.imageRotate r) := ⟨fun h => (nomatch h), fun h => (nomatch h)⟩
theorem echoReqSend (r : Nat) (tail : Bool) : Statement (.echoReqSend r tail) := ⟨fun h => (nomatch h), fun h => (nomatch h)⟩
theorem echoReqReceive (r : Nat) (tail : Bool) (x : LineSet) (turn : BitVec 24) : Statement (.echoReqReceive r tail x turn) := ⟨fun h => (nomatch h), fun h => (nomatch h)⟩
theorem echoRspReceive (r : Nat) (tail : Bool) (x : LineSet) (ns : Nat) (sub : Fin 16) : Statement (.echoRspReceive r tail x ns sub) := ⟨fun h => (nomatch h), fun h => (nomatch h)⟩
theorem echoTimeout (r : Nat) (tail : Bool) : Statement (.echoTimeout r tail) := ⟨fun h => (nomatch h), fun h => (nomatch h)⟩
theorem ringStart (r : Nat) (mramOk : Bool) : Statement (.ringStart r mramOk) := ⟨fun h => (nomatch h), fun h => (nomatch h)⟩
theorem epochCommit (r : Nat) (w : Wing) (sched : List (BitVec 32 × BitVec 32)) : Statement (.epochCommit r w sched) := ⟨fun h => (nomatch h), fun h => (nomatch h)⟩
theorem epochSwap (r : Nat) : Statement (.epochSwap r) := ⟨fun h => (nomatch h), fun h => (nomatch h)⟩
theorem triggerSourceStop (r : Nat) : Statement (.triggerSourceStop r) := ⟨fun h => (nomatch h), fun h => (nomatch h)⟩
theorem unwrap (fn r : Nat) : Statement (.unwrap fn r) := ⟨fun h => (nomatch h), fun h => (nomatch h)⟩
theorem restore (fn r : Nat) : Statement (.restore fn r) := ⟨fun h => (nomatch h), fun h => (nomatch h)⟩
theorem sleep (fn r : Nat) : Statement (.sleep fn r) := ⟨fun h => (nomatch h), fun h => (nomatch h)⟩
theorem wake (fn r : Nat) : Statement (.wake fn r) := ⟨fun h => (nomatch h), fun h => (nomatch h)⟩
theorem nodeReset (fn r node : Nat) : Statement (.nodeReset fn r node) := ⟨fun h => (nomatch h), fun h => (nomatch h)⟩
theorem clearFalseWake (fn r node : Nat) : Statement (.clearFalseWake fn r node) := ⟨fun h => (nomatch h), fun h => (nomatch h)⟩
theorem bar2Read (fn : Nat) (off : Nat) (size : Nat) : Statement (.bar2Read fn off size) := ⟨fun h => (nomatch h), fun h => (nomatch h)⟩
theorem bar2Write (fn : Nat) (off : Nat) (size : Nat) (val : BitVec 64) : Statement (.bar2Write fn off size val) := ⟨fun h => (nomatch h), fun h => (nomatch h)⟩
theorem brSnapWrite (fn : Nat) (val : BitVec 32) : Statement (.brSnapWrite fn val) := ⟨fun h => (nomatch h), fun h => (nomatch h)⟩
theorem outHoldSet (fn node : Nat) : Statement (.outHoldSet fn node) := ⟨fun h => (nomatch h), fun h => (nomatch h)⟩
theorem outHoldClear (fn : Nat) : Statement (.outHoldClear fn) := ⟨fun h => (nomatch h), fun h => (nomatch h)⟩
theorem outHoldExpiry (fn : Nat) : Statement (.outHoldExpiry fn) := ⟨fun h => (nomatch h), fun h => (nomatch h)⟩
theorem sqDoorbell (fn : Nat) (tail : BitVec 32) : Statement (.sqDoorbell fn tail) := ⟨fun h => (nomatch h), fun h => (nomatch h)⟩
theorem read (who : Nat) (e : List (BitVec 32)) : Statement (.read who e) := ⟨fun h => (nomatch h), fun h => (nomatch h)⟩
theorem write (who : Nat) (e : List (BitVec 32)) (data : List (BitVec 16)) : Statement (.write who e data) := ⟨fun h => (nomatch h), fun h => (nomatch h)⟩
theorem ack (node : Nat) (rseq : BitVec 11) : Statement (.ack node rseq) := ⟨fun h => (nomatch h), fun h => (nomatch h)⟩
theorem rdata (node : Nat) (rseq tag : BitVec 11) (status : BitVec 4) (data : List (BitVec 16)) : Statement (.rdata node rseq tag status data) := ⟨fun h => (nomatch h), fun h => (nomatch h)⟩
theorem acycResend (node : Nat) : Statement (.acycResend node) := ⟨fun h => (nomatch h), fun h => (nomatch h)⟩
theorem acycTimeout (node : Nat) : Statement (.acycTimeout node) := ⟨fun h => (nomatch h), fun h => (nomatch h)⟩
theorem completionWrite (who : Nat) : Statement (.completionWrite who) := ⟨fun h => (nomatch h), fun h => (nomatch h)⟩
theorem responseDiscard (who : Nat) : Statement (.responseDiscard who) := ⟨fun h => (nomatch h), fun h => (nomatch h)⟩
theorem frameReceive (s : Nat) (x : Arrival) : Statement (.frameReceive s x) := ⟨fun h => (nomatch h), fun h => (nomatch h)⟩
theorem pauseReceive (p : Nat) (quanta : BitVec 16) : Statement (.pauseReceive p quanta) := ⟨fun h => (nomatch h), fun h => (nomatch h)⟩
theorem pfcReceive (p : Nat) (vec : BitVec 8) (quanta : List (BitVec 16)) : Statement (.pfcReceive p vec quanta) := ⟨fun h => (nomatch h), fun h => (nomatch h)⟩
theorem pauseExpiry (p : Nat) (cls : Option Nat) : Statement (.pauseExpiry p cls) := ⟨fun h => (nomatch h), fun h => (nomatch h)⟩
theorem pauseSend (p : Nat) (pcp : Nat) : Statement (.pauseSend p pcp) := ⟨fun h => (nomatch h), fun h => (nomatch h)⟩
theorem learnRequest : Statement .learnRequest := ⟨fun h => (nomatch h), fun h => (nomatch h)⟩
theorem moveLockEnd (vid : Nat) (mac : BitVec 48) : Statement (.moveLockEnd vid mac) := ⟨fun h => (nomatch h), fun h => (nomatch h)⟩
theorem macAgeOut (vid : Nat) (mac : BitVec 48) : Statement (.macAgeOut vid mac) := ⟨fun h => (nomatch h), fun h => (nomatch h)⟩
theorem linkDown (p : Nat) : Statement (.linkDown p) := ⟨fun h => (nomatch h), fun h => (nomatch h)⟩
theorem linkUp (p : Nat) (speed : BitVec 2) (anDone : Bool) : Statement (.linkUp p speed anDone) := ⟨fun h => (nomatch h), fun h => (nomatch h)⟩
theorem crossbarMatch : Statement .crossbarMatch := ⟨fun h => (nomatch h), fun h => (nomatch h)⟩
theorem frameTransmit (s : Nat) (ecc begun : Bool) (phase : Nat) : Statement (.frameTransmit s ecc begun phase) := ⟨fun h => (nomatch h), fun h => (nomatch h)⟩
theorem entryForget (k : Nat) (dir : Nat) : Statement (.entryForget k dir) := ⟨fun h => (nomatch h), fun h => (nomatch h)⟩
theorem nodeForget (k : Nat) (mac : BitVec 48) : Statement (.nodeForget k mac) := ⟨fun h => (nomatch h), fun h => (nomatch h)⟩
theorem fdbLookup (fn : Nat) (val : BitVec 32) : Statement (.fdbLookup fn val) := ⟨fun h => (nomatch h), fun h => (nomatch h)⟩
theorem macCounterRead (fn p j lane size : Nat) : Statement (.macCounterRead fn p j lane size) := ⟨fun h => (nomatch h), fun _ => rfl⟩
theorem engineLoad (n : Nat) (flashOk : Bool) : Statement (.engineLoad n flashOk) := ⟨fun h => (nomatch h), fun h => (nomatch h)⟩
theorem engineRestart (n : Nat) : Statement (.engineRestart n) := ⟨fun h => (nomatch h), fun h => (nomatch h)⟩
theorem watchdog (n : Nat) : Statement (.watchdog n) := ⟨fun h => (nomatch h), fun h => (nomatch h)⟩
theorem wdtKick (n : Nat) (p : EngStore) : Statement (.wdtKick n p) := ⟨fun h => (nomatch h), fun h => (nomatch h)⟩
theorem persEvent (n : Nat) (p : EngStore) : Statement (.persEvent n p) := ⟨fun h => (nomatch h), fun h => (nomatch h)⟩
theorem peDbankAddrWrite (fn n : Nat) (val : BitVec 32) : Statement (.peDbankAddrWrite fn n val) := ⟨fun h => (nomatch h), fun h => (nomatch h)⟩
theorem crc (n : Nat) (st : CopStart) : Statement (.crc n st) := ⟨fun h => (nomatch h), fun h => (nomatch h)⟩
theorem shaBlock (n : Nat) (st : CopStart) : Statement (.shaBlock n st) := ⟨fun h => (nomatch h), fun h => (nomatch h)⟩
theorem gmacCheck (n : Nat) (st : CopStart) : Statement (.gmacCheck n st) := ⟨fun h => (nomatch h), fun h => (nomatch h)⟩
theorem gmacSign (n : Nat) (st : CopStart) : Statement (.gmacSign n st) := ⟨fun h => (nomatch h), fun h => (nomatch h)⟩
theorem gcmSeal (n : Nat) (st : CopStart) : Statement (.gcmSeal n st) := ⟨fun h => (nomatch h), fun h => (nomatch h)⟩
theorem gcmOpen (n : Nat) (st : CopStart) : Statement (.gcmOpen n st) := ⟨fun h => (nomatch h), fun h => (nomatch h)⟩
theorem keyLoad (n : Nat) (st : CopStart) : Statement (.keyLoad n st) := ⟨fun h => (nomatch h), fun h => (nomatch h)⟩
theorem rng (n : Nat) (st : CopStart) : Statement (.rng n st) := ⟨fun h => (nomatch h), fun h => (nomatch h)⟩
theorem copComplete (n : Nat) (p : Proc) : Statement (.copComplete n p) := ⟨fun h => (nomatch h), fun h => (nomatch h)⟩
theorem fpMove (n : Nat) (w0 w1 : BitVec 16) : Statement (.fpMove n w0 w1) := ⟨fun h => (nomatch h), fun h => (nomatch h)⟩
theorem fpAdd (n alu : Nat) (m : FpMv) : Statement (.fpAdd n alu m) := ⟨fun h => (nomatch h), fun h => (nomatch h)⟩
theorem fpSub (n alu : Nat) (m : FpMv) : Statement (.fpSub n alu m) := ⟨fun h => (nomatch h), fun h => (nomatch h)⟩
theorem fpAnd (n alu : Nat) (m : FpMv) : Statement (.fpAnd n alu m) := ⟨fun h => (nomatch h), fun h => (nomatch h)⟩
theorem fpOr (n alu : Nat) (m : FpMv) : Statement (.fpOr n alu m) := ⟨fun h => (nomatch h), fun h => (nomatch h)⟩
theorem fpXor (n alu : Nat) (m : FpMv) : Statement (.fpXor n alu m) := ⟨fun h => (nomatch h), fun h => (nomatch h)⟩
theorem fpAndn (n alu : Nat) (m : FpMv) : Statement (.fpAndn n alu m) := ⟨fun h => (nomatch h), fun h => (nomatch h)⟩
theorem fpAdc (n alu : Nat) (m : FpMv) : Statement (.fpAdc n alu m) := ⟨fun h => (nomatch h), fun h => (nomatch h)⟩
theorem fpSbb (n alu : Nat) (m : FpMv) : Statement (.fpSbb n alu m) := ⟨fun h => (nomatch h), fun h => (nomatch h)⟩
theorem fpShl (n : Nat) (m : FpMv) : Statement (.fpShl n m) := ⟨fun h => (nomatch h), fun h => (nomatch h)⟩
theorem fpShr (n : Nat) (m : FpMv) : Statement (.fpShr n m) := ⟨fun h => (nomatch h), fun h => (nomatch h)⟩
theorem fpSar (n : Nat) (m : FpMv) : Statement (.fpSar n m) := ⟨fun h => (nomatch h), fun h => (nomatch h)⟩
theorem fpRol (n : Nat) (m : FpMv) : Statement (.fpRol n m) := ⟨fun h => (nomatch h), fun h => (nomatch h)⟩
theorem fpRor (n : Nat) (m : FpMv) : Statement (.fpRor n m) := ⟨fun h => (nomatch h), fun h => (nomatch h)⟩
theorem fpSwap (n : Nat) (m : FpMv) : Statement (.fpSwap n m) := ⟨fun h => (nomatch h), fun h => (nomatch h)⟩
theorem fpEq (n : Nat) (m : FpMv) : Statement (.fpEq n m) := ⟨fun h => (nomatch h), fun h => (nomatch h)⟩
theorem fpNe (n : Nat) (m : FpMv) : Statement (.fpNe n m) := ⟨fun h => (nomatch h), fun h => (nomatch h)⟩
theorem fpLtu (n : Nat) (m : FpMv) : Statement (.fpLtu n m) := ⟨fun h => (nomatch h), fun h => (nomatch h)⟩
theorem fpLeu (n : Nat) (m : FpMv) : Statement (.fpLeu n m) := ⟨fun h => (nomatch h), fun h => (nomatch h)⟩
theorem fpLt (n : Nat) (m : FpMv) : Statement (.fpLt n m) := ⟨fun h => (nomatch h), fun h => (nomatch h)⟩
theorem fpLe (n : Nat) (m : FpMv) : Statement (.fpLe n m) := ⟨fun h => (nomatch h), fun h => (nomatch h)⟩
theorem fpBit (n : Nat) (m : FpMv) : Statement (.fpBit n m) := ⟨fun h => (nomatch h), fun h => (nomatch h)⟩
theorem fpAny (n : Nat) (m : FpMv) : Statement (.fpAny n m) := ⟨fun h => (nomatch h), fun h => (nomatch h)⟩
theorem fpGrd (n : Nat) (m : FpMv) : Statement (.fpGrd n m) := ⟨fun h => (nomatch h), fun h => (nomatch h)⟩
theorem caRw (n cur dst : Nat) (m : FpGd) : Statement (.caRw n cur dst m) := ⟨fun h => (nomatch h), fun h => (nomatch h)⟩
theorem caRb (n cur dst : Nat) (m : FpGd) : Statement (.caRb n cur dst m) := ⟨fun h => (nomatch h), fun h => (nomatch h)⟩
theorem caWw (n cur : Nat) (m : FpMv) : Statement (.caWw n cur m) := ⟨fun h => (nomatch h), fun h => (nomatch h)⟩
theorem caWb (n cur : Nat) (m : FpMv) : Statement (.caWb n cur m) := ⟨fun h => (nomatch h), fun h => (nomatch h)⟩
theorem caPk (n cur dst : Nat) (m : FpGd) : Statement (.caPk n cur dst m) := ⟨fun h => (nomatch h), fun h => (nomatch h)⟩
theorem crcCfg (n : Nat) (m : FpMv) : Statement (.crcCfg n m) := ⟨fun h => (nomatch h), fun h => (nomatch h)⟩
theorem crcT (n : Nat) (m : FpMv) : Statement (.crcT n m) := ⟨fun h => (nomatch h), fun h => (nomatch h)⟩
theorem crcTb (n : Nat) (m : FpMv) : Statement (.crcTb n m) := ⟨fun h => (nomatch h), fun h => (nomatch h)⟩
theorem sumSet (n : Nat) (m : FpMv) : Statement (.sumSet n m) := ⟨fun h => (nomatch h), fun h => (nomatch h)⟩
theorem sumT (n : Nat) (m : FpMv) : Statement (.sumT n m) := ⟨fun h => (nomatch h), fun h => (nomatch h)⟩
theorem qinPop (n : Nat) (m : FpMv) : Statement (.qinPop n m) := ⟨fun h => (nomatch h), fun h => (nomatch h)⟩
theorem qinFree (n : Nat) (m : FpMv) : Statement (.qinFree n m) := ⟨fun h => (nomatch h), fun h => (nomatch h)⟩
theorem qoutPush (n : Nat) (m : FpMv) : Statement (.qoutPush n m) := ⟨fun h => (nomatch h), fun h => (nomatch h)⟩
theorem qoutDone (n dst : Nat) (m : FpGd) : Statement (.qoutDone n dst m) := ⟨fun h => (nomatch h), fun h => (nomatch h)⟩
theorem jmp (n : Nat) (m : FpMv) : Statement (.jmp n m) := ⟨fun h => (nomatch h), fun h => (nomatch h)⟩
theorem call (n : Nat) (m : FpMv) : Statement (.call n m) := ⟨fun h => (nomatch h), fun h => (nomatch h)⟩
theorem ret (n : Nat) (m : FpMv) : Statement (.ret n m) := ⟨fun h => (nomatch h), fun h => (nomatch h)⟩
theorem eret (n : Nat) (m : FpMv) : Statement (.eret n m) := ⟨fun h => (nomatch h), fun h => (nomatch h)⟩
theorem ipendClear (n : Nat) (m : FpMv) : Statement (.ipendClear n m) := ⟨fun h => (nomatch h), fun h => (nomatch h)⟩
theorem rpt (n : Nat) (m : FpMv) : Statement (.rpt n m) := ⟨fun h => (nomatch h), fun h => (nomatch h)⟩
theorem tas (n : Nat) (m : FpMv) : Statement (.tas n m) := ⟨fun h => (nomatch h), fun h => (nomatch h)⟩
theorem semClr (n : Nat) (m : FpMv) : Statement (.semClr n m) := ⟨fun h => (nomatch h), fun h => (nomatch h)⟩
theorem tsqPop (n : Nat) (m : FpMv) : Statement (.tsqPop n m) := ⟨fun h => (nomatch h), fun h => (nomatch h)⟩
theorem now (n : Nat) (m : FpMv) : Statement (.now n m) := ⟨fun h => (nomatch h), fun h => (nomatch h)⟩
theorem rx (n : Nat) (m : FpMv) : Statement (.rx n m) := ⟨fun h => (nomatch h), fun h => (nomatch h)⟩
theorem lutT (n : Nat) (m : FpMv) : Statement (.lutT n m) := ⟨fun h => (nomatch h), fun h => (nomatch h)⟩
theorem fpEventEntry (n : Nat) : Statement (.fpEventEntry n) := ⟨fun h => (nomatch h), fun h => (nomatch h)⟩
theorem mov (n d : Nat) (src : SpSrc) : Statement (.mov n d src) := ⟨fun h => (nomatch h), fun h => (nomatch h)⟩
theorem spAdd (n d : Nat) (src : SpSrc) : Statement (.spAdd n d src) := ⟨fun h => (nomatch h), fun h => (nomatch h)⟩
theorem spAdc (n d : Nat) (src : SpSrc) : Statement (.spAdc n d src) := ⟨fun h => (nomatch h), fun h => (nomatch h)⟩
theorem spSub (n d : Nat) (src : SpSrc) : Statement (.spSub n d src) := ⟨fun h => (nomatch h), fun h => (nomatch h)⟩
theorem spSbb (n d : Nat) (src : SpSrc) : Statement (.spSbb n d src) := ⟨fun h => (nomatch h), fun h => (nomatch h)⟩
theorem cmp (n d : Nat) (src : SpSrc) : Statement (.cmp n d src) := ⟨fun h => (nomatch h), fun h => (nomatch h)⟩
theorem spAnd (n d : Nat) (src : SpSrc) : Statement (.spAnd n d src) := ⟨fun h => (nomatch h), fun h => (nomatch h)⟩
theorem spOr (n d : Nat) (src : SpSrc) : Statement (.spOr n d src) := ⟨fun h => (nomatch h), fun h => (nomatch h)⟩
theorem spXor (n d : Nat) (src : SpSrc) : Statement (.spXor n d src) := ⟨fun h => (nomatch h), fun h => (nomatch h)⟩
theorem spAndn (n d : Nat) (src : SpSrc) : Statement (.spAndn n d src) := ⟨fun h => (nomatch h), fun h => (nomatch h)⟩
theorem tst (n d : Nat) (src : SpSrc) : Statement (.tst n d src) := ⟨fun h => (nomatch h), fun h => (nomatch h)⟩
theorem spShl (n d : Nat) (src : SpSrc) : Statement (.spShl n d src) := ⟨fun h => (nomatch h), fun h => (nomatch h)⟩
theorem spShr (n d : Nat) (src : SpSrc) : Statement (.spShr n d src) := ⟨fun h => (nomatch h), fun h => (nomatch h)⟩
theorem spSar (n d : Nat) (src : SpSrc) : Statement (.spSar n d src) := ⟨fun h => (nomatch h), fun h => (nomatch h)⟩
theorem spRol (n d : Nat) (src : SpSrc) : Statement (.spRol n d src) := ⟨fun h => (nomatch h), fun h => (nomatch h)⟩
theorem spBit (n d : Nat) (src : SpSrc) : Statement (.spBit n d src) := ⟨fun h => (nomatch h), fun h => (nomatch h)⟩
theorem localLoad (n : Nat) (x : SpReg) (am : Nat) (mode : SpMode) : Statement (.localLoad n x am mode) := ⟨fun h => (nomatch h), fun h => (nomatch h)⟩
theorem localStore (n : Nat) (x : SpReg) (am : Nat) (mode : SpMode) : Statement (.localStore n x am mode) := ⟨fun h => (nomatch h), fun h => (nomatch h)⟩
theorem ldD (n : Nat) (sp : Space) (am dn : Nat) (d16 : BitVec 16) : Statement (.ldD n sp am dn d16) := ⟨fun h => (nomatch h), fun h => (nomatch h)⟩
theorem ldA (n : Nat) (sp : Space) (am an : Nat) (d16 : BitVec 16) : Statement (.ldA n sp am an d16) := ⟨fun h => (nomatch h), fun h => (nomatch h)⟩
theorem stD (n : Nat) (sp : Space) (am dn : Nat) (d16 : BitVec 16) : Statement (.stD n sp am dn d16) := ⟨fun h => (nomatch h), fun h => (nomatch h)⟩
theorem stA (n : Nat) (sp : Space) (am an : Nat) (d16 : BitVec 16) : Statement (.stA n sp am an d16) := ⟨fun h => (nomatch h), fun h => (nomatch h)⟩
theorem ldx (n : Nat) (sp : Space) (am dn : Nat) (mode : SpMode) : Statement (.ldx n sp am dn mode) := ⟨fun h => (nomatch h), fun h => (nomatch h)⟩
theorem stx (n : Nat) (sp : Space) (am dn : Nat) (mode : SpMode) : Statement (.stx n sp am dn mode) := ⟨fun h => (nomatch h), fun h => (nomatch h)⟩
theorem ldabs (n : Nat) (sp : Space) (dn : Nat) (a : BitVec 16) : Statement (.ldabs n sp dn a) := ⟨fun h => (nomatch h), fun h => (nomatch h)⟩
theorem stabs (n : Nat) (sp : Space) (dn : Nat) (a : BitVec 16) : Statement (.stabs n sp dn a) := ⟨fun h => (nomatch h), fun h => (nomatch h)⟩
theorem aaddShort (n an : Nat) (s9 : BitVec 9) : Statement (.aaddShort n an s9) := ⟨fun h => (nomatch h), fun h => (nomatch h)⟩
theorem xmov (n : Nat) (dst src : SpReg) : Statement (.xmov n dst src) := ⟨fun h => (nomatch h), fun h => (nomatch h)⟩
theorem amov (n an : Nat) (v : BitVec 16) : Statement (.amov n an v) := ⟨fun h => (nomatch h), fun h => (nomatch h)⟩
theorem aadd (n an : Nat) (v : BitVec 16) : Statement (.aadd n an v) := ⟨fun h => (nomatch h), fun h => (nomatch h)⟩
theorem asub (n an : Nat) (v : BitVec 16) : Statement (.asub n an v) := ⟨fun h => (nomatch h), fun h => (nomatch h)⟩
theorem bcc (n : Nat) (cond : BitVec 4) (disp : SpDisp) : Statement (.bcc n cond disp) := ⟨fun h => (nomatch h), fun h => (nomatch h)⟩
theorem call0 (n : Nat) (disp : SpDisp) : Statement (.call0 n disp) := ⟨fun h => (nomatch h), fun h => (nomatch h)⟩
theorem spCall (n an : Nat) (acs : Bool) (mask : BitVec 16) : Statement (.spCall n an acs mask) := ⟨fun h => (nomatch h), fun h => (nomatch h)⟩
theorem spRet (n : Nat) : Statement (.spRet n) := ⟨fun h => (nomatch h), fun h => (nomatch h)⟩
theorem spEret (n : Nat) : Statement (.spEret n) := ⟨fun h => (nomatch h), fun h => (nomatch h)⟩
theorem rep (n : Nat) (cnt : SpRep) : Statement (.rep n cnt) := ⟨fun h => (nomatch h), fun h => (nomatch h)⟩
theorem repi (n : Nat) (cnt : SpRep) : Statement (.repi n cnt) := ⟨fun h => (nomatch h), fun h => (nomatch h)⟩
theorem semtas (n d i : Nat) : Statement (.semtas n d i) := ⟨fun h => (nomatch h), fun h => (nomatch h)⟩
theorem semclr (n i : Nat) : Statement (.semclr n i) := ⟨fun h => (nomatch h), fun h => (nomatch h)⟩
theorem jmpAn (n an : Nat) : Statement (.jmpAn n an) := ⟨fun h => (nomatch h), fun h => (nomatch h)⟩
theorem wait (n : Nat) : Statement (.wait n) := ⟨fun h => (nomatch h), fun h => (nomatch h)⟩
theorem di (n : Nat) : Statement (.di n) := ⟨fun h => (nomatch h), fun h => (nomatch h)⟩
theorem ei (n : Nat) : Statement (.ei n) := ⟨fun h => (nomatch h), fun h => (nomatch h)⟩
theorem endcyc (n : Nat) : Statement (.endcyc n) := ⟨fun h => (nomatch h), fun h => (nomatch h)⟩
theorem push (n : Nat) (x : SpReg) : Statement (.push n x) := ⟨fun h => (nomatch h), fun h => (nomatch h)⟩
theorem pop (n : Nat) (x : SpReg) : Statement (.pop n x) := ⟨fun h => (nomatch h), fun h => (nomatch h)⟩
theorem mfc (n d k : Nat) : Statement (.mfc n d k) := ⟨fun h => (nomatch h), fun h => (nomatch h)⟩
theorem mtc (n k d : Nat) : Statement (.mtc n k d) := ⟨fun h => (nomatch h), fun h => (nomatch h)⟩
theorem copr (n d k : Nat) : Statement (.copr n d k) := ⟨fun h => (nomatch h), fun h => (nomatch h)⟩
theorem copw (n k d : Nat) : Statement (.copw n k d) := ⟨fun h => (nomatch h), fun h => (nomatch h)⟩
theorem copst (n d : Nat) : Statement (.copst n d) := ⟨fun h => (nomatch h), fun h => (nomatch h)⟩
theorem nop (n : Nat) : Statement (.nop n) := ⟨fun h => (nomatch h), fun h => (nomatch h)⟩
theorem ldres (n : Nat) (sp : Space) (am dn : Nat) : Statement (.ldres n sp am dn) := ⟨fun h => (nomatch h), fun h => (nomatch h)⟩
theorem stcond (n : Nat) (sp : Space) (am dn : Nat) : Statement (.stcond n sp am dn) := ⟨fun h => (nomatch h), fun h => (nomatch h)⟩
theorem rise (n d k b : Nat) : Statement (.rise n d k b) := ⟨fun h => (nomatch h), fun h => (nomatch h)⟩
theorem fall (n d k b : Nat) : Statement (.fall n d k b) := ⟨fun h => (nomatch h), fun h => (nomatch h)⟩
theorem mul (n ac da db : Nat) : Statement (.mul n ac da db) := ⟨fun h => (nomatch h), fun h => (nomatch h)⟩
theorem mac (n ac da db : Nat) : Statement (.mac n ac da db) := ⟨fun h => (nomatch h), fun h => (nomatch h)⟩
theorem msu (n ac da db : Nat) : Statement (.msu n ac da db) := ⟨fun h => (nomatch h), fun h => (nomatch h)⟩
theorem mulu (n ac da db : Nat) : Statement (.mulu n ac da db) := ⟨fun h => (nomatch h), fun h => (nomatch h)⟩
theorem macu (n ac da db : Nat) : Statement (.macu n ac da db) := ⟨fun h => (nomatch h), fun h => (nomatch h)⟩
theorem accClr (n ac : Nat) : Statement (.accClr n ac) := ⟨fun h => (nomatch h), fun h => (nomatch h)⟩
theorem sat (n ac : Nat) : Statement (.sat n ac) := ⟨fun h => (nomatch h), fun h => (nomatch h)⟩
theorem norm (n ac da : Nat) : Statement (.norm n ac da) := ⟨fun h => (nomatch h), fun h => (nomatch h)⟩
theorem rnd (n ac : Nat) : Statement (.rnd n ac) := ⟨fun h => (nomatch h), fun h => (nomatch h)⟩
theorem movh (n ac da : Nat) : Statement (.movh n ac da) := ⟨fun h => (nomatch h), fun h => (nomatch h)⟩
theorem movl (n ac da : Nat) : Statement (.movl n ac da) := ⟨fun h => (nomatch h), fun h => (nomatch h)⟩
theorem ldh (n ac da : Nat) : Statement (.ldh n ac da) := ⟨fun h => (nomatch h), fun h => (nomatch h)⟩
theorem asr (n ac db : Nat) : Statement (.asr n ac db) := ⟨fun h => (nomatch h), fun h => (nomatch h)⟩
theorem addac (n ac : Nat) : Statement (.addac n ac) := ⟨fun h => (nomatch h), fun h => (nomatch h)⟩
theorem spEventEntry (n : Nat) : Statement (.spEventEntry n) := ⟨fun h => (nomatch h), fun h => (nomatch h)⟩
theorem ilkCycleStart (n : Nat) : Statement (.ilkCycleStart n) := ⟨fun h => (nomatch h), fun h => (nomatch h)⟩
theorem ilkOverrun (n : Nat) : Statement (.ilkOverrun n) := ⟨fun h => (nomatch h), fun h => (nomatch h)⟩
theorem ilkRun (ch n : Nat) : Statement (.ilkRun ch n) := ⟨fun h => (nomatch h), fun h => (nomatch h)⟩
theorem ilkStop (ch n : Nat) : Statement (.ilkStop ch n) := ⟨fun h => (nomatch h), fun h => (nomatch h)⟩
theorem hold (ch n : Nat) : Statement (.hold ch n) := ⟨fun h => (nomatch h), fun h => (nomatch h)⟩
theorem forceSet (ch n : Nat) (w1 w2 : BitVec 32) : Statement (.forceSet ch n w1 w2) := ⟨fun h => (nomatch h), fun h => (nomatch h)⟩
theorem forceClear (ch n : Nat) (w1 : BitVec 32) : Statement (.forceClear ch n w1) := ⟨fun h => (nomatch h), fun h => (nomatch h)⟩
theorem forceClearAll (ch n : Nat) : Statement (.forceClearAll ch n) := ⟨fun h => (nomatch h), fun h => (nomatch h)⟩
theorem canModeWrite (fn x : Nat) (val : BitVec 32) : Statement (.canModeWrite fn x val) := ⟨fun h => (nomatch h), fun h => (nomatch h)⟩
theorem canTimingWrite (fn x off : Nat) (val : BitVec 32) : Statement (.canTimingWrite fn x off val) := ⟨fun h => (nomatch h), fun h => (nomatch h)⟩
theorem canTxreq (fn x : Nat) (bits : BitVec 64) : Statement (.canTxreq fn x bits) := ⟨fun h => (nomatch h), fun h => (nomatch h)⟩
theorem canTxabort (fn x : Nat) (bits : BitVec 64) : Statement (.canTxabort fn x bits) := ⟨fun h => (nomatch h), fun h => (nomatch h)⟩
theorem canRxpop (fn x : Nat) : Statement (.canRxpop fn x) := ⟨fun h => (nomatch h), fun h => (nomatch h)⟩
theorem recover (fn x : Nat) : Statement (.recover fn x) := ⟨fun h => (nomatch h), fun h => (nomatch h)⟩
theorem canFrameReceive (x : Nat) (r : CanRx) : Statement (.canFrameReceive x r) := ⟨fun h => (nomatch h), fun h => (nomatch h)⟩
theorem canTxAttemptEnd (x : Nat) (res : CanTxRes) : Statement (.canTxAttemptEnd x res) := ⟨fun h => (nomatch h), fun h => (nomatch h)⟩
theorem canRecoveryEnd (x : Nat) (runs : Nat) : Statement (.canRecoveryEnd x runs) := ⟨fun h => (nomatch h), fun h => (nomatch h)⟩
theorem canTxRingFetch (x : Nat) : Statement (.canTxRingFetch x) := ⟨fun h => (nomatch h), fun h => (nomatch h)⟩
theorem canWakeMatch (x : Nat) (f : CanFrame) (crcOk : Bool) : Statement (.canWakeMatch x f crcOk) := ⟨fun _ => rfl, fun h => (nomatch h)⟩
theorem canWakePin (x : Nat) : Statement (.canWakePin x) := ⟨fun _ => rfl, fun h => (nomatch h)⟩
theorem canWakeValidityExpiry (x : Nat) : Statement (.canWakeValidityExpiry x) := ⟨fun h => (nomatch h), fun h => (nomatch h)⟩
theorem wakeDisClear (fn x : Nat) (val : BitVec 32) : Statement (.wakeDisClear fn x val) := ⟨fun h => (nomatch h), fun h => (nomatch h)⟩
theorem tkStep (n : Nat) (pins : BitVec 48) : Statement (.tkStep n pins) := ⟨fun h => (nomatch h), fun h => (nomatch h)⟩
theorem tkEnable (fn n : Nat) (val : BitVec 32) : Statement (.tkEnable fn n val) := ⟨fun h => (nomatch h), fun h => (nomatch h)⟩
theorem tkDisable (fn n : Nat) (val : BitVec 32) : Statement (.tkDisable fn n val) := ⟨fun h => (nomatch h), fun h => (nomatch h)⟩
theorem tkLutWrite (fn n i : Nat) (val : BitVec 32) : Statement (.tkLutWrite fn n i val) := ⟨fun h => (nomatch h), fun h => (nomatch h)⟩
theorem tkTxfifoWrite (fn n : Nat) (val : BitVec 32) : Statement (.tkTxfifoWrite fn n val) := ⟨fun h => (nomatch h), fun h => (nomatch h)⟩
theorem tkRxfifoRead (fn n lane size : Nat) : Statement (.tkRxfifoRead fn n lane size) := ⟨fun h => (nomatch h), fun _ => rfl⟩
theorem hostLinkUp (port : Nat) (rate width : Nat) : Statement (.hostLinkUp port rate width) := ⟨fun h => (nomatch h), fun h => (nomatch h)⟩
theorem hostPortReset (port : Nat) (cause : PortReset) : Statement (.hostPortReset port cause) := ⟨fun h => (nomatch h), fun h => (nomatch h)⟩
theorem dmaPauseStart (port : Nat) (linkLoss : Bool) : Statement (.dmaPauseStart port linkLoss) := ⟨fun h => (nomatch h), fun h => (nomatch h)⟩
theorem dmaPauseEnd (port : Nat) : Statement (.dmaPauseEnd port) := ⟨fun h => (nomatch h), fun h => (nomatch h)⟩
theorem linkLossTimeout (port : Nat) : Statement (.linkLossTimeout port) := ⟨fun h => (nomatch h), fun h => (nomatch h)⟩
theorem functionLevelReset (fn : Nat) : Statement (.functionLevelReset fn) := ⟨fun h => (nomatch h), fun h => (nomatch h)⟩
theorem numvfsWrite (port : Nat) (enable : Bool) (num : Nat) : Statement (.numvfsWrite port enable num) := ⟨fun h => (nomatch h), fun h => (nomatch h)⟩
theorem d3hotEntry (fn : Nat) : Statement (.d3hotEntry fn) := ⟨fun h => (nomatch h), fun h => (nomatch h)⟩
theorem d0Return (fn : Nat) (noSoftReset : Bool) : Statement (.d0Return fn noSoftReset) := ⟨fun h => (nomatch h), fun h => (nomatch h)⟩
theorem hostBankAccess (fn off : Nat) (wr : Bool) (be : List Bool) (data : List (BitVec 8)) : Statement (.hostBankAccess fn off wr be data) := ⟨fun h => (nomatch h), fun h => (nomatch h)⟩
theorem dmaFault (fn : Nat) (kind : DmaKind) : Statement (.dmaFault fn kind) := ⟨fun h => (nomatch h), fun h => (nomatch h)⟩
theorem tdCtlWrite (mid ch : Nat) (val : BitVec 32) : Statement (.tdCtlWrite mid ch val) := ⟨fun h => (nomatch h), fun h => (nomatch h)⟩
theorem tdTake (ch : Nat) : Statement (.tdTake ch) := ⟨fun h => (nomatch h), fun h => (nomatch h)⟩
theorem fdPost (ch : Nat) : Statement (.fdPost ch) := ⟨fun h => (nomatch h), fun h => (nomatch h)⟩
theorem fdPtrLoRead (mid ch lane size : Nat) : Statement (.fdPtrLoRead mid ch lane size) := ⟨fun h => (nomatch h), fun _ => rfl⟩
theorem ping (ch : Nat) (payload : List (BitVec 8)) : Statement (.ping ch payload) := ⟨fun h => (nomatch h), fun h => (nomatch h)⟩
theorem ptpTxSet (ch : Nat) (p : Nat) (content : List (BitVec 32)) : Statement (.ptpTxSet ch p content) := ⟨fun h => (nomatch h), fun h => (nomatch h)⟩
theorem msixPost (fn vec : Nat) : Statement (.msixPost fn vec) := ⟨fun h => (nomatch h), fun h => (nomatch h)⟩
theorem holdoffEnd (fn : Nat) : Statement (.holdoffEnd fn) := ⟨fun h => (nomatch h), fun h => (nomatch h)⟩
theorem vectorUnmask (fn vec : Nat) (all : Bool) : Statement (.vectorUnmask fn vec all) := ⟨fun h => (nomatch h), fun h => (nomatch h)⟩
theorem keyInstall (ch : Nat) (slot : BitVec 8) (attr : BitVec 24) (w1 : BitVec 32) (key : List (BitVec 8)) : Statement (.keyInstall ch slot attr w1 key) := ⟨fun h => (nomatch h), fun h => (nomatch h)⟩
theorem keyErase (ch : Nat) (w0 : BitVec 32) : Statement (.keyErase ch w0) := ⟨fun h => (nomatch h), fun h => (nomatch h)⟩
theorem keyInfo (ch : Nat) (w0 : BitVec 32) : Statement (.keyInfo ch w0) := ⟨fun h => (nomatch h), fun h => (nomatch h)⟩
theorem svnCommit (ch : Nat) (w0 : BitVec 32) : Statement (.svnCommit ch w0) := ⟨fun h => (nomatch h), fun h => (nomatch h)⟩
theorem fuseProg (ch : Nat) (field : Nat) (bits : List (BitVec 8)) (stuck : Option Nat) : Statement (.fuseProg ch field bits stuck) := ⟨fun h => (nomatch h), fun h => (nomatch h)⟩
theorem txAnWrite (fn u : Nat) (val : BitVec 32) : Statement (.txAnWrite fn u val) := ⟨fun h => (nomatch h), fun h => (nomatch h)⟩
theorem trngHealthFail : Statement .trngHealthFail := ⟨fun h => (nomatch h), fun h => (nomatch h)⟩
theorem trngRecover (healthy : Nat) : Statement (.trngRecover healthy) := ⟨fun h => (nomatch h), fun h => (nomatch h)⟩
theorem debugUnlock (x : Jtag) : Statement (.debugUnlock x) := ⟨fun h => (nomatch h), fun h => (nomatch h)⟩
theorem supplyWarn (i : Nat) : Statement (.supplyWarn i) := ⟨fun h => (nomatch h), fun h => (nomatch h)⟩
theorem brownOut (i : Nat) : Statement (.brownOut i) := ⟨fun _ => rfl, fun h => (nomatch h)⟩
theorem powerOn (x : PowerUp) : Statement (.powerOn x) := ⟨fun _ => rfl, fun h => (nomatch h)⟩
theorem resetPin (lowNs : Nat) : Statement (.resetPin lowNs) := ⟨fun _ => rfl, fun h => (nomatch h)⟩
theorem stewardWatchdog (w : Wing) : Statement (.stewardWatchdog w) := ⟨fun h => (nomatch h), fun h => (nomatch h)⟩
theorem debugReset : Statement .debugReset := ⟨fun _ => rfl, fun h => (nomatch h)⟩
theorem stormClear : Statement .stormClear := ⟨fun h => (nomatch h), fun h => (nomatch h)⟩
theorem setMode (fn : Nat) (val : BitVec 32) : Statement (.setMode fn val) := ⟨fun _ => rfl, fun h => (nomatch h)⟩
theorem coreReset (fn : Nat) (val : BitVec 32) : Statement (.coreReset fn val) := ⟨fun _ => rfl, fun h => (nomatch h)⟩
theorem systemReset (fn : Nat) (val : BitVec 32) : Statement (.systemReset fn val) := ⟨fun _ => rfl, fun h => (nomatch h)⟩
theorem standby (fn : Nat) (val : BitVec 32) : Statement (.standby fn val) := ⟨fun _ => rfl, fun h => (nomatch h)⟩
theorem standbyWake (bits : BitVec 32) : Statement (.standbyWake bits) := ⟨fun _ => rfl, fun h => (nomatch h)⟩
theorem rtcAlarm : Statement .rtcAlarm := ⟨fun _ => rfl, fun h => (nomatch h)⟩
theorem vinOkLow (lowNs : Nat) : Statement (.vinOkLow lowNs) := ⟨fun h => (nomatch h), fun h => (nomatch h)⟩
theorem holdupTaskEnd (uv : Nat) : Statement (.holdupTaskEnd uv) := ⟨fun _ => rfl, fun h => (nomatch h)⟩
theorem powerReturn : Statement .powerReturn := ⟨fun _ => rfl, fun h => (nomatch h)⟩
theorem tollMeasure (mw : Nat) : Statement (.tollMeasure mw) := ⟨fun h => (nomatch h), fun h => (nomatch h)⟩
theorem tollThrottleStep : Statement .tollThrottleStep := ⟨fun h => (nomatch h), fun h => (nomatch h)⟩
theorem tollReleaseStep : Statement .tollReleaseStep := ⟨fun h => (nomatch h), fun h => (nomatch h)⟩
theorem tollCapUnmet : Statement .tollCapUnmet := ⟨fun h => (nomatch h), fun h => (nomatch h)⟩
theorem holdupSample (uv : Nat) : Statement (.holdupSample uv) := ⟨fun h => (nomatch h), fun h => (nomatch h)⟩
theorem mramUserWrite (fn off : Nat) (data : List (BitVec 8)) : Statement (.mramUserWrite fn off data) := ⟨fun h => (nomatch h), fun h => (nomatch h)⟩
theorem bootComplete (flashE flashW vinHeld : Bool) : Statement (.bootComplete flashE flashW vinHeld) := ⟨fun h => (nomatch h), fun h => (nomatch h)⟩
theorem selfTestComplete (res : SelfTest) : Statement (.selfTestComplete res) := ⟨fun _ => rfl, fun h => (nomatch h)⟩
theorem configuringComplete (flashOk mramOk : Bool) : Statement (.configuringComplete flashOk mramOk) := ⟨fun _ => rfl, fun h => (nomatch h)⟩
theorem stepTimeout : Statement .stepTimeout := ⟨fun _ => rfl, fun h => (nomatch h)⟩
theorem trialClear : Statement .trialClear := ⟨fun h => (nomatch h), fun h => (nomatch h)⟩
theorem diagLine : Statement .diagLine := ⟨fun h => (nomatch h), fun h => (nomatch h)⟩
theorem stageOpen (ch : Nat) (target : Nat) : Statement (.stageOpen ch target) := ⟨fun h => (nomatch h), fun h => (nomatch h)⟩
theorem stageWrite (ch off : Nat) (data : List (BitVec 8)) (flashOk : Bool) : Statement (.stageWrite ch off data flashOk) := ⟨fun h => (nomatch h), fun h => (nomatch h)⟩
theorem stageClose (ch : Nat) (body : ImageBody) : Statement (.stageClose ch body) := ⟨fun h => (nomatch h), fun h => (nomatch h)⟩
theorem activateCluster (ch c : Nat) (flashOk : Bool) : Statement (.activateCluster ch c flashOk) := ⟨fun h => (nomatch h), fun h => (nomatch h)⟩
theorem activateWing (ch : Nat) (w : Wing) (flashOk : Bool) : Statement (.activateWing ch w flashOk) := ⟨fun h => (nomatch h), fun h => (nomatch h)⟩
theorem activateDevice (ch : Nat) (arg : BitVec 30) (flashOk : Bool) : Statement (.activateDevice ch arg flashOk) := ⟨fun _ => rfl, fun h => (nomatch h)⟩
theorem settingsLoad (ch : Nat) (flashOk : Bool) : Statement (.settingsLoad ch flashOk) := ⟨fun h => (nomatch h), fun h => (nomatch h)⟩
theorem abort (ch : Nat) : Statement (.abort ch) := ⟨fun h => (nomatch h), fun h => (nomatch h)⟩
theorem journalCompact : Statement .journalCompact := ⟨fun h => (nomatch h), fun h => (nomatch h)⟩
theorem clockWindow (d : Nat) (outOfLimits pllLost : Bool) : Statement (.clockWindow d outOfLimits pllLost) := ⟨fun _ => rfl, fun h => (nomatch h)⟩
theorem tempRead (centre west east : BitVec 8) : Statement (.tempRead centre west east) := ⟨fun h => (nomatch h), fun h => (nomatch h)⟩
theorem tempShutdown : Statement .tempShutdown := ⟨fun _ => rfl, fun h => (nomatch h)⟩
theorem manifestCrcRecheck (ok : Bool) : Statement (.manifestCrcRecheck ok) := ⟨fun _ => rfl, fun h => (nomatch h)⟩
theorem lockstepFault (w : Wing) : Statement (.lockstepFault w) := ⟨fun _ => rfl, fun h => (nomatch h)⟩
theorem parityError (w : Option Wing) : Statement (.parityError w) := ⟨fun _ => rfl, fun h => (nomatch h)⟩
theorem eccUe (u : EccSite) : Statement (.eccUe u) := ⟨fun _ => rfl, fun h => (nomatch h)⟩
theorem directedCheckEnd (eastDiff westDiff : Bool) : Statement (.directedCheckEnd eastDiff westDiff) := ⟨fun _ => rfl, fun h => (nomatch h)⟩
theorem mspiRead (idx : BitVec 8) : Statement (.mspiRead idx) := ⟨fun h => (nomatch h), fun h => (nomatch h)⟩
theorem mi2cRead (idx : BitVec 8) : Statement (.mi2cRead idx) := ⟨fun h => (nomatch h), fun h => (nomatch h)⟩
theorem coreResetEnd (w : Wing) : Statement (.coreResetEnd w) := ⟨fun h => (nomatch h), fun h => (nomatch h)⟩
theorem resetRelease : Statement .resetRelease := ⟨fun h => (nomatch h), fun h => (nomatch h)⟩
theorem functionResetComplete (fn : Nat) : Statement (.functionResetComplete fn) := ⟨fun h => (nomatch h), fun h => (nomatch h)⟩
theorem perstRelease (port : Nat) : Statement (.perstRelease port) := ⟨fun h => (nomatch h), fun h => (nomatch h)⟩
theorem applyInstant (r : Nat) : Statement (.applyInstant r) := ⟨fun h => (nomatch h), fun h => (nomatch h)⟩
theorem laneSignalReturn (r : Nat) (tail : Bool) : Statement (.laneSignalReturn r tail) := ⟨fun h => (nomatch h), fun h => (nomatch h)⟩
theorem eccCe (engine : Option Nat) : Statement (.eccCe engine) := ⟨fun h => (nomatch h), fun h => (nomatch h)⟩
theorem cqCycleRead (fn r lane size : Nat) : Statement (.cqCycleRead fn r lane size) := ⟨fun h => (nomatch h), fun _ => rfl⟩
theorem pcieAerError (fn : Nat) (fatal : Bool) : Statement (.pcieAerError fn fatal) := ⟨fun h => (nomatch h), fun h => (nomatch h)⟩

end Sys2Proof.Laws.Restart
end

