-- ==== Sys2Proof/Laws/RegMap.lean ====
section
/-! SUPPORT. What registers read over a whole range of addresses: zero, where the state lists none of them and every row of the map
that could lie there resets to zero. -/

namespace Sys2Proof.Machine

/-- Whether some offset from `lo` to `hi` could lie on an element of the dimensions left. -/
def dimsMeet : List (Nat × Nat) → Nat → Nat → Bool
  | [], lo, _ => lo == 0
  | (st, n) :: ds, lo, hi =>
    if lo / st = hi / st then decide (lo / st < n) && dimsMeet ds (lo % st) (hi % st) else decide (lo / st < n)

theorem dimsMeet_of_hit (ds : List (Nat × Nat)) : ∀ (lo o hi : Nat), lo ≤ o → o ≤ hi → dimsHit ds o = true → dimsMeet ds lo hi = true := by
  induction ds with
  | nil => intro lo o hi h1 h2 h; simp [dimsHit] at h; simp [dimsMeet]; omega
  | cons d ds ih =>
    obtain ⟨st, n⟩ := d
    intro lo o hi h1 h2 h
    simp only [dimsHit, Bool.and_eq_true, decide_eq_true_eq] at h
    have a1 : lo / st ≤ o / st := Nat.div_le_div_right h1
    have a2 : o / st ≤ hi / st := Nat.div_le_div_right h2
    unfold dimsMeet
    split
    · rename_i e
      have e1 : lo / st = o / st := by omega
      have e2 : hi / st = o / st := by omega
      have d1 := Nat.div_add_mod lo st
      have d2 := Nat.div_add_mod o st
      have d3 := Nat.div_add_mod hi st
      rw [e1] at d1
      rw [e2] at d3
      simp only [Bool.and_eq_true, decide_eq_true_eq]
      exact ⟨by omega, ih _ _ _ (by omega) (by omega) h.2⟩
    · simp only [decide_eq_true_eq]; omega

/-- Every row of the map outside the function pages that could lie from `lo` to `hi` resets to zero. -/
def resetsZero (lo hi : Nat) : Bool :=
  regTable.all (fun r => r.reset == 0 || r.page || decide (hi < r.base) || (decide (r.base ≤ lo) && !dimsMeet r.dims (lo - r.base) (hi - r.base)))

theorem regReset_eq_zero {lo hi : Nat} (h : resetsZero lo hi = true) (hp : hi < 0x02000000) {a : Nat} (h1 : lo ≤ a) (h2 : a ≤ hi) : regReset a = 0 := by
  unfold regReset
  cases e : regInfo a with
  | none => rfl
  | some r =>
    have hm := List.mem_of_find?_eq_some e
    have hh : r.hits a = true := by have := List.find?_some (show regTable.find? (fun r => r.hits a) = some r from e); simpa using this
    have := List.all_eq_true.mp h r hm
    simp only [RegRow.hits, show ¬ 0x02000000 ≤ a by omega, if_false, Bool.and_eq_true, Bool.not_eq_true', decide_eq_true_eq] at hh
    simp only [Bool.or_eq_true, beq_iff_eq, decide_eq_true_eq, Bool.and_eq_true, Bool.not_eq_true'] at this
    obtain ((h0 | h0) | h0) | ⟨h0, h3⟩ := this
    · simp [h0]
    · simp [h0] at hh
    · omega
    · have := dimsMeet_of_hit r.dims (lo - r.base) (a - r.base) (hi - r.base) (by omega) (by omega) hh.2.2
      simp [this] at h3

/-- No register from `lo` to `hi` is listed in the state. -/
def State.unlisted (s : State) (lo hi : Nat) : Bool := s.regs.all (fun p => decide (p.1 < lo) || decide (hi < p.1))

theorem find_unlisted {lo hi a : Nat} (t : Tab Word) (h : t.all (fun p => decide (p.1 < lo) || decide (hi < p.1)) = true) (h1 : lo ≤ a) (h2 : a ≤ hi) :
    Tab.find t a = none := by
  induction t with
  | nil => rfl
  | cons p t ih =>
    simp only [List.all_cons, Bool.and_eq_true, Bool.or_eq_true, decide_eq_true_eq] at h
    simp only [Tab.find]
    rw [if_neg (by omega)]
    exact ih h.2

theorem rd_eq_zero {s : State} {lo hi : Nat} (hr : s.unlisted lo hi = true) (h : resetsZero lo hi = true) (hp : hi < 0x02000000) {a : Nat}
    (h1 : lo ≤ a) (h2 : a ≤ hi) : s.rd a = 0 := by
  unfold State.rd
  cases e : Tab.find s.regs a with
  | none => exact regReset_eq_zero h hp h1 h2
  | some v =>
    exact absurd (find_unlisted s.regs hr h1 h2) (by simp [e])

theorem stream_entries_reset : resetsZero 0x310000 0x31FFFF = true ∧ resetsZero 0x390000 0x39FFFF = true := by decide +kernel

theorem msec_units_reset : (List.range 8).all (fun u => resetsZero (0xF10010 + 0x1000 * u) (0xF104FF + 0x1000 * u)) = true := by decide +kernel

/-- No stream entry is listed, nor any transmit SA or receive SC of a MACsec unit. -/
def State.noSlotUsers (s : State) : Bool :=
  s.unlisted 0x310000 0x31FFFF && s.unlisted 0x390000 0x39FFFF &&
    (List.range 8).all (fun u => s.unlisted (0xF10010 + 0x1000 * u) (0xF104FF + 0x1000 * u))

theorem streamUses_eq_false {s : State} (h : s.noSlotUsers = true) (k : Nat) : s.streamUses k = false := by
  simp only [State.noSlotUsers, Bool.and_eq_true] at h
  have z : ∀ (w : Wing) (n : Nat), n < 512 → s.strW w n 0 = 0 := by
    intro w n hn
    cases w
    · exact rd_eq_zero h.1.1 stream_entries_reset.1 (by omega) (by simp [Reg.STREAM_ENTRY, Wing.idx]) (by simp [Reg.STREAM_ENTRY, Wing.idx]; omega)
    · exact rd_eq_zero h.1.2 stream_entries_reset.2 (by omega) (by simp [Reg.STREAM_ENTRY, Wing.idx]) (by simp [Reg.STREAM_ENTRY, Wing.idx]; omega)
  rw [State.streamUses, List.any_eq_false]
  intro n hn
  have hn := List.mem_range.mp hn
  simp [z _ _ hn, tst]

theorem rd_msec_eq_zero {s : State} (h : s.noSlotUsers = true) {u a : Nat} (hu : u < 8) (h1 : 0xF10010 + 0x1000 * u ≤ a) (h2 : a ≤ 0xF104FF + 0x1000 * u) :
    s.rd a = 0 := by
  simp only [State.noSlotUsers, Bool.and_eq_true] at h
  exact rd_eq_zero (List.all_eq_true.mp h.2 u (List.mem_range.mpr hu)) (List.all_eq_true.mp msec_units_reset u (List.mem_range.mpr hu)) (by omega) h1 h2

theorem txSaUses_eq_false {s : State} (h : s.noSlotUsers = true) (k : Nat) : s.txSaUses k = false := by
  rw [State.txSaUses, List.any_eq_false]
  intro u hu
  have hu := List.mem_range.mp hu
  simp only [Bool.not_eq_true, List.any_eq_false, Bool.and_eq_true, not_and]
  intro a ha
  have ha := List.mem_range.mp ha
  intro h1
  obtain ⟨i, hi, h2⟩ := List.any_eq_true.mp h1
  have hi := List.mem_range.mp hi
  simp [rd_msec_eq_zero h (a := Reg.MSEC_TXSA u a i) hu (by simp only [Reg.MSEC_TXSA]; omega) (by simp only [Reg.MSEC_TXSA]; omega)] at h2

theorem rxSaUses_eq_false {s : State} (h : s.noSlotUsers = true) (k : Nat) : s.rxSaUses k = false := by
  rw [State.rxSaUses, List.any_eq_false]
  intro u hu
  have hu := List.mem_range.mp hu
  simp only [Bool.not_eq_true, List.any_eq_false, Bool.and_eq_true, not_and]
  intro c hc
  have hc := List.mem_range.mp hc
  have z : ∀ i < 16, s.rxSc u c i = 0 := fun i hi =>
    rd_msec_eq_zero h hu (by simp only [Reg.MSEC_RXSC]; omega) (by simp only [Reg.MSEC_RXSC]; omega)
  simp [z 0, z 1]

/-- A slot that no engine context and no ring names is not in use where nothing else is set up (R426). -/
theorem slotInUse_eq_false {s : State} (h : s.noSlotUsers = true) {k : Nat} (hc : (s.ctxUses k || s.man.ringKey.any (fun p => p.2 == k)) = false) :
    s.slotInUse k = false := by
  simp [State.slotInUse, hc, txSaUses_eq_false h, rxSaUses_eq_false h, streamUses_eq_false h]

end Sys2Proof.Machine
end

