-- ==== Sys2Proof/Laws/State.lean ====
section
/-! SUPPORT. What the plain updates of the state leave as it is, and what a register and a field of it read as after a write. -/

namespace Sys2Proof.Machine

variable (s : State)

/-! A write of a register. -/

@[simp] theorem State.wr_pending (a : Nat) (v : Word) : (s.wr a v).pending = s.pending := rfl
@[simp] theorem State.wr_free (a : Nat) (v : Word) : (s.wr a v).free = s.free := rfl
@[simp] theorem State.wr_clk (a : Nat) (v : Word) : (s.wr a v).clk = s.clk := rfl
@[simp] theorem State.wr_bus (a : Nat) (v : Word) : (s.wr a v).bus = s.bus := rfl
@[simp] theorem State.wr_dev (a : Nat) (v : Word) : (s.wr a v).dev = s.dev := rfl
@[simp] theorem State.wr_arb (a : Nat) (v : Word) : (s.wr a v).arb = s.arb := rfl
@[simp] theorem State.wr_time (a : Nat) (v : Word) : (s.wr a v).time = s.time := rfl
@[simp] theorem State.wr_intake (a : Nat) (v : Word) : (s.wr a v).intake = s.intake := rfl
@[simp] theorem State.wr_wall (a : Nat) (v : Word) : (s.wr a v).wall = s.wall := rfl
@[simp] theorem State.wr_slice (a : Nat) (v : Word) : (s.wr a v).slice = s.slice := rfl
@[simp] theorem State.wr_hedge (a : Nat) (v : Word) : (s.wr a v).hedge = s.hedge := rfl
@[simp] theorem State.wr_lease (a : Nat) (v : Word) : (s.wr a v).lease = s.lease := rfl
@[simp] theorem State.wr_trip (a : Nat) (v : Word) : (s.wr a v).trip = s.trip := rfl
@[simp] theorem State.wr_ring (a : Nat) (v : Word) : (s.wr a v).ring = s.ring := rfl
@[simp] theorem State.wr_bridge (a : Nat) (v : Word) : (s.wr a v).bridge = s.bridge := rfl
@[simp] theorem State.wr_sw (a : Nat) (v : Word) : (s.wr a v).sw = s.sw := rfl
@[simp] theorem State.wr_eng (a : Nat) (v : Word) : (s.wr a v).eng = s.eng := rfl
@[simp] theorem State.wr_can (a : Nat) (v : Word) : (s.wr a v).can = s.can := rfl
@[simp] theorem State.wr_tk (a : Nat) (v : Word) : (s.wr a v).tk = s.tk := rfl
@[simp] theorem State.wr_pub (a : Nat) (v : Word) : (s.wr a v).pub = s.pub := rfl
@[simp] theorem State.wr_host (a : Nat) (v : Word) : (s.wr a v).host = s.host := rfl
@[simp] theorem State.wr_sec (a : Nat) (v : Word) : (s.wr a v).sec = s.sec := rfl
@[simp] theorem State.wr_upd (a : Nat) (v : Word) : (s.wr a v).upd = s.upd := rfl
@[simp] theorem State.wr_toll (a : Nat) (v : Word) : (s.wr a v).toll = s.toll := rfl
@[simp] theorem State.wr_safe (a : Nat) (v : Word) : (s.wr a v).safe = s.safe := rfl
@[simp] theorem State.wr_mram (a : Nat) (v : Word) : (s.wr a v).mram = s.mram := rfl
@[simp] theorem State.wr_man (a : Nat) (v : Word) : (s.wr a v).man = s.man := rfl

/-! A write of a field of a register. -/

@[simp] theorem State.wf_pending (a lo n v : Nat) : (s.wf a lo n v).pending = s.pending := rfl
@[simp] theorem State.wf_free (a lo n v : Nat) : (s.wf a lo n v).free = s.free := rfl
@[simp] theorem State.wf_clk (a lo n v : Nat) : (s.wf a lo n v).clk = s.clk := rfl
@[simp] theorem State.wf_bus (a lo n v : Nat) : (s.wf a lo n v).bus = s.bus := rfl
@[simp] theorem State.wf_dev (a lo n v : Nat) : (s.wf a lo n v).dev = s.dev := rfl
@[simp] theorem State.wf_arb (a lo n v : Nat) : (s.wf a lo n v).arb = s.arb := rfl
@[simp] theorem State.wf_time (a lo n v : Nat) : (s.wf a lo n v).time = s.time := rfl
@[simp] theorem State.wf_intake (a lo n v : Nat) : (s.wf a lo n v).intake = s.intake := rfl
@[simp] theorem State.wf_wall (a lo n v : Nat) : (s.wf a lo n v).wall = s.wall := rfl
@[simp] theorem State.wf_slice (a lo n v : Nat) : (s.wf a lo n v).slice = s.slice := rfl
@[simp] theorem State.wf_hedge (a lo n v : Nat) : (s.wf a lo n v).hedge = s.hedge := rfl
@[simp] theorem State.wf_lease (a lo n v : Nat) : (s.wf a lo n v).lease = s.lease := rfl
@[simp] theorem State.wf_trip (a lo n v : Nat) : (s.wf a lo n v).trip = s.trip := rfl
@[simp] theorem State.wf_ring (a lo n v : Nat) : (s.wf a lo n v).ring = s.ring := rfl
@[simp] theorem State.wf_bridge (a lo n v : Nat) : (s.wf a lo n v).bridge = s.bridge := rfl
@[simp] theorem State.wf_sw (a lo n v : Nat) : (s.wf a lo n v).sw = s.sw := rfl
@[simp] theorem State.wf_eng (a lo n v : Nat) : (s.wf a lo n v).eng = s.eng := rfl
@[simp] theorem State.wf_can (a lo n v : Nat) : (s.wf a lo n v).can = s.can := rfl
@[simp] theorem State.wf_tk (a lo n v : Nat) : (s.wf a lo n v).tk = s.tk := rfl
@[simp] theorem State.wf_pub (a lo n v : Nat) : (s.wf a lo n v).pub = s.pub := rfl
@[simp] theorem State.wf_host (a lo n v : Nat) : (s.wf a lo n v).host = s.host := rfl
@[simp] theorem State.wf_sec (a lo n v : Nat) : (s.wf a lo n v).sec = s.sec := rfl
@[simp] theorem State.wf_upd (a lo n v : Nat) : (s.wf a lo n v).upd = s.upd := rfl
@[simp] theorem State.wf_toll (a lo n v : Nat) : (s.wf a lo n v).toll = s.toll := rfl
@[simp] theorem State.wf_safe (a lo n v : Nat) : (s.wf a lo n v).safe = s.safe := rfl
@[simp] theorem State.wf_mram (a lo n v : Nat) : (s.wf a lo n v).mram = s.mram := rfl
@[simp] theorem State.wf_man (a lo n v : Nat) : (s.wf a lo n v).man = s.man := rfl

/-! A write of a bit of a register. -/

@[simp] theorem State.wb_pending (a b : Nat) (v : Bool) : (s.wb a b v).pending = s.pending := rfl
@[simp] theorem State.wb_free (a b : Nat) (v : Bool) : (s.wb a b v).free = s.free := rfl
@[simp] theorem State.wb_clk (a b : Nat) (v : Bool) : (s.wb a b v).clk = s.clk := rfl
@[simp] theorem State.wb_bus (a b : Nat) (v : Bool) : (s.wb a b v).bus = s.bus := rfl
@[simp] theorem State.wb_dev (a b : Nat) (v : Bool) : (s.wb a b v).dev = s.dev := rfl
@[simp] theorem State.wb_arb (a b : Nat) (v : Bool) : (s.wb a b v).arb = s.arb := rfl
@[simp] theorem State.wb_time (a b : Nat) (v : Bool) : (s.wb a b v).time = s.time := rfl
@[simp] theorem State.wb_intake (a b : Nat) (v : Bool) : (s.wb a b v).intake = s.intake := rfl
@[simp] theorem State.wb_wall (a b : Nat) (v : Bool) : (s.wb a b v).wall = s.wall := rfl
@[simp] theorem State.wb_slice (a b : Nat) (v : Bool) : (s.wb a b v).slice = s.slice := rfl
@[simp] theorem State.wb_hedge (a b : Nat) (v : Bool) : (s.wb a b v).hedge = s.hedge := rfl
@[simp] theorem State.wb_lease (a b : Nat) (v : Bool) : (s.wb a b v).lease = s.lease := rfl
@[simp] theorem State.wb_trip (a b : Nat) (v : Bool) : (s.wb a b v).trip = s.trip := rfl
@[simp] theorem State.wb_ring (a b : Nat) (v : Bool) : (s.wb a b v).ring = s.ring := rfl
@[simp] theorem State.wb_bridge (a b : Nat) (v : Bool) : (s.wb a b v).bridge = s.bridge := rfl
@[simp] theorem State.wb_sw (a b : Nat) (v : Bool) : (s.wb a b v).sw = s.sw := rfl
@[simp] theorem State.wb_eng (a b : Nat) (v : Bool) : (s.wb a b v).eng = s.eng := rfl
@[simp] theorem State.wb_can (a b : Nat) (v : Bool) : (s.wb a b v).can = s.can := rfl
@[simp] theorem State.wb_tk (a b : Nat) (v : Bool) : (s.wb a b v).tk = s.tk := rfl
@[simp] theorem State.wb_pub (a b : Nat) (v : Bool) : (s.wb a b v).pub = s.pub := rfl
@[simp] theorem State.wb_host (a b : Nat) (v : Bool) : (s.wb a b v).host = s.host := rfl
@[simp] theorem State.wb_sec (a b : Nat) (v : Bool) : (s.wb a b v).sec = s.sec := rfl
@[simp] theorem State.wb_upd (a b : Nat) (v : Bool) : (s.wb a b v).upd = s.upd := rfl
@[simp] theorem State.wb_toll (a b : Nat) (v : Bool) : (s.wb a b v).toll = s.toll := rfl
@[simp] theorem State.wb_safe (a b : Nat) (v : Bool) : (s.wb a b v).safe = s.safe := rfl
@[simp] theorem State.wb_mram (a b : Nat) (v : Bool) : (s.wb a b v).mram = s.mram := rfl
@[simp] theorem State.wb_man (a b : Nat) (v : Bool) : (s.wb a b v).man = s.man := rfl

/-! A count in a register. -/

@[simp] theorem State.cnt_pending (a lo n k : Nat) : (s.cnt a lo n k).pending = s.pending := rfl
@[simp] theorem State.cnt_free (a lo n k : Nat) : (s.cnt a lo n k).free = s.free := rfl
@[simp] theorem State.cnt_clk (a lo n k : Nat) : (s.cnt a lo n k).clk = s.clk := rfl
@[simp] theorem State.cnt_bus (a lo n k : Nat) : (s.cnt a lo n k).bus = s.bus := rfl
@[simp] theorem State.cnt_dev (a lo n k : Nat) : (s.cnt a lo n k).dev = s.dev := rfl
@[simp] theorem State.cnt_arb (a lo n k : Nat) : (s.cnt a lo n k).arb = s.arb := rfl
@[simp] theorem State.cnt_time (a lo n k : Nat) : (s.cnt a lo n k).time = s.time := rfl
@[simp] theorem State.cnt_intake (a lo n k : Nat) : (s.cnt a lo n k).intake = s.intake := rfl
@[simp] theorem State.cnt_wall (a lo n k : Nat) : (s.cnt a lo n k).wall = s.wall := rfl
@[simp] theorem State.cnt_slice (a lo n k : Nat) : (s.cnt a lo n k).slice = s.slice := rfl
@[simp] theorem State.cnt_hedge (a lo n k : Nat) : (s.cnt a lo n k).hedge = s.hedge := rfl
@[simp] theorem State.cnt_lease (a lo n k : Nat) : (s.cnt a lo n k).lease = s.lease := rfl
@[simp] theorem State.cnt_trip (a lo n k : Nat) : (s.cnt a lo n k).trip = s.trip := rfl
@[simp] theorem State.cnt_ring (a lo n k : Nat) : (s.cnt a lo n k).ring = s.ring := rfl
@[simp] theorem State.cnt_bridge (a lo n k : Nat) : (s.cnt a lo n k).bridge = s.bridge := rfl
@[simp] theorem State.cnt_sw (a lo n k : Nat) : (s.cnt a lo n k).sw = s.sw := rfl
@[simp] theorem State.cnt_eng (a lo n k : Nat) : (s.cnt a lo n k).eng = s.eng := rfl
@[simp] theorem State.cnt_can (a lo n k : Nat) : (s.cnt a lo n k).can = s.can := rfl
@[simp] theorem State.cnt_tk (a lo n k : Nat) : (s.cnt a lo n k).tk = s.tk := rfl
@[simp] theorem State.cnt_pub (a lo n k : Nat) : (s.cnt a lo n k).pub = s.pub := rfl
@[simp] theorem State.cnt_host (a lo n k : Nat) : (s.cnt a lo n k).host = s.host := rfl
@[simp] theorem State.cnt_sec (a lo n k : Nat) : (s.cnt a lo n k).sec = s.sec := rfl
@[simp] theorem State.cnt_upd (a lo n k : Nat) : (s.cnt a lo n k).upd = s.upd := rfl
@[simp] theorem State.cnt_toll (a lo n k : Nat) : (s.cnt a lo n k).toll = s.toll := rfl
@[simp] theorem State.cnt_safe (a lo n k : Nat) : (s.cnt a lo n k).safe = s.safe := rfl
@[simp] theorem State.cnt_mram (a lo n k : Nat) : (s.cnt a lo n k).mram = s.mram := rfl
@[simp] theorem State.cnt_man (a lo n k : Nat) : (s.cnt a lo n k).man = s.man := rfl

/-! A rolling count in a register. -/

@[simp] theorem State.roll_pending (a k : Nat) : (s.roll a k).pending = s.pending := rfl
@[simp] theorem State.roll_free (a k : Nat) : (s.roll a k).free = s.free := rfl
@[simp] theorem State.roll_clk (a k : Nat) : (s.roll a k).clk = s.clk := rfl
@[simp] theorem State.roll_bus (a k : Nat) : (s.roll a k).bus = s.bus := rfl
@[simp] theorem State.roll_dev (a k : Nat) : (s.roll a k).dev = s.dev := rfl
@[simp] theorem State.roll_arb (a k : Nat) : (s.roll a k).arb = s.arb := rfl
@[simp] theorem State.roll_time (a k : Nat) : (s.roll a k).time = s.time := rfl
@[simp] theorem State.roll_intake (a k : Nat) : (s.roll a k).intake = s.intake := rfl
@[simp] theorem State.roll_wall (a k : Nat) : (s.roll a k).wall = s.wall := rfl
@[simp] theorem State.roll_slice (a k : Nat) : (s.roll a k).slice = s.slice := rfl
@[simp] theorem State.roll_hedge (a k : Nat) : (s.roll a k).hedge = s.hedge := rfl
@[simp] theorem State.roll_lease (a k : Nat) : (s.roll a k).lease = s.lease := rfl
@[simp] theorem State.roll_trip (a k : Nat) : (s.roll a k).trip = s.trip := rfl
@[simp] theorem State.roll_ring (a k : Nat) : (s.roll a k).ring = s.ring := rfl
@[simp] theorem State.roll_bridge (a k : Nat) : (s.roll a k).bridge = s.bridge := rfl
@[simp] theorem State.roll_sw (a k : Nat) : (s.roll a k).sw = s.sw := rfl
@[simp] theorem State.roll_eng (a k : Nat) : (s.roll a k).eng = s.eng := rfl
@[simp] theorem State.roll_can (a k : Nat) : (s.roll a k).can = s.can := rfl
@[simp] theorem State.roll_tk (a k : Nat) : (s.roll a k).tk = s.tk := rfl
@[simp] theorem State.roll_pub (a k : Nat) : (s.roll a k).pub = s.pub := rfl
@[simp] theorem State.roll_host (a k : Nat) : (s.roll a k).host = s.host := rfl
@[simp] theorem State.roll_sec (a k : Nat) : (s.roll a k).sec = s.sec := rfl
@[simp] theorem State.roll_upd (a k : Nat) : (s.roll a k).upd = s.upd := rfl
@[simp] theorem State.roll_toll (a k : Nat) : (s.roll a k).toll = s.toll := rfl
@[simp] theorem State.roll_safe (a k : Nat) : (s.roll a k).safe = s.safe := rfl
@[simp] theorem State.roll_mram (a k : Nat) : (s.roll a k).mram = s.mram := rfl
@[simp] theorem State.roll_man (a k : Nat) : (s.roll a k).man = s.man := rfl

/-! The use of a free value. -/

@[simp] theorem State.used_pending (k : Nat) : (s.used k).pending = s.pending := rfl
@[simp] theorem State.used_regs (k : Nat) : (s.used k).regs = s.regs := rfl
@[simp] theorem State.used_clk (k : Nat) : (s.used k).clk = s.clk := rfl
@[simp] theorem State.used_bus (k : Nat) : (s.used k).bus = s.bus := rfl
@[simp] theorem State.used_dev (k : Nat) : (s.used k).dev = s.dev := rfl
@[simp] theorem State.used_arb (k : Nat) : (s.used k).arb = s.arb := rfl
@[simp] theorem State.used_time (k : Nat) : (s.used k).time = s.time := rfl
@[simp] theorem State.used_intake (k : Nat) : (s.used k).intake = s.intake := rfl
@[simp] theorem State.used_wall (k : Nat) : (s.used k).wall = s.wall := rfl
@[simp] theorem State.used_slice (k : Nat) : (s.used k).slice = s.slice := rfl
@[simp] theorem State.used_hedge (k : Nat) : (s.used k).hedge = s.hedge := rfl
@[simp] theorem State.used_lease (k : Nat) : (s.used k).lease = s.lease := rfl
@[simp] theorem State.used_trip (k : Nat) : (s.used k).trip = s.trip := rfl
@[simp] theorem State.used_ring (k : Nat) : (s.used k).ring = s.ring := rfl
@[simp] theorem State.used_bridge (k : Nat) : (s.used k).bridge = s.bridge := rfl
@[simp] theorem State.used_sw (k : Nat) : (s.used k).sw = s.sw := rfl
@[simp] theorem State.used_eng (k : Nat) : (s.used k).eng = s.eng := rfl
@[simp] theorem State.used_can (k : Nat) : (s.used k).can = s.can := rfl
@[simp] theorem State.used_tk (k : Nat) : (s.used k).tk = s.tk := rfl
@[simp] theorem State.used_pub (k : Nat) : (s.used k).pub = s.pub := rfl
@[simp] theorem State.used_host (k : Nat) : (s.used k).host = s.host := rfl
@[simp] theorem State.used_sec (k : Nat) : (s.used k).sec = s.sec := rfl
@[simp] theorem State.used_upd (k : Nat) : (s.used k).upd = s.upd := rfl
@[simp] theorem State.used_toll (k : Nat) : (s.used k).toll = s.toll := rfl
@[simp] theorem State.used_safe (k : Nat) : (s.used k).safe = s.safe := rfl
@[simp] theorem State.used_mram (k : Nat) : (s.used k).mram = s.mram := rfl
@[simp] theorem State.used_man (k : Nat) : (s.used k).man = s.man := rfl

/-! The answer to a read. -/

@[simp] theorem State.answer_pending (v : BitVec 64) : (s.answer v).pending = s.pending := rfl
@[simp] theorem State.answer_free (v : BitVec 64) : (s.answer v).free = s.free := rfl
@[simp] theorem State.answer_regs (v : BitVec 64) : (s.answer v).regs = s.regs := rfl
@[simp] theorem State.answer_clk (v : BitVec 64) : (s.answer v).clk = s.clk := rfl
@[simp] theorem State.answer_dev (v : BitVec 64) : (s.answer v).dev = s.dev := rfl
@[simp] theorem State.answer_arb (v : BitVec 64) : (s.answer v).arb = s.arb := rfl
@[simp] theorem State.answer_time (v : BitVec 64) : (s.answer v).time = s.time := rfl
@[simp] theorem State.answer_intake (v : BitVec 64) : (s.answer v).intake = s.intake := rfl
@[simp] theorem State.answer_wall (v : BitVec 64) : (s.answer v).wall = s.wall := rfl
@[simp] theorem State.answer_slice (v : BitVec 64) : (s.answer v).slice = s.slice := rfl
@[simp] theorem State.answer_hedge (v : BitVec 64) : (s.answer v).hedge = s.hedge := rfl
@[simp] theorem State.answer_lease (v : BitVec 64) : (s.answer v).lease = s.lease := rfl
@[simp] theorem State.answer_trip (v : BitVec 64) : (s.answer v).trip = s.trip := rfl
@[simp] theorem State.answer_ring (v : BitVec 64) : (s.answer v).ring = s.ring := rfl
@[simp] theorem State.answer_bridge (v : BitVec 64) : (s.answer v).bridge = s.bridge := rfl
@[simp] theorem State.answer_sw (v : BitVec 64) : (s.answer v).sw = s.sw := rfl
@[simp] theorem State.answer_eng (v : BitVec 64) : (s.answer v).eng = s.eng := rfl
@[simp] theorem State.answer_can (v : BitVec 64) : (s.answer v).can = s.can := rfl
@[simp] theorem State.answer_tk (v : BitVec 64) : (s.answer v).tk = s.tk := rfl
@[simp] theorem State.answer_pub (v : BitVec 64) : (s.answer v).pub = s.pub := rfl
@[simp] theorem State.answer_host (v : BitVec 64) : (s.answer v).host = s.host := rfl
@[simp] theorem State.answer_sec (v : BitVec 64) : (s.answer v).sec = s.sec := rfl
@[simp] theorem State.answer_upd (v : BitVec 64) : (s.answer v).upd = s.upd := rfl
@[simp] theorem State.answer_toll (v : BitVec 64) : (s.answer v).toll = s.toll := rfl
@[simp] theorem State.answer_safe (v : BitVec 64) : (s.answer v).safe = s.safe := rfl
@[simp] theorem State.answer_mram (v : BitVec 64) : (s.answer v).mram = s.mram := rfl
@[simp] theorem State.answer_man (v : BitVec 64) : (s.answer v).man = s.man := rfl

/-! A completion without data. -/

@[simp] theorem State.refuseBus_pending (c : Cpl) : (s.refuseBus c).pending = s.pending := rfl
@[simp] theorem State.refuseBus_free (c : Cpl) : (s.refuseBus c).free = s.free := rfl
@[simp] theorem State.refuseBus_regs (c : Cpl) : (s.refuseBus c).regs = s.regs := rfl
@[simp] theorem State.refuseBus_clk (c : Cpl) : (s.refuseBus c).clk = s.clk := rfl
@[simp] theorem State.refuseBus_dev (c : Cpl) : (s.refuseBus c).dev = s.dev := rfl
@[simp] theorem State.refuseBus_arb (c : Cpl) : (s.refuseBus c).arb = s.arb := rfl
@[simp] theorem State.refuseBus_time (c : Cpl) : (s.refuseBus c).time = s.time := rfl
@[simp] theorem State.refuseBus_intake (c : Cpl) : (s.refuseBus c).intake = s.intake := rfl
@[simp] theorem State.refuseBus_wall (c : Cpl) : (s.refuseBus c).wall = s.wall := rfl
@[simp] theorem State.refuseBus_slice (c : Cpl) : (s.refuseBus c).slice = s.slice := rfl
@[simp] theorem State.refuseBus_hedge (c : Cpl) : (s.refuseBus c).hedge = s.hedge := rfl
@[simp] theorem State.refuseBus_lease (c : Cpl) : (s.refuseBus c).lease = s.lease := rfl
@[simp] theorem State.refuseBus_trip (c : Cpl) : (s.refuseBus c).trip = s.trip := rfl
@[simp] theorem State.refuseBus_ring (c : Cpl) : (s.refuseBus c).ring = s.ring := rfl
@[simp] theorem State.refuseBus_bridge (c : Cpl) : (s.refuseBus c).bridge = s.bridge := rfl
@[simp] theorem State.refuseBus_sw (c : Cpl) : (s.refuseBus c).sw = s.sw := rfl
@[simp] theorem State.refuseBus_eng (c : Cpl) : (s.refuseBus c).eng = s.eng := rfl
@[simp] theorem State.refuseBus_can (c : Cpl) : (s.refuseBus c).can = s.can := rfl
@[simp] theorem State.refuseBus_tk (c : Cpl) : (s.refuseBus c).tk = s.tk := rfl
@[simp] theorem State.refuseBus_pub (c : Cpl) : (s.refuseBus c).pub = s.pub := rfl
@[simp] theorem State.refuseBus_host (c : Cpl) : (s.refuseBus c).host = s.host := rfl
@[simp] theorem State.refuseBus_sec (c : Cpl) : (s.refuseBus c).sec = s.sec := rfl
@[simp] theorem State.refuseBus_upd (c : Cpl) : (s.refuseBus c).upd = s.upd := rfl
@[simp] theorem State.refuseBus_toll (c : Cpl) : (s.refuseBus c).toll = s.toll := rfl
@[simp] theorem State.refuseBus_safe (c : Cpl) : (s.refuseBus c).safe = s.safe := rfl
@[simp] theorem State.refuseBus_mram (c : Cpl) : (s.refuseBus c).mram = s.mram := rfl
@[simp] theorem State.refuseBus_man (c : Cpl) : (s.refuseBus c).man = s.man := rfl

/-! A write of an engine's state. -/

@[simp] theorem State.setEn_pending (n : Nat) (e : Engine) : (s.setEn n e).pending = s.pending := rfl
@[simp] theorem State.setEn_free (n : Nat) (e : Engine) : (s.setEn n e).free = s.free := rfl
@[simp] theorem State.setEn_regs (n : Nat) (e : Engine) : (s.setEn n e).regs = s.regs := rfl
@[simp] theorem State.setEn_clk (n : Nat) (e : Engine) : (s.setEn n e).clk = s.clk := rfl
@[simp] theorem State.setEn_bus (n : Nat) (e : Engine) : (s.setEn n e).bus = s.bus := rfl
@[simp] theorem State.setEn_dev (n : Nat) (e : Engine) : (s.setEn n e).dev = s.dev := rfl
@[simp] theorem State.setEn_arb (n : Nat) (e : Engine) : (s.setEn n e).arb = s.arb := rfl
@[simp] theorem State.setEn_time (n : Nat) (e : Engine) : (s.setEn n e).time = s.time := rfl
@[simp] theorem State.setEn_intake (n : Nat) (e : Engine) : (s.setEn n e).intake = s.intake := rfl
@[simp] theorem State.setEn_wall (n : Nat) (e : Engine) : (s.setEn n e).wall = s.wall := rfl
@[simp] theorem State.setEn_slice (n : Nat) (e : Engine) : (s.setEn n e).slice = s.slice := rfl
@[simp] theorem State.setEn_hedge (n : Nat) (e : Engine) : (s.setEn n e).hedge = s.hedge := rfl
@[simp] theorem State.setEn_lease (n : Nat) (e : Engine) : (s.setEn n e).lease = s.lease := rfl
@[simp] theorem State.setEn_trip (n : Nat) (e : Engine) : (s.setEn n e).trip = s.trip := rfl
@[simp] theorem State.setEn_ring (n : Nat) (e : Engine) : (s.setEn n e).ring = s.ring := rfl
@[simp] theorem State.setEn_bridge (n : Nat) (e : Engine) : (s.setEn n e).bridge = s.bridge := rfl
@[simp] theorem State.setEn_sw (n : Nat) (e : Engine) : (s.setEn n e).sw = s.sw := rfl
@[simp] theorem State.setEn_can (n : Nat) (e : Engine) : (s.setEn n e).can = s.can := rfl
@[simp] theorem State.setEn_tk (n : Nat) (e : Engine) : (s.setEn n e).tk = s.tk := rfl
@[simp] theorem State.setEn_pub (n : Nat) (e : Engine) : (s.setEn n e).pub = s.pub := rfl
@[simp] theorem State.setEn_host (n : Nat) (e : Engine) : (s.setEn n e).host = s.host := rfl
@[simp] theorem State.setEn_sec (n : Nat) (e : Engine) : (s.setEn n e).sec = s.sec := rfl
@[simp] theorem State.setEn_upd (n : Nat) (e : Engine) : (s.setEn n e).upd = s.upd := rfl
@[simp] theorem State.setEn_toll (n : Nat) (e : Engine) : (s.setEn n e).toll = s.toll := rfl
@[simp] theorem State.setEn_safe (n : Nat) (e : Engine) : (s.setEn n e).safe = s.safe := rfl
@[simp] theorem State.setEn_mram (n : Nat) (e : Engine) : (s.setEn n e).mram = s.mram := rfl
@[simp] theorem State.setEn_man (n : Nat) (e : Engine) : (s.setEn n e).man = s.man := rfl

/-! A change of a frame processor. -/

@[simp] theorem State.onFp_pending (n : Nat) (g : Fp → Fp) : (s.onFp n g).pending = s.pending := rfl
@[simp] theorem State.onFp_free (n : Nat) (g : Fp → Fp) : (s.onFp n g).free = s.free := rfl
@[simp] theorem State.onFp_regs (n : Nat) (g : Fp → Fp) : (s.onFp n g).regs = s.regs := rfl
@[simp] theorem State.onFp_clk (n : Nat) (g : Fp → Fp) : (s.onFp n g).clk = s.clk := rfl
@[simp] theorem State.onFp_bus (n : Nat) (g : Fp → Fp) : (s.onFp n g).bus = s.bus := rfl
@[simp] theorem State.onFp_dev (n : Nat) (g : Fp → Fp) : (s.onFp n g).dev = s.dev := rfl
@[simp] theorem State.onFp_arb (n : Nat) (g : Fp → Fp) : (s.onFp n g).arb = s.arb := rfl
@[simp] theorem State.onFp_time (n : Nat) (g : Fp → Fp) : (s.onFp n g).time = s.time := rfl
@[simp] theorem State.onFp_intake (n : Nat) (g : Fp → Fp) : (s.onFp n g).intake = s.intake := rfl
@[simp] theorem State.onFp_wall (n : Nat) (g : Fp → Fp) : (s.onFp n g).wall = s.wall := rfl
@[simp] theorem State.onFp_slice (n : Nat) (g : Fp → Fp) : (s.onFp n g).slice = s.slice := rfl
@[simp] theorem State.onFp_hedge (n : Nat) (g : Fp → Fp) : (s.onFp n g).hedge = s.hedge := rfl
@[simp] theorem State.onFp_lease (n : Nat) (g : Fp → Fp) : (s.onFp n g).lease = s.lease := rfl
@[simp] theorem State.onFp_trip (n : Nat) (g : Fp → Fp) : (s.onFp n g).trip = s.trip := rfl
@[simp] theorem State.onFp_ring (n : Nat) (g : Fp → Fp) : (s.onFp n g).ring = s.ring := rfl
@[simp] theorem State.onFp_bridge (n : Nat) (g : Fp → Fp) : (s.onFp n g).bridge = s.bridge := rfl
@[simp] theorem State.onFp_sw (n : Nat) (g : Fp → Fp) : (s.onFp n g).sw = s.sw := rfl
@[simp] theorem State.onFp_can (n : Nat) (g : Fp → Fp) : (s.onFp n g).can = s.can := rfl
@[simp] theorem State.onFp_tk (n : Nat) (g : Fp → Fp) : (s.onFp n g).tk = s.tk := rfl
@[simp] theorem State.onFp_pub (n : Nat) (g : Fp → Fp) : (s.onFp n g).pub = s.pub := rfl
@[simp] theorem State.onFp_host (n : Nat) (g : Fp → Fp) : (s.onFp n g).host = s.host := rfl
@[simp] theorem State.onFp_sec (n : Nat) (g : Fp → Fp) : (s.onFp n g).sec = s.sec := rfl
@[simp] theorem State.onFp_upd (n : Nat) (g : Fp → Fp) : (s.onFp n g).upd = s.upd := rfl
@[simp] theorem State.onFp_toll (n : Nat) (g : Fp → Fp) : (s.onFp n g).toll = s.toll := rfl
@[simp] theorem State.onFp_safe (n : Nat) (g : Fp → Fp) : (s.onFp n g).safe = s.safe := rfl
@[simp] theorem State.onFp_mram (n : Nat) (g : Fp → Fp) : (s.onFp n g).mram = s.mram := rfl
@[simp] theorem State.onFp_man (n : Nat) (g : Fp → Fp) : (s.onFp n g).man = s.man := rfl

/-! A change of a session processor. -/

@[simp] theorem State.onSp_pending (n : Nat) (g : Sp → Sp) : (s.onSp n g).pending = s.pending := rfl
@[simp] theorem State.onSp_free (n : Nat) (g : Sp → Sp) : (s.onSp n g).free = s.free := rfl
@[simp] theorem State.onSp_regs (n : Nat) (g : Sp → Sp) : (s.onSp n g).regs = s.regs := rfl
@[simp] theorem State.onSp_clk (n : Nat) (g : Sp → Sp) : (s.onSp n g).clk = s.clk := rfl
@[simp] theorem State.onSp_bus (n : Nat) (g : Sp → Sp) : (s.onSp n g).bus = s.bus := rfl
@[simp] theorem State.onSp_dev (n : Nat) (g : Sp → Sp) : (s.onSp n g).dev = s.dev := rfl
@[simp] theorem State.onSp_arb (n : Nat) (g : Sp → Sp) : (s.onSp n g).arb = s.arb := rfl
@[simp] theorem State.onSp_time (n : Nat) (g : Sp → Sp) : (s.onSp n g).time = s.time := rfl
@[simp] theorem State.onSp_intake (n : Nat) (g : Sp → Sp) : (s.onSp n g).intake = s.intake := rfl
@[simp] theorem State.onSp_wall (n : Nat) (g : Sp → Sp) : (s.onSp n g).wall = s.wall := rfl
@[simp] theorem State.onSp_slice (n : Nat) (g : Sp → Sp) : (s.onSp n g).slice = s.slice := rfl
@[simp] theorem State.onSp_hedge (n : Nat) (g : Sp → Sp) : (s.onSp n g).hedge = s.hedge := rfl
@[simp] theorem State.onSp_lease (n : Nat) (g : Sp → Sp) : (s.onSp n g).lease = s.lease := rfl
@[simp] theorem State.onSp_trip (n : Nat) (g : Sp → Sp) : (s.onSp n g).trip = s.trip := rfl
@[simp] theorem State.onSp_ring (n : Nat) (g : Sp → Sp) : (s.onSp n g).ring = s.ring := rfl
@[simp] theorem State.onSp_bridge (n : Nat) (g : Sp → Sp) : (s.onSp n g).bridge = s.bridge := rfl
@[simp] theorem State.onSp_sw (n : Nat) (g : Sp → Sp) : (s.onSp n g).sw = s.sw := rfl
@[simp] theorem State.onSp_can (n : Nat) (g : Sp → Sp) : (s.onSp n g).can = s.can := rfl
@[simp] theorem State.onSp_tk (n : Nat) (g : Sp → Sp) : (s.onSp n g).tk = s.tk := rfl
@[simp] theorem State.onSp_pub (n : Nat) (g : Sp → Sp) : (s.onSp n g).pub = s.pub := rfl
@[simp] theorem State.onSp_host (n : Nat) (g : Sp → Sp) : (s.onSp n g).host = s.host := rfl
@[simp] theorem State.onSp_sec (n : Nat) (g : Sp → Sp) : (s.onSp n g).sec = s.sec := rfl
@[simp] theorem State.onSp_upd (n : Nat) (g : Sp → Sp) : (s.onSp n g).upd = s.upd := rfl
@[simp] theorem State.onSp_toll (n : Nat) (g : Sp → Sp) : (s.onSp n g).toll = s.toll := rfl
@[simp] theorem State.onSp_safe (n : Nat) (g : Sp → Sp) : (s.onSp n g).safe = s.safe := rfl
@[simp] theorem State.onSp_mram (n : Nat) (g : Sp → Sp) : (s.onSp n g).mram = s.mram := rfl
@[simp] theorem State.onSp_man (n : Nat) (g : Sp → Sp) : (s.onSp n g).man = s.man := rfl

/-! A change of a Thicket engine. -/

@[simp] theorem State.onTk_pending (n : Nat) (g : Tk → Tk) : (s.onTk n g).pending = s.pending := rfl
@[simp] theorem State.onTk_free (n : Nat) (g : Tk → Tk) : (s.onTk n g).free = s.free := rfl
@[simp] theorem State.onTk_regs (n : Nat) (g : Tk → Tk) : (s.onTk n g).regs = s.regs := rfl
@[simp] theorem State.onTk_clk (n : Nat) (g : Tk → Tk) : (s.onTk n g).clk = s.clk := rfl
@[simp] theorem State.onTk_bus (n : Nat) (g : Tk → Tk) : (s.onTk n g).bus = s.bus := rfl
@[simp] theorem State.onTk_dev (n : Nat) (g : Tk → Tk) : (s.onTk n g).dev = s.dev := rfl
@[simp] theorem State.onTk_arb (n : Nat) (g : Tk → Tk) : (s.onTk n g).arb = s.arb := rfl
@[simp] theorem State.onTk_time (n : Nat) (g : Tk → Tk) : (s.onTk n g).time = s.time := rfl
@[simp] theorem State.onTk_intake (n : Nat) (g : Tk → Tk) : (s.onTk n g).intake = s.intake := rfl
@[simp] theorem State.onTk_wall (n : Nat) (g : Tk → Tk) : (s.onTk n g).wall = s.wall := rfl
@[simp] theorem State.onTk_slice (n : Nat) (g : Tk → Tk) : (s.onTk n g).slice = s.slice := rfl
@[simp] theorem State.onTk_hedge (n : Nat) (g : Tk → Tk) : (s.onTk n g).hedge = s.hedge := rfl
@[simp] theorem State.onTk_lease (n : Nat) (g : Tk → Tk) : (s.onTk n g).lease = s.lease := rfl
@[simp] theorem State.onTk_trip (n : Nat) (g : Tk → Tk) : (s.onTk n g).trip = s.trip := rfl
@[simp] theorem State.onTk_ring (n : Nat) (g : Tk → Tk) : (s.onTk n g).ring = s.ring := rfl
@[simp] theorem State.onTk_bridge (n : Nat) (g : Tk → Tk) : (s.onTk n g).bridge = s.bridge := rfl
@[simp] theorem State.onTk_sw (n : Nat) (g : Tk → Tk) : (s.onTk n g).sw = s.sw := rfl
@[simp] theorem State.onTk_eng (n : Nat) (g : Tk → Tk) : (s.onTk n g).eng = s.eng := rfl
@[simp] theorem State.onTk_can (n : Nat) (g : Tk → Tk) : (s.onTk n g).can = s.can := rfl
@[simp] theorem State.onTk_pub (n : Nat) (g : Tk → Tk) : (s.onTk n g).pub = s.pub := rfl
@[simp] theorem State.onTk_host (n : Nat) (g : Tk → Tk) : (s.onTk n g).host = s.host := rfl
@[simp] theorem State.onTk_sec (n : Nat) (g : Tk → Tk) : (s.onTk n g).sec = s.sec := rfl
@[simp] theorem State.onTk_upd (n : Nat) (g : Tk → Tk) : (s.onTk n g).upd = s.upd := rfl
@[simp] theorem State.onTk_toll (n : Nat) (g : Tk → Tk) : (s.onTk n g).toll = s.toll := rfl
@[simp] theorem State.onTk_safe (n : Nat) (g : Tk → Tk) : (s.onTk n g).safe = s.safe := rfl
@[simp] theorem State.onTk_mram (n : Nat) (g : Tk → Tk) : (s.onTk n g).mram = s.mram := rfl
@[simp] theorem State.onTk_man (n : Nat) (g : Tk → Tk) : (s.onTk n g).man = s.man := rfl

/-! Registers after a write -/

/-- A register after a write of one. -/
theorem State.rd_wr (a b : Nat) (v : Word) : (s.wr a v).rd b = if a = b then v else s.rd b := by
  unfold State.rd State.wr; simp only [Tab.find_put]; split <;> rfl

/-- Registers read the same where they hold the same. -/
theorem State.rd_congr {s t : State} (h : t.regs = s.regs) (a : Nat) : t.rd a = s.rd a := by unfold State.rd; rw [h]

@[simp] theorem State.rd_wr_same (a : Nat) (v : Word) : (s.wr a v).rd a = v := by rw [State.rd_wr, if_pos rfl]

theorem State.rd_wr_ne {a b : Nat} (h : a ≠ b) (v : Word) : (s.wr a v).rd b = s.rd b := by rw [State.rd_wr, if_neg h]

/-- Another register after a write of a field. -/
theorem State.rd_wf_ne {a b : Nat} (h : a ≠ b) (lo n v : Nat) : (s.wf a lo n v).rd b = s.rd b := s.rd_wr_ne h _

/-- The register after a write of a field of it. -/
@[simp] theorem State.rd_wf_same (a lo n v : Nat) : (s.wf a lo n v).rd a = setFld (s.rd a) lo n v := s.rd_wr_same a _

theorem State.rd_wb_ne {a b : Nat} (h : a ≠ b) (i : Nat) (v : Bool) : (s.wb a i v).rd b = s.rd b := s.rd_wf_ne h _ _ _

theorem State.rd_cnt_ne {a b : Nat} (h : a ≠ b) (lo n k : Nat) : (s.cnt a lo n k).rd b = s.rd b := s.rd_wf_ne h _ _ _

/-! Fields -/

/-- The value of a word with a field replaced: the part above, the field, the part below. -/
theorem toNat_setFld {k : Nat} (x : BitVec k) (lo n v : Nat) (h : lo + n ≤ k) :
    (setFld x lo n v).toNat = x.toNat / 2 ^ (lo + n) * 2 ^ (lo + n) + v % 2 ^ n * 2 ^ lo + x.toNat % 2 ^ lo := by
  have hx := x.isLt
  have e : x.toNat = x.toNat / 2 ^ (lo + n) * 2 ^ (lo + n) + fld x lo n * 2 ^ lo + x.toNat % 2 ^ lo := by
    unfold fld
    rw [Nat.shiftRight_eq_div_pow]
    have h1 := Nat.div_add_mod x.toNat (2 ^ lo)
    have h2 := Nat.div_add_mod (x.toNat / 2 ^ lo) (2 ^ n)
    rw [Nat.div_div_eq_div_mul, ← Nat.pow_add] at h2
    calc x.toNat = 2 ^ lo * (x.toNat / 2 ^ lo) + x.toNat % 2 ^ lo := h1.symm
      _ = 2 ^ lo * (2 ^ n * (x.toNat / 2 ^ (lo + n)) + x.toNat / 2 ^ lo % 2 ^ n) + x.toNat % 2 ^ lo := by rw [h2]
      _ = _ := by rw [Nat.pow_add]; ring
  have hv : v % 2 ^ n < 2 ^ n := Nat.mod_lt _ (Nat.two_pow_pos n)
  have hl : x.toNat % 2 ^ lo < 2 ^ lo := Nat.mod_lt _ (Nat.two_pow_pos lo)
  have hb : v % 2 ^ n * 2 ^ lo + x.toNat % 2 ^ lo < 2 ^ (lo + n) := by
    have : (v % 2 ^ n + 1) * 2 ^ lo ≤ 2 ^ n * 2 ^ lo := Nat.mul_le_mul_right _ hv
    rw [Nat.pow_add, Nat.mul_comm (2 ^ lo)]
    rw [Nat.add_mul] at this; omega
  have hq : x.toNat / 2 ^ (lo + n) < 2 ^ (k - (lo + n)) := by
    rw [Nat.div_lt_iff_lt_mul (Nat.two_pow_pos _), ← Nat.pow_add, Nat.sub_add_cancel h]; exact hx
  have hk : x.toNat / 2 ^ (lo + n) * 2 ^ (lo + n) + v % 2 ^ n * 2 ^ lo + x.toNat % 2 ^ lo < 2 ^ k := by
    have h3 : (x.toNat / 2 ^ (lo + n) + 1) * 2 ^ (lo + n) ≤ 2 ^ (k - (lo + n)) * 2 ^ (lo + n) := Nat.mul_le_mul_right _ hq
    rw [← Nat.pow_add, Nat.sub_add_cancel h, Nat.add_mul] at h3; omega
  unfold setFld
  rw [BitVec.toNat_ofNat]
  have : x.toNat - fld x lo n * 2 ^ lo + v % 2 ^ n * 2 ^ lo
      = x.toNat / 2 ^ (lo + n) * 2 ^ (lo + n) + v % 2 ^ n * 2 ^ lo + x.toNat % 2 ^ lo := by omega
  rw [this]; exact Nat.mod_eq_of_lt hk

/-- The field that was written. -/
theorem fld_setFld {k : Nat} (x : BitVec k) (lo n v : Nat) (h : lo + n ≤ k) : fld (setFld x lo n v) lo n = v % 2 ^ n := by
  unfold fld
  rw [toNat_setFld x lo n v h, Nat.shiftRight_eq_div_pow]
  have hl : x.toNat % 2 ^ lo < 2 ^ lo := Nat.mod_lt _ (Nat.two_pow_pos lo)
  have e : x.toNat / 2 ^ (lo + n) * 2 ^ (lo + n) + v % 2 ^ n * 2 ^ lo + x.toNat % 2 ^ lo
      = x.toNat % 2 ^ lo + 2 ^ lo * (v % 2 ^ n + 2 ^ n * (x.toNat / 2 ^ (lo + n))) := by rw [Nat.pow_add]; ring
  rw [e, Nat.add_mul_div_left _ _ (Nat.two_pow_pos lo), Nat.div_eq_of_lt hl, Nat.zero_add, Nat.add_mul_mod_self_left, Nat.mod_mod]

/-- A field below the one that was written. -/
theorem fld_setFld_below {k : Nat} (x : BitVec k) (lo n v l m : Nat) (h : lo + n ≤ k) (hd : l + m ≤ lo) :
    fld (setFld x lo n v) l m = fld x l m := by
  have key : ∀ y : Nat, y / 2 ^ l % 2 ^ m = y % 2 ^ (l + m) / 2 ^ l := fun y => by rw [Nat.pow_add, Nat.mod_mul_right_div_self]
  have lo_eq : 2 ^ lo = 2 ^ (l + m) * 2 ^ (lo - (l + m)) := by rw [← Nat.pow_add, Nat.add_sub_cancel' hd]
  have hmod : ∀ y : Nat, y % 2 ^ (l + m) = y % 2 ^ lo % 2 ^ (l + m) := fun y => by rw [lo_eq, Nat.mod_mul_right_mod]
  unfold fld
  rw [Nat.shiftRight_eq_div_pow, Nat.shiftRight_eq_div_pow, key, key, hmod, hmod x.toNat, toNat_setFld x lo n v h]
  have e : x.toNat / 2 ^ (lo + n) * 2 ^ (lo + n) + v % 2 ^ n * 2 ^ lo + x.toNat % 2 ^ lo
      = x.toNat % 2 ^ lo + 2 ^ lo * (v % 2 ^ n + 2 ^ n * (x.toNat / 2 ^ (lo + n))) := by rw [Nat.pow_add]; ring
  rw [e, Nat.add_mul_mod_self_left, Nat.mod_mod]

/-- A field above the one that was written. -/
theorem fld_setFld_above {k : Nat} (x : BitVec k) (lo n v l m : Nat) (h : lo + n ≤ k) (hd : lo + n ≤ l) :
    fld (setFld x lo n v) l m = fld x l m := by
  have hdiv : (setFld x lo n v).toNat / 2 ^ (lo + n) = x.toNat / 2 ^ (lo + n) := by
    rw [toNat_setFld x lo n v h]
    have hv : v % 2 ^ n < 2 ^ n := Nat.mod_lt _ (Nat.two_pow_pos n)
    have hl : x.toNat % 2 ^ lo < 2 ^ lo := Nat.mod_lt _ (Nat.two_pow_pos lo)
    have hb : v % 2 ^ n * 2 ^ lo + x.toNat % 2 ^ lo < 2 ^ (lo + n) := by
      have : (v % 2 ^ n + 1) * 2 ^ lo ≤ 2 ^ n * 2 ^ lo := Nat.mul_le_mul_right _ hv
      rw [Nat.pow_add, Nat.mul_comm (2 ^ lo)]
      rw [Nat.add_mul] at this; omega
    rw [Nat.add_assoc, Nat.add_comm, Nat.add_mul_div_right _ _ (Nat.two_pow_pos _), Nat.div_eq_of_lt hb, Nat.zero_add]
  have e : ∀ y : Nat, y / 2 ^ l = y / 2 ^ (lo + n) / 2 ^ (l - (lo + n)) := fun y => by
    rw [Nat.div_div_eq_div_mul, ← Nat.pow_add, Nat.add_sub_cancel' hd]
  unfold fld
  rw [Nat.shiftRight_eq_div_pow, Nat.shiftRight_eq_div_pow, e, e x.toNat, hdiv]

/-- One bit is a field of one bit. -/
theorem tst_fld {k : Nat} (x : BitVec k) (b : Nat) : tst x b = decide (fld x b 1 = 1) := by
  simp [tst, fld, BitVec.getLsbD, Nat.testBit, Nat.and_comm]

/-- The bit that was written. -/
theorem tst_setFld_bit {k : Nat} (x : BitVec k) (b : Nat) (v : Bool) (h : b < k) : tst (setFld x b 1 (bitOf v)) b = v := by
  rw [tst_fld, fld_setFld _ _ _ _ (by omega)]; cases v <;> rfl

/-- A bit after a write of it. -/
@[simp] theorem State.rb_wb_same (a b : Nat) (v : Bool) (h : b < 32) : (s.wb a b v).rb a b = v := by
  unfold State.rb State.wb; rw [State.rd_wf_same]; exact tst_setFld_bit _ _ _ h

/-! Raising an event -/

/-- What the routes of an event change: the host's waiting signals alone. -/
theorem State.route_regs (es d : Nat) : (s.route es d).regs = s.regs := by
  unfold State.route; dsimp only; split
  · unfold State.signal; split <;> rfl
  · rfl

/-- Raising an event changes one word of ER_PEND and no other register. -/
theorem State.raiseAt_regs (es inst wing : Nat) :
    (s.raiseAt es inst wing).regs = (s.wb (Reg.ER_PEND (es / 32)) (es % 32) true).regs := by
  unfold State.raiseAt; dsimp only
  split <;> simp only [State.logEvent, State.route_regs]

theorem State.rd_raiseAt_ne (es inst wing a : Nat) (h : a ≠ Reg.ER_PEND (es / 32)) : (s.raiseAt es inst wing).rd a = s.rd a := by
  rw [State.rd_congr (s.raiseAt_regs es inst wing), State.rd_wb_ne _ (Ne.symm h)]

theorem State.rb_raiseAt (es inst wing : Nat) : (s.raiseAt es inst wing).rb (Reg.ER_PEND (es / 32)) (es % 32) = true := by
  unfold State.rb; rw [State.rd_congr (s.raiseAt_regs es inst wing)]
  exact s.rb_wb_same _ _ _ (Nat.mod_lt _ (by decide))

end Sys2Proof.Machine
end

