-- ==== Sys2Proof/Tests/Witness.lean ====
section
/-! SUPPORT. A witness for every statement that has hypotheses: a concrete state and operands that meet all of them together. For the
statements of completion there is one conjunct per clause, in the clauses' order: it computes every hypothesis of the clause. -/

namespace Sys2Proof.Tests
open Sys2Proof Sys2Proof.Machine

set_option Elab.async false
set_option maxRecDepth 100000
set_option linter.unusedVariables false

/-- A package of an engine, an empty one of 1,024 code words. -/
def aPkg : Package := {
  svn := 0, major := 1, pers := 0x20, version := 1, compat := 0, fpBase := 0, fpLen := 512, spBase := 512, spLen := 512,
  fpEntry := 16, spEntry := 16, dataBase := 0, data := [], code := [], autoRestart := true, rsTrap := false, wdtMs := 10,
  regions := [⟨0, 4096, 1⟩], contexts := [], skInit := 64 }

/-- A tenant with every privilege. -/
def aTenant : Tenant := {
  tid := 0, priv := 0x3F, secure := false, secCh := 0xFF, vectors := 8, rbuf := 0, hbRd := 0xFFFFFFFF, hbWr := 0xFFFFFFFF,
  weight := 1, cap := 0, tags := 8, posted := 8, nodeRd := -1, nodeWr := -1, classRd := -1, classWr := -1 }

/-- A device that serves: manifest applied, East the steward with a deputy, both wings running, the owner enabled with every privilege,
engine 0 running. -/
def rich : State :=
  let s : State := { State.reset with
    clk := { State.reset.clk with ns := 20000000000000, cd2 := 8000000000000, cd0 := 655360000 }
    dev := { State.reset.dev with st := .inService, rst := false, core := ⟨false, false⟩, stew := ⟨true, true⟩, vinOk := true, manOk := true }
    arb := { State.reset.arb with trained := true }
    man := { ManCfg.empty with tenants := [aTenant], totalVfs := [8, 8, 8, 8] }
    eng := [(0, { Engine.zero with pkg := some aPkg, fp := { Engine.zero.fp with pc := 100 }, sp := { Engine.zero.sp with pc := 600, sk := 64 } })]
    host := { State.reset.host with en := [0] } }
  ((((((s.wf Reg.ARB_STATUS 26 2 1).wb Reg.ARB_STATUS 30 true).wf Reg.IWL_STAT 30 2 3).wb Reg.TIME_STATUS 23 true).wf (Reg.FN_PRIV 0) 0 6 63).wf
    (Reg.PE_STAT 0) 29 3 2)

/-- An Ethernet frame. -/
def aFrame : Frame := {
  dst := 0xFFFFFFFFFFFF, src := 0x020000000001, vlan := none, etype := 0x88B8, len := 64, red := .none, fcsBad := false,
  oddOctet := false, codeBad := false, queue := none, fn := none, direct := none, stamp := none, pay := [], cls := (0, 0), ts := 0, msec := none }
/-- A sampled-value frame with no ASDU. -/
def aSv : SvFrame := {
  dmac := 0, appid := 0x4000, vid := none, red := none, ber := true, noAsdu := 0, asdus := [], auth := none, sim := false }
/-- A settings image that is absent. -/
def aSet : SettingsImage := { recs := [], dr := [], invBlock := (0, 0), engHold := (0, 0), readbackFilt := (0, 0), ilkModes := [] }
/-- A comparison record. -/
def aCmp : CmpRec := {
  sec := 0, k := 0, sLow := 0, crc := 0, digest := [], lines := 0 }
/-- A Caravan header. -/
def aHdr : CHdr := {
  ring := 0, ch := 0, auth := false, cmdOnly := false, dying := false, version := 1, cycle := 0, epoch := 0, nextEpoch := 0, swCnt := 0,
  session := 0, eui := 0, sec := 0, ns := 0, frac := 0, lead := 0, corr := 0, total := 0, nslots := 0, hops := 0, hchk := 0 }
/-- A Caravan with no slots. -/
def aCaravan : Caravan := {
  hdr := aHdr, marks := [], slots := [], tag := [], words := 0, ending := .c3 [], lineBad := false }
/-- A CAN frame. -/
def aCan : CanFrame := {
  ide := false, fdf := false, brs := false, id := 0, rtr := false, dlc := 0, data := [] }
/-- A stepping mode. -/
def aMode : SpMode := .base
/-- A steward decision that writes nothing. -/
def aDecision : Decision := { tag := 0, writes := [], chan := none }
/-- The device with ring 0 running, its first node listed. -/
def ringUp : State :=
  ({ rich with ring := [(0, { Ring.zero with rotated := false, cut := false, swCnt := 0 })] }.wb (Reg.CQ_RING_CTRL 0) 31 true
    |>.wf (Reg.CQ_RING_STAT 0) 30 2 2).wb (Reg.CQ_NODE_LIST 0 0 2) 31 true

/-- The device with a request of TYPE `ty` taken on channel `ch`. -/
def asked (ch : Nat) (ty : Octet) (s : State) : State := { s with host.taken := [(ch, { typ := ty, seq := 0, len := 64, body := none })] }

/-- The device with a SECURE tenant on channel 256, whose request of TYPE `ty` has been taken, in MAINTENANCE. -/
def askedSec (ty : Octet) : State :=
  asked 256 ty { rich with man.tenants := [{ aTenant with secure := true, secCh := 0 }], dev.st := .maintenance }

/-- The device with MAC 0 on and its link up. -/
def macUp0 : State := (rich.wb (Reg.MAC_CFG 0) 31 true |>.wf (Reg.MAC_CFG 0) 27 4 3).wb (Reg.MAC_STAT 0) 31 true

/-- The device with section 0 of the East wall enabled at 4,000 rows a second. -/
def wallOn : State := ((rich.wb (Reg.WALL_STATUS .east) 31 true).wf (Reg.WALL_SECT_CFG0 .east 0) 31 1 1).wf (Reg.WALL_SECT_CFG0 .east 0) 0 14 4

/-- The device with one open row in section 0. -/
def aRow : Row := { S := 0, k := 5, st := .ready, complete := true, deadline := false, drUs := 100, wrote := [], cells := [], degraded := false }
/-- The device as the clause of its name needs it. -/
def wallRow : State := { wallOn with wall := wallOn.wall.set .east { wallOn.wall.at_ .east with sect := [(0, { Sect.zero with rows := [aRow], lastRel := some 5 })] } }

/-- The device with element 0 of the East Hedge enabled, of a type, in use, with a running state. -/
def elemOn (ty : Nat) (x : Elem) : State :=
  let s := (rich.wr (Reg.HEDGE_EL_CFG .east 0 0) (BitVec.ofNat 32 (2 ^ 31 + ty * 2 ^ 26)))
  let s1 := ((s.wr (Reg.HEDGE_EL_SET .east 0 0) 0xFFFFFFFF).wr (Reg.HEDGE_EL_SET .east 0 1) 0x00010001).wr (Reg.HEDGE_EL_SET .east 0 2) 0x00010001
  { s1 with hedge := s1.hedge.set .east { s1.hedge.at_ .east with el := [(0, x)] } }
/-- A published stream. -/
def aPub : PubCfg := {
  engine := 0, host := true, rate := 4000, noAsdu := 1, nch := 8, delayUs := 500, port := 0, ring := 0, tks := [], trg := 0, dmac := 0, smac := 0,
  vid := 0, pcp := 4, len := 100, appid := 0x4000, svid := [], confRev := 1, keySlot := none }
/-- A trip publication. -/
def aTripPub : TripPubCfg := {
  wing := .east, ports := [0], t1us := 1000, t0us := 100000, keySlot := none, limit := 0, thr := 0,
  dying := none, len := 100, dst := 0, src := 0, vid := 0, pcp := 4, appid := 0, tmpl := [] }
/-- The device with a derived section 1 that follows section 0. -/
def wallDerived : State :=
  { (wallOn.wf (Reg.WALL_SECT_CFG0 .east 1) 31 1 1).wf (Reg.WALL_SECT_CFG0 .east 1) 30 1 1 with
    wall := wallOn.wall.set .east { wallOn.wall.at_ .east with sect := [(0, { Sect.zero with lastRel := some 50 }), (1, { Sect.zero with lastRel := some 5 })] } }
/-- The device with slice 0 of the East wall enabled. -/
def sliceOn : State := (rich.wr (Reg.SLICE_DESC .east 0 0) 0x80000001).wb (Reg.SLICE_CFG 0 0) 31 true
/-- The device with a slice block in progress. -/
def sliceFull : State := { sliceOn with slice := [(0, { Slice.zero with part := [([], aRow)] })] }.wr (Reg.SLICE_PROD 0 0) 1
/-- The device whose lease the owner holds. -/
def leased : State := { rich.wf Reg.HEDGE_LEASE_CFG 0 6 10 with lease.holder := some 0, lease.startCd2 := rich.clk.cd2 }
/-- The device with a ring whose echo is awaited. -/
def echoed : State := { ringUp with ring := [(0, { Ring.zero with head := { Ring.zero.head with echo := some (0, 20000000000000) } })] }
/-- A bridge request. -/
def aReq : BReq := {
  who := 0, wr := false, rseq := 0, tag := 0, addr := 0, count := 1, data := [], user := 0, buf := 0, mmio := false, sent := false, acked := false,
  age := 0, timed := false }
/-- A bridge response. -/
def aResp : BResp := { who := 0, status := 0, tag := 0, addr := 0, data := [], user := 0, buf := 0, at_ := 0, seq := none, tagged := true }
/-- The device with a submission queue entry posted. -/
def sqOn : State :=
  (((rich.wb (Reg.BR_SQ_CFG 0) 31 true).wr (Reg.BR_SQ_TAIL 0) 1).wb (Reg.BR_CQ_CFG 0) 31 true).wf (Reg.BR_CQ_CFG 0) 0 4 4
/-- Engine 0 with a frame queued and the FP's events enabled. -/
def fpPend : State := { rich with eng := [(0, { rich.en 0 with fp := { (rich.en 0).fp with ien := 0x80FF, ipend := 0x10 } })] }
/-- Engine 0 with a session-processor event pending. -/
def spPend : State := { rich with eng := [(0, { rich.en 0 with sp := { (rich.en 0).sp with sr := 0x8000, imask := 7, ipend := 1 } })] }
/-- Engine 0 as an interlock engine whose cycle is due. -/
def ilkIdle : State :=
  { (rich.wf (Reg.PE_STAT 0) 16 8 0x20).wf (Reg.ILK_STAT 0) 30 2 1 with
    eng := [(0, { rich.en 0 with sp := { (rich.en 0).sp with susp := true }, ilk := { (rich.en 0).ilk with first := false } })] }
/-- Engine 0 as an interlock engine that overruns its cycle. -/
def ilkLate : State :=
  { ilkIdle.wb (Reg.ILK_STAT 0) 28 true with eng := [(0, { rich.en 0 with ilk := { (rich.en 0).ilk with started := some 0, overran := false } })] }
/-- The device with a CAN frame on its way. -/
def canSending : State := rich.wf (Reg.CAN_TXSTAT 0 0) 29 3 2
/-- A PTP message. -/
def aPtp : PtpMsg := { domain := 0, port := 0, seq := 0, corr := 0, origin := 0 }

theorem test_witness_AccessCommandsComplete :
  (((fun (s : State) (fn : Nat) (off : Nat) (val : BitVec 64) (hw : Word) =>
    decide ((Instr.registerWrite fn off 4 val hw).wf = true) &&
    decide ((fn = 0 → off < 0x01100000 ∨ 0x01140000 < off + 4)) &&
    decide (off % 4 = 0) &&
    match barAddr fn off with
    | some a => (
    decide (s.reach fn = true) &&
    decide (s.mbWord a = none) &&
    decide (s.blockOn a = true) &&
    match s.regAt a with
    | some r => (
    decide (r.key ≠ Reg.ER_PEND 0) &&
    decide (byKey acts r.key = none) &&
    decide (byKey pageActs r.key = none) &&
    decide (s.mayWrite fn r = true) &&
    decide (r.key ≠ Reg.SAFE_ALARM) &&
    decide (r.key ≠ Reg.TIME_SERVO) &&
    true)
    | _ => false)
    | _ => false) (rich) (0) (0) (0) (0) : Bool) = true) ∧
  (((fun (s : State) (fn : Nat) (off : Nat) (size : Nat) (inc : Word) =>
    decide ((Instr.readClear fn off size inc).wf = true) &&
    decide (s.reach fn = true) &&
    decide ((fn = 0 → off < 0x01100000 ∨ 0x01140000 < off + size)) &&
    decide (off % 4 + size ≤ 4) &&
    match barAddr fn (off / 4 * 4) with
    | some a => (
    decide (s.mbWord a = none) &&
    decide (s.blockOn a = true) &&
    decide (s.readAct fn a (off % 4) size = none) &&
    true)
    | _ => false) (rich) (0) (0) (4) (0) : Bool) = true) ∧
  (((fun (s : State) (idx : Octet) =>
    true) (rich) (0) : Bool) = true) ∧
  (((fun (s : State) (idx : Octet) =>
    true) (rich) (0) : Bool) = true) ∧
  (((fun (s : State) (fn : Nat) (off : Nat) (data : List Octet) =>
    decide ((Instr.mramUserWrite fn off data).wf = true) &&
    decide (s.reach fn = true) &&
    decide (fn = 0) &&
    decide (s.pCfg fn = true) &&
    true) (rich) (0) (0) ([]) : Bool) = true) := by
  refine ⟨?_, ?_, ?_, ?_, ?_⟩ <;> decide +kernel

theorem test_witness_StewardCommandsComplete :
  (((fun (s : State) (lane : Nat) =>
    decide ((Instr.iwlLaneUp lane).wf = true) &&
    decide (s.mainUp = true) &&
    true) (rich) (0) : Bool) = true) ∧
  (((fun (s : State) (lane : Nat) =>
    decide ((Instr.iwlLaneFail lane).wf = true) &&
    decide (s.mainUp = true) &&
    true) (rich) (0) : Bool) = true) ∧
  (((fun (s : State) =>
    decide (s.mainUp = true) &&
    decide (s.arb.trained = false) &&
    decide (s.arb.trainAt + 1000000 ≤ s.clk.ns) &&
    true) ({ rich with arb.trained := false }) : Bool) = true) ∧
  (((fun (s : State) (b : LinkBlock) (ok : Bool × Bool) =>
    decide (s.mainUp = true) &&
    decide (s.iwlDown = false) &&
    decide (ok.1 = false) &&
    decide (ok.2 = false) &&
    true) (rich) (⟨.east, .beat⟩) ((false, false)) : Bool) = true) ∧
  (((fun (s : State) (d : Decision) =>
    decide (s.mainUp = true) &&
    decide (s.stewardRuns = true) &&
    true) (rich) (aDecision) : Bool) = true) ∧
  (((fun (s : State) (w : Wing) =>
    decide (s.mainUp = true) &&
    let soon := match s.arb.sentAt.at_ w with
      | some t => decide (s.clk.ns < t + 950000)
      | none => false
    decide (s.stewUp w = true) &&
    decide (s.arb.mute.at_ w = false) &&
    decide (soon = false) &&
    true) (rich) (.east) : Bool) = true) ∧
  (((fun (s : State) (w : Wing) (epoch : Word) =>
    decide (s.mainUp = true) &&
    match s.arb.linkBeats.at_ w.other with
    | (z1, e) :: q => (
    let s1 := { s with arb.linkBeats := s.arb.linkBeats.set w.other q }
    decide (epoch = e) &&
    true)
    | _ => false) ({ rich with arb.linkBeats := ⟨[], [(0, 0)]⟩ }) (.east) (0) : Bool) = true) ∧
  (((fun (s : State) (w : Wing) =>
    decide (s.mainUp = true) &&
    decide (s.stewUp w = true) &&
    decide (s.arb.linkAt.at_ w + 3500000 ≤ s.clk.ns) &&
    true) (rich) (.east) : Bool) = true) ∧
  (((fun (s : State) (w : Wing) (addr : Nat) (val : Word) =>
    decide (s.mainUp = true) &&
    decide (s.stewUp w = true) &&
    decide (fencedClass addr = true) &&
    decide (s.fenced w = false) &&
    decide (s.steward = some w) &&
    true) (rich) (.east) (0x900000) (0) : Bool) = true) ∧
  (((fun (s : State) (w : Wing) =>
    decide (s.mainUp = true) &&
    decide (s.iwlDown = false) &&
    decide (s.steward ≠ some w) &&
    decide (s.stewardRuns = true) &&
    decide (s.stewUp w = true) &&
    decide (s.arb.known.at_ w = s.rd Reg.ARB_EPOCH) &&
    true) (rich) (.west) : Bool) = true) ∧
  (((fun (s : State) (w : Wing) =>
    decide (s.mainUp = true) &&
    decide (s.iwlDown = false) &&
    decide (s.stewardRuns = true) &&
    decide (s.stewUp w = true) &&
    decide ((s.arb.mirrorReq.at_ w).isNone = false) &&
    true) ({ rich with arb.mirrorReq := ⟨some 0, some 0⟩ }) (.east) : Bool) = true) ∧
  (((fun (s : State) =>
    decide (s.mainUp = true) &&
    true) (rich) : Bool) = true) ∧
  (((fun (s : State) (w : Wing) =>
    decide (s.mainUp = true) &&
    true) (rich) (.east) : Bool) = true) ∧
  (((fun (s : State) (w : Wing) (epoch : Word) (seq : Half) (health : Word) =>
    decide (s.mainUp = true) &&
    true) (rich) (.east) (0) (0) (0) : Bool) = true) ∧
  (((fun (s : State) (w : Wing) =>
    decide (s.mainUp = true) &&
    true) ({ rich with arb.lost := ⟨true, true⟩ }) (.west) : Bool) = true) ∧
  (((fun (s : State) =>
    decide (s.mainUp = true) &&
    true) (rich) : Bool) = true) ∧
  (((fun (s : State) (received : Bool) =>
    decide (s.mainUp = true) &&
    decide (s.deputyHears = true) &&
    match ackSplit s.arb.inflight with
    | some (before, m, after) => (
    true)
    | _ => false) ({ rich with arb.inflight := [⟨.decision aDecision, 0, false, false⟩] }) (true) : Bool) = true) ∧
  (((fun (s : State) =>
    decide (s.mainUp = true) &&
    match s.arb.inflight with
    | m :: z1 => (
    decide (m.at_ + 200000 ≤ s.clk.ns) &&
    decide (s.stewardRuns = true) &&
    true)
    | _ => false) ({ rich with arb.inflight := [⟨.decision aDecision, 0, false, false⟩] }) : Bool) = true) := by
  refine ⟨?_, ?_, ?_, ?_, ?_, ?_, ?_, ?_, ?_, ?_, ?_, ?_, ?_, ?_, ?_, ?_, ?_, ?_⟩ <;> decide +kernel

theorem test_witness_PtpCommandsComplete :
  (((fun (s : State) (p : Nat) (oneStep : Bool) (h : PtpHdr) (origin : Nat) (corr : Int) (phase : Nat) =>
    decide ((Instr.syncReceive p oneStep h origin corr phase).wf = true) &&
    decide (s.mainUp = true) &&
    decide (s.fromParent p h = true) &&
    true) (rich.wf Reg.TIME_STATUS 16 7 0) (0) (true) (⟨0, 0, 0⟩) (0) (0) (0) : Bool) = true) ∧
  (((fun (s : State) (p : Nat) (h : PtpHdr) (origin : Nat) (corr : Int) =>
    decide ((Instr.followUpReceive p h origin corr).wf = true) &&
    decide (s.mainUp = true) &&
    match s.time.syncWait with
    | some (q, n, c, rx) => (
    decide (q = p) &&
    decide (n = h.seq) &&
    decide (s.fromParent p h = true) &&
    true)
    | _ => false) ({ rich.wf Reg.TIME_STATUS 16 7 0 with time.syncWait := some (0, 0, 0, 0) }) (0) (⟨0, 0, 0⟩) (0) (0) : Bool) = true) ∧
  (((fun (s : State) (p : Nat) (seq : Half) (phase : Nat) =>
    decide ((Instr.syncTransmit p seq phase).wf = true) &&
    decide (s.mainUp = true) &&
    true) (rich) (0) (0) (0) : Bool) = true) ∧
  (((fun (s : State) (p : Nat) (resp : Bool) (seq : Half) (out : Nat × Fin 16) (back : Nat × Fin 16) =>
    decide ((Instr.pdelayExchange p resp seq out back).wf = true) &&
    decide (s.mainUp = true) &&
    true) (rich) (0) (true) (0) ((0, 0)) ((0, 0)) : Bool) = true) ∧
  (((fun (s : State) (p : Nat) (valid : Bool) (m : PtpNote) (phase : Nat) =>
    decide ((Instr.announceReceive p valid m phase).wf = true) &&
    decide (s.mainUp = true) &&
    decide (m.domain = s.man.ptpDomain) &&
    decide ((m.kind == .announce && !valid) = false) &&
    true) (rich) (0) (true) (⟨.announce, 0, 0, [], []⟩) (0) : Bool) = true) ∧
  (((fun (s : State) (p : Nat) =>
    decide ((Instr.announceTransmit p).wf = true) &&
    decide (s.mainUp = true) &&
    true) (rich) (0) : Bool) = true) ∧
  (((fun (s : State) (pin : Nat) (pout : Nat) (kind : PtpKind) (m : PtpMsg) (age : Nat) (phaseIn : Nat) (phaseOut : Nat) =>
    decide ((Instr.ptpTransit pin pout kind m age phaseIn phaseOut).wf = true) &&
    decide (s.mainUp = true) &&
    true) (rich) (0) (0) (.pdelay) (aPtp) (0) (0) (0) : Bool) = true) ∧
  (((fun (s : State) (p : Nat) =>
    decide ((Instr.heldSyncExpiry p).wf = true) &&
    decide (s.mainUp = true) &&
    true) (rich) (0) : Bool) = true) ∧
  (((fun (s : State) (p : Nat) (delayMsg : Bool) (x : Arrival) =>
    decide ((Instr.ptpUnsupported p delayMsg x).wf = true) &&
    decide (s.mainUp = true) &&
    true) (rich) (0) (true) (⟨aFrame, 0, 0⟩) : Bool) = true) ∧
  (((fun (s : State) (fn : Nat) (p : Nat) (val : Word) =>
    decide ((Instr.timePortStateWrite fn p val).wf = true) &&
    decide (s.ownerCfg fn = true) &&
    true) (rich) (0) (0) (0) : Bool) = true) := by
  refine ⟨?_, ?_, ?_, ?_, ?_, ?_, ?_, ?_, ?_, ?_⟩ <;> decide +kernel

theorem test_witness_TimeCommandsComplete :
  (((fun (s : State) (writer : Wing) (target : Wing) (word : Nat) (val : Word) =>
    decide ((Instr.timeShadowWrite writer target word val).wf = true) &&
    decide (s.mainUp = true) &&
    decide (s.fenced writer = false) &&
    decide (s.steers writer target = true) &&
    true) (rich) (.east) (.east) (0) (0) : Bool) = true) ∧
  (((fun (s : State) (writer : Wing) (target : Wing) =>
    decide (s.mainUp = true) &&
    decide (s.fenced writer = false) &&
    decide (s.steers writer target = true) &&
    true) (rich) (.east) (.east) : Bool) = true) ∧
  (((fun (s : State) =>
    decide (s.mainUp = true) &&
    true) (rich) : Bool) = true) ∧
  (((fun (s : State) (w : Wing) =>
    decide (s.mainUp = true) &&
    true) (rich) (.east) : Bool) = true) ∧
  (rich.mainUp = true ∧ rich.sourceGone = true) ∧
  (((fun (s : State) =>
    decide (s.mainUp = true) &&
    decide (s.timeState = 3) &&
    decide (s.time.holdAt + s.man.holdLimitS * 1000000000 ≤ s.clk.ns) &&
    true) (rich.wf Reg.TIME_STATUS 29 3 3) : Bool) = true) ∧
  (((fun (s : State) (fn : Nat) (amount : Int) =>
    decide ((Instr.step fn amount).wf = true) &&
    decide (s.ownerCfg fn = true) &&
    decide (s.stewardRuns = true) &&
    decide (s.armed = true) &&
    decide (s.runsOn = false) &&
    true) (rich) (0) (0) : Bool) = true) ∧
  (((fun (s : State) (fn : Nat) (clockClass : BitVec 8) =>
    decide ((Instr.gmChange fn clockClass).wf = true) &&
    decide (s.ownerCfg fn = true) &&
    true) (rich) (0) (0) : Bool) = true) ∧
  (((fun (s : State) (widths : List Nat) (age : Nat) (phase : Nat) =>
    decide ((Instr.irigbFrame widths age phase).wf = true) &&
    decide (s.mainUp = true) &&
    true) (rich) ([]) (0) (0) : Bool) = true) ∧
  (((fun (s : State) (x : PpsPulse) =>
    decide (s.mainUp = true) &&
    true) (rich) (⟨1000, 0⟩) : Bool) = true) ∧
  (((fun (s : State) =>
    decide (s.mainUp = true) &&
    true) (rich) : Bool) = true) ∧
  (((fun (s : State) =>
    decide (s.mainUp = true) &&
    match s.time.pps with
    | some t => (
    true)
    | _ => false) ({ rich with time.pps := some 0 }) : Bool) = true) ∧
  (((fun (s : State) (c : Nat) (e : CapEdge) (width : Nat) (phase : Nat) =>
    decide ((Instr.captureEdge c e width phase).wf = true) &&
    decide (s.mainUp = true) &&
    true) (rich) (0) (⟨true, true⟩) (0) (0) : Bool) = true) ∧
  (((fun (s : State) (w : Wing) (lane : Nat) (size : Nat) =>
    decide ((Instr.timeNowRead 0 w lane size).wf = true) &&
    decide (size ≠ 8) &&
    decide (s.reach 0 = true) &&
    decide (s.dev.st ≠ .safeTalk) &&
    true) (rich) (.east) (0) (4) : Bool) = true) ∧
  (((fun (s : State) (w : Wing) (lane : Nat) (size : Nat) =>
    decide ((Instr.ltcRead 0 w lane size).wf = true) &&
    decide (size ≠ 8) &&
    decide (s.reach 0 = true) &&
    decide (s.dev.st ≠ .safeTalk) &&
    true) (rich) (.east) (0) (4) : Bool) = true) ∧
  (((fun (s : State) (w : Wing) (lane : Nat) (size : Nat) =>
    decide ((Instr.timeTripleRead 0 w lane size).wf = true) &&
    decide (size ≠ 8) &&
    decide (s.reach 0 = true) &&
    decide (s.dev.st ≠ .safeTalk) &&
    true) (rich) (.east) (0) (4) : Bool) = true) ∧
  (((fun (s : State) (mid : Nat) (c : Nat) (lane : Nat) (size : Nat) =>
    decide ((Instr.capturePop mid c lane size).wf = true) &&
    decide (s.mainUp = true) &&
    decide (size ≠ 8) &&
    decide ((if mid < 256 then mid = 0 ∧ s.reach 0 = true ∧ s.dev.st ≠ .safeTalk else s.fpRuns ((mid - 256) % 32) = true)) &&
    true) (rich) (0) (0) (0) (4) : Bool) = true) ∧
  (((fun (s : State) (p : Nat) (lane : Nat) (size : Nat) =>
    decide ((Instr.tsqEntryPop 0 p lane size).wf = true) &&
    decide (size ≠ 8) &&
    decide (s.reach 0 = true) &&
    decide (s.dev.st ≠ .safeTalk) &&
    true) (rich) (0) (0) (4) : Bool) = true) :=
  ⟨(by decide +kernel), (by decide +kernel), (by decide +kernel), (by decide +kernel), (by
    refine ⟨by decide +kernel, ?_⟩
    have h : decide (rich.time.markAt + 3 * rich.man.syncNs ≤ rich.clk.ns) = true := by decide +kernel
    have k : decide (rich.time.markAt + 3000000000 ≤ rich.clk.ns) = true := by decide +kernel
    unfold State.sourceGone
    split
    · rfl
    · rw [h, Bool.or_true, Bool.true_or]
    · exact k), (by decide +kernel), (by decide +kernel), (by decide +kernel), (by decide +kernel), (by decide +kernel), (by decide +kernel), (by decide +kernel), (by decide +kernel), (by decide +kernel), (by decide +kernel), (by decide +kernel), (by decide +kernel), (by decide +kernel)⟩

theorem test_witness_TriggerCommandsComplete :
  (((fun (s : State) (fn : Nat) (m : Nat) (val : Word) =>
    decide ((Instr.triggerArm fn m val).wf = true) &&
    decide (s.ownerIn fn = true) &&
    true) (rich) (0) (0) (0) : Bool) = true) ∧
  (((fun (s : State) (m : Nat) =>
    decide ((Instr.triggerFire m).wf = true) &&
    decide (s.mainUp = true) &&
    let x := s.trg m
    let t := s.fireAt m x.k
    let ctrl := s.rd (trgCtrl m)
    decide (x.armed = true) &&
    decide (t ≤ s.wingT (trgWing m)) &&
    true) ({ rich with time.trg := [(0, { Trg.zero with armed := true })] }) (0) : Bool) = true) ∧
  (((fun (s : State) (m : Nat) =>
    decide ((Instr.triggerPulseEnd m).wf = true) &&
    decide (s.mainUp = true) &&
    let x := s.trg m
    match x.pulseEnd with
    | some e => (
    decide (e ≤ s.clk.ns) &&
    true)
    | _ => false) ({ rich with time.trg := [(0, { Trg.zero with pulseEnd := some 0 })] }) (0) : Bool) = true) ∧
  (((fun (s : State) (fn : Nat) (p : Nat) (val : Word) =>
    decide ((Instr.pubWrAdvance fn p val).wf = true) &&
    match s.pubCfg p with
    | some c => (
    decide (s.ownerCfg fn = true) &&
    decide (c.host = true) &&
    true)
    | _ => false) ({ rich with man.pubs := [(0, aPub)] }) (0) (0) (0) : Bool) = true) ∧
  (((fun (s : State) (p : Nat) =>
    decide ((Instr.pubFrameSend p).wf = true) &&
    decide (s.mainUp = true) &&
    match s.pubCfg p with
    | some c => (
    match pubLatest c s.devT with
    | some n => (
    let x := s.pubSt p
    decide (s.peState c.engine = 2) &&
    decide ((match x.built with | some b => decide (n ≤ b) | none => false) = false) &&
    true)
    | _ => false)
    | _ => false) ({ rich with man.pubs := [(0, aPub)], time.act := ⟨{ rich.time.act.e with sec := 1000 }, rich.time.act.w⟩ }) (0) : Bool) = true) ∧
  (((fun (s : State) (p : Nat) =>
    decide ((Instr.thicketPubDma p).wf = true) &&
    decide (s.mainUp = true) &&
    match s.pubCfg p with
    | some c => (
    match (s.pubSt p).fire with
    | some key => (
    decide (c.host = false) &&
    decide (s.pubPushed c = true) &&
    true)
    | _ => false)
    | _ => false) ({ rich with man.pubs := [(0, { aPub with host := false })], pub := [(0, { Pub.zero with fire := some 0 })] }) (0) : Bool) = true) := by
  refine ⟨?_, ?_, ?_, ?_, ?_, ?_⟩ <;> decide +kernel

theorem test_witness_IntakeCommandsComplete :
  (((fun (s : State) (w : Wing) (port : Nat) (f : SvFrame) (ts : Nat) =>
    decide (s.mainUp = true) &&
    let i := s.intake.at_ w
    match i.rx with
    | x :: q => (
    decide (x = (port, f, ts)) &&
    true)
    | _ => false) ({ rich with intake := ⟨{ rich.intake.e with rx := [(0, aSv, 0)] }, rich.intake.w⟩ }) (.east) (0) (aSv) (0) : Bool) = true) ∧
  (((fun (s : State) (w : Wing) (port : Nat) (f : SvFrame) (ts : Nat) =>
    decide (s.mainUp = true) &&
    let i := s.intake.at_ w
    match i.fwd with
    | (no, x) :: q => (
    decide (x = (port, f, ts)) &&
    decide (s.linkTurnOf w.other no true = true) &&
    true)
    | _ => false) ({ rich with intake := ⟨{ rich.intake.e with fwd := [(0, 0, aSv, 0)] }, rich.intake.w⟩ }) (.east) (0) (aSv) (0) : Bool) = true) ∧
  (((fun (s : State) (w : Wing) (n : Nat) =>
    decide ((Instr.discardWindowExpiry w n).wf = true) &&
    decide (s.mainUp = true) &&
    true) (rich) (.east) (0) : Bool) = true) ∧
  (((fun (s : State) (w : Wing) (n : Nat) =>
    decide ((Instr.policerToken w n).wf = true) &&
    decide (s.mainUp = true) &&
    let x := s.stream w n
    let next := x.tokAt + s.strAsdus w n * 1000000000
    decide (s.strState w n ≠ 0) &&
    decide (¬ (s.clk.ns * s.strRate w n < next)) &&
    true) (rich.wf (Reg.STREAM_STAT .east 0) 29 3 2) (.east) (0) : Bool) = true) ∧
  (((fun (s : State) (w : Wing) (n : Nat) =>
    decide ((Instr.pairingWindowEnd w n).wf = true) &&
    decide (s.mainUp = true) &&
    let x := s.stream w n
    match x.pair with
    | p :: q => (
    decide (p.until_ < s.clk.ns) &&
    true)
    | _ => false) ({ rich with intake := ⟨{ rich.intake.e with str := [(0, { Stream.zero with pair := [⟨none, 0, 0, []⟩] })] }, rich.intake.w⟩ }) (.east) (0) : Bool) = true) ∧
  (((fun (s : State) (w : Wing) (n : Nat) =>
    decide ((Instr.streamLoss w n).wf = true) &&
    decide (s.mainUp = true) &&
    decide (s.strState w n = 2) &&
    decide (s.lossDue w n = true) &&
    true) (rich.wf (Reg.STREAM_STAT .east 0) 29 3 2) (.east) (0) : Bool) = true) ∧
  (((fun (s : State) (fn : Nat) (w : Wing) (n : Nat) (val : Word) =>
    decide ((Instr.confrevClear fn w n val).wf = true) &&
    decide (s.ownerCfg fn = true) &&
    true) (rich) (0) (.east) (0) (0) : Bool) = true) ∧
  (((fun (s : State) (fn : Nat) (w : Wing) (val : Word) =>
    decide ((Instr.simEnWrite fn w val).wf = true) &&
    decide (s.ownerCfg fn = true) &&
    true) (rich) (0) (.east) (0) : Bool) = true) := by
  refine ⟨?_, ?_, ?_, ?_, ?_, ?_, ?_, ?_⟩ <;> decide +kernel

theorem test_witness_WallCommandsComplete :
  (((fun (s : State) (w : Wing) =>
    decide (s.mainUp = true) &&
    match (s.intake.at_ w).wallQ with
    | a :: q => (
    true)
    | _ => false) ({ rich with intake := ⟨{ rich.intake.e with wallQ := [⟨0, 0, 0, 0, [], false⟩] }, rich.intake.w⟩ }) (.east) : Bool) = true) ∧
  (((fun (s : State) (w : Wing) (n : Nat) =>
    decide ((Instr.rowOpen w n).wf = true) &&
    decide (s.mainUp = true) &&
    let key := s.nextKey w n
    let rate := s.sectRate w n
    decide (s.sectOn w n = true) &&
    decide (s.sectF w n 30 1 ≠ 1) &&
    decide (s.armed = true) &&
    decide (s.openDue w n key = true) &&
    true) (wallOn) (.east) (0) : Bool) = true) ∧
  (((fun (s : State) (w : Wing) (n : Nat) =>
    decide ((Instr.rowDeadline w n).wf = true) &&
    decide (s.mainUp = true) &&
    decide (s.sectOn w n = true) &&
    true) (wallOn) (.east) (0) : Bool) = true) ∧
  (((fun (s : State) (w : Wing) (n : Nat) (ecc : List Nat) =>
    decide ((Instr.rowRelease w n ecc).wf = true) &&
    decide (s.mainUp = true) &&
    decide (s.sectOn w n = true) &&
    decide (s.sectF w n 30 1 ≠ 1) &&
    match s.releasable w n with
    | some h => (
    true)
    | _ => false) (wallRow) (.east) (0) ([]) : Bool) = true) ∧
  (((fun (s : State) (w : Wing) (n : Nat) =>
    decide ((Instr.derivedRowRelease w n).wf = true) &&
    decide (s.mainUp = true) &&
    decide (s.sectOn w n = true) &&
    decide (s.sectF w n 30 1 ≠ 0) &&
    let src := s.sectF w n 22 3
    let srcRate := s.sectRate w src
    let rate := s.sectRate w n
    match (s.sect w src).lastRel with
    | some l => (
    let key := s.derivedKey w n l srcRate
    decide (key * srcRate + 5 * srcRate < (l + 1) * rate) &&
    true)
    | _ => false) (wallDerived) (.east) (1) : Bool) = true) ∧
  (((fun (s : State) (w : Wing) =>
    decide (s.mainUp = true) &&
    match (s.wall.at_ w).hiAt with
    | some t => (
    decide (t + 10000 ≤ s.clk.ns) &&
    true)
    | _ => false) ({ rich with wall := rich.wall.set .east { rich.wall.at_ .east with hiAt := some 0 } }) (.east) : Bool) = true) ∧
  (((fun (s : State) (w : Wing) =>
    decide (s.mainUp = true) &&
    match (s.wall.at_ w).loAt with
    | some t => (
    decide (t + 10000000 ≤ s.clk.ns) &&
    true)
    | _ => false) ({ rich with wall := rich.wall.set .east { rich.wall.at_ .east with loAt := some 0 } }) (.east) : Bool) = true) ∧
  (((fun (s : State) (fn : Nat) (g : Nat) (val : Word) =>
    decide ((Instr.sliceEnable fn g val).wf = true) &&
    decide (s.reach fn = true) &&
    decide (s.ownsSlice fn g = true) &&
    let a := Reg.SLICE_CFG fn g
    decide (s.rb a 31 = false) &&
    decide (tst val 31 = true) &&
    decide (3 ≤ fld val 0 4) &&
    decide (fld val 0 4 ≤ 12) &&
    true) (rich.wr (Reg.SLICE_DESC .east 0 0) 0x80000001) (0) (0) (0x80000003) : Bool) = true) ∧
  (((fun (s : State) (fn : Nat) (g : Nat) (val : Word) =>
    decide ((Instr.sliceDisable fn g val).wf = true) &&
    decide (s.reach fn = true) &&
    decide (s.ownsSlice fn g = true) &&
    let a := Reg.SLICE_CFG fn g
    decide (s.rb a 31 = true) &&
    decide (tst val 31 = false) &&
    true) (sliceOn) (0) (0) (0) : Bool) = true) ∧
  (((fun (s : State) (fn : Nat) (g : Nat) (val : Word) =>
    decide ((Instr.sliceConsWrite fn g val).wf = true) &&
    let cons := s.rd (Reg.SLICE_CONS fn g)
    let prod := s.rd (Reg.SLICE_PROD fn g)
    decide (s.reach fn = true) &&
    decide (s.ownsSlice fn g = true) &&
    decide ((val - cons) ≤ (prod - cons)) &&
    true) (sliceOn) (0) (0) (0) : Bool) = true) ∧
  (((fun (s : State) (g : Nat) =>
    decide ((Instr.sliceBlockWrite g).wf = true) &&
    decide (s.mainUp = true) &&
    let fn := fld (s.sliceDesc g 0) 16 8
    let b := fld (s.sliceDesc g 0) 0 9
    let cfg := s.rd (Reg.SLICE_CFG fn g)
    let sl := Tab.get Slice.zero s.slice g
    decide (s.sliceReady g = true) &&
    true) (sliceFull) (0) : Bool) = true) := by
  refine ⟨?_, ?_, ?_, ?_, ?_, ?_, ?_, ?_, ?_, ?_, ?_⟩ <;> decide +kernel

theorem test_witness_LeaseCommandsComplete :
  (((fun (s : State) (fn : Nat) (seq : BitVec 16) =>
    decide ((Instr.acquire fn seq).wf = true) &&
    decide (s.reach fn = true) &&
    decide (s.hasPriv fn 0 = true) &&
    let t := s.leaseTimeout
    decide (t.lease.holder = none) &&
    true) (rich) (0) (0) : Bool) = true) ∧
  (((fun (s : State) (fn : Nat) (seq : BitVec 16) =>
    decide ((Instr.refresh fn seq).wf = true) &&
    decide (s.reach fn = true) &&
    decide (s.hasPriv fn 0 = true) &&
    let t := s.leaseTimeout
    decide (t.lease.holder = some fn) &&
    decide (seq = t.lease.seq + 1) &&
    true) (leased) (0) (1) : Bool) = true) ∧
  (((fun (s : State) (fn : Nat) (seq : BitVec 16) =>
    decide ((Instr.release fn seq).wf = true) &&
    decide (s.reach fn = true) &&
    decide (s.hasPriv fn 0 = true) &&
    let t := s.leaseTimeout
    decide (t.lease.holder = some fn) &&
    true) (leased) (0) (0) : Bool) = true) ∧
  (((fun (s : State) =>
    decide (s.mainUp = true) &&
    decide (s.leaseDue = true) &&
    true) ({ leased with lease.startCd2 := 0 }) : Bool) = true) ∧
  (((fun (s : State) (ch : Nat) (given : List HedgeRec) =>
    decide ((Instr.hedgeSet ch given).wf = true) &&
    decide (s.mainUp = true) &&
    match Tab.find s.host.taken ch with
    | some rq => (
    decide (rq.typ.toNat = 0x10) &&
    let m := s.msg ch ((hedgeWords given).flatMap wordBytes)
    let recs := hedgeRecs m
    decide (msgHas m (1 + 5 * fld (msgWord m 0) 0 16) = true) &&
    decide (s.chanPriv ch 0 = true) &&
    decide (s.lease.pend.isSome = false) &&
    decide (s.firstFault recs 0 = none) &&
    true)
    | _ => false) (asked 0 0x10 rich) (0) ([]) : Bool) = true) ∧
  (((fun (s : State) =>
    decide (s.mainUp = true) &&
    true) (rich) : Bool) = true) := by
  refine ⟨?_, ?_, ?_, ?_, ?_, ?_⟩ <;> decide +kernel

theorem test_witness_HedgeCommandsComplete :
  (((fun (s : State) (w : Wing) (e : Nat) =>
    decide ((Instr.elementOperate w e).wf = true) &&
    decide (s.mainUp = true) &&
    let x := s.elem w e
    let g := s.elSettings w e
    decide (tst (s.elCfg w e 0) 31 = true) &&
    decide ([1, 2, 5, 6, 7, 8].contains (s.elType w e) = true) &&
    decide (g.mode ≠ 0) &&
    decide ((x.pickup && x.drop.isNone && reached x.t g.delay) = true) &&
    true) (elemOn 1 { Elem.zero with pickup := true, t := 10000000 }) (.east) (0) : Bool) = true) ∧
  (((fun (s : State) (w : Wing) (e : Nat) =>
    decide ((Instr.elementResetDelayExpiry w e).wf = true) &&
    decide (s.mainUp = true) &&
    let x := s.elem w e
    let g := s.elSettings w e
    decide (tst (s.elCfg w e 0) 31 = true) &&
    decide ([1, 2, 5, 6, 7, 8].contains (s.elType w e) = true) &&
    decide (g.mode ≠ 0) &&
    decide ((match x.drop with | some d => x.pickup && reached d g.rd | none => false) = true) &&
    true) (elemOn 1 { Elem.zero with pickup := true, drop := some 10000000 }) (.east) (0) : Bool) = true) ∧
  (((fun (s : State) (w : Wing) (e : Nat) =>
    decide ((Instr.inverseTimeOperate w e).wf = true) &&
    decide (s.mainUp = true) &&
    let x := s.elem w e
    let g := s.elSettings w e
    decide (tst (s.elCfg w e 0) 31 = true) &&
    decide ([3, 4].contains (s.elType w e) = true) &&
    decide (g.mode ≠ 0) &&
    decide ((x.pickup && x.drop.isNone && decide (2 ^ 40 ≤ x.theta) && reached x.t g.aux) = true) &&
    true) (elemOn 3 { Elem.zero with pickup := true, theta := 2 ^ 41, t := 10000000 }) (.east) (0) : Bool) = true) ∧
  (((fun (s : State) (w : Wing) (e : Nat) =>
    decide ((Instr.inverseResetExpiry w e).wf = true) &&
    decide (s.mainUp = true) &&
    let x := s.elem w e
    let g := s.elSettings w e
    decide (tst (s.elCfg w e 0) 31 = true) &&
    decide ([3, 4].contains (s.elType w e) = true) &&
    decide (g.mode ≠ 0) &&
    decide ((g.reset == 1 && (match x.drop with | some d => x.pickup && reached d g.rd | none => false)) = true) &&
    true) ((elemOn 3 { Elem.zero with pickup := true, drop := some 10000000 }).wf (Reg.HEDGE_EL_SET .east 0 0) 24 2 1) (.east) (0) : Bool) = true) ∧
  (((fun (s : State) (w : Wing) (e : Nat) =>
    decide ((Instr.retrip w e).wf = true) &&
    decide (s.mainUp = true) &&
    let x := s.elem w e
    let g := s.elSettings w e
    decide (tst (s.elCfg w e 0) 31 = true) &&
    decide ([9].contains (s.elType w e) = true) &&
    decide (g.mode ≠ 0) &&
    decide ((x.pickup && g.aux != 0 && reached x.t g.aux) = true) &&
    true) (elemOn 9 { Elem.zero with pickup := true, t := 10000000 }) (.east) (0) : Bool) = true) ∧
  (((fun (s : State) (w : Wing) (e : Nat) =>
    decide ((Instr.bfOperate w e).wf = true) &&
    decide (s.mainUp = true) &&
    let x := s.elem w e
    let g := s.elSettings w e
    decide (tst (s.elCfg w e 0) 31 = true) &&
    decide ([9].contains (s.elType w e) = true) &&
    decide (g.mode ≠ 0) &&
    decide ((x.pickup && reached x.t g.delay) = true) &&
    true) (elemOn 9 { Elem.zero with pickup := true, t := 10000000 }) (.east) (0) : Bool) = true) ∧
  (((fun (s : State) (w : Wing) (e : Nat) =>
    decide ((Instr.inputInvalidBlock w e).wf = true) &&
    decide (s.mainUp = true) &&
    let x := s.elem w e
    let g := s.elSettings w e
    decide (tst (s.elCfg w e 0) 31 = true) &&
    decide ([1, 2, 3, 4, 5, 6, 7, 8, 9].contains (s.elType w e) = true) &&
    decide (g.mode ≠ 0) &&
    decide ((match x.invalid with | some d => !x.blocked && reached d (s.invBlock w) | none => false) = true) &&
    true) (elemOn 1 { Elem.zero with invalid := some 10000000 }) (.east) (0) : Bool) = true) ∧
  (((fun (s : State) (w : Wing) (t : Nat) =>
    decide ((Instr.freqHoldTimeout w t).wf = true) &&
    decide (s.mainUp = true) &&
    let x := s.freqRef w t
    match x.heldAt with
    | some a => (
    decide (x.held = true) &&
    decide (a + 500000000 ≤ s.clk.ns) &&
    true)
    | _ => false) ({ rich with hedge := ⟨{ rich.hedge.e with freq := [(0, ⟨0, true, false, some 0, []⟩)] }, rich.hedge.w⟩ }) (.east) (0) : Bool) = true) ∧
  (((fun (s : State) (w : Wing) (r : CmpRec) =>
    decide (s.mainUp = true) &&
    let o := s.hedge.at_ w.other
    match o.sent with
    | (no, x) :: q => (
    decide (x = r) &&
    decide (s.linkTurnOf w.other no false = true) &&
    true)
    | _ => false) ({ rich.wb (Reg.HEDGE_CMP_STAT .east) 31 true with hedge := ⟨rich.hedge.e, { rich.hedge.w with sent := [(0, aCmp)] }⟩ }) (.east) (aCmp) : Bool) = true) ∧
  (((fun (s : State) (w : Wing) (sec : Nat) =>
    decide ((Instr.comparisonRecordTimeout w sec).wf = true) &&
    decide (s.mainUp = true) &&
    let h := s.hedge.at_ w
    match h.own.find? (fun p => p.1.sec == sec) with
    | some p => (
    decide (p.2 + 100000 ≤ s.clk.ns) &&
    decide (s.comparing w = true) &&
    true)
    | _ => false) ({ rich.wb (Reg.HEDGE_CMP_STAT .east) 31 true with hedge := ⟨{ rich.hedge.e with own := [(aCmp, 0)] }, rich.hedge.w⟩ }) (.east) (0) : Bool) = true) ∧
  (((fun (s : State) (w : Wing) (chkDiff : Bool) =>
    decide (s.mainUp = true) &&
    true) (rich) (.east) (true) : Bool) = true) ∧
  (((fun (s : State) (w : Wing) (c : Nat) (lane : Nat) (size : Nat) =>
    decide ((Instr.hedgePhRead 0 w c lane size).wf = true) &&
    decide (size ≠ 8) &&
    decide (s.reach 0 = true) &&
    decide (s.dev.st ≠ .safeTalk) &&
    true) (rich) (.east) (0) (0) (4) : Bool) = true) := by
  refine ⟨?_, ?_, ?_, ?_, ?_, ?_, ?_, ?_, ?_, ?_, ?_, ?_⟩ <;> decide +kernel

theorem test_witness_TripCommandsComplete :
  (((fun (s : State) (t : Nat) =>
    decide ((Instr.tpMinExpiry t).wf = true) &&
    decide (s.mainUp = true) &&
    decide (s.dev.st.computes = true) &&
    true) (rich) (0) : Bool) = true) ∧
  (((fun (s : State) (n : Nat) (bit : Nat) (v : Bool) (q : GooseQual) =>
    decide ((Instr.engineSourceWrite n bit v q).wf = true) &&
    decide (s.mainUp = true) &&
    let w := engWing n
    let key := 160 * w.idx + bit
    decide (s.man.engBits.contains (n, bit) = true) &&
    true) ({ rich with man.engBits := [(0, 64)] }) (0) (64) (true) (⟨false, false, false⟩) : Bool) = true) ∧
  (((fun (s : State) (w : Wing) (n : Nat) =>
    decide ((Instr.gsiTalExpiry w n).wf = true) &&
    decide (s.mainUp = true) &&
    true) (rich) (.east) (0) : Bool) = true) ∧
  (((fun (s : State) (w : Wing) (bit : Nat) =>
    decide ((Instr.engHoldExpiry w bit).wf = true) &&
    decide (s.mainUp = true) &&
    let key := 160 * w.idx + bit
    match Tab.find s.trip.hold key with
    | some t0 => (
    decide (t0 + s.rf (Reg.TRIP_WING_CFG w) 16 7 * 1000000 ≤ s.clk.ns) &&
    true)
    | _ => false) ({ rich with trip.hold := [(64, 0)] }) (.east) (64) : Bool) = true) ∧
  (((fun (s : State) (fn : Nat) (seq : Half) (crc : Half) =>
    decide ((Instr.pulse fn seq crc).wf = true) &&
    decide (s.reach fn = true) &&
    decide (s.tripCheck fn seq crc = 0) &&
    true) (rich.wr (Reg.TRIP_CMD_CTL 0) 0x10000001) (0) (1) (crc16 (tripCrcBytes 0 0x10000001 1 0) 0xFFFF) : Bool) = true) ∧
  (((fun (s : State) (fn : Nat) (seq : Half) (crc : Half) =>
    decide ((Instr.clear fn seq crc).wf = true) &&
    decide (s.reach fn = true) &&
    decide (s.tripCheck fn seq crc = 0) &&
    true) (rich.wr (Reg.TRIP_CMD_CTL 0) 0x20000000) (0) (1) (crc16 (tripCrcBytes 0 0x20000000 1 0) 0xFFFF) : Bool) = true) ∧
  (((fun (s : State) (n : Nat) =>
    decide ((Instr.hcmdPulseEnd n).wf = true) &&
    decide (s.mainUp = true) &&
    match Tab.find s.trip.hcmd n with
    | some t => (
    decide (t ≤ s.clk.ns) &&
    true)
    | _ => false) ({ rich with trip.hcmd := [(0, 0)] }) (0) : Bool) = true) ∧
  (((fun (s : State) (pin : Wing × Fin 8) (low : Bool) =>
    decide (s.mainUp = true) &&
    true) (rich) ((.east, 0)) (true) : Bool) = true) ∧
  (((fun (s : State) (g : Nat) =>
    decide ((Instr.tripPubChange g).wf = true) &&
    decide (s.mainUp = true) &&
    match s.pubOf g with
    | some c => (
    decide (s.pubsLive = true) &&
    decide (s.members g ≠ (Tab.get TripPub.zero s.trip.pub g).mem) &&
    true)
    | _ => false) ({ rich with man.tripPubs := [(0, aTripPub)], trip.pub := [(0, { TripPub.zero with mem := 1 })] }) (0) : Bool) = true) ∧
  (((fun (s : State) (g : Nat) =>
    decide ((Instr.tripPubResend g).wf = true) &&
    decide (s.mainUp = true) &&
    match s.pubOf g with
    | some c => (
    match Tab.find s.trip.pub g with
    | some p => (
    decide (s.pubsLive = true) &&
    decide (p.next ≤ s.clk.ns) &&
    true)
    | _ => false)
    | _ => false) ({ rich with man.tripPubs := [(0, aTripPub)], trip.pub := [(0, TripPub.zero)] }) (0) : Bool) = true) := by
  refine ⟨?_, ?_, ?_, ?_, ?_, ?_, ?_, ?_, ?_, ?_⟩ <;> decide +kernel

theorem test_witness_RingCommandsComplete :
  (((fun (s : State) (r : Nat) =>
    decide ((Instr.caravanCutoff r).wf = true) &&
    decide (s.mainUp = true) &&
    decide (s.ringState r ≠ 0) &&
    decide ((s.rg r).cut = false) &&
    true) (ringUp) (0) : Bool) = true) ∧
  (((fun (s : State) (r : Nat) =>
    decide ((Instr.imageRotate r).wf = true) &&
    decide (s.mainUp = true) &&
    decide (s.ringState r ≠ 0) &&
    decide ((s.rg r).rotated = false) &&
    decide (s.imageDue r = true) &&
    true) ({ ringUp with ring := [(0, { Ring.zero with rotated := false, head := { Ring.zero.head with seen := some 0 }, tail := { Ring.zero.tail with seen := some 0 } })] }) (0) : Bool) = true) ∧
  (((fun (s : State) (r : Nat) (mramOk : Bool) =>
    decide ((Instr.ringStart r mramOk).wf = true) &&
    decide (s.mainUp = true) &&
    decide (s.dev.st = .configuring) &&
    decide (s.stewardRuns = true) &&
    true) ({ ringUp.wf (Reg.CQ_RING_STAT 0) 30 2 0 with dev.st := .configuring }) (0) (true) : Bool) = true) ∧
  (((fun (s : State) (r : Nat) (w : Wing) (sched : List (Word × Word)) =>
    decide ((Instr.epochCommit r w sched).wf = true) &&
    decide (s.mainUp = true) &&
    decide (s.stewUp w = true) &&
    true) ((ringUp.wf (Reg.CQ_APPLY_LEAD 0) 0 16 0xFFFF).wr (Reg.CQ_PERIOD_NS 0) 1000000) (0) (.east) ([(0xE9000040, 0), (0xEC000005, 0)]) : Bool) = true) ∧
  (let s : State := ringUp.wb (Reg.CQ_RING_STAT 0) 22 true;
    (Instr.epochSwap 0).wf = true ∧ s.mainUp = true ∧ s.ringState 0 ≠ 0 ∧ s.swapDue 0 = true ∧
      (match s.cqDue 0 with
      | some t => decide (t ≤ s.wingT (ringWing 0))
      | none => false) = true) ∧
  (((fun (s : State) (r : Nat) =>
    decide ((Instr.triggerSourceStop r).wf = true) &&
    decide (s.mainUp = true) &&
    let x := s.rg r
    decide (s.ringState r ≠ 0) &&
    decide (s.trgRing r = true) &&
    decide (x.trgLast.isSome = true) &&
    decide (x.trgStop = false) &&
    true) ({ ringUp.wb (Reg.CQ_RING_CTRL 0) 27 true with ring := [(0, { Ring.zero with trgLast := some 0, trgStop := false })] }) (0) : Bool) = true) ∧
  (((fun (s : State) (r : Nat) =>
    decide ((Instr.caravanDepart r).wf = true) &&
    decide (s.mainUp = true) &&
    true) (rich) (0) : Bool) = true) ∧
  (((fun (s : State) (r : Nat) (lane : Nat) (size : Nat) =>
    decide ((Instr.cqCycleRead 0 r lane size).wf = true) &&
    decide (size ≠ 8) &&
    decide (s.reach 0 = true) &&
    decide (s.dev.st ≠ .safeTalk) &&
    true) (rich) (0) (0) (4) : Bool) = true) :=
  ⟨(by decide +kernel), (by decide +kernel), (by decide +kernel), (by decide +kernel), (⟨rfl, by decide +kernel, by decide +kernel, by decide +kernel, by decide +kernel⟩), (by decide +kernel), (by decide +kernel), (by decide +kernel)⟩

theorem test_witness_CaravanCommandsComplete :
  (((fun (s : State) (r : Nat) (tail : Bool) (c : Caravan) =>
    decide ((Instr.caravanReceive r tail c).wf = true) &&
    decide (s.mainUp = true) &&
    decide (s.ringState r ≠ 0) &&
    true) (ringUp) (0) (true) (aCaravan) : Bool) = true) ∧
  (((fun (s : State) (r : Nat) (tail : Bool) =>
    decide ((Instr.caravanMissing r tail).wf = true) &&
    decide (s.mainUp = true) &&
    decide (s.ringState r ≠ 0) &&
    match (laneOf (s.rg r) tail).soc with
    | some a => (
    decide (s.cqPassed r 1 a 1000 = true) &&
    true)
    | _ => false) ({ ringUp with ring := [(0, { Ring.zero with head := { Ring.zero.head with soc := some 0 }, tail := { Ring.zero.tail with soc := some 0 } })] }) (0) (true) : Bool) = true) ∧
  (((fun (s : State) (r : Nat) (tail : Bool) =>
    decide ((Instr.laneSignalLoss r tail).wf = true) &&
    decide (s.mainUp = true) &&
    decide (s.rb (Reg.CQ_RING_CTRL r) 31 = true) &&
    true) (ringUp) (0) (true) : Bool) = true) ∧
  (((fun (s : State) (r : Nat) (n : Nat) =>
    decide ((Instr.nodeLost r n).wf = true) &&
    decide (s.mainUp = true) &&
    let x := Tab.get RNode.zero (s.rg r).node n
    let v := s.rf (Reg.CQ_NODE_STAT r n) 29 3
    decide (((v == 2 || v == 3)) = true) &&
    decide (3 ≤ x.missA) &&
    decide (3 ≤ x.missB) &&
    true) ({ ringUp with ring := [(0, { Ring.zero with node := [(0, ⟨3, 3, none, 0, none⟩)] })] }.wf (Reg.CQ_NODE_STAT 0 0) 29 3 2) (0) (0) : Bool) = true) ∧
  (((fun (s : State) (r : Nat) =>
    decide ((Instr.joinAnswer r).wf = true) &&
    decide (s.mainUp = true) &&
    let x := s.rg r
    match x.joins with
    | (eui, tagBad) :: t => (
    let s1 := s.setRg r { x with joins := t }
    decide (s.ringState r ≠ 0) &&
    true)
    | _ => false) ({ ringUp with ring := [(0, { Ring.zero with joins := [(0, false)] })] }) (0) : Bool) = true) ∧
  (((fun (s : State) (r : Nat) (tail : Bool) =>
    decide ((Instr.echoReqSend r tail).wf = true) &&
    decide (s.mainUp = true) &&
    decide (s.rb (Reg.CQ_RING_CTRL r) 31 = true) &&
    decide (s.echoGap r tail = true) &&
    true) (ringUp.wf (Reg.CQ_RING_STAT 0) 30 2 0) (0) (true) : Bool) = true) ∧
  (((fun (s : State) (r : Nat) (tail : Bool) (x : LineSet) (turn : BitVec 24) =>
    decide ((Instr.echoReqReceive r tail x turn).wf = true) &&
    decide (s.mainUp = true) &&
    match readSet (s.isC10 r) x with
    | some (.echoReq id) => (
    decide (s.rb (Reg.CQ_RING_CTRL r) 31 = true) &&
    true)
    | _ => false) (ringUp) (0) (true) (lineSet false (.echoReq 0)) (0) : Bool) = true) ∧
  (((fun (s : State) (r : Nat) (tail : Bool) (x : LineSet) (ns : Nat) (sub : Fin 16) =>
    decide ((Instr.echoRspReceive r tail x ns sub).wf = true) &&
    decide (s.mainUp = true) &&
    let l := laneOf (s.rg r) tail
    match readSet (s.isC10 r) x with
    | some (.echoRsp id turn) => (
    match l.echo with
    | some (i, at_) => (
    decide (i = id) &&
    decide (s.clk.ns ≤ at_ + 10000) &&
    true)
    | _ => false)
    | _ => false) (echoed) (0) (false) (lineSet false (.echoRsp 0 0)) (0) (0) : Bool) = true) ∧
  (((fun (s : State) (r : Nat) (tail : Bool) =>
    decide ((Instr.echoTimeout r tail).wf = true) &&
    decide (s.mainUp = true) &&
    match (laneOf (s.rg r) tail).echo with
    | some (z1, at_) => (
    decide (at_ + 10000 ≤ s.clk.ns) &&
    true)
    | _ => false) ({ echoed with clk.ns := 20000000010000 }) (0) (false) : Bool) = true) ∧
  (((fun (s : State) (fn : Nat) (r : Nat) =>
    decide ((Instr.unwrap fn r).wf = true) &&
    let x := s.rg r
    decide (s.ownerIn fn = true) &&
    decide (s.pCfg fn = true) &&
    decide ((s.rg r).busy.isSome = false) &&
    decide (s.rb (Reg.CQ_RING_STAT r) 22 = false) &&
    decide (s.ringState r = 2) &&
    decide ((if s.rb (Reg.CQ_RING_STAT r) 28 then 0 else 3) = 0) &&
    true) (ringUp.wb (Reg.CQ_RING_STAT 0) 28 true) (0) (0) : Bool) = true) ∧
  (((fun (s : State) (fn : Nat) (r : Nat) =>
    decide ((Instr.restore fn r).wf = true) &&
    let x := s.rg r
    let deny := if !s.rb (Reg.CQ_RING_STAT r) 27 then 3 else match x.iso with
      | some sp => if x.banned.contains sp then 4 else 0
      | none => 0
    decide (s.ownerIn fn = true) &&
    decide (s.pCfg fn = true) &&
    decide ((s.rg r).busy.isSome = false) &&
    decide (s.rb (Reg.CQ_RING_STAT r) 22 = false) &&
    decide (s.ringState r = 2) &&
    decide (deny = 0) &&
    true) ({ ringUp.wb (Reg.CQ_RING_STAT 0) 27 true with ring := [(0, { Ring.zero with iso := some (0, 0) })] }) (0) (0) : Bool) = true) ∧
  (((fun (s : State) (fn : Nat) (r : Nat) =>
    decide ((Instr.sleep fn r).wf = true) &&
    decide (s.ownerIn fn = true) &&
    decide (s.pCfg fn = true) &&
    decide ((s.rg r).busy.isSome = false) &&
    decide (s.rb (Reg.CQ_RING_STAT r) 22 = false) &&
    decide (s.ringState r = 2) &&
    true) (ringUp) (0) (0) : Bool) = true) ∧
  (((fun (s : State) (fn : Nat) (r : Nat) =>
    decide ((Instr.wake fn r).wf = true) &&
    decide (s.ownerIn fn = true) &&
    decide (s.pCfg fn = true) &&
    decide ((s.rg r).busy.isSome = false) &&
    decide (s.rb (Reg.CQ_RING_STAT r) 22 = false) &&
    decide (s.ringState r = 2) &&
    decide (((s.bankOf r (s.rg r).bank).any (fun e => entTyp e == 5)) = true) &&
    true) (ringUp.wr (Reg.CQ_SCHED 0 0 0 0) 0x94000000) (0) (0) : Bool) = true) ∧
  (((fun (s : State) (fn : Nat) (r : Nat) (node : Nat) =>
    decide ((Instr.nodeReset fn r node).wf = true) &&
    decide (s.ownerIn fn = true) &&
    decide (s.pCfg fn = true) &&
    decide ((s.rg r).busy.isSome = false) &&
    decide (s.rb (Reg.CQ_RING_STAT r) 22 = false) &&
    decide (s.ringState r = 2) &&
    decide ((s.nodeArg r node) = 0) &&
    true) (ringUp) (0) (0) (0) : Bool) = true) ∧
  (((fun (s : State) (fn : Nat) (r : Nat) (node : Nat) =>
    decide ((Instr.clearFalseWake fn r node).wf = true) &&
    decide (s.ownerIn fn = true) &&
    decide (s.pCfg fn = true) &&
    decide ((s.rg r).busy.isSome = false) &&
    decide (s.rb (Reg.CQ_RING_STAT r) 22 = false) &&
    decide (s.ringState r = 2) &&
    decide ((s.nodeArg r node) = 0) &&
    true) (ringUp) (0) (0) (0) : Bool) = true) ∧
  (((fun (s : State) (r : Nat) =>
    decide ((Instr.applyInstant r).wf = true) &&
    decide (s.mainUp = true) &&
    true) (rich) (0) : Bool) = true) ∧
  (((fun (s : State) (r : Nat) (tail : Bool) =>
    decide ((Instr.laneSignalReturn r tail).wf = true) &&
    decide (s.mainUp = true) &&
    decide (s.rb (Reg.CQ_RING_CTRL r) 31 = true) &&
    true) (ringUp) (0) (true) : Bool) = true) := by
  refine ⟨?_, ?_, ?_, ?_, ?_, ?_, ?_, ?_, ?_, ?_, ?_, ?_, ?_, ?_, ?_, ?_, ?_⟩ <;> decide +kernel

theorem test_witness_BridgeCommandsComplete :
  (((fun (s : State) (fn : Nat) (off : Nat) (size : Nat) =>
    decide ((Instr.bar2Read fn off size).wf = true) &&
    decide (s.reach fn = true) &&
    true) (rich) (0) (0) (2) : Bool) = true) ∧
  (((fun (s : State) (fn : Nat) (off : Nat) (size : Nat) (val : BitVec 64) =>
    decide ((Instr.bar2Write fn off size val).wf = true) &&
    decide (s.reach fn = true) &&
    decide (size ≠ 1) &&
    true) (rich) (0) (0) (2) (0) : Bool) = true) ∧
  (((fun (s : State) (fn : Nat) (val : Word) =>
    decide ((Instr.brSnapWrite fn val).wf = true) &&
    decide (s.reach fn = true) &&
    true) (rich) (0) (0) : Bool) = true) ∧
  (((fun (s : State) (fn : Nat) (node : Nat) =>
    decide ((Instr.outHoldSet fn node).wf = true) &&
    decide (s.reach fn = true) &&
    true) (rich) (0) (0) : Bool) = true) ∧
  (((fun (s : State) (fn : Nat) =>
    decide ((Instr.outHoldClear fn).wf = true) &&
    decide (s.reach fn = true) &&
    true) (rich) (0) : Bool) = true) ∧
  (((fun (s : State) (fn : Nat) =>
    decide ((Instr.outHoldExpiry fn).wf = true) &&
    match Tab.find s.bridge.holdAt fn with
    | some t => (
    decide (s.cqPassed (s.rf (Reg.BR_OUT_HOLD fn) 0 6 / 16) 4 t 0 = true) &&
    true)
    | _ => false) ({ rich with bridge.holdAt := [(0, 0)] }) (0) : Bool) = true) ∧
  (((fun (s : State) (fn : Nat) (tail : Word) =>
    decide ((Instr.sqDoorbell fn tail).wf = true) &&
    decide (s.reach fn = true) &&
    true) (rich) (0) (0) : Bool) = true) ∧
  (((fun (s : State) (who : Nat) (e0 : List Word) =>
    decide ((Instr.read who e0).wf = true) &&
    decide (s.mainUp = true) &&
    let e := s.sqEntry who e0
    decide (s.mayFetch who = true) &&
    decide (sqOp e ≠ 2) &&
    true) (sqOn) (0) ([]) : Bool) = true) ∧
  (((fun (s : State) (who : Nat) (e0 : List Word) (data : List Half) =>
    decide ((Instr.write who e0 data).wf = true) &&
    decide (s.mainUp = true) &&
    let e := s.sqEntry who e0
    decide (s.mayFetch who = true) &&
    decide (sqOp e ≠ 1) &&
    true) (sqOn) (0) ([]) ([]) : Bool) = true) ∧
  (((fun (s : State) (node : Nat) (rseq : BitVec 11) =>
    decide ((Instr.ack node rseq).wf = true) &&
    decide (s.mainUp = true) &&
    let q := s.brQueue node
    match q.find? (fun x => !x.acked) with
    | some f => (
    let d := (rseq - f.rseq).toNat
    let sent := (q.filter (fun x => x.sent && !x.acked)).length
    decide (d < sent) &&
    true)
    | _ => false) ({ rich with bridge.queue := [(0, [{ aReq with sent := true }])] }) (0) (0) : Bool) = true) ∧
  (((fun (s : State) (node : Nat) (rseq : BitVec 11) (tag : BitVec 11) (status : BitVec 4) (data : List Half) =>
    decide ((Instr.rdata node rseq tag status data).wf = true) &&
    decide (s.mainUp = true) &&
    true) (rich) (0) (0) (0) (0) ([]) : Bool) = true) ∧
  (((fun (s : State) (node : Nat) =>
    decide ((Instr.acycResend node).wf = true) &&
    decide (s.mainUp = true) &&
    decide (8 ≤ Tab.get 0 s.bridge.ackAge node) &&
    true) ({ rich with bridge.ackAge := [(0, 8)] }) (0) : Bool) = true) ∧
  (((fun (s : State) (node : Nat) =>
    decide ((Instr.acycTimeout node).wf = true) &&
    decide (s.mainUp = true) &&
    let q := s.brQueue node
    let late (x : BReq) : Bool := !x.acked && !x.timed && decide (256 ≤ x.age)
    decide (s.nodeState node = 2) &&
    decide (q.any late = true) &&
    true) ({ ringUp.wf (Reg.CQ_NODE_STAT 0 0) 29 3 2 with bridge.queue := [(0, [{ aReq with sent := true, age := 256 }])] }) (0) : Bool) = true) ∧
  (((fun (s : State) (who : Nat) =>
    decide ((Instr.completionWrite who).wf = true) &&
    decide (s.mainUp = true) &&
    let next (x : BResp) : Bool := x.who == who && (match x.seq with
      | some q => !s.completesLater who (raNode x.addr) q
      | none => true)
    match s.bridge.resp.find? next with
    | some x => (
    decide (s.cqFree who = true) &&
    match s.complServe who (16 + 2 * x.data.length) with
    | some t => (
    true)
    | _ => false)
    | _ => false) ({ sqOn with bridge.resp := [aResp] }) (0) : Bool) = true) ∧
  (((fun (s : State) (who : Nat) =>
    decide ((Instr.responseDiscard who).wf = true) &&
    decide (s.mainUp = true) &&
    match s.bridge.resp.find? (fun x => x.who == who && x.tagged) with
    | some x => (
    decide (x.at_ + s.tdNs ≤ s.clk.ns) &&
    true)
    | _ => false) ({ rich with bridge.resp := [aResp] }) (0) : Bool) = true) := by
  refine ⟨?_, ?_, ?_, ?_, ?_, ?_, ?_, ?_, ?_, ?_, ?_, ?_, ?_, ?_, ?_⟩ <;> decide +kernel

theorem test_witness_SwitchCommandsComplete :
  (((fun (s : State) (p : Nat) (x : Arrival) =>
    decide ((Instr.frameReceive p x).wf = true) &&
    decide (s.mainUp = true) &&
    true) (rich) (0) (⟨aFrame, 0, 0⟩) : Bool) = true) ∧
  (((fun (s : State) (p : Nat) (quanta : Half) =>
    decide ((Instr.pauseReceive p quanta).wf = true) &&
    decide (s.mainUp = true) &&
    decide (s.macOn p = true) &&
    decide (s.macUp p = true) &&
    true) (macUp0) (0) (0) : Bool) = true) ∧
  (((fun (s : State) (p : Nat) (vec : Octet) (quanta : List Half) =>
    decide ((Instr.pfcReceive p vec quanta).wf = true) &&
    decide (s.mainUp = true) &&
    decide (s.macOn p = true) &&
    decide (s.macUp p = true) &&
    true) (macUp0) (0) (0) ([]) : Bool) = true) ∧
  (((fun (s : State) =>
    decide (s.mainUp = true) &&
    match s.sw.learn with
    | (vid, a, port, pr) :: t => (
    true)
    | _ => false) ({ rich with sw.learn := [(0, 0, 0, false)] }) : Bool) = true) ∧
  (((fun (s : State) (vid : Nat) (mac : BitVec 48) =>
    decide ((Instr.moveLockEnd vid mac).wf = true) &&
    decide (s.mainUp = true) &&
    match Tab.find s.sw.fdb (fdbKey vid mac) with
    | some e => (
    match e.locked with
    | some t => (
    decide (t + 10000000000 ≤ s.clk.ns) &&
    true)
    | _ => false)
    | _ => false) ({ rich with sw.fdb := [(fdbKey 0 0, ⟨0, false, some 0, 0, 0, 0, 0⟩)] }) (0) (0) : Bool) = true) ∧
  (((fun (s : State) (vid : Nat) (mac : BitVec 48) =>
    decide ((Instr.macAgeOut vid mac).wf = true) &&
    decide (s.mainUp = true) &&
    match Tab.find s.sw.fdb (fdbKey vid mac) with
    | some e => (
    decide (e.last + s.ageNs ≤ s.clk.ns) &&
    true)
    | _ => false) ({ rich with sw.fdb := [(fdbKey 0 0, ⟨0, false, none, 0, 0, 0, 0⟩)] }) (0) (0) : Bool) = true) ∧
  (((fun (s : State) (k : Nat) (dir : Nat) =>
    decide ((Instr.entryForget k dir).wf = true) &&
    decide (s.mainUp = true) &&
    match Tab.get [] s.sw.dup (2 * k + dir) with
    | e :: t => (
    decide (e.at_ + (s.forgetNs k).1 ≤ s.clk.ns) &&
    true)
    | _ => false) ({ rich with sw.dup := [(0, [⟨0, 0, 0, false, false⟩])] }) (0) (0) : Bool) = true) ∧
  (((fun (s : State) (k : Nat) (mac : BitVec 48) =>
    decide ((Instr.nodeForget k mac).wf = true) &&
    decide (s.mainUp = true) &&
    true) (rich) (0) (0) : Bool) = true) ∧
  (((fun (s : State) (fn : Nat) (val : Word) =>
    decide ((Instr.fdbLookup fn val).wf = true) &&
    decide (s.ownerIn fn = true) &&
    true) (rich) (0) (0) : Bool) = true) ∧
  (((fun (s : State) (p : Nat) (j : Nat) (lane : Nat) (size : Nat) =>
    decide ((Instr.macCounterRead 0 p j lane size).wf = true) &&
    decide (size ≠ 8) &&
    decide (s.reach 0 = true) &&
    decide (s.dev.st ≠ .safeTalk) &&
    true) (rich) (0) (0) (0) (4) : Bool) = true) := by
  refine ⟨?_, ?_, ?_, ?_, ?_, ?_, ?_, ?_, ?_, ?_⟩ <;> decide +kernel

theorem test_witness_TransmitCommandsComplete :
  (((fun (s : State) (p : Nat) (cls : Option Nat) =>
    decide ((Instr.pauseExpiry p cls).wf = true) &&
    decide (s.mainUp = true) &&
    true) (rich) (0) (none) : Bool) = true) ∧
  (((fun (s : State) (p : Nat) (pcp : Nat) =>
    decide ((Instr.pauseSend p pcp).wf = true) &&
    decide (s.mainUp = true) &&
    let pfc := s.rb (Reg.MAC_CFG p) 21
    decide (s.macOn p = true) &&
    decide (s.rb (Reg.MAC_CFG p) 22 = true) &&
    decide (pfc = decide (pcp < 8)) &&
    true) ((macUp0.wb (Reg.MAC_CFG 0) 22 true).wb (Reg.MAC_CFG 0) 21 true) (0) (0) : Bool) = true) ∧
  (((fun (s : State) (p : Nat) =>
    decide ((Instr.linkDown p).wf = true) &&
    decide (s.mainUp = true) &&
    decide (s.macOn p = true) &&
    decide (s.macUp p = true) &&
    true) (macUp0) (0) : Bool) = true) ∧
  (((fun (s : State) (p : Nat) (speed : BitVec 2) (anDone : Bool) =>
    decide ((Instr.linkUp p speed anDone).wf = true) &&
    decide (s.mainUp = true) &&
    decide (s.macOn p = true) &&
    true) (macUp0) (0) (0) (true) : Bool) = true) ∧
  (((fun (s : State) =>
    decide (s.mainUp = true) &&
    true) (rich) : Bool) = true) ∧
  (((fun (s : State) (p : Nat) (ecc : Bool) (begun : Bool) (phase : Nat) =>
    decide ((Instr.frameTransmit p ecc begun phase).wf = true) &&
    decide (s.mainUp = true) &&
    match Tab.get [] s.sw.staged p with
    | (z1, x) :: t => (
    decide (Tab.get 0 s.sw.wire p ≤ s.clk.ns) &&
    decide ((Tab.find s.sw.pause p).isSome = false) &&
    true)
    | _ => false) ({ macUp0 with sw.staged := [(0, [(0, { src := 0, pcp := 0, cells := 1, frame := aFrame, shared := 0, id := 0, buf := none })])] }) (0) (true) (true) (0) : Bool) = true) := by
  refine ⟨?_, ?_, ?_, ?_, ?_, ?_⟩ <;> decide +kernel

theorem test_witness_CoprocessorCommandsComplete :
  (((fun (s : State) (n : Nat) (st : CopStart) =>
    decide ((Instr.crc n st).wf = true) &&
    decide (s.mainUp = true) &&
    decide (s.copIssues n st = true) &&
    true) (rich) (0) (.sp 0) : Bool) = true) ∧
  (((fun (s : State) (n : Nat) (st : CopStart) =>
    decide ((Instr.shaBlock n st).wf = true) &&
    decide (s.mainUp = true) &&
    decide (s.copIssues n st = true) &&
    true) (rich) (0) (.sp 0) : Bool) = true) ∧
  (((fun (s : State) (n : Nat) (st : CopStart) =>
    decide ((Instr.gmacCheck n st).wf = true) &&
    decide (s.mainUp = true) &&
    decide (s.copIssues n st = true) &&
    true) (rich) (0) (.sp 0) : Bool) = true) ∧
  (((fun (s : State) (n : Nat) (st : CopStart) =>
    decide ((Instr.gmacSign n st).wf = true) &&
    decide (s.mainUp = true) &&
    decide (s.copIssues n st = true) &&
    true) (rich) (0) (.sp 0) : Bool) = true) ∧
  (((fun (s : State) (n : Nat) (st : CopStart) =>
    decide ((Instr.gcmSeal n st).wf = true) &&
    decide (s.mainUp = true) &&
    decide (s.copIssues n st = true) &&
    true) (rich) (0) (.sp 0) : Bool) = true) ∧
  (((fun (s : State) (n : Nat) (st : CopStart) =>
    decide ((Instr.gcmOpen n st).wf = true) &&
    decide (s.mainUp = true) &&
    decide (s.copIssues n st = true) &&
    true) (rich) (0) (.sp 0) : Bool) = true) ∧
  (((fun (s : State) (n : Nat) (st : CopStart) =>
    decide ((Instr.keyLoad n st).wf = true) &&
    decide (s.mainUp = true) &&
    decide (s.copIssues n st = true) &&
    true) (rich) (0) (.sp 0) : Bool) = true) ∧
  (((fun (s : State) (n : Nat) (st : CopStart) =>
    decide ((Instr.rng n st).wf = true) &&
    decide (s.mainUp = true) &&
    decide (s.copIssues n st = true) &&
    true) (rich) (0) (.sp 0) : Bool) = true) ∧
  (((fun (s : State) (n : Nat) (p : Proc) =>
    decide ((Instr.copComplete n p).wf = true) &&
    decide (s.mainUp = true) &&
    match (s.cop n p).op with
    | some (k, res, st, stores) => (
    true)
    | _ => false) ({ rich with eng := [(0, { Engine.zero with fp := { Engine.zero.fp with cop := { Engine.zero.fp.cop with op := some (1, [], 1, []) } } })] }) (0) (.fp) : Bool) = true) := by
  refine ⟨?_, ?_, ?_, ?_, ?_, ?_, ?_, ?_, ?_⟩ <;> decide +kernel

theorem test_witness_EngineCommandsComplete :
  (((fun (s : State) (n : Nat) (flashOk : Bool) =>
    decide ((Instr.engineLoad n flashOk).wf = true) &&
    decide (s.mainUp = true) &&
    let w := engWing n
    decide (s.dev.stew.at_ w = true) &&
    decide (s.dev.core.at_ w = false) &&
    decide (s.peState n = 0) &&
    decide ((s.dev.st.serving || s.dev.st == .configuring) = true) &&
    true) (rich.wf (Reg.PE_STAT 0) 29 3 0) (0) (true) : Bool) = true) ∧
  (((fun (s : State) (n : Nat) =>
    decide ((Instr.engineRestart n).wf = true) &&
    decide (s.mainUp = true) &&
    let e := s.en n
    match e.pkg with
    | some k => (
    let recent := e.restarts.filter (fun t => decide (e.trapAt < t + 10000000000))
    decide (s.peState n = 3) &&
    decide (k.autoRestart = true) &&
    decide (s.stewUp (engWing n) = true) &&
    decide (¬ (s.clk.ns < e.trapAt + 1000000)) &&
    decide (¬ (3 ≤ recent.length)) &&
    true)
    | _ => false) (rich.wf (Reg.PE_STAT 0) 29 3 3) (0) : Bool) = true) ∧
  (((fun (s : State) (n : Nat) =>
    decide ((Instr.watchdog n).wf = true) &&
    decide (s.mainUp = true) &&
    match (s.en n).pkg with
    | some k => (
    decide (k.wdtMs ≠ 0) &&
    decide (s.peState n = 2) &&
    decide (¬ (s.clk.ns < (s.en n).kickAt + k.wdtMs * 1000000)) &&
    true)
    | _ => false) (rich) (0) : Bool) = true) ∧
  (((fun (s : State) (n : Nat) (p : EngStore) =>
    decide ((Instr.wdtKick n p).wf = true) &&
    decide (s.mainUp = true) &&
    decide (s.storeIssues n p = true) &&
    true) (rich) (0) (.spAbs 0 0) : Bool) = true) ∧
  (((fun (s : State) (n : Nat) (p : EngStore) =>
    decide ((Instr.persEvent n p).wf = true) &&
    decide (s.mainUp = true) &&
    decide (s.storeIssues n p = true) &&
    true) (rich) (0) (.spAbs 0 0) : Bool) = true) ∧
  (((fun (s : State) (fn : Nat) (n : Nat) (val : Word) =>
    decide ((Instr.peDbankAddrWrite fn n val).wf = true) &&
    decide (s.ownerIn fn = true) &&
    true) (rich) (0) (0) (0) : Bool) = true) := by
  refine ⟨?_, ?_, ?_, ?_, ?_, ?_⟩ <;> decide +kernel

theorem test_witness_FpArithmeticComplete :
  (((fun (s : State) (n : Nat) (alu : Nat) (m : FpMv) =>
    decide ((Instr.fpAdd n alu m).wf = true) &&
    decide (s.mainUp = true) &&
    decide (s.fpIssues n m.guard m.long m.src (18 + 10 * alu) = true) &&
    true) (rich) (0) (0) (⟨.imm 1, .always, false⟩) : Bool) = true) ∧
  (((fun (s : State) (n : Nat) (alu : Nat) (m : FpMv) =>
    decide ((Instr.fpSub n alu m).wf = true) &&
    decide (s.mainUp = true) &&
    decide (s.fpIssues n m.guard m.long m.src (19 + 10 * alu) = true) &&
    true) (rich) (0) (0) (⟨.imm 1, .always, false⟩) : Bool) = true) ∧
  (((fun (s : State) (n : Nat) (alu : Nat) (m : FpMv) =>
    decide ((Instr.fpAnd n alu m).wf = true) &&
    decide (s.mainUp = true) &&
    decide (s.fpIssues n m.guard m.long m.src (20 + 10 * alu) = true) &&
    true) (rich) (0) (0) (⟨.imm 1, .always, false⟩) : Bool) = true) ∧
  (((fun (s : State) (n : Nat) (alu : Nat) (m : FpMv) =>
    decide ((Instr.fpOr n alu m).wf = true) &&
    decide (s.mainUp = true) &&
    decide (s.fpIssues n m.guard m.long m.src (21 + 10 * alu) = true) &&
    true) (rich) (0) (0) (⟨.imm 1, .always, false⟩) : Bool) = true) ∧
  (((fun (s : State) (n : Nat) (alu : Nat) (m : FpMv) =>
    decide ((Instr.fpXor n alu m).wf = true) &&
    decide (s.mainUp = true) &&
    decide (s.fpIssues n m.guard m.long m.src (22 + 10 * alu) = true) &&
    true) (rich) (0) (0) (⟨.imm 1, .always, false⟩) : Bool) = true) ∧
  (((fun (s : State) (n : Nat) (alu : Nat) (m : FpMv) =>
    decide ((Instr.fpAndn n alu m).wf = true) &&
    decide (s.mainUp = true) &&
    decide (s.fpIssues n m.guard m.long m.src (23 + 10 * alu) = true) &&
    true) (rich) (0) (0) (⟨.imm 1, .always, false⟩) : Bool) = true) ∧
  (((fun (s : State) (n : Nat) (alu : Nat) (m : FpMv) =>
    decide ((Instr.fpAdc n alu m).wf = true) &&
    decide (s.mainUp = true) &&
    decide (s.fpIssues n m.guard m.long m.src (24 + 10 * alu) = true) &&
    true) (rich) (0) (0) (⟨.imm 1, .always, false⟩) : Bool) = true) ∧
  (((fun (s : State) (n : Nat) (alu : Nat) (m : FpMv) =>
    decide ((Instr.fpSbb n alu m).wf = true) &&
    decide (s.mainUp = true) &&
    decide (s.fpIssues n m.guard m.long m.src (25 + 10 * alu) = true) &&
    true) (rich) (0) (0) (⟨.imm 1, .always, false⟩) : Bool) = true) ∧
  (((fun (s : State) (n : Nat) (m : FpMv) =>
    decide ((Instr.fpShl n m).wf = true) &&
    decide (s.mainUp = true) &&
    decide (s.fpIssues n m.guard m.long m.src 38 = true) &&
    true) (rich) (0) (⟨.imm 1, .always, false⟩) : Bool) = true) ∧
  (((fun (s : State) (n : Nat) (m : FpMv) =>
    decide ((Instr.fpShr n m).wf = true) &&
    decide (s.mainUp = true) &&
    decide (s.fpIssues n m.guard m.long m.src 39 = true) &&
    true) (rich) (0) (⟨.imm 1, .always, false⟩) : Bool) = true) ∧
  (((fun (s : State) (n : Nat) (m : FpMv) =>
    decide ((Instr.fpSar n m).wf = true) &&
    decide (s.mainUp = true) &&
    decide (s.fpIssues n m.guard m.long m.src 40 = true) &&
    true) (rich) (0) (⟨.imm 1, .always, false⟩) : Bool) = true) ∧
  (((fun (s : State) (n : Nat) (m : FpMv) =>
    decide ((Instr.fpRol n m).wf = true) &&
    decide (s.mainUp = true) &&
    decide (s.fpIssues n m.guard m.long m.src 41 = true) &&
    true) (rich) (0) (⟨.imm 1, .always, false⟩) : Bool) = true) ∧
  (((fun (s : State) (n : Nat) (m : FpMv) =>
    decide ((Instr.fpRor n m).wf = true) &&
    decide (s.mainUp = true) &&
    decide (s.fpIssues n m.guard m.long m.src 42 = true) &&
    true) (rich) (0) (⟨.imm 1, .always, false⟩) : Bool) = true) ∧
  (((fun (s : State) (n : Nat) (m : FpMv) =>
    decide ((Instr.fpSwap n m).wf = true) &&
    decide (s.mainUp = true) &&
    decide (s.fpIssues n m.guard m.long m.src 43 = true) &&
    true) (rich) (0) (⟨.imm 1, .always, false⟩) : Bool) = true) ∧
  (((fun (s : State) (n : Nat) (m : FpMv) =>
    decide ((Instr.fpEq n m).wf = true) &&
    decide (s.mainUp = true) &&
    decide (s.fpIssues n m.guard m.long m.src 46 = true) &&
    true) (rich) (0) (⟨.imm 1, .always, false⟩) : Bool) = true) ∧
  (((fun (s : State) (n : Nat) (m : FpMv) =>
    decide ((Instr.fpNe n m).wf = true) &&
    decide (s.mainUp = true) &&
    decide (s.fpIssues n m.guard m.long m.src 47 = true) &&
    true) (rich) (0) (⟨.imm 1, .always, false⟩) : Bool) = true) ∧
  (((fun (s : State) (n : Nat) (m : FpMv) =>
    decide ((Instr.fpLtu n m).wf = true) &&
    decide (s.mainUp = true) &&
    decide (s.fpIssues n m.guard m.long m.src 48 = true) &&
    true) (rich) (0) (⟨.imm 1, .always, false⟩) : Bool) = true) ∧
  (((fun (s : State) (n : Nat) (m : FpMv) =>
    decide ((Instr.fpLeu n m).wf = true) &&
    decide (s.mainUp = true) &&
    decide (s.fpIssues n m.guard m.long m.src 49 = true) &&
    true) (rich) (0) (⟨.imm 1, .always, false⟩) : Bool) = true) ∧
  (((fun (s : State) (n : Nat) (m : FpMv) =>
    decide ((Instr.fpLt n m).wf = true) &&
    decide (s.mainUp = true) &&
    decide (s.fpIssues n m.guard m.long m.src 50 = true) &&
    true) (rich) (0) (⟨.imm 1, .always, false⟩) : Bool) = true) ∧
  (((fun (s : State) (n : Nat) (m : FpMv) =>
    decide ((Instr.fpLe n m).wf = true) &&
    decide (s.mainUp = true) &&
    decide (s.fpIssues n m.guard m.long m.src 51 = true) &&
    true) (rich) (0) (⟨.imm 1, .always, false⟩) : Bool) = true) ∧
  (((fun (s : State) (n : Nat) (m : FpMv) =>
    decide ((Instr.fpBit n m).wf = true) &&
    decide (s.mainUp = true) &&
    decide (s.fpIssues n m.guard m.long m.src 52 = true) &&
    true) (rich) (0) (⟨.imm 1, .always, false⟩) : Bool) = true) ∧
  (((fun (s : State) (n : Nat) (m : FpMv) =>
    decide ((Instr.fpAny n m).wf = true) &&
    decide (s.mainUp = true) &&
    decide (s.fpIssues n m.guard m.long m.src 53 = true) &&
    true) (rich) (0) (⟨.imm 1, .always, false⟩) : Bool) = true) ∧
  (((fun (s : State) (n : Nat) (m : FpMv) =>
    decide ((Instr.fpGrd n m).wf = true) &&
    decide (s.mainUp = true) &&
    decide (s.fpIssues n m.guard m.long m.src 54 = true) &&
    true) (rich) (0) (⟨.imm 1, .always, false⟩) : Bool) = true) := by
  refine ⟨?_, ?_, ?_, ?_, ?_, ?_, ?_, ?_, ?_, ?_, ?_, ?_, ?_, ?_, ?_, ?_, ?_, ?_, ?_, ?_, ?_, ?_, ?_⟩ <;> decide +kernel

theorem test_witness_FpControlComplete :
  ((Instr.fpMove 0 0x1481 0).wf = true ∧ tst (0x1481 : Half) 15 = false ∧ rich.fpIssues 0 .always false (.imm 1) (fld (0x1481 : Half) 8 7) = true ∧
    (Instr.fpMove 0 0xC014 1).wf = true ∧ tst (0xC014 : Half) 15 = true ∧ tst (0xC014 : Half) 8 = false ∧ fld (0xC014 : Half) 9 2 ≠ 3 ∧ tst (0xC014 : Half) 14 = true ∧
      rich.fpIssues 0 .always true (.imm 1) (fld (0xC014 : Half) 0 8) = true) ∧
  (((fun (s : State) (n : Nat) (m : FpMv) =>
    decide ((Instr.jmp n m).wf = true) &&
    decide (s.mainUp = true) &&
    decide (s.fpIssues n m.guard m.long m.src 87 = true) &&
    true) (rich) (0) (⟨.imm 1, .always, false⟩) : Bool) = true) ∧
  (((fun (s : State) (n : Nat) (m : FpMv) =>
    decide ((Instr.call n m).wf = true) &&
    decide (s.mainUp = true) &&
    decide (s.fpIssues n m.guard m.long m.src 88 = true) &&
    true) (rich) (0) (⟨.imm 1, .always, false⟩) : Bool) = true) ∧
  (((fun (s : State) (n : Nat) (m : FpMv) =>
    decide ((Instr.ret n m).wf = true) &&
    decide (s.mainUp = true) &&
    decide (s.fpIssues n m.guard m.long m.src 89 = true) &&
    true) (rich) (0) (⟨.imm 1, .always, false⟩) : Bool) = true) ∧
  (((fun (s : State) (n : Nat) (m : FpMv) =>
    decide ((Instr.eret n m).wf = true) &&
    decide (s.mainUp = true) &&
    decide (s.fpIssues n m.guard m.long m.src 90 = true) &&
    true) (rich) (0) (⟨.imm 1, .always, false⟩) : Bool) = true) ∧
  (((fun (s : State) (n : Nat) (m : FpMv) =>
    decide ((Instr.ipendClear n m).wf = true) &&
    decide (s.mainUp = true) &&
    decide (s.fpIssues n m.guard m.long m.src 92 = true) &&
    true) (rich) (0) (⟨.imm 1, .always, false⟩) : Bool) = true) ∧
  (((fun (s : State) (n : Nat) (m : FpMv) =>
    decide ((Instr.rpt n m).wf = true) &&
    decide (s.mainUp = true) &&
    decide (s.fpIssues n m.guard m.long m.src 96 = true) &&
    true) (rich) (0) (⟨.imm 1, .always, false⟩) : Bool) = true) ∧
  (((fun (s : State) (n : Nat) =>
    decide ((Instr.fpEventEntry n).wf = true) &&
    decide (s.mainUp = true) &&
    let f := (s.en n).fp
    let take := (s.fpPending n &&& f.ien &&& 0xFF)
    decide (s.fpRuns n = true) &&
    decide (tst f.ien 15 = true) &&
    decide (f.inEv = false) &&
    decide (take ≠ 0) &&
    decide ((decide (0 < f.rptLeft) && f.rptHard) = false) &&
    match ((List.range 8).find? (fun e => tst take e)) with
    | some e => (
    match (s.en n).pkg with
    | some k => (
    true)
    | _ => false)
    | _ => false) (fpPend) (0) : Bool) = true) ∧
  (((fun (s : State) (n : Nat) (m : FpMv) =>
    decide ((Instr.tas n m).wf = true) &&
    decide (s.mainUp = true) &&
    decide (s.fpIssues n m.guard m.long m.src 97 = true) &&
    true) (rich) (0) (⟨.imm 1, .always, false⟩) : Bool) = true) ∧
  (((fun (s : State) (n : Nat) (m : FpMv) =>
    decide ((Instr.semClr n m).wf = true) &&
    decide (s.mainUp = true) &&
    decide (s.fpIssues n m.guard m.long m.src 99 = true) &&
    true) (rich) (0) (⟨.imm 1, .always, false⟩) : Bool) = true) :=
  ⟨(by decide +kernel), (by decide +kernel), (by decide +kernel), (by decide +kernel), (by decide +kernel), (by decide +kernel), (by decide +kernel), (by decide +kernel), (by decide +kernel), (by decide +kernel)⟩

theorem test_witness_FpUnitsComplete :
  (((fun (s : State) (n : Nat) (cur : Nat) (dst : Nat) (m : FpGd) =>
    decide ((Instr.caRw n cur dst m).wf = true) &&
    decide (s.mainUp = true) &&
    decide (s.fpIssues n m.guard m.long (.port (58 + 8 * cur)) dst = true) &&
    true) (rich) (0) (0) (0) (⟨.always, false⟩) : Bool) = true) ∧
  (((fun (s : State) (n : Nat) (cur : Nat) (dst : Nat) (m : FpGd) =>
    decide ((Instr.caRb n cur dst m).wf = true) &&
    decide (s.mainUp = true) &&
    decide (s.fpIssues n m.guard m.long (.port (59 + 8 * cur)) dst = true) &&
    true) (rich) (0) (0) (0) (⟨.always, false⟩) : Bool) = true) ∧
  (((fun (s : State) (n : Nat) (cur : Nat) (m : FpMv) =>
    decide ((Instr.caWw n cur m).wf = true) &&
    decide (s.mainUp = true) &&
    decide (s.fpIssues n m.guard m.long m.src (60 + 8 * cur) = true) &&
    true) (rich) (0) (0) (⟨.imm 1, .always, false⟩) : Bool) = true) ∧
  (((fun (s : State) (n : Nat) (cur : Nat) (m : FpMv) =>
    decide ((Instr.caWb n cur m).wf = true) &&
    decide (s.mainUp = true) &&
    decide (s.fpIssues n m.guard m.long m.src (61 + 8 * cur) = true) &&
    true) (rich) (0) (0) (⟨.imm 1, .always, false⟩) : Bool) = true) ∧
  (((fun (s : State) (n : Nat) (cur : Nat) (dst : Nat) (m : FpGd) =>
    decide ((Instr.caPk n cur dst m).wf = true) &&
    decide (s.mainUp = true) &&
    decide (s.fpIssues n m.guard m.long (.port (62 + 8 * cur)) dst = true) &&
    true) (rich) (0) (0) (0) (⟨.always, false⟩) : Bool) = true) ∧
  (((fun (s : State) (n : Nat) (m : FpMv) =>
    decide ((Instr.crcCfg n m).wf = true) &&
    decide (s.mainUp = true) &&
    decide (s.fpIssues n m.guard m.long m.src 71 = true) &&
    true) (rich) (0) (⟨.imm 1, .always, false⟩) : Bool) = true) ∧
  (((fun (s : State) (n : Nat) (m : FpMv) =>
    decide ((Instr.crcT n m).wf = true) &&
    decide (s.mainUp = true) &&
    decide (s.fpIssues n m.guard m.long m.src 72 = true) &&
    true) (rich) (0) (⟨.imm 1, .always, false⟩) : Bool) = true) ∧
  (((fun (s : State) (n : Nat) (m : FpMv) =>
    decide ((Instr.crcTb n m).wf = true) &&
    decide (s.mainUp = true) &&
    decide (s.fpIssues n m.guard m.long m.src 73 = true) &&
    true) (rich) (0) (⟨.imm 1, .always, false⟩) : Bool) = true) ∧
  (((fun (s : State) (n : Nat) (m : FpMv) =>
    decide ((Instr.sumSet n m).wf = true) &&
    decide (s.mainUp = true) &&
    decide (s.fpIssues n m.guard m.long m.src 76 = true) &&
    true) (rich) (0) (⟨.imm 1, .always, false⟩) : Bool) = true) ∧
  (((fun (s : State) (n : Nat) (m : FpMv) =>
    decide ((Instr.sumT n m).wf = true) &&
    decide (s.mainUp = true) &&
    decide (s.fpIssues n m.guard m.long m.src 77 = true) &&
    true) (rich) (0) (⟨.imm 1, .always, false⟩) : Bool) = true) ∧
  (((fun (s : State) (n : Nat) (m : FpMv) =>
    decide ((Instr.qinPop n m).wf = true) &&
    decide (s.mainUp = true) &&
    decide (s.fpIssues n m.guard m.long m.src 79 = true) &&
    true) (rich) (0) (⟨.imm 1, .always, false⟩) : Bool) = true) ∧
  (((fun (s : State) (n : Nat) (m : FpMv) =>
    decide ((Instr.qinFree n m).wf = true) &&
    decide (s.mainUp = true) &&
    decide (s.fpIssues n m.guard m.long m.src 82 = true) &&
    true) (rich) (0) (⟨.imm 1, .always, false⟩) : Bool) = true) ∧
  (((fun (s : State) (n : Nat) (m : FpMv) =>
    decide ((Instr.qoutPush n m).wf = true) &&
    decide (s.mainUp = true) &&
    decide (s.fpIssues n m.guard m.long m.src 84 = true) &&
    true) (rich) (0) (⟨.imm 1, .always, false⟩) : Bool) = true) ∧
  (((fun (s : State) (n : Nat) (dst : Nat) (m : FpGd) =>
    decide ((Instr.qoutDone n dst m).wf = true) &&
    decide (s.mainUp = true) &&
    decide (s.fpIssues n m.guard m.long (.port 86) dst = true) &&
    true) (rich) (0) (0) (⟨.always, false⟩) : Bool) = true) ∧
  (((fun (s : State) (n : Nat) (m : FpMv) =>
    decide ((Instr.tsqPop n m).wf = true) &&
    decide (s.mainUp = true) &&
    decide (s.fpIssues n m.guard m.long m.src 101 = true) &&
    true) (rich) (0) (⟨.imm 1, .always, false⟩) : Bool) = true) ∧
  (((fun (s : State) (n : Nat) (m : FpMv) =>
    decide ((Instr.now n m).wf = true) &&
    decide (s.mainUp = true) &&
    decide (s.fpIssues n m.guard m.long m.src 102 = true) &&
    true) (rich) (0) (⟨.imm 1, .always, false⟩) : Bool) = true) ∧
  (((fun (s : State) (n : Nat) (m : FpMv) =>
    decide ((Instr.rx n m).wf = true) &&
    decide (s.mainUp = true) &&
    decide (s.fpIssues n m.guard m.long m.src 103 = true) &&
    true) (rich) (0) (⟨.imm 1, .always, false⟩) : Bool) = true) ∧
  (((fun (s : State) (n : Nat) (m : FpMv) =>
    decide ((Instr.lutT n m).wf = true) &&
    decide (s.mainUp = true) &&
    decide (s.fpIssues n m.guard m.long m.src 107 = true) &&
    true) (rich) (0) (⟨.imm 1, .always, false⟩) : Bool) = true) := by
  refine ⟨?_, ?_, ?_, ?_, ?_, ?_, ?_, ?_, ?_, ?_, ?_, ?_, ?_, ?_, ?_, ?_, ?_, ?_⟩ <;> decide +kernel

theorem test_witness_SpArithmeticComplete :
  (((fun (s : State) (n : Nat) (d : Nat) (src : SpSrc) =>
    decide ((Instr.mov n d src).wf = true) &&
    decide (s.mainUp = true) &&
    decide (s.spIssues n (srcWords src) true = true) &&
    true) (rich) (0) (0) (.reg 1) : Bool) = true) ∧
  (((fun (s : State) (n : Nat) (d : Nat) (src : SpSrc) =>
    decide ((Instr.spAdd n d src).wf = true) &&
    decide (s.mainUp = true) &&
    decide (s.spIssues n (srcWords src) true = true) &&
    true) (rich) (0) (0) (.reg 1) : Bool) = true) ∧
  (((fun (s : State) (n : Nat) (d : Nat) (src : SpSrc) =>
    decide ((Instr.spAdc n d src).wf = true) &&
    decide (s.mainUp = true) &&
    decide (s.spIssues n (srcWords src) true = true) &&
    true) (rich) (0) (0) (.reg 1) : Bool) = true) ∧
  (((fun (s : State) (n : Nat) (d : Nat) (src : SpSrc) =>
    decide ((Instr.spSub n d src).wf = true) &&
    decide (s.mainUp = true) &&
    decide (s.spIssues n (srcWords src) true = true) &&
    true) (rich) (0) (0) (.reg 1) : Bool) = true) ∧
  (((fun (s : State) (n : Nat) (d : Nat) (src : SpSrc) =>
    decide ((Instr.spSbb n d src).wf = true) &&
    decide (s.mainUp = true) &&
    decide (s.spIssues n (srcWords src) true = true) &&
    true) (rich) (0) (0) (.reg 1) : Bool) = true) ∧
  (((fun (s : State) (n : Nat) (d : Nat) (src : SpSrc) =>
    decide ((Instr.cmp n d src).wf = true) &&
    decide (s.mainUp = true) &&
    decide (s.spIssues n (srcWords src) true = true) &&
    true) (rich) (0) (0) (.reg 1) : Bool) = true) ∧
  (((fun (s : State) (n : Nat) (d : Nat) (src : SpSrc) =>
    decide ((Instr.spAnd n d src).wf = true) &&
    decide (s.mainUp = true) &&
    decide (s.spIssues n (srcWords src) true = true) &&
    true) (rich) (0) (0) (.reg 1) : Bool) = true) ∧
  (((fun (s : State) (n : Nat) (d : Nat) (src : SpSrc) =>
    decide ((Instr.spOr n d src).wf = true) &&
    decide (s.mainUp = true) &&
    decide (s.spIssues n (srcWords src) true = true) &&
    true) (rich) (0) (0) (.reg 1) : Bool) = true) ∧
  (((fun (s : State) (n : Nat) (d : Nat) (src : SpSrc) =>
    decide ((Instr.spXor n d src).wf = true) &&
    decide (s.mainUp = true) &&
    decide (s.spIssues n (srcWords src) true = true) &&
    true) (rich) (0) (0) (.reg 1) : Bool) = true) ∧
  (((fun (s : State) (n : Nat) (d : Nat) (src : SpSrc) =>
    decide ((Instr.spAndn n d src).wf = true) &&
    decide (s.mainUp = true) &&
    decide (s.spIssues n (srcWords src) true = true) &&
    true) (rich) (0) (0) (.reg 1) : Bool) = true) ∧
  (((fun (s : State) (n : Nat) (d : Nat) (src : SpSrc) =>
    decide ((Instr.tst n d src).wf = true) &&
    decide (s.mainUp = true) &&
    decide (s.spIssues n (srcWords src) true = true) &&
    true) (rich) (0) (0) (.reg 1) : Bool) = true) ∧
  (((fun (s : State) (n : Nat) (d : Nat) (src : SpSrc) =>
    decide ((Instr.spShl n d src).wf = true) &&
    decide (s.mainUp = true) &&
    decide (s.spIssues n (srcWords src) true = true) &&
    true) (rich) (0) (0) (.reg 1) : Bool) = true) ∧
  (((fun (s : State) (n : Nat) (d : Nat) (src : SpSrc) =>
    decide ((Instr.spShr n d src).wf = true) &&
    decide (s.mainUp = true) &&
    decide (s.spIssues n (srcWords src) true = true) &&
    true) (rich) (0) (0) (.reg 1) : Bool) = true) ∧
  (((fun (s : State) (n : Nat) (d : Nat) (src : SpSrc) =>
    decide ((Instr.spSar n d src).wf = true) &&
    decide (s.mainUp = true) &&
    decide (s.spIssues n (srcWords src) true = true) &&
    true) (rich) (0) (0) (.reg 1) : Bool) = true) ∧
  (((fun (s : State) (n : Nat) (d : Nat) (src : SpSrc) =>
    decide ((Instr.spRol n d src).wf = true) &&
    decide (s.mainUp = true) &&
    decide (s.spIssues n (srcWords src) true = true) &&
    true) (rich) (0) (0) (.reg 1) : Bool) = true) ∧
  (((fun (s : State) (n : Nat) (d : Nat) (src : SpSrc) =>
    decide ((Instr.spBit n d src).wf = true) &&
    decide (s.mainUp = true) &&
    decide (s.spIssues n (srcWords src) true = true) &&
    true) (rich) (0) (0) (.reg 1) : Bool) = true) ∧
  (((fun (s : State) (n : Nat) (ac : Nat) (db : Nat) =>
    decide ((Instr.asr n ac db).wf = true) &&
    decide (s.mainUp = true) &&
    decide (s.spIssues n 1 true = true) &&
    true) (rich) (0) (0) (0) : Bool) = true) := by
  refine ⟨?_, ?_, ?_, ?_, ?_, ?_, ?_, ?_, ?_, ?_, ?_, ?_, ?_, ?_, ?_, ?_, ?_⟩ <;> decide +kernel

theorem test_witness_SpMemoryComplete :
  (((fun (s : State) (n : Nat) (x : SpReg) (am : Nat) (mode : SpMode) =>
    decide ((Instr.localLoad n x am mode).wf = true) &&
    decide (s.mainUp = true) &&
    decide (s.spIssues n 1 true = true) &&
    true) (rich) (0) (.d 0) (0) (aMode) : Bool) = true) ∧
  (((fun (s : State) (n : Nat) (x : SpReg) (am : Nat) (mode : SpMode) =>
    decide ((Instr.localStore n x am mode).wf = true) &&
    decide (s.mainUp = true) &&
    decide (s.spIssues n 1 true = true) &&
    true) (rich) (0) (.d 0) (0) (aMode) : Bool) = true) ∧
  (((fun (s : State) (n : Nat) (sp : Space) (am : Nat) (dn : Nat) (d16 : Half) =>
    decide ((Instr.ldD n sp am dn d16).wf = true) &&
    decide (s.mainUp = true) &&
    decide (s.spIssues n 2 true = true) &&
    true) (rich) (0) (.loc) (0) (0) (0) : Bool) = true) ∧
  (((fun (s : State) (n : Nat) (sp : Space) (am : Nat) (an : Nat) (d16 : Half) =>
    decide ((Instr.ldA n sp am an d16).wf = true) &&
    decide (s.mainUp = true) &&
    decide (s.spIssues n 2 true = true) &&
    true) (rich) (0) (.loc) (0) (0) (0) : Bool) = true) ∧
  (((fun (s : State) (n : Nat) (sp : Space) (am : Nat) (dn : Nat) (d16 : Half) =>
    decide ((Instr.stD n sp am dn d16).wf = true) &&
    decide (s.mainUp = true) &&
    decide (s.spIssues n 2 true = true) &&
    true) (rich) (0) (.loc) (0) (0) (0) : Bool) = true) ∧
  (((fun (s : State) (n : Nat) (sp : Space) (am : Nat) (an : Nat) (d16 : Half) =>
    decide ((Instr.stA n sp am an d16).wf = true) &&
    decide (s.mainUp = true) &&
    decide (s.spIssues n 2 true = true) &&
    true) (rich) (0) (.loc) (0) (0) (0) : Bool) = true) ∧
  (((fun (s : State) (n : Nat) (sp : Space) (am : Nat) (dn : Nat) (mode : SpMode) =>
    decide ((Instr.ldx n sp am dn mode).wf = true) &&
    decide (s.mainUp = true) &&
    decide (s.spIssues n 2 true = true) &&
    true) (rich) (0) (.loc) (0) (0) (aMode) : Bool) = true) ∧
  (((fun (s : State) (n : Nat) (sp : Space) (am : Nat) (dn : Nat) (mode : SpMode) =>
    decide ((Instr.stx n sp am dn mode).wf = true) &&
    decide (s.mainUp = true) &&
    decide (s.spIssues n 2 true = true) &&
    true) (rich) (0) (.loc) (0) (0) (aMode) : Bool) = true) ∧
  (((fun (s : State) (n : Nat) (sp : Space) (dn : Nat) (a : Half) =>
    decide ((Instr.ldabs n sp dn a).wf = true) &&
    decide (s.mainUp = true) &&
    decide (s.spIssues n 2 true = true) &&
    true) (rich) (0) (.loc) (0) (0) : Bool) = true) ∧
  (((fun (s : State) (n : Nat) (sp : Space) (dn : Nat) (a : Half) =>
    decide ((Instr.stabs n sp dn a).wf = true) &&
    decide (s.mainUp = true) &&
    decide (s.spIssues n 2 true = true) &&
    true) (rich) (0) (.loc) (0) (0) : Bool) = true) ∧
  (((fun (s : State) (n : Nat) (an : Nat) (s9 : BitVec 9) =>
    decide ((Instr.aaddShort n an s9).wf = true) &&
    decide (s.mainUp = true) &&
    decide (s.spIssues n 1 true = true) &&
    true) (rich) (0) (0) (0) : Bool) = true) ∧
  (((fun (s : State) (n : Nat) (dst : SpReg) (src : SpReg) =>
    decide ((Instr.xmov n dst src).wf = true) &&
    decide (s.mainUp = true) &&
    decide (s.spIssues n 1 true = true) &&
    true) (rich) (0) (.d 0) (.d 0) : Bool) = true) ∧
  (((fun (s : State) (n : Nat) (an : Nat) (v : Half) =>
    decide ((Instr.amov n an v).wf = true) &&
    decide (s.mainUp = true) &&
    decide (s.spIssues n 2 true = true) &&
    true) (rich) (0) (0) (0) : Bool) = true) ∧
  (((fun (s : State) (n : Nat) (an : Nat) (v : Half) =>
    decide ((Instr.aadd n an v).wf = true) &&
    decide (s.mainUp = true) &&
    decide (s.spIssues n 2 true = true) &&
    true) (rich) (0) (0) (0) : Bool) = true) ∧
  (((fun (s : State) (n : Nat) (an : Nat) (v : Half) =>
    decide ((Instr.asub n an v).wf = true) &&
    decide (s.mainUp = true) &&
    decide (s.spIssues n 2 true = true) &&
    true) (rich) (0) (0) (0) : Bool) = true) ∧
  (((fun (s : State) (n : Nat) (x : SpReg) =>
    decide ((Instr.push n x).wf = true) &&
    decide (s.mainUp = true) &&
    decide (s.spIssues n 1 true = true) &&
    true) (rich) (0) (.d 0) : Bool) = true) ∧
  (((fun (s : State) (n : Nat) (x : SpReg) =>
    decide ((Instr.pop n x).wf = true) &&
    decide (s.mainUp = true) &&
    decide (s.spIssues n 1 true = true) &&
    true) (rich) (0) (.d 0) : Bool) = true) ∧
  (((fun (s : State) (n : Nat) (sp : Space) (am : Nat) (dn : Nat) =>
    decide ((Instr.ldres n sp am dn).wf = true) &&
    decide (s.mainUp = true) &&
    decide (s.spIssues n 2 false = true) &&
    true) (rich) (0) (.loc) (0) (0) : Bool) = true) ∧
  (((fun (s : State) (n : Nat) (sp : Space) (am : Nat) (dn : Nat) =>
    decide ((Instr.stcond n sp am dn).wf = true) &&
    decide (s.mainUp = true) &&
    decide (s.spIssues n 2 false = true) &&
    true) (rich) (0) (.loc) (0) (0) : Bool) = true) ∧
  (((fun (s : State) (n : Nat) (d : Nat) (i : Nat) =>
    decide ((Instr.semtas n d i).wf = true) &&
    decide (s.mainUp = true) &&
    decide (s.spIssues n 1 true = true) &&
    true) (rich) (0) (0) (0) : Bool) = true) ∧
  (((fun (s : State) (n : Nat) (i : Nat) =>
    decide ((Instr.semclr n i).wf = true) &&
    decide (s.mainUp = true) &&
    decide (s.spIssues n 1 true = true) &&
    true) (rich) (0) (0) : Bool) = true) := by
  refine ⟨?_, ?_, ?_, ?_, ?_, ?_, ?_, ?_, ?_, ?_, ?_, ?_, ?_, ?_, ?_, ?_, ?_, ?_, ?_, ?_, ?_⟩ <;> decide +kernel

theorem test_witness_SpAccumulatorsComplete :
  (((fun (s : State) (n : Nat) (ac : Nat) (da : Nat) (db : Nat) =>
    decide ((Instr.mul n ac da db).wf = true) &&
    decide (s.mainUp = true) &&
    decide (s.spIssues n 1 true = true) &&
    true) (rich) (0) (0) (0) (0) : Bool) = true) ∧
  (((fun (s : State) (n : Nat) (ac : Nat) (da : Nat) (db : Nat) =>
    decide ((Instr.mac n ac da db).wf = true) &&
    decide (s.mainUp = true) &&
    decide (s.spIssues n 1 true = true) &&
    true) (rich) (0) (0) (0) (0) : Bool) = true) ∧
  (((fun (s : State) (n : Nat) (ac : Nat) (da : Nat) (db : Nat) =>
    decide ((Instr.msu n ac da db).wf = true) &&
    decide (s.mainUp = true) &&
    decide (s.spIssues n 1 true = true) &&
    true) (rich) (0) (0) (0) (0) : Bool) = true) ∧
  (((fun (s : State) (n : Nat) (ac : Nat) (da : Nat) (db : Nat) =>
    decide ((Instr.mulu n ac da db).wf = true) &&
    decide (s.mainUp = true) &&
    decide (s.spIssues n 1 true = true) &&
    true) (rich) (0) (0) (0) (0) : Bool) = true) ∧
  (((fun (s : State) (n : Nat) (ac : Nat) (da : Nat) (db : Nat) =>
    decide ((Instr.macu n ac da db).wf = true) &&
    decide (s.mainUp = true) &&
    decide (s.spIssues n 1 true = true) &&
    true) (rich) (0) (0) (0) (0) : Bool) = true) ∧
  (((fun (s : State) (n : Nat) (ac : Nat) =>
    decide ((Instr.accClr n ac).wf = true) &&
    decide (s.mainUp = true) &&
    decide (s.spIssues n 1 true = true) &&
    true) (rich) (0) (0) : Bool) = true) ∧
  (((fun (s : State) (n : Nat) (ac : Nat) =>
    decide ((Instr.sat n ac).wf = true) &&
    decide (s.mainUp = true) &&
    decide (s.spIssues n 1 true = true) &&
    true) (rich) (0) (0) : Bool) = true) ∧
  (((fun (s : State) (n : Nat) (ac : Nat) (da : Nat) =>
    decide ((Instr.norm n ac da).wf = true) &&
    decide (s.mainUp = true) &&
    decide (s.spIssues n 1 true = true) &&
    true) (rich) (0) (0) (0) : Bool) = true) ∧
  (((fun (s : State) (n : Nat) (ac : Nat) =>
    decide ((Instr.rnd n ac).wf = true) &&
    decide (s.mainUp = true) &&
    decide (s.spIssues n 1 true = true) &&
    true) (rich) (0) (0) : Bool) = true) ∧
  (((fun (s : State) (n : Nat) (ac : Nat) (da : Nat) =>
    decide ((Instr.movh n ac da).wf = true) &&
    decide (s.mainUp = true) &&
    decide (s.spIssues n 1 true = true) &&
    true) (rich) (0) (0) (0) : Bool) = true) ∧
  (((fun (s : State) (n : Nat) (ac : Nat) (da : Nat) =>
    decide ((Instr.movl n ac da).wf = true) &&
    decide (s.mainUp = true) &&
    decide (s.spIssues n 1 true = true) &&
    true) (rich) (0) (0) (0) : Bool) = true) ∧
  (((fun (s : State) (n : Nat) (ac : Nat) (da : Nat) =>
    decide ((Instr.ldh n ac da).wf = true) &&
    decide (s.mainUp = true) &&
    decide (s.spIssues n 1 true = true) &&
    true) (rich) (0) (0) (0) : Bool) = true) ∧
  (((fun (s : State) (n : Nat) (ac : Nat) =>
    decide ((Instr.addac n ac).wf = true) &&
    decide (s.mainUp = true) &&
    decide (s.spIssues n 1 true = true) &&
    true) (rich) (0) (0) : Bool) = true) := by
  refine ⟨?_, ?_, ?_, ?_, ?_, ?_, ?_, ?_, ?_, ?_, ?_, ?_, ?_⟩ <;> decide +kernel

theorem test_witness_SpControlComplete :
  (((fun (s : State) (n : Nat) (cond : BitVec 4) (disp : SpDisp) =>
    decide ((Instr.bcc n cond disp).wf = true) &&
    decide (s.mainUp = true) &&
    decide (s.spIssues n (dispWords disp) false = true) &&
    true) (rich) (0) (0) (.short 0) : Bool) = true) ∧
  (((fun (s : State) (n : Nat) (disp : SpDisp) =>
    decide ((Instr.call0 n disp).wf = true) &&
    decide (s.mainUp = true) &&
    decide (s.spIssues n (dispWords disp) false = true) &&
    true) (rich) (0) (.short 0) : Bool) = true) ∧
  (((fun (s : State) (n : Nat) (an : Nat) (acs : Bool) (mask : Half) =>
    decide ((Instr.spCall n an acs mask).wf = true) &&
    decide (s.mainUp = true) &&
    decide (s.spIssues n 2 false = true) &&
    true) (rich) (0) (0) (true) (0) : Bool) = true) ∧
  (((fun (s : State) (n : Nat) =>
    decide ((Instr.spRet n).wf = true) &&
    decide (s.mainUp = true) &&
    decide (s.spIssues n 1 false = true) &&
    true) (rich) (0) : Bool) = true) ∧
  (((fun (s : State) (n : Nat) =>
    decide ((Instr.spEret n).wf = true) &&
    decide (s.mainUp = true) &&
    decide (s.spIssues n 1 false = true) &&
    true) (rich) (0) : Bool) = true) ∧
  (((fun (s : State) (n : Nat) (cnt : SpRep) =>
    decide ((Instr.rep n cnt).wf = true) &&
    decide (s.mainUp = true) &&
    decide (s.spIssues n (repWords cnt) false = true) &&
    true) (rich) (0) (.short 0) : Bool) = true) ∧
  (((fun (s : State) (n : Nat) (cnt : SpRep) =>
    decide ((Instr.repi n cnt).wf = true) &&
    decide (s.mainUp = true) &&
    decide (s.spIssues n (repWords cnt) false = true) &&
    true) (rich) (0) (.short 0) : Bool) = true) ∧
  (((fun (s : State) (n : Nat) (an : Nat) =>
    decide ((Instr.jmpAn n an).wf = true) &&
    decide (s.mainUp = true) &&
    decide (s.spIssues n 1 false = true) &&
    true) (rich) (0) (0) : Bool) = true) ∧
  (((fun (s : State) (n : Nat) =>
    decide ((Instr.wait n).wf = true) &&
    decide (s.mainUp = true) &&
    decide (s.spIssues n 1 false = true) &&
    true) (rich) (0) : Bool) = true) ∧
  (((fun (s : State) (n : Nat) =>
    decide ((Instr.di n).wf = true) &&
    decide (s.mainUp = true) &&
    decide (s.spIssues n 1 true = true) &&
    true) (rich) (0) : Bool) = true) ∧
  (((fun (s : State) (n : Nat) =>
    decide ((Instr.ei n).wf = true) &&
    decide (s.mainUp = true) &&
    decide (s.spIssues n 1 true = true) &&
    true) (rich) (0) : Bool) = true) ∧
  (((fun (s : State) (n : Nat) (d : Nat) (k : Nat) =>
    decide ((Instr.mfc n d k).wf = true) &&
    decide (s.mainUp = true) &&
    decide (s.spIssues n 1 true = true) &&
    true) (rich) (0) (0) (0) : Bool) = true) ∧
  (((fun (s : State) (n : Nat) (k : Nat) (d : Nat) =>
    decide ((Instr.mtc n k d).wf = true) &&
    decide (s.mainUp = true) &&
    decide (s.spIssues n 1 true = true) &&
    true) (rich) (0) (0) (0) : Bool) = true) ∧
  (((fun (s : State) (n : Nat) (d : Nat) (k : Nat) =>
    decide ((Instr.copr n d k).wf = true) &&
    decide (s.mainUp = true) &&
    decide (s.spIssues n 1 true = true) &&
    true) (rich) (0) (0) (0) : Bool) = true) ∧
  (((fun (s : State) (n : Nat) (k : Nat) (d : Nat) =>
    decide ((Instr.copw n k d).wf = true) &&
    decide (s.mainUp = true) &&
    decide (s.spIssues n 1 true = true) &&
    true) (rich) (0) (0) (0) : Bool) = true) ∧
  (((fun (s : State) (n : Nat) (d : Nat) =>
    decide ((Instr.copst n d).wf = true) &&
    decide (s.mainUp = true) &&
    decide (s.spIssues n 1 true = true) &&
    true) (rich) (0) (0) : Bool) = true) ∧
  (((fun (s : State) (n : Nat) =>
    decide ((Instr.nop n).wf = true) &&
    decide (s.mainUp = true) &&
    decide (s.spIssues n 1 true = true) &&
    true) (rich) (0) : Bool) = true) ∧
  (((fun (s : State) (n : Nat) =>
    decide ((Instr.spEventEntry n).wf = true) &&
    decide (s.mainUp = true) &&
    let f := (s.en n).sp
    let take := s.spWants n
    decide (s.peState n = 2) &&
    decide (f.susp = false) &&
    decide (tst f.sr 15 = true) &&
    decide (tst f.sr 12 = false) &&
    decide (take ≠ 0) &&
    decide ((decide (0 < f.repLeft) && !f.repI) = false) &&
    match ((List.range 8).find? (fun e => tst take e)) with
    | some e => (
    match (s.en n).pkg with
    | some k => (
    true)
    | _ => false)
    | _ => false) (spPend) (0) : Bool) = true) := by
  refine ⟨?_, ?_, ?_, ?_, ?_, ?_, ?_, ?_, ?_, ?_, ?_, ?_, ?_, ?_, ?_, ?_, ?_, ?_⟩ <;> decide +kernel

theorem test_witness_InterlockCommandsComplete :
  (((fun (s : State) (n : Nat) =>
    decide ((Instr.endcyc n).wf = true) &&
    decide (s.mainUp = true) &&
    decide (s.spIssues n 1 false = true) &&
    true) (rich) (0) : Bool) = true) ∧
  (((fun (s : State) (n : Nat) (d : Nat) (k : Nat) (b : Nat) =>
    decide ((Instr.rise n d k b).wf = true) &&
    decide (s.mainUp = true) &&
    decide (s.spIssues n 2 true = true) &&
    true) (rich) (0) (0) (0) (0) : Bool) = true) ∧
  (((fun (s : State) (n : Nat) (d : Nat) (k : Nat) (b : Nat) =>
    decide ((Instr.fall n d k b).wf = true) &&
    decide (s.mainUp = true) &&
    decide (s.spIssues n 2 true = true) &&
    true) (rich) (0) (0) (0) (0) : Bool) = true) ∧
  (((fun (s : State) (n : Nat) =>
    decide ((Instr.ilkCycleStart n).wf = true) &&
    decide (s.mainUp = true) &&
    match s.ilkPkg n with
    | some k => (
    decide (s.cycleDue n k = true) &&
    true)
    | _ => false) (ilkIdle) (0) : Bool) = true) ∧
  (((fun (s : State) (n : Nat) =>
    decide ((Instr.ilkOverrun n).wf = true) &&
    decide (s.mainUp = true) &&
    match s.ilkPkg n with
    | some k => (
    decide (s.ilkMode n = 1) &&
    decide (s.rb (Reg.ILK_STAT n) 28 = true) &&
    decide ((s.en n).ilk.overran = false) &&
    decide (s.pastTmax n k = true) &&
    true)
    | _ => false) (ilkLate) (0) : Bool) = true) ∧
  (((fun (s : State) (ch : Nat) (nG : Nat) =>
    decide ((Instr.ilkRun ch nG).wf = true) &&
    decide (s.mainUp = true) &&
    match Tab.find s.host.taken ch with
    | some rq => (
    decide (rq.typ.toNat = 0x11) &&
    let m := s.msg ch ([ilkWord 1 nG].flatMap wordBytes)
    let n := fld (msgWord m 0) 16 5
    decide (fld (msgWord m 0) 24 8 = 1) &&
    decide (msgHas m 1 = true) &&
    decide (s.chanPriv ch (if s.ilkMode n = 2 then 4 else 2) = true) &&
    decide (s.dev.st ≠ .safeTalk) &&
    decide (s.isIlk n = true) &&
    true)
    | _ => false) (asked 0 0x11 ilkIdle) (0) (0) : Bool) = true) ∧
  (((fun (s : State) (ch : Nat) (nG : Nat) =>
    decide ((Instr.ilkStop ch nG).wf = true) &&
    decide (s.mainUp = true) &&
    match Tab.find s.host.taken ch with
    | some rq => (
    decide (rq.typ.toNat = 0x11) &&
    let m := s.msg ch ([ilkWord 2 nG].flatMap wordBytes)
    let n := fld (msgWord m 0) 16 5
    decide (fld (msgWord m 0) 24 8 = 2) &&
    decide (msgHas m 1 = true) &&
    decide (s.chanPriv ch 2 = true) &&
    decide (s.dev.st ≠ .safeTalk) &&
    decide (s.isIlk n = true) &&
    true)
    | _ => false) (asked 0 0x11 ilkIdle) (0) (0) : Bool) = true) ∧
  (((fun (s : State) (ch : Nat) (nG : Nat) =>
    decide ((Instr.hold ch nG).wf = true) &&
    decide (s.mainUp = true) &&
    match Tab.find s.host.taken ch with
    | some rq => (
    decide (rq.typ.toNat = 0x11) &&
    let m := s.msg ch ([ilkWord 3 nG].flatMap wordBytes)
    let n := fld (msgWord m 0) 16 5
    decide (fld (msgWord m 0) 24 8 = 3) &&
    decide (msgHas m 1 = true) &&
    decide (s.chanPriv ch 4 = true) &&
    decide (s.dev.st = .maintenance) &&
    decide (s.isIlk n = true) &&
    true)
    | _ => false) ({ asked 0 0x11 ilkIdle with dev.st := .maintenance }) (0) (0) : Bool) = true) ∧
  (((fun (s : State) (ch : Nat) (nG : Nat) (u1 : Word) (u2 : Word) =>
    decide ((Instr.forceSet ch nG u1 u2).wf = true) &&
    decide (s.mainUp = true) &&
    match Tab.find s.host.taken ch with
    | some rq => (
    decide (rq.typ.toNat = 0x11) &&
    let m := s.msg ch ([ilkWord 4 nG, u1, u2].flatMap wordBytes)
    let n := fld (msgWord m 0) 16 5
    let w1 := msgWord m 1
    let w2 := msgWord m 2
    let (out, idx) := forceIdx w1
    let f : Force := ⟨out, idx, (w2 >>> (16 : Nat)).setWidth 16, w2.setWidth 16⟩
    decide (fld (msgWord m 0) 24 8 = 4) &&
    decide (msgHas m 3 = true) &&
    decide (s.chanPriv ch 4 = true) &&
    decide (s.forceState = true) &&
    decide (s.isIlk n = true) &&
    decide (forceBad w1 = false) &&
    true)
    | _ => false) ({ asked 0 0x11 ilkIdle with dev.st := .maintenance }) (0) (0) (0) (0) : Bool) = true) ∧
  (((fun (s : State) (ch : Nat) (nG : Nat) (u1 : Word) =>
    decide ((Instr.forceClear ch nG u1).wf = true) &&
    decide (s.mainUp = true) &&
    match Tab.find s.host.taken ch with
    | some rq => (
    decide (rq.typ.toNat = 0x11) &&
    let m := s.msg ch ([ilkWord 5 nG, u1].flatMap wordBytes)
    let n := fld (msgWord m 0) 16 5
    let w1 := msgWord m 1
    let (out, idx) := forceIdx w1
    decide (fld (msgWord m 0) 24 8 = 5) &&
    decide (msgHas m 2 = true) &&
    decide (s.chanPriv ch 4 = true) &&
    decide ((s.forceState || s.dev.st == .testBlocked) = true) &&
    decide (s.isIlk n = true) &&
    decide (forceBad w1 = false) &&
    true)
    | _ => false) ({ asked 0 0x11 ilkIdle with dev.st := .maintenance }) (0) (0) (0) : Bool) = true) ∧
  (((fun (s : State) (ch : Nat) (nG : Nat) =>
    decide ((Instr.forceClearAll ch nG).wf = true) &&
    decide (s.mainUp = true) &&
    match Tab.find s.host.taken ch with
    | some rq => (
    decide (rq.typ.toNat = 0x11) &&
    let m := s.msg ch ([ilkWord 6 nG].flatMap wordBytes)
    let n := fld (msgWord m 0) 16 5
    decide (fld (msgWord m 0) 24 8 = 6) &&
    decide (msgHas m 1 = true) &&
    decide (s.chanPriv ch 4 = true) &&
    decide (s.isIlk n = true) &&
    true)
    | _ => false) (asked 0 0x11 ilkIdle) (0) (0) : Bool) = true) := by
  refine ⟨?_, ?_, ?_, ?_, ?_, ?_, ?_, ?_, ?_, ?_, ?_⟩ <;> decide +kernel

theorem test_witness_CanCommandsComplete :
  (((fun (s : State) (fn : Nat) (x : Nat) (val : Word) =>
    decide ((Instr.canModeWrite fn x val).wf = true) &&
    decide (s.ownerCfg fn = true) &&
    true) (rich) (0) (0) (0) : Bool) = true) ∧
  (((fun (s : State) (fn : Nat) (x : Nat) (off : Nat) (val : Word) =>
    decide ((Instr.canTimingWrite fn x off val).wf = true) &&
    decide (s.ownerCfg fn = true) &&
    true) (rich) (0) (0) (8) (0) : Bool) = true) ∧
  (((fun (s : State) (fn : Nat) (x : Nat) (bits : BitVec 64) =>
    decide ((Instr.canTxreq fn x bits).wf = true) &&
    decide (s.ownerCfg fn = true) &&
    decide ((s.canEngine x).isSome = false) &&
    true) (rich) (0) (0) (0) : Bool) = true) ∧
  (((fun (s : State) (fn : Nat) (x : Nat) (bits : BitVec 64) =>
    decide ((Instr.canTxabort fn x bits).wf = true) &&
    decide (s.ownerCfg fn = true) &&
    true) (rich) (0) (0) (0) : Bool) = true) ∧
  (((fun (s : State) (fn : Nat) (x : Nat) =>
    decide ((Instr.canRxpop fn x).wf = true) &&
    decide (s.ownerCfg fn = true) &&
    decide ((s.canEngine x).isSome = false) &&
    true) (rich) (0) (0) : Bool) = true) ∧
  (((fun (s : State) (fn : Nat) (x : Nat) =>
    decide ((Instr.recover fn x).wf = true) &&
    decide (s.ownerCfg fn = true) &&
    true) (rich) (0) (0) : Bool) = true) ∧
  (((fun (s : State) (x : Nat) (r : CanRx) =>
    decide ((Instr.canFrameReceive x r).wf = true) &&
    decide (s.mainUp = true) &&
    let m := (s.cn x).mode
    decide ((m == 1 || m == 2 || m == 4) = true) &&
    decide (¬ (2 ≤ s.estate x)) &&
    true) ({ rich with can := [(0, { Can.zero with mode := 1 })] }) (0) (.error 1) : Bool) = true) ∧
  (((fun (u : State) (x : Nat) (res : CanTxRes) =>
    decide ((Instr.canTxAttemptEnd x res).wf = true) &&
    decide (u.mainUp = true) &&
    let s := u.canIdle x
    match s.txActive x with
    | some i => (
    true)
    | _ => false) (canSending) (0) (.ok) : Bool) = true) ∧
  (((fun (s : State) (x : Nat) (runs : Nat) =>
    decide ((Instr.canRecoveryEnd x runs).wf = true) &&
    decide (s.mainUp = true) &&
    decide (s.estate x = 3) &&
    decide (128 ≤ runs) &&
    true) (rich.wf (Reg.CAN_STAT 0) 30 2 3) (0) (128) : Bool) = true) ∧
  (((fun (s : State) (x : Nat) =>
    decide ((Instr.canTxRingFetch x).wf = true) &&
    decide (s.mainUp = true) &&
    match s.canEngine x with
    | some (z1, b) => (
    true)
    | _ => false) ({ rich with man.canOwner := [(0, 0, 0)] }) (0) : Bool) = true) ∧
  (((fun (s : State) (x : Nat) =>
    decide ((Instr.canWakeValidityExpiry x).wf = true) &&
    decide (s.mainUp = true) &&
    match (s.cn x).wakeAt with
    | some t => (
    decide (t * 100 + s.rf (Reg.CAN_WAKE_CFG x) 8 12 * 32768 ≤ s.clk.cd0 * 100) &&
    true)
    | _ => false) ({ rich with can := [(0, { Can.zero with wakeAt := some 0 })] }) (0) : Bool) = true) ∧
  (((fun (s : State) (fn : Nat) (x : Nat) (val : Word) =>
    decide ((Instr.wakeDisClear fn x val).wf = true) &&
    decide (s.ownerCfg fn = true) &&
    decide (tst val 31 = true) &&
    true) (rich) (0) (0) (0x80000000) : Bool) = true) ∧
  (((fun (s : State) (x : Nat) (f : CanFrame) (crcOk : Bool) =>
    decide ((Instr.canWakeMatch x f crcOk).wf = true) &&
    decide (s.wakeWatch = true) &&
    decide (s.wakeFrame x f crcOk = true) &&
    true) (({ rich with dev.st := .standby }.wb (Reg.CAN_WAKE_CFG 0) 31 true)) (0) (aCan) (true) : Bool) = true) ∧
  (((fun (s : State) (x : Nat) =>
    decide ((Instr.canWakePin x).wf = true) &&
    decide (s.wakeWatch = true) &&
    decide (s.wakeEdge x = true) &&
    true) (({ rich with dev.st := .standby }.wb (Reg.CAN_WAKE_CFG 0) 30 true)) (0) : Bool) = true) := by
  refine ⟨?_, ?_, ?_, ?_, ?_, ?_, ?_, ?_, ?_, ?_, ?_, ?_, ?_, ?_⟩ <;> decide +kernel

theorem test_witness_ThicketCommandsComplete :
  (((fun (s : State) (n : Nat) (pins : BitVec 48) =>
    decide ((Instr.tkStep n pins).wf = true) &&
    decide (s.mainUp = true) &&
    true) (rich) (0) (0) : Bool) = true) ∧
  (((fun (s : State) (fn : Nat) (n : Nat) (val : Word) =>
    decide ((Instr.tkEnable fn n val).wf = true) &&
    decide (s.ownerCfg fn = true) &&
    decide (tst val 31 = true) &&
    true) (rich) (0) (0) (0x80000000) : Bool) = true) ∧
  (((fun (s : State) (fn : Nat) (n : Nat) (val : Word) =>
    decide ((Instr.tkDisable fn n val).wf = true) &&
    decide (s.ownerCfg fn = true) &&
    decide (tst val 31 = false) &&
    true) (rich) (0) (0) (0) : Bool) = true) ∧
  (((fun (s : State) (fn : Nat) (n : Nat) (i : Nat) (val : Word) =>
    decide ((Instr.tkLutWrite fn n i val).wf = true) &&
    decide (s.ownerCfg fn = true) &&
    true) (rich) (0) (0) (0) (0) : Bool) = true) ∧
  (((fun (s : State) (fn : Nat) (n : Nat) (val : Word) =>
    decide ((Instr.tkTxfifoWrite fn n val).wf = true) &&
    decide (s.ownerCfg fn = true) &&
    true) (rich) (0) (0) (0) : Bool) = true) ∧
  (((fun (s : State) (n : Nat) (lane : Nat) (size : Nat) =>
    decide ((Instr.tkRxfifoRead 0 n lane size).wf = true) &&
    decide (size ≠ 8) &&
    decide (s.reach 0 = true) &&
    decide (s.dev.st ≠ .safeTalk) &&
    true) (rich) (0) (0) (4) : Bool) = true) := by
  refine ⟨?_, ?_, ?_, ?_, ?_, ?_⟩ <;> decide +kernel

theorem test_witness_SecurityCommandsComplete :
  (let s : State := askedSec 0x40;
    let m := s.msg 256 (wordBytes ((1 : BitVec 24) ++ (0 : Octet)) ++ wordBytes 0 ++ List.replicate 32 0);
    ((Instr.keyInstall 256 0 1 0 (List.replicate 32 0)).wf && s.mainUp && s.secSender 256 &&
      (match Tab.find s.host.taken 256 with
      | some rq => rq.typ.toNat == 0x40
      | none => false) &&
      decide (fld (msgWord m 0) 0 8 = 0) && decide (fld (msgWord m 0) 8 4 = 1) && decide (fld (msgWord m 0) 12 3 ≤ 4) &&
      decide (keyOctets 1 + 8 * bitOf (tst (msgWord m 0) 17) ≤ (m.drop 8).length) &&
      (s.installKey (msgWord m 0) (msgWord m 1) (m.drop 8)).isSome) = true ∧ s.slotInUse 0 = false) ∧
  (((fun (s : State) (ch : Nat) (w0G : Word) =>
    decide ((Instr.keyErase ch w0G).wf = true) &&
    decide (s.mainUp = true) &&
    match Tab.find s.host.taken ch with
    | some rq => (
    decide (rq.typ.toNat = 0x41) &&
    decide (s.secSender ch = true) &&
    let w0 := msgWord (s.msg ch (wordBytes w0G)) 0
    let k := fld w0 0 8
    decide (k < 248) &&
    decide ((s.slotInUse k && !tst w0 31) = false) &&
    true)
    | _ => false) ({ askedSec 0x41 with man.ringKey := [(0, 0)] }) (256) (0x80000000) : Bool) = true) ∧
  (((fun (s : State) (ch : Nat) (w0 : Word) =>
    decide ((Instr.keyInfo ch w0).wf = true) &&
    decide (s.mainUp = true) &&
    match Tab.find s.host.taken ch with
    | some rq => (
    decide (rq.typ.toNat = 0x42) &&
    decide (s.secSender ch = true) &&
    let k := fld (msgWord (s.msg ch (wordBytes w0)) 0) 0 8
    decide (k < 248) &&
    true)
    | _ => false) (askedSec 0x42) (256) (0) : Bool) = true) ∧
  (((fun (s : State) (ch : Nat) (w0 : Word) =>
    decide ((Instr.svnCommit ch w0).wf = true) &&
    decide (s.mainUp = true) &&
    match Tab.find s.host.taken ch with
    | some rq => (
    decide (rq.typ.toNat = 0x43) &&
    decide (s.secSender ch = true) &&
    let c := fld (msgWord (s.msg ch (wordBytes w0)) 0) 0 2
    decide (c ≠ 3) &&
    decide (s.fuseState = true) &&
    true)
    | _ => false) (askedSec 0x43) (256) (0) : Bool) = true) ∧
  (((fun (s : State) (ch : Nat) (fieldG : Nat) (bitsG : List Octet) (stuck : Option Nat) =>
    decide ((Instr.fuseProg ch fieldG bitsG stuck).wf = true) &&
    decide (s.mainUp = true) &&
    match Tab.find s.host.taken ch with
    | some rq => (
    decide (rq.typ.toNat = 0x44) &&
    decide (s.secSender ch = true) &&
    let m := s.msg ch (wordBytes (BitVec.ofNat 32 fieldG) ++ bitsG)
    let field := (msgWord m 0).toNat
    let bits := bitsOf (m.drop 4)
    decide (field < 12) &&
    decide (¬ (5 ≤ field && field < 8)) &&
    decide (bits.any (fun b => decide (fuseBits field ≤ b)) = false) &&
    decide (s.fuseState = true) &&
    decide (¬ (field = 8 && (s.blown 8).contains 2)) &&
    let l := if field = 8 then bits ++ [2] else bits
    let bad := l.filter (fun b => stuck == some b && !(s.blown field).contains b)
    let t1 := s.blow field (l.filter (fun b => !bad.contains b))
    decide (bad.isEmpty = true) &&
    true)
    | _ => false) (askedSec 0x44) (256) (0) ([]) (none) : Bool) = true) ∧
  (((fun (s : State) (fn : Nat) (u : Nat) (val : Word) =>
    decide ((Instr.txAnWrite fn u val).wf = true) &&
    decide (s.ownerIn fn = true) &&
    decide (s.hasPriv fn 3 = true) &&
    true) (rich) (0) (0) (0) : Bool) = true) ∧
  (((fun (s : State) =>
    decide (s.mainUp = true) &&
    true) (rich) : Bool) = true) ∧
  (((fun (s : State) (healthy : Nat) =>
    decide (s.mainUp = true) &&
    decide (s.sec.trngOk = false) &&
    decide (1024 ≤ healthy) &&
    true) ({ rich with sec.trngOk := false }) (1024) : Bool) = true) ∧
  (((fun (s : State) (x : Jtag) =>
    decide (s.mainUp = true) &&
    true) ({ rich with dev.st := .maintenance, sec.fuse := [(9, [0])], sec.fuseLatched := [(9, [0])] }) (⟨[], .none⟩) : Bool) = true) :=
  ⟨(⟨by decide +kernel, slotInUse_eq_false (by decide +kernel) (by decide +kernel)⟩), (by decide +kernel), (by decide +kernel), (by decide +kernel), (by decide +kernel), (by decide +kernel), (by decide +kernel), (by decide +kernel), (by decide +kernel)⟩

theorem test_witness_HostMessageCommandsComplete :
  (((fun (s : State) (mid : Nat) (ch : Nat) (val : Word) =>
    decide ((Instr.tdCtlWrite mid ch val).wf = true) &&
    decide (s.mainUp = true) &&
    decide (s.pathTo mid ch = true) &&
    decide (s.boundTo mid ch = true) &&
    decide (s.tdDead ch = false) &&
    decide (s.tdFull ch = false) &&
    true) (rich.wr (Reg.HOST_MB_BIND 0) 0x80000000) (0) (0) (0) : Bool) = true) ∧
  (((fun (s : State) (ch : Nat) =>
    decide ((Instr.tdTake ch).wf = true) &&
    decide (s.mainUp = true) &&
    decide (s.tdFull ch = true) &&
    decide (s.tdDead ch = false) &&
    true) (rich.wb (rich.mbStat 0) 31 true) (0) : Bool) = true) ∧
  (((fun (s : State) (ch : Nat) =>
    decide ((Instr.fdPost ch).wf = true) &&
    decide (s.mainUp = true) &&
    match Tab.get [] s.host.out ch with
    | m :: q => (
    decide (s.replyFree ch = true) &&
    decide (s.fdDead ch = false) &&
    decide ((s.stewardRuns || s.romServes ch) = true) &&
    true)
    | _ => false) ({ rich with host.out := [(0, [⟨0, 0, 0, []⟩])] }) (0) : Bool) = true) ∧
  (((fun (s : State) (ch : Nat) (given : List Octet) =>
    decide ((Instr.ping ch given).wf = true) &&
    decide (s.mainUp = true) &&
    match Tab.find s.host.taken ch with
    | some rq => (
    decide (rq.typ.toNat = 1) &&
    let payload := s.msg ch given
    decide (payload.length ≤ 2044) &&
    true)
    | _ => false) (asked 0 1 rich) (0) ([]) : Bool) = true) ∧
  (((fun (s : State) (ch : Nat) (pG : Nat) (contentG : List Word) =>
    decide ((Instr.ptpTxSet ch pG contentG).wf = true) &&
    decide (s.mainUp = true) &&
    match Tab.find s.host.taken ch with
    | some rq => (
    decide (rq.typ.toNat = 0x30) &&
    let m := bytesWords (s.msg ch ((BitVec.ofNat 32 pG :: contentG).flatMap wordBytes))
    let p := (m.headD 0).toNat
    let content := m.drop 1
    decide (s.chanPriv ch 2 = true) &&
    true)
    | _ => false) (asked 0 0x30 rich) (0) (0) ([]) : Bool) = true) ∧
  (((fun (s : State) (fn : Nat) (vec : Nat) =>
    decide ((Instr.msixPost fn vec).wf = true) &&
    let port := s.fnPort fn
    decide (s.turnOf port = some fn) &&
    decide ((s.waitingVecs fn).contains vec = true) &&
    true) ({ rich with host.sig := [(0, 1)] }) (0) (0) : Bool) = true) ∧
  (((fun (s : State) (fn : Nat) =>
    decide ((Instr.holdoffEnd fn).wf = true) &&
    match Tab.find s.host.hold fn with
    | some (a, n) => (
    decide ((decide (s.clk.ns < a + s.holdoffNs fn) && (s.holdCount fn == 0 || decide (n < s.holdCount fn))) = false) &&
    true)
    | _ => false) ({ rich with host.hold := [(0, (0, 0))] }) (0) : Bool) = true) ∧
  (((fun (s : State) (fn : Nat) (vec : Nat) (all : Bool) =>
    decide ((Instr.vectorUnmask fn vec all).wf = true) &&
    decide (s.reach fn = true) &&
    true) (rich) (0) (0) (true) : Bool) = true) ∧
  (((fun (s : State) (mid : Nat) (ch : Nat) (lane : Nat) (size : Nat) =>
    decide ((Instr.fdPtrLoRead mid ch lane size).wf = true) &&
    decide (s.mainUp = true) &&
    decide (size ≠ 8) &&
    decide (s.pathTo mid ch = true) &&
    decide (s.boundTo mid ch = true) &&
    true) (rich.wr (Reg.HOST_MB_BIND 0) 0x80000000) (0) (0) (0) (4) : Bool) = true) := by
  refine ⟨?_, ?_, ?_, ?_, ?_, ?_, ?_, ?_, ?_⟩ <;> decide +kernel

theorem test_witness_HostPortCommandsComplete :
  (((fun (s : State) (port : Nat) (rate : Nat) (width : Nat) =>
    decide ((Instr.hostLinkUp port rate width).wf = true) &&
    decide (s.mainUp = true) &&
    let a := Reg.HOST_PORT_STAT port
    let same := s.rb a 31 && s.rf a 28 3 == rate && s.rf a 24 4 == width
    decide (port < s.ports) &&
    decide ((Tab.get (false, 0) s.host.perst port).1 = true) &&
    decide (width ≤ s.portLanes port) &&
    decide (same = false) &&
    true) ({ rich with host.perst := [(0, (true, 0))] }) (0) (0) (0) : Bool) = true) ∧
  (((fun (s : State) (port : Nat) (cause : PortReset) =>
    decide ((Instr.hostPortReset port cause).wf = true) &&
    decide (port < s.ports) &&
    true) (rich) (0) (.hot) : Bool) = true) ∧
  (((fun (s : State) (port : Nat) (linkLoss : Bool) =>
    decide ((Instr.dmaPauseStart port linkLoss).wf = true) &&
    decide (s.mainUp = true) &&
    decide (port < s.ports) &&
    true) (rich) (0) (true) : Bool) = true) ∧
  (((fun (s : State) (port : Nat) =>
    decide ((Instr.dmaPauseEnd port).wf = true) &&
    decide (s.mainUp = true) &&
    decide ((Tab.find s.host.pause port).isNone = false) &&
    true) ({ rich with host.pause := [(0, (0, true))] }) (0) : Bool) = true) ∧
  (((fun (s : State) (port : Nat) =>
    decide ((Instr.linkLossTimeout port).wf = true) &&
    decide (s.mainUp = true) &&
    match Tab.find s.host.pause port with
    | some (t, true) => (
    decide (t + 100000000 ≤ s.clk.ns) &&
    true)
    | _ => false) ({ rich with host.pause := [(0, (0, true))] }) (0) : Bool) = true) ∧
  (((fun (s : State) (fn : Nat) =>
    decide ((Instr.functionLevelReset fn).wf = true) &&
    decide (s.fnLive fn = true) &&
    true) (rich) (0) : Bool) = true) ∧
  (((fun (s : State) (port : Nat) (enable : Bool) (num : Nat) =>
    decide ((Instr.numvfsWrite port enable num).wf = true) &&
    decide (s.mainUp = true) &&
    decide (s.reach port = true) &&
    decide (port < s.ports) &&
    decide (¬ (s.man.totalVfs.getD port 0 < num)) &&
    decide (s.dev.st ≠ .safeTalk) &&
    true) (rich) (0) (true) (0) : Bool) = true) ∧
  (((fun (s : State) (fn : Nat) =>
    decide ((Instr.d3hotEntry fn).wf = true) &&
    decide (s.fnLive fn = true) &&
    decide (s.host.d3.contains fn = false) &&
    true) (rich) (0) : Bool) = true) ∧
  (((fun (s : State) (fn : Nat) (noSoftReset : Bool) =>
    decide ((Instr.d0Return fn noSoftReset).wf = true) &&
    decide (s.host.d3.contains fn = true) &&
    true) ({ rich with host.d3 := [0] }) (0) (true) : Bool) = true) ∧
  (((fun (s : State) (fn : Nat) (off : Nat) (wr : Bool) (be : List Bool) (data : List Octet) =>
    decide ((Instr.hostBankAccess fn off wr be data).wf = true) &&
    decide (s.reach fn = true) &&
    true) (rich) (0) (0) (true) ([]) ([]) : Bool) = true) ∧
  (((fun (s : State) (fn : Nat) (kind : DmaKind) =>
    decide ((Instr.dmaFault fn kind).wf = true) &&
    decide (s.fnLive fn = true) &&
    true) (rich) (0) (.bridge) : Bool) = true) ∧
  (((fun (s : State) (fn : Nat) =>
    decide ((Instr.functionResetComplete fn).wf = true) &&
    match Tab.find s.host.frst fn with
    | some z1 => (
    true)
    | _ => false) ({ rich with host.frst := [(0, 0)] }) (0) : Bool) = true) ∧
  (((fun (s : State) (port : Nat) =>
    decide ((Instr.perstRelease port).wf = true) &&
    decide (port < s.ports) &&
    decide ((Tab.get (false, 0) s.host.perst port).1 = false) &&
    true) (rich) (0) : Bool) = true) ∧
  (((fun (s : State) (fn : Nat) (fatal : Bool) =>
    decide ((Instr.pcieAerError fn fatal).wf = true) &&
    true) (rich) (0) (true) : Bool) = true) := by
  refine ⟨?_, ?_, ?_, ?_, ?_, ?_, ?_, ?_, ?_, ?_, ?_, ?_, ?_, ?_⟩ <;> decide +kernel

theorem test_witness_TollCommandsComplete :
  (((fun (s : State) (mw : Nat) =>
    decide (s.dev.st.serving = true) &&
    true) (rich) (0) : Bool) = true) ∧
  (((fun (s : State) =>
    decide (s.dev.st.serving = true) &&
    decide (s.tollCap < s.mean1) &&
    decide (s.toll.lastTake + 1000000 ≤ s.clk.ns) &&
    true) ({ rich.wf Reg.TOLL_CFG 22 10 1 with toll.samp := [1000] }) : Bool) = true) ∧
  (((fun (s : State) =>
    decide (s.dev.st.serving = true) &&
    decide (s.toll.forced = false) &&
    decide (s.mean100 < s.tollCap - s.tollHyst) &&
    decide (s.toll.lastRel + 100000000 ≤ s.clk.ns) &&
    true) (rich.wf Reg.TOLL_CFG 22 10 1) : Bool) = true) ∧
  (((fun (s : State) =>
    match s.toll.fullAt with
    | some t => (
    decide (t + 100000000 ≤ s.clk.ns) &&
    decide (s.rb Reg.TOLL_STAT 31 = false) &&
    true)
    | _ => false) ({ rich with toll.fullAt := some 0 }) : Bool) = true) ∧
  (((fun (s : State) (uv : Nat) =>
    true) (rich) (0) : Bool) = true) ∧
  (((fun (s : State) (uv : Nat) =>
    let k := s.toll.task
    decide (s.dev.st = .powerFail) &&
    decide (k ≠ 0) &&
    decide (k ≤ 4) &&
    true) ({ rich with dev.st := .powerFail, toll.task := 1 }) (0) : Bool) = true) ∧
  (((fun (s : State) =>
    decide (s.dev.st = .powerFail) &&
    true) ({ rich with dev.st := .powerFail }) : Bool) = true) ∧
  (((fun (s : State) (lowNs : Nat) =>
    true) (rich) (0) : Bool) = true) := by
  refine ⟨?_, ?_, ?_, ?_, ?_, ?_, ?_, ?_⟩ <;> decide +kernel

theorem test_witness_PowerCommandsComplete :
  (((fun (s : State) (i : Nat) =>
    decide ((Instr.supplyWarn i).wf = true) &&
    decide (s.dev.st ≠ .off) &&
    decide ((s.dev.st == .standby && i != 0) = false) &&
    true) (rich) (0) : Bool) = true) ∧
  (((fun (s : State) (i : Nat) =>
    decide ((Instr.brownOut i).wf = true) &&
    decide (s.dev.st ≠ .off) &&
    decide ((s.dev.st == .standby && i != 0) = false) &&
    true) (rich) (0) : Bool) = true) ∧
  (((fun (s : State) (x : PowerUp) =>
    let t := if x.vaon then s.restart .power 1 else s
    decide ((x.vaon || (s.dev.rst && s.rf Reg.SYS_RESET_CAUSE 20 4 == 1)) = true) &&
    true) (rich) (⟨true, false⟩) : Bool) = true) ∧
  (((fun (s : State) (lowNs : Nat) =>
    decide (1000 ≤ lowNs) &&
    true) (rich) (3000) : Bool) = true) ∧
  (((fun (s : State) (w : Wing) =>
    decide (s.mainUp = true) &&
    decide (s.dev.stew.at_ w = true) &&
    true) (rich) (.east) : Bool) = true) ∧
  (((fun (s : State) =>
    decide ((s.sec.unlocked || s.debugLevel == 0) = true) &&
    true) (rich) : Bool) = true) ∧
  (((fun (s : State) =>
    true) (rich) : Bool) = true) ∧
  (((fun (s : State) (fn : Nat) (val : Word) =>
    decide ((Instr.setMode fn val).wf = true) &&
    decide (s.reach fn = true) &&
    decide (fn = 0) &&
    decide (fld (setFld val 28 4 1) 28 4 = 1) &&
    decide (fld (setFld val 28 4 1) 16 12 = 0xA5C) &&
    decide (s.pCfg fn = true) &&
    decide ((fld (setFld val 28 4 1) 0 4 = 9 → s.hasPriv fn 4 = true)) &&
    match modeOf (fld (setFld val 28 4 1) 0 4) with
    | some d => (
    decide (s.dev.st.serving = true) &&
    decide (s.dev.stopping = false) &&
    true)
    | _ => false) (rich) (0) (0x0A5C0007) : Bool) = true) ∧
  (((fun (s : State) (fn : Nat) (val : Word) =>
    decide ((Instr.coreReset fn val).wf = true) &&
    decide (s.reach fn = true) &&
    decide (fn = 0) &&
    decide (fld (setFld val 28 4 2) 28 4 = 2) &&
    decide (fld (setFld val 28 4 2) 16 12 = 0xA5C) &&
    decide (s.pCfg fn = true) &&
    match wingsOf (fld (setFld val 28 4 2) 0 4) with
    | some ws => (
    true)
    | _ => false) (rich) (0) (0x0A5C0001) : Bool) = true) ∧
  (((fun (s : State) (fn : Nat) (val : Word) =>
    decide ((Instr.systemReset fn val).wf = true) &&
    decide (s.reach fn = true) &&
    decide (fn = 0) &&
    decide (fld (setFld val 28 4 3) 28 4 = 3) &&
    decide (fld (setFld val 28 4 3) 16 12 = 0xA5C) &&
    decide (s.pCfg fn = true) &&
    true) (rich) (0) (0x0A5C0000) : Bool) = true) ∧
  (((fun (s : State) (fn : Nat) (val : Word) =>
    decide ((Instr.standby fn val).wf = true) &&
    decide (s.reach fn = true) &&
    decide (fn = 0) &&
    decide (fld (setFld val 28 4 4) 28 4 = 4) &&
    decide (fld (setFld val 28 4 4) 16 12 = 0xA5C) &&
    decide (s.pCfg fn = true) &&
    decide ((s.dev.st.serving || s.dev.st == .safeTalk) = true) &&
    decide (s.dev.stopping = false) &&
    true) (rich) (0) (0x0A5C0000) : Bool) = true) ∧
  (((fun (s : State) (bits : Word) =>
    let w := bits &&& 0x001FFF00#32 &&& s.rd Reg.SYS_WAKE_CFG &&& 0x003FFFFF#32
    decide (s.dev.st = .standby) &&
    decide (w ≠ 0) &&
    true) (({ rich with dev.st := .standby }.wr Reg.SYS_WAKE_CFG 0x100)) (0x100) : Bool) = true) ∧
  (((fun (s : State) =>
    decide (s.clk.rtc.setWidth 32 = s.rd Reg.RTC_ALARM) &&
    true) (rich) : Bool) = true) ∧
  (((fun (s : State) =>
    decide (s.dev.rst = true) &&
    decide (s.dev.rstEnd ≤ s.clk.ns) &&
    decide (s.rf Reg.SYS_RESET_CAUSE 20 4 ≠ 1) &&
    true) ({ rich.wf Reg.SYS_RESET_CAUSE 20 4 3 with dev.rst := true }) : Bool) = true) := by
  refine ⟨?_, ?_, ?_, ?_, ?_, ?_, ?_, ?_, ?_, ?_, ?_, ?_, ?_, ?_⟩ <;> decide +kernel

theorem test_witness_StartCommandsComplete :
  (((fun (s : State) (flashE : Bool) (flashW : Bool) (held : Bool) =>
    decide (s.mainUp = true) &&
    decide (s.dev.st = .boot) &&
    decide (s.dev.rst = false) &&
    decide (held = true) &&
    true) ({ rich with dev.st := .boot }) (true) (true) (true) : Bool) = true) ∧
  (((fun (s : State) (res : SelfTest) =>
    decide (s.mainUp = true) &&
    decide (s.dev.st = .selfTest) &&
    true) ({ rich with dev.st := .selfTest }) (.pass) : Bool) = true) ∧
  (((fun (s : State) (flashOk : Bool) (mramOk : Bool) =>
    decide (s.mainUp = true) &&
    let k := fld s.upd.word2 31 1
    decide (s.dev.st = .configuring) &&
    decide (s.stewardRuns = true) &&
    true) ({ rich with dev.st := .configuring }) (true) (true) : Bool) = true) ∧
  (((fun (s : State) =>
    decide (s.mainUp = true) &&
    true) (rich) : Bool) = true) ∧
  (((fun (s : State) =>
    decide (s.mainUp = true) &&
    let t0 := if s.upd.trialAt = 0 then s.dev.since else s.upd.trialAt
    let here := s.upd.trialAt ≠ 0 || s.dev.st == s.startMode
    decide (tst s.upd.word2 3 = true) &&
    decide (s.upd.act.isNone = true) &&
    decide (here = true) &&
    decide (t0 + 10000000000 ≤ s.clk.ns) &&
    true) ({ rich with upd.word2 := 8 }) : Bool) = true) ∧
  (((fun (s : State) =>
    decide (s.mainUp = true) &&
    decide (s.dev.st = .safeTalk) &&
    decide ((s.dev.diag.isSome && decide (s.clk.ns < s.dev.diagAt + 1000000000)) = false) &&
    true) ({ rich with dev.st := .safeTalk }) : Bool) = true) ∧
  (((fun (s : State) (w : Wing) =>
    decide (s.mainUp = true) &&
    decide (s.dev.core.at_ w = true) &&
    decide (s.dev.rst = false) &&
    true) ({ rich with dev.core := ⟨true, false⟩ }) (.east) : Bool) = true) := by
  refine ⟨?_, ?_, ?_, ?_, ?_, ?_, ?_⟩ <;> decide +kernel

theorem test_witness_UpdateCommandsComplete :
  (((fun (s : State) (ch : Nat) (targetG : Nat) =>
    decide ((Instr.stageOpen ch targetG).wf = true) &&
    decide (s.mainUp = true) &&
    match Tab.find s.host.taken ch with
    | some rq => (
    decide (rq.typ.toNat = 0x20) &&
    decide (s.chanPriv ch 2 = true) &&
    decide ((s.dev.st.serving || s.dev.st == .safeTalk) = true) &&
    decide (s.manBusy ch = false) &&
    let target := fld (msgWord (s.msg ch (wordBytes (BitVec.ofNat 32 targetG))) 0) 0 2
    decide (target ≠ 3) &&
    decide ((s.romServes ch && target != 0) = false) &&
    match s.freeImage target with
    | some k => (
    true)
    | _ => false)
    | _ => false) (asked 0 0x20 rich) (0) (0) : Bool) = true) ∧
  (((fun (s : State) (ch : Nat) (offG : Nat) (dataG : List Octet) (flashOk : Bool) =>
    decide ((Instr.stageWrite ch offG dataG flashOk).wf = true) &&
    decide (s.mainUp = true) &&
    match Tab.find s.host.taken ch with
    | some rq => (
    decide (rq.typ.toNat = 0x21) &&
    decide (s.chanPriv ch 2 = true) &&
    decide ((s.dev.st.serving || s.dev.st == .safeTalk) = true) &&
    decide (s.manBusy ch = false) &&
    let m := s.msg ch (wordBytes (BitVec.ofNat 32 offG) ++ dataG)
    let off := (msgWord m 0).toNat
    let data := m.drop 4
    match s.upd.stage with
    | some (z1, tg, k, nx) => (
    decide (nx ≤ off) &&
    decide (data.length ≤ 65520) &&
    decide (off + data.length ≤ slotSize tg) &&
    decide (flashOk = true) &&
    true)
    | _ => false)
    | _ => false) ({ asked 0 0x21 rich with upd.stage := some (0, 0, 0, 0) }) (0) (0) ([]) (true) : Bool) = true) ∧
  (((fun (s : State) (ch : Nat) (body : ImageBody) =>
    decide ((Instr.stageClose ch body).wf = true) &&
    decide (s.mainUp = true) &&
    match Tab.find s.host.taken ch with
    | some rq => (
    decide (rq.typ.toNat = 0x22) &&
    decide (s.chanPriv ch 2 = true) &&
    decide ((s.dev.st.serving || s.dev.st == .safeTalk) = true) &&
    decide (s.manBusy ch = false) &&
    match s.upd.stage with
    | some (z1, tg, k, z2) => (
    true)
    | _ => false)
    | _ => false) ({ asked 0 0x22 rich with upd.stage := some (0, 0, 0, 0) }) (0) (⟨Machine.Manifest.zero, aSet⟩) : Bool) = true) ∧
  (((fun (s : State) (ch : Nat) (cG : Nat) (flashOk : Bool) =>
    decide ((Instr.activateCluster ch cG flashOk).wf = true) &&
    decide (s.mainUp = true) &&
    match Tab.find s.host.taken ch with
    | some rq => (
    decide (rq.typ.toNat = 0x23) &&
    decide (s.chanPriv ch 2 = true) &&
    decide ((s.dev.st.serving || s.dev.st == .safeTalk) = true) &&
    decide (s.manBusy ch = false) &&
    let w0 := msgWord (s.msg ch (wordBytes (BitVec.ofNat 32 (cG * 256)))) 0
    decide (fld w0 0 2 = 0) &&
    let c := fld w0 8 3
    match s.stagedSlot 0 with
    | some k => (
    decide (flashOk = true) &&
    decide (s.scopeFits k false (fun n => n / 4 == c) = true) &&
    true)
    | _ => false)
    | _ => false) ({ asked 0 0x23 rich with upd.staged := [(0, 1)] }) (0) (0) (true) : Bool) = true) ∧
  (((fun (s : State) (ch : Nat) (wG : Wing) (flashOk : Bool) =>
    decide ((Instr.activateWing ch wG flashOk).wf = true) &&
    decide (s.mainUp = true) &&
    match Tab.find s.host.taken ch with
    | some rq => (
    decide (rq.typ.toNat = 0x23) &&
    decide (s.chanPriv ch 2 = true) &&
    decide ((s.dev.st.serving || s.dev.st == .safeTalk) = true) &&
    decide (s.manBusy ch = false) &&
    let w0 := msgWord (s.msg ch (wordBytes (BitVec.ofNat 32 (1 + 256 * wG.idx)))) 0
    decide (fld w0 0 2 = 1) &&
    let w := wingOf (fld w0 8 1)
    match s.stagedSlot 0 with
    | some k => (
    decide (flashOk = true) &&
    decide (s.scopeFits k true (fun n => engWing n == w) = true) &&
    decide ((decide (s.steward = some w) && !s.deputyOk) = false) &&
    true)
    | _ => false)
    | _ => false) ({ asked 0 0x23 rich with upd.staged := [(0, 1)] }) (0) (.east) (true) : Bool) = true) ∧
  (((fun (s : State) (ch : Nat) (arg : BitVec 30) (flashOk : Bool) =>
    decide ((Instr.activateDevice ch arg flashOk).wf = true) &&
    decide (s.mainUp = true) &&
    match Tab.find s.host.taken ch with
    | some rq => (
    decide (rq.typ.toNat = 0x23) &&
    decide (s.chanPriv ch 2 = true) &&
    decide ((s.dev.st.serving || s.dev.st == .safeTalk) = true) &&
    decide (s.manBusy ch = false) &&
    let w0 := msgWord (s.msg ch (wordBytes (arg ++ 2#2))) 0
    decide (fld w0 0 2 = 2) &&
    decide (s.deviceFault = none) &&
    decide (flashOk = true) &&
    true)
    | _ => false) ({ asked 0 0x23 rich with upd.staged := [(0, 1)], dev := { rich.dev with st := .safeTalk, manOk := false, manId := 0xFFFFFFFF } }) (0) (0) (true) : Bool) = true) ∧
  (((fun (s : State) (ch : Nat) (flashOk : Bool) =>
    decide ((Instr.settingsLoad ch flashOk).wf = true) &&
    decide (s.mainUp = true) &&
    match Tab.find s.host.taken ch with
    | some rq => (
    decide (rq.typ.toNat = 0x24) &&
    decide (s.chanPriv ch 2 = true) &&
    decide ((s.dev.st.serving || s.dev.st == .safeTalk) = true) &&
    decide (s.manBusy ch = false) &&
    match s.stagedSlot 2 with
    | some h => (
    decide (flashOk = true) &&
    decide (s.halfReason h = 0) &&
    true)
    | _ => false)
    | _ => false) ({ asked 0 0x24 rich with upd.staged := [(2, 1)], upd.halves := [(1, { SetHalf.zero with snap := some rich.dev.manId })] }) (0) (true) : Bool) = true) ∧
  (((fun (s : State) (ch : Nat) =>
    decide ((Instr.abort ch).wf = true) &&
    decide (s.mainUp = true) &&
    match Tab.find s.host.taken ch with
    | some rq => (
    decide (rq.typ.toNat = 0x25) &&
    decide (s.chanPriv ch 2 = true) &&
    decide ((s.dev.st.serving || s.dev.st == .safeTalk) = true) &&
    decide (s.manBusy ch = false) &&
    decide (s.upd.stage.isNone = false) &&
    true)
    | _ => false) ({ asked 0 0x25 rich with upd.stage := some (0, 0, 0, 0) }) (0) : Bool) = true) ∧
  (((fun (s : State) =>
    decide (s.mainUp = true) &&
    decide (4096 ≤ (s.setHalf s.upd.half).log.length) &&
    true) ({ rich with upd.halves := [(0, { SetHalf.zero with log := List.replicate 4096 ⟨[], none, []⟩ })] }) : Bool) = true) := by
  refine ⟨?_, ?_, ?_, ?_, ?_, ?_, ?_, ?_, ?_⟩ <;> decide +kernel

theorem test_witness_SafetyCommandsComplete :
  (((fun (s : State) (d : Nat) (out : Bool) (lost : Bool) =>
    decide ((Instr.clockWindow d out lost).wf = true) &&
    decide (s.mainUp = true) &&
    decide (s.watching = true) &&
    decide (d ≠ 2) &&
    decide (s.clockRuns d = true) &&
    true) (rich) (0) (true) (true) : Bool) = true) ∧
  (((fun (s : State) (centre : Octet) (west : Octet) (east : Octet) =>
    decide (s.mainUp = true) &&
    decide (s.watching = true) &&
    true) (rich) (0) (0) (0) : Bool) = true) ∧
  (((fun (s : State) =>
    decide (s.mainUp = true) &&
    match s.safe.hotAt with
    | some t => (
    decide (s.watching = true) &&
    decide (¬ (s.clk.ns < t + 10000000)) &&
    true)
    | _ => false) ({ rich with safe.hotAt := some 0 }) : Bool) = true) ∧
  (((fun (s : State) (ok : Bool) =>
    decide (s.mainUp = true) &&
    decide (ok = false) &&
    decide (s.watching = true) &&
    decide (s.dev.manOk = true) &&
    true) (rich) (false) : Bool) = true) ∧
  (((fun (s : State) (w : Wing) =>
    decide (s.mainUp = true) &&
    decide (s.watching = true) &&
    decide (s.dev.core.at_ w = false) &&
    true) (rich) (.east) : Bool) = true) ∧
  (((fun (s : State) (w : Option Wing) =>
    decide (s.mainUp = true) &&
    decide (s.watching = true) &&
    true) (rich) (none) : Bool) = true) ∧
  (((fun (s : State) (u : EccSite) =>
    decide (s.mainUp = true) &&
    decide (s.watching = true) &&
    true) (rich) (.other) : Bool) = true) ∧
  (((fun (s : State) (east : Bool) (west : Bool) =>
    decide (s.mainUp = true) &&
    match s.safe.directed with
    | some t => (
    decide ((!east && !west && decide (s.clk.ns < t + 100000000)) = false) &&
    true)
    | _ => false) ({ rich with safe.directed := some 0 }) (true) (true) : Bool) = true) ∧
  (((fun (s : State) (n : Option Nat) =>
    decide (s.mainUp = true) &&
    decide (s.watching = true) &&
    true) (rich) (none) : Bool) = true) := by
  refine ⟨?_, ?_, ?_, ?_, ?_, ?_, ?_, ?_, ?_⟩ <;> decide +kernel

/-- The outcome is a next state. -/
def answers (o : Host.Outcome State Fault Refusal) : Bool :=
  match o with
  | .next _ => true
  | _ => false

/-- A move of an immediate into a port of the frame processor of engine 0. -/
def aMv : FpMv := ⟨.imm 1, .always, false⟩

theorem test_witness_EmptyQueuePassesTime :
    ({ rich with dev.rst := true }).pending = [] ∧ ({ rich with dev.rst := true }).dev.rst = true ∧ rich.pending = [] ∧ rich.dev.rst = false := by decide +kernel

/-- A step from a state in canonical form that answers a next state, and one of a command in no list of Safety but the bus's. -/
theorem test_witness_MemoriesStayCanonical :
    (State.reset.memOk && answers (step { State.reset with pending := [.mspiRead 0] })) = true := by decide +kernel

theorem test_witness_FusesStayBlown :
    (let s := { rich with sec.fuse := [(3, [1])], pending := [.mspiRead 0] }
     decide (1 ∈ s.blown 3) && answers (step s)) = true := by decide +kernel

theorem test_witness_QueueUntouched : answers (exec (.mspiRead 0) rich) = true := by decide +kernel

theorem test_witness_ClocksAndManifestFrame :
    (let c : Instr := .heartbeatLost .east
     answers (exec c rich) && !c.mayRestart && !c.mayMan && !c.mayToll && !c.maySafe) = true := by decide +kernel

theorem test_witness_SamplesFrame :
    (let c : Instr := .heartbeatLost .east
     answers (exec c rich) && !c.mayIntake && !c.mayWall && !c.maySlice) = true := by decide +kernel

theorem test_witness_ProtectionFrame :
    (let c : Instr := .heartbeatLost .east
     answers (exec c rich) && !c.mayHedge && !c.mayLease) = true := by decide +kernel

theorem test_witness_FieldUnitsFrame :
    (let c : Instr := .heartbeatLost .east
     answers (exec c rich) && !c.mayCan && !c.mayTk && !c.mayPub) = true := by decide +kernel

theorem test_witness_RingsAndUpdateFrame :
    (let c : Instr := .fpAdd 0 0 aMv
     answers (exec c rich) && !c.mayRing && !c.mayArb && !c.mayUpd && !c.mayBus) = true := by decide +kernel

theorem test_witness_FpAluComputes :
    (∀ k : Half → State → Eff, rich.fpSrcRead 0 aMv.src k = k 1 rich) ∧
    (rich.mainUp && (Instr.fpAdd 0 0 aMv).wf && rich.fpIssues 0 aMv.guard aMv.long aMv.src 18 &&
     (Instr.fpSub 0 0 aMv).wf && rich.fpIssues 0 aMv.guard aMv.long aMv.src 19 &&
     (Instr.fpAnd 0 0 aMv).wf && rich.fpIssues 0 aMv.guard aMv.long aMv.src 20 &&
     (Instr.fpOr 0 0 aMv).wf && rich.fpIssues 0 aMv.guard aMv.long aMv.src 21 &&
     (Instr.fpXor 0 0 aMv).wf && rich.fpIssues 0 aMv.guard aMv.long aMv.src 22 &&
     (Instr.fpAndn 0 0 aMv).wf && rich.fpIssues 0 aMv.guard aMv.long aMv.src 23 &&
     (Instr.fpAdc 0 1 aMv).wf && rich.fpIssues 0 aMv.guard aMv.long aMv.src 34 &&
     (Instr.fpSbb 0 1 aMv).wf && rich.fpIssues 0 aMv.guard aMv.long aMv.src 35 &&
     (Instr.fpShl 0 aMv).wf && rich.fpIssues 0 aMv.guard aMv.long aMv.src 38 &&
     (Instr.fpShr 0 aMv).wf && rich.fpIssues 0 aMv.guard aMv.long aMv.src 39 &&
     (Instr.fpSar 0 aMv).wf && rich.fpIssues 0 aMv.guard aMv.long aMv.src 40 &&
     (Instr.fpRol 0 aMv).wf && rich.fpIssues 0 aMv.guard aMv.long aMv.src 41 &&
     (Instr.fpRor 0 aMv).wf && rich.fpIssues 0 aMv.guard aMv.long aMv.src 42 &&
     (Instr.fpSwap 0 aMv).wf && rich.fpIssues 0 aMv.guard aMv.long aMv.src 43) = true :=
  ⟨fun _ => rfl, by decide +kernel⟩

theorem test_witness_FpCompareWritesGuard :
    (∀ k : Half → State → Eff, rich.fpSrcRead 0 aMv.src k = k 1 rich) ∧
    (rich.mainUp && (Instr.fpEq 0 aMv).wf && rich.fpIssues 0 aMv.guard aMv.long aMv.src 46 &&
     (Instr.fpNe 0 aMv).wf && rich.fpIssues 0 aMv.guard aMv.long aMv.src 47 &&
     (Instr.fpLtu 0 aMv).wf && rich.fpIssues 0 aMv.guard aMv.long aMv.src 48 &&
     (Instr.fpLeu 0 aMv).wf && rich.fpIssues 0 aMv.guard aMv.long aMv.src 49 &&
     (Instr.fpLt 0 aMv).wf && rich.fpIssues 0 aMv.guard aMv.long aMv.src 50 &&
     (Instr.fpLe 0 aMv).wf && rich.fpIssues 0 aMv.guard aMv.long aMv.src 51 &&
     (Instr.fpBit 0 aMv).wf && rich.fpIssues 0 aMv.guard aMv.long aMv.src 52 &&
     (Instr.fpAny 0 aMv).wf && rich.fpIssues 0 aMv.guard aMv.long aMv.src 53) = true :=
  ⟨fun _ => rfl, by decide +kernel⟩

/-- Engine 0 with `d` return addresses held, under a package of an option for the overflow. -/
def withReturns (d : Nat) (trap : Bool) : State :=
  { rich with eng := [(0, { rich.en 0 with pkg := some { aPkg with rsTrap := trap }, fp := { (rich.en 0).fp with rs := List.replicate d 7 } })] }

/-- Below depth 8, at depth 8 under each option, and with nothing held. -/
theorem test_witness_FpReturnStack :
    (∀ k : Half → State → Eff, (withReturns 7 false).fpSrcRead 0 aMv.src k = k 1 (withReturns 7 false)) ∧
    (∀ k : Half → State → Eff, (withReturns 8 false).fpSrcRead 0 aMv.src k = k 1 (withReturns 8 false)) ∧
    (∀ k : Half → State → Eff, (withReturns 8 true).fpSrcRead 0 aMv.src k = k 1 (withReturns 8 true)) ∧
    (∀ k : Half → State → Eff, (withReturns 0 false).fpSrcRead 0 aMv.src k = k 1 (withReturns 0 false)) ∧
    ((Instr.call 0 aMv).wf && (Instr.ret 0 aMv).wf && (withReturns 7 false).mainUp && (withReturns 8 false).mainUp && (withReturns 8 true).mainUp &&
     (withReturns 0 false).mainUp &&
     (withReturns 7 false).fpIssues 0 aMv.guard aMv.long aMv.src 88 && ((withReturns 7 false).en 0).fp.rs.length == 7 &&
     (withReturns 8 false).fpIssues 0 aMv.guard aMv.long aMv.src 88 && ((withReturns 8 false).en 0).fp.rs.length == 8 &&
     ((withReturns 8 false).en 0).pkg == some { aPkg with rsTrap := false } &&
     (withReturns 8 true).fpIssues 0 aMv.guard aMv.long aMv.src 88 && ((withReturns 8 true).en 0).fp.rs.length == 8 &&
     ((withReturns 8 true).en 0).pkg == some { aPkg with rsTrap := true } &&
     (withReturns 7 false).fpIssues 0 aMv.guard aMv.long aMv.src 89 && ((withReturns 7 false).en 0).fp.rs == 7 :: List.replicate 6 7 &&
     (withReturns 0 false).fpIssues 0 aMv.guard aMv.long aMv.src 89 && ((withReturns 0 false).en 0).fp.rs == []) = true :=
  ⟨fun _ => rfl, fun _ => rfl, fun _ => rfl, fun _ => rfl, by decide +kernel⟩

/-- With a register, and with an extension word. -/
theorem test_witness_SpFlags :
    (rich.mainUp && rich.spIssues 0 (srcWords (.reg 1)) true && rich.spIssues 0 (srcWords (.imm16 0xFFFF)) true &&
     (Instr.mov 0 7 (.reg 1)).wf && (Instr.mov 0 7 (.imm16 0xFFFF)).wf &&
     (Instr.spAdd 0 7 (.reg 1)).wf && (Instr.spAdd 0 7 (.imm16 0xFFFF)).wf &&
     (Instr.spAdc 0 7 (.reg 1)).wf && (Instr.spAdc 0 7 (.imm16 0xFFFF)).wf &&
     (Instr.spSub 0 7 (.reg 1)).wf && (Instr.spSub 0 7 (.imm16 0xFFFF)).wf &&
     (Instr.spSbb 0 7 (.reg 1)).wf && (Instr.spSbb 0 7 (.imm16 0xFFFF)).wf &&
     (Instr.cmp 0 7 (.reg 1)).wf && (Instr.cmp 0 7 (.imm16 0xFFFF)).wf &&
     (Instr.spAnd 0 7 (.reg 1)).wf && (Instr.spAnd 0 7 (.imm16 0xFFFF)).wf &&
     (Instr.spOr 0 7 (.reg 1)).wf && (Instr.spOr 0 7 (.imm16 0xFFFF)).wf &&
     (Instr.spXor 0 7 (.reg 1)).wf && (Instr.spXor 0 7 (.imm16 0xFFFF)).wf &&
     (Instr.spAndn 0 7 (.reg 1)).wf && (Instr.spAndn 0 7 (.imm16 0xFFFF)).wf &&
     (Instr.tst 0 7 (.reg 1)).wf && (Instr.tst 0 7 (.imm16 0xFFFF)).wf &&
     (Instr.spShl 0 7 (.reg 1)).wf && (Instr.spShl 0 7 (.imm16 0xFFFF)).wf &&
     (Instr.spShr 0 7 (.reg 1)).wf && (Instr.spShr 0 7 (.imm16 0xFFFF)).wf &&
     (Instr.spSar 0 7 (.reg 1)).wf && (Instr.spSar 0 7 (.imm16 0xFFFF)).wf &&
     (Instr.spRol 0 7 (.reg 1)).wf && (Instr.spRol 0 7 (.imm16 0xFFFF)).wf &&
     (Instr.spBit 0 7 (.reg 1)).wf && (Instr.spBit 0 7 (.imm16 0xFFFF)).wf) = true := by decide +kernel

/-- Engine 0 with its first data words owned by the SP. -/
def spOwns : State := { rich with eng := [(0, { rich.en 0 with pkg := some { aPkg with regions := [⟨0, 4096, 1⟩] } })] }

theorem test_witness_SpLocalStoreFrame :
    ((Instr.localStore 0 (.d 1) 2 .base).wf && spOwns.mainUp && spOwns.spIssues 0 1 true && spOwns.fetchOk 0 .sp ((spOwns.spAdvance 0 1).spPc 0).toNat &&
     ownerOf (spOwns.regionsOf 0) (spOwns.effAddr 0 2 .base).toNat == 1) = true := by decide +kernel

theorem test_witness_HostBankWriteBytes :
    ((Instr.hostBankAccess 0 0x1FFFFC true [true, false, true, true] [1, 2, 3]).wf && rich.reach 0) = true := by decide +kernel

theorem test_witness_MramUserArea :
    ((Instr.mramUserWrite 0 0x7FFF [1, 2]).wf && rich.reach 0 && rich.pCfg 0) = true := by decide +kernel

/-- Thicket engine 0 running, its table's first entry `w` and its conditions never met, its FIFOs as given. -/
def tkOn (w : Word) (tx rx : List Word) : State :=
  { (rich.wb (Reg.TK_CTRL 0) 31 true).wr (Reg.TK_LUT 0 0) w with tk := [(0, { Tk.zero with run := true, tickLeft := 1, tx := tx, rx := rx })] }

/-- Each limit in turn: POP with an empty TX FIFO, PUSH with a full RX FIFO, a write to a full TX FIFO, a read of an empty RX FIFO. -/
theorem test_witness_ThicketFifoLimits :
    ((tkOn 0x4000 [] []).mainUp && (tkOn 0x2000 [] (List.replicate 16 5)).mainUp && (tkOn 0x4000 [] []).rb (Reg.TK_CTRL 0) 31 && ((tkOn 0x4000 [] []).tke 0).run &&
     fld ((tkOn 0x4000 [] []).tkEntry 0 0 (((tkOn 0x4000 [] []).tke 0).tickLeft == 0)) 13 2 == 2 && ((tkOn 0x4000 [] []).tke 0).tx == [] &&
     fld ((tkOn 0x2000 [] (List.replicate 16 5)).tkEntry 0 0 (((tkOn 0x2000 [] (List.replicate 16 5)).tke 0).tickLeft == 0)) 13 2 == 1 &&
     ((tkOn 0x2000 [] (List.replicate 16 5)).tke 0).rx.length == 16 &&
     (tkOn 0 (List.replicate 16 5) []).ownerCfg 0 && ((tkOn 0 (List.replicate 16 5) []).tke 0).tx.length == 16 &&
     (tkOn 0 [] []).ownerIn 0 && ((tkOn 0 [] []).tke 0).rx == []) = true := by decide +kernel

theorem test_witness_FencedStewardDiscarded :
    (let s := rich.wb Reg.ARB_STATUS (fenceBit .west) true
     s.mainUp && s.stewUp .west && fencedClass 0x900000 && s.fenced .west) = true := by decide +kernel

/-- Refused for want of the right, and for a wrong check value. -/
theorem test_witness_TripCommandRefused :
    (rich.reach 0 && rich.tripCheck 0 1 0 != 0 && decide ((rich.wf (Reg.FN_PRIV 0) 0 6 1).tripCheck 0 1 0 = 1)) = true := by decide +kernel

theorem test_witness_UnoccupiedOffsets :
    (rich.reach 0 && decide (barAddr 0 0x01FFFFFC = some 0x01FFFFFC) && (regInfo 0x01FFFFFC).isNone && (rich.mbWord 0x01FFFFFC).isNone) = true := by
  decide +kernel

/-- The next state of an outcome. -/
def nextOf (o : Host.Outcome State Fault Refusal) : State :=
  match o with
  | .next t => t
  | _ => rich

/-- Each form in turn: a write of 64 bits, a narrow and a misaligned write, a clearing read of 64 bits, and each read that acts. -/
theorem test_witness_AccessWidths :
    (let wr (s : State) (off : Nat) (v : BitVec 64) := exec (.registerWrite 0 off 4 v 0) s
     (Instr.registerWrite 0 0x800000 8 0 0).wf && answers (wr rich 0x800000 0) && answers (wr (nextOf (wr rich 0x800000 0)) 0x800004 0)) = true ∧
    (let rc (s : State) (off : Nat) := exec (.readClear 0 off 4 0) s
     let t := nextOf (rc rich 0x800000)
     let u := nextOf (rc t 0x800004)
     (Instr.readClear 0 0x800000 8 0).wf && rich.reach 0 && t.reach 0 && answers (rc rich 0x800000) && answers (rc t 0x800004) &&
     t.bus.cpl == .ok && u.bus.cpl == .ok) = true ∧
    (rich.mainUp && (Instr.timeNowRead 0 .east 0 8).wf && (Instr.ltcRead 0 .east 0 8).wf && (Instr.timeTripleRead 0 .east 0 8).wf &&
     (Instr.capturePop 0 0 0 8).wf && (Instr.tsqEntryPop 0 0 0 8).wf && (Instr.hedgePhRead 0 .east 0 0 8).wf && (Instr.cqCycleRead 0 0 0 8).wf &&
     (Instr.macCounterRead 0 0 0 0 8).wf && (Instr.tkRxfifoRead 0 0 0 8).wf) = true := by
  refine ⟨?_, ?_, ?_⟩ <;> decide +kernel

theorem test_witness_EveryCommandAnswers :
    (Instr.iwlLaneUp 9).wf = false ∧ (Instr.iwlLaneUp 0).ofMain = true ∧ ({ rich with dev.rst := true }).mainUp = false := by decide +kernel

end Sys2Proof.Tests
end

