-- ==== Sys2Proof/Tests/Slice0.lean ====
section
/-! SUPPORT. Tests: for every check of WellFormed a term that it refuses, beside one with every operand in range; and single steps
on small states, with results worked out by hand from the manual. -/

namespace Sys2Proof.Tests
open Sys2Proof Sys2Proof.Machine

set_option Elab.async false

/-- The checks of operand shapes that rows share (R3, R323, R324, R343, R347, R350). -/
theorem test_ill_formed_operands :
    (!sizeOk 0 && !sizeOk 5 && !lanesOk 1 4 && !lanesOk 4 8 && !(SpReg.d 8).wf && !(SpReg.a 8).wf && !(SpMode.indexed 8).wf && !(SpSrc.reg 8).wf &&
     !SpRep.wf true (.long 0x7FFF) && !SpRep.wf false (.long 0x8000) && !(FpSrc.port 128).wf false && !(FpSrc.port 256).wf true &&
     !(FpSrc.imm 128).wf false && !(FpGuard.ifOne 8).wf && !(FpGuard.ifZero 8).wf && !(FpMv.mk (.imm 0) (.ifOne 0) false).wf &&
     !(FpGd.mk (.ifZero 0) false).wf && !(CopStart.fp ⟨.port 128, .always, false⟩).wf && !(CopStart.sp 8).wf &&
     !(EngStore.fp 2 ⟨.imm 0, .always, false⟩).wf && !(EngStore.spBased 8 0 0).wf && !(EngStore.spBased 0 8 0).wf && !(EngStore.spAbs 8 0).wf &&
     (FpSrc.port 255).wf true && (FpSrc.imm 128).wf true && (SpReg.a 7).wf && lanesOk 0 8) = true := by decide

theorem test_ill_formed_AccessCommands :
    [(Instr.registerWrite 256 0 0 0 0).wf,
     (Instr.registerWrite 0 0 5 0 0).wf,
     (Instr.readClear 256 0 4 0).wf,
     (Instr.readClear 0 0 5 0).wf,
     (Instr.mramUserWrite 256 0 []).wf,
     (Instr.mramUserWrite 0 0x40000 []).wf].all (fun b => !b) = true := by decide +kernel

theorem test_ill_formed_StewardCommands :
    [(Instr.iwlLaneUp 2).wf,
     (Instr.iwlLaneFail 2).wf].all (fun b => !b) = true := by decide +kernel

theorem test_ill_formed_PtpCommands :
    [(Instr.syncReceive 40 true ⟨0, 0, 0⟩ 0 0 0).wf,
     (Instr.syncReceive 0 true ⟨0, 0, 0⟩ 0 0 16).wf,
     (Instr.followUpReceive 40 ⟨0, 0, 0⟩ 0 0).wf,
     (Instr.syncTransmit 40 0 0).wf,
     (Instr.syncTransmit 0 0 16).wf,
     (Instr.pdelayExchange 40 true 0 (0, 0) (0, 0)).wf,
     (Instr.announceReceive 40 true ⟨.announce, 0, 0, [], []⟩ 0).wf,
     (Instr.announceReceive 0 true ⟨.announce, 0, 0, [], []⟩ 16).wf,
     (Instr.announceTransmit 40).wf,
     (Instr.ptpTransit 40 0 (.pdelay) aPtp 0 0 0).wf,
     (Instr.ptpTransit 0 40 (.pdelay) aPtp 0 0 0).wf,
     (Instr.ptpTransit 0 0 (.pdelay) aPtp 0 16 0).wf,
     (Instr.ptpTransit 0 0 (.pdelay) aPtp 0 0 16).wf,
     (Instr.heldSyncExpiry 40).wf,
     (Instr.ptpUnsupported 40 true ⟨aFrame, 0, 0⟩).wf,
     (Instr.timePortStateWrite 256 0 0).wf,
     (Instr.timePortStateWrite 0 40 0).wf].all (fun b => !b) = true := by decide +kernel

theorem test_ill_formed_TimeCommands :
    [(Instr.timeShadowWrite (.east) (.east) 6 0).wf,
     (Instr.step 256 0).wf,
     (Instr.gmChange 256 0).wf,
     (Instr.irigbFrame [] 0 16).wf,
     (Instr.captureEdge 8 ⟨true, true⟩ 0 0).wf,
     (Instr.captureEdge 0 ⟨true, true⟩ 0 16).wf,
     (Instr.timeNowRead 256 (.east) 0 4).wf,
     (Instr.timeNowRead 0 (.east) 1 4).wf,
     (Instr.ltcRead 256 (.east) 0 4).wf,
     (Instr.ltcRead 0 (.east) 1 4).wf,
     (Instr.timeTripleRead 256 (.east) 0 4).wf,
     (Instr.timeTripleRead 0 (.east) 1 4).wf,
     (Instr.capturePop 320 0 0 4).wf,
     (Instr.capturePop 0 8 0 4).wf,
     (Instr.capturePop 0 0 1 4).wf,
     (Instr.tsqEntryPop 256 0 0 4).wf,
     (Instr.tsqEntryPop 0 40 0 4).wf,
     (Instr.tsqEntryPop 0 0 1 4).wf].all (fun b => !b) = true := by decide +kernel

theorem test_ill_formed_TriggerCommands :
    [(Instr.triggerArm 256 0 0).wf,
     (Instr.triggerArm 0 16 0).wf,
     (Instr.triggerFire 16).wf,
     (Instr.triggerPulseEnd 16).wf,
     (Instr.pubWrAdvance 256 0 0).wf,
     (Instr.pubWrAdvance 0 64 0).wf,
     (Instr.pubFrameSend 64).wf,
     (Instr.thicketPubDma 64).wf].all (fun b => !b) = true := by decide +kernel

theorem test_ill_formed_IntakeCommands :
    [(Instr.discardWindowExpiry (.east) 512).wf,
     (Instr.policerToken (.east) 512).wf,
     (Instr.pairingWindowEnd (.east) 512).wf,
     (Instr.streamLoss (.east) 512).wf,
     (Instr.confrevClear 256 (.east) 0 0).wf,
     (Instr.confrevClear 0 (.east) 512 0).wf,
     (Instr.simEnWrite 256 (.east) 0).wf].all (fun b => !b) = true := by decide +kernel

theorem test_ill_formed_WallCommands :
    [(Instr.rowOpen (.east) 8).wf,
     (Instr.rowDeadline (.east) 8).wf,
     (Instr.rowRelease (.east) 8 []).wf,
     (Instr.derivedRowRelease (.east) 8).wf,
     (Instr.sliceEnable 256 0 0x80000003).wf,
     (Instr.sliceEnable 0 128 0x80000003).wf,
     (Instr.sliceDisable 256 0 0).wf,
     (Instr.sliceDisable 0 128 0).wf,
     (Instr.sliceConsWrite 256 0 0).wf,
     (Instr.sliceConsWrite 0 128 0).wf,
     (Instr.sliceBlockWrite 128).wf].all (fun b => !b) = true := by decide +kernel

theorem test_ill_formed_LeaseCommands :
    [(Instr.acquire 256 0).wf,
     (Instr.refresh 256 1).wf,
     (Instr.release 256 0).wf,
     (Instr.hedgeSet 288 []).wf].all (fun b => !b) = true := by decide +kernel

theorem test_ill_formed_HedgeCommands :
    [(Instr.elementOperate (.east) 128).wf,
     (Instr.elementResetDelayExpiry (.east) 128).wf,
     (Instr.inverseTimeOperate (.east) 128).wf,
     (Instr.inverseResetExpiry (.east) 128).wf,
     (Instr.retrip (.east) 128).wf,
     (Instr.bfOperate (.east) 128).wf,
     (Instr.inputInvalidBlock (.east) 128).wf,
     (Instr.freqHoldTimeout (.east) 8).wf,
     (Instr.comparisonRecordTimeout (.east) 8).wf,
     (Instr.hedgePhRead 256 (.east) 0 0 4).wf,
     (Instr.hedgePhRead 0 (.east) 1024 0 4).wf,
     (Instr.hedgePhRead 0 (.east) 0 1 4).wf].all (fun b => !b) = true := by decide +kernel

theorem test_ill_formed_TripCommands :
    [(Instr.tpMinExpiry 784).wf,
     (Instr.engineSourceWrite 32 64 true ⟨false, false, false⟩).wf,
     (Instr.engineSourceWrite 0 63 true ⟨false, false, false⟩).wf,
     (Instr.engineSourceWrite 0 160 true ⟨false, false, false⟩).wf,
     (Instr.gsiTalExpiry (.east) 64).wf,
     (Instr.engHoldExpiry (.east) 63).wf,
     (Instr.engHoldExpiry (.east) 160).wf,
     (Instr.pulse 256 1 (crc16 (tripCrcBytes 0 0x10000001 1 0) 0xFFFF)).wf,
     (Instr.clear 256 1 (crc16 (tripCrcBytes 0 0x20000000 1 0) 0xFFFF)).wf,
     (Instr.hcmdPulseEnd 32).wf,
     (Instr.tripPubChange 64).wf,
     (Instr.tripPubResend 64).wf].all (fun b => !b) = true := by decide +kernel

theorem test_ill_formed_RingCommands :
    [(Instr.caravanCutoff 4).wf,
     (Instr.imageRotate 4).wf,
     (Instr.ringStart 4 true).wf,
     (Instr.epochCommit 4 (.east) [(0xE9000040, 0), (0xEC000005, 0)]).wf,
     (Instr.epochSwap 4).wf,
     (Instr.triggerSourceStop 4).wf,
     (Instr.caravanDepart 4).wf,
     (Instr.cqCycleRead 256 0 0 4).wf,
     (Instr.cqCycleRead 0 4 0 4).wf,
     (Instr.cqCycleRead 0 0 1 4).wf].all (fun b => !b) = true := by decide +kernel

theorem test_ill_formed_CaravanCommands :
    [(Instr.caravanReceive 4 true aCaravan).wf,
     (Instr.caravanMissing 4 true).wf,
     (Instr.laneSignalLoss 4 true).wf,
     (Instr.nodeLost 4 0).wf,
     (Instr.nodeLost 0 16).wf,
     (Instr.joinAnswer 4).wf,
     (Instr.echoReqSend 4 true).wf,
     (Instr.echoReqReceive 4 true (lineSet false (.echoReq 0)) 0).wf,
     (Instr.echoRspReceive 4 false (lineSet false (.echoRsp 0 0)) 0 0).wf,
     (Instr.echoTimeout 4 false).wf,
     (Instr.unwrap 256 0).wf,
     (Instr.unwrap 0 4).wf,
     (Instr.restore 256 0).wf,
     (Instr.restore 0 4).wf,
     (Instr.sleep 256 0).wf,
     (Instr.sleep 0 4).wf,
     (Instr.wake 256 0).wf,
     (Instr.wake 0 4).wf,
     (Instr.nodeReset 256 0 0).wf,
     (Instr.nodeReset 0 4 0).wf,
     (Instr.nodeReset 0 0 64).wf,
     (Instr.clearFalseWake 256 0 0).wf,
     (Instr.clearFalseWake 0 4 0).wf,
     (Instr.clearFalseWake 0 0 64).wf,
     (Instr.applyInstant 4).wf,
     (Instr.laneSignalReturn 4 true).wf].all (fun b => !b) = true := by decide +kernel

theorem test_ill_formed_BridgeCommands :
    [(Instr.bar2Read 256 0 2).wf,
     (Instr.bar2Read 0 0 5).wf,
     (Instr.bar2Write 256 0 2 0).wf,
     (Instr.bar2Write 0 0 5 0).wf,
     (Instr.brSnapWrite 256 0).wf,
     (Instr.outHoldSet 256 0).wf,
     (Instr.outHoldSet 0 64).wf,
     (Instr.outHoldClear 256).wf,
     (Instr.outHoldExpiry 256).wf,
     (Instr.sqDoorbell 256 0).wf,
     (Instr.read 288 []).wf,
     (Instr.write 288 [] []).wf,
     (Instr.ack 64 0).wf,
     (Instr.rdata 64 0 0 0 []).wf,
     (Instr.acycResend 64).wf,
     (Instr.acycTimeout 64).wf,
     (Instr.completionWrite 288).wf,
     (Instr.responseDiscard 288).wf].all (fun b => !b) = true := by decide +kernel

theorem test_ill_formed_SwitchCommands :
    [(Instr.frameReceive 52 ⟨aFrame, 0, 0⟩).wf,
     (Instr.pauseReceive 40 0).wf,
     (Instr.pfcReceive 40 0 []).wf,
     (Instr.moveLockEnd 4096 0).wf,
     (Instr.macAgeOut 4096 0).wf,
     (Instr.entryForget 8 0).wf,
     (Instr.entryForget 0 2).wf,
     (Instr.nodeForget 8 0).wf,
     (Instr.fdbLookup 256 0).wf,
     (Instr.macCounterRead 256 0 0 0 4).wf,
     (Instr.macCounterRead 0 40 0 0 4).wf,
     (Instr.macCounterRead 0 0 33 0 4).wf,
     (Instr.macCounterRead 0 0 0 1 4).wf].all (fun b => !b) = true := by decide +kernel

theorem test_ill_formed_TransmitCommands :
    [(Instr.pauseExpiry 40 none).wf,
     (Instr.pauseSend 40 0).wf,
     (Instr.pauseSend 0 9).wf,
     (Instr.linkDown 40).wf,
     (Instr.linkUp 40 0 true).wf,
     (Instr.frameTransmit 52 true true 0).wf,
     (Instr.frameTransmit 0 true true 16).wf].all (fun b => !b) = true := by decide +kernel

theorem test_ill_formed_CoprocessorCommands :
    [(Instr.crc 32 (.sp 0)).wf,
     (Instr.crc 0 (.sp 8)).wf,
     (Instr.shaBlock 32 (.sp 0)).wf,
     (Instr.shaBlock 0 (.sp 8)).wf,
     (Instr.gmacCheck 32 (.sp 0)).wf,
     (Instr.gmacCheck 0 (.sp 8)).wf,
     (Instr.gmacSign 32 (.sp 0)).wf,
     (Instr.gmacSign 0 (.sp 8)).wf,
     (Instr.gcmSeal 32 (.sp 0)).wf,
     (Instr.gcmSeal 0 (.sp 8)).wf,
     (Instr.gcmOpen 32 (.sp 0)).wf,
     (Instr.gcmOpen 0 (.sp 8)).wf,
     (Instr.keyLoad 32 (.sp 0)).wf,
     (Instr.keyLoad 0 (.sp 8)).wf,
     (Instr.rng 32 (.sp 0)).wf,
     (Instr.rng 0 (.sp 8)).wf,
     (Instr.copComplete 32 (.fp)).wf].all (fun b => !b) = true := by decide +kernel

theorem test_ill_formed_EngineCommands :
    [(Instr.engineLoad 32 true).wf,
     (Instr.engineRestart 32).wf,
     (Instr.watchdog 32).wf,
     (Instr.wdtKick 32 (.spAbs 0 0)).wf,
     (Instr.wdtKick 0 (.spBased 0 8 0)).wf,
     (Instr.persEvent 32 (.spAbs 0 0)).wf,
     (Instr.persEvent 0 (.spBased 0 8 0)).wf,
     (Instr.peDbankAddrWrite 256 0 0).wf,
     (Instr.peDbankAddrWrite 0 32 0).wf].all (fun b => !b) = true := by decide +kernel

theorem test_ill_formed_FpArithmetic :
    [(Instr.fpAdd 32 0 ⟨.imm 1, .always, false⟩).wf,
     (Instr.fpAdd 0 2 ⟨.imm 1, .always, false⟩).wf,
     (Instr.fpAdd 0 0 ⟨.port 128, .always, false⟩).wf,
     (Instr.fpSub 32 0 ⟨.imm 1, .always, false⟩).wf,
     (Instr.fpSub 0 2 ⟨.imm 1, .always, false⟩).wf,
     (Instr.fpSub 0 0 ⟨.port 128, .always, false⟩).wf,
     (Instr.fpAnd 32 0 ⟨.imm 1, .always, false⟩).wf,
     (Instr.fpAnd 0 2 ⟨.imm 1, .always, false⟩).wf,
     (Instr.fpAnd 0 0 ⟨.port 128, .always, false⟩).wf,
     (Instr.fpOr 32 0 ⟨.imm 1, .always, false⟩).wf,
     (Instr.fpOr 0 2 ⟨.imm 1, .always, false⟩).wf,
     (Instr.fpOr 0 0 ⟨.port 128, .always, false⟩).wf,
     (Instr.fpXor 32 0 ⟨.imm 1, .always, false⟩).wf,
     (Instr.fpXor 0 2 ⟨.imm 1, .always, false⟩).wf,
     (Instr.fpXor 0 0 ⟨.port 128, .always, false⟩).wf,
     (Instr.fpAndn 32 0 ⟨.imm 1, .always, false⟩).wf,
     (Instr.fpAndn 0 2 ⟨.imm 1, .always, false⟩).wf,
     (Instr.fpAndn 0 0 ⟨.port 128, .always, false⟩).wf,
     (Instr.fpAdc 32 0 ⟨.imm 1, .always, false⟩).wf,
     (Instr.fpAdc 0 2 ⟨.imm 1, .always, false⟩).wf,
     (Instr.fpAdc 0 0 ⟨.port 128, .always, false⟩).wf,
     (Instr.fpSbb 32 0 ⟨.imm 1, .always, false⟩).wf,
     (Instr.fpSbb 0 2 ⟨.imm 1, .always, false⟩).wf,
     (Instr.fpSbb 0 0 ⟨.port 128, .always, false⟩).wf,
     (Instr.fpShl 32 ⟨.imm 1, .always, false⟩).wf,
     (Instr.fpShl 0 ⟨.port 128, .always, false⟩).wf,
     (Instr.fpShr 32 ⟨.imm 1, .always, false⟩).wf,
     (Instr.fpShr 0 ⟨.port 128, .always, false⟩).wf,
     (Instr.fpSar 32 ⟨.imm 1, .always, false⟩).wf,
     (Instr.fpSar 0 ⟨.port 128, .always, false⟩).wf,
     (Instr.fpRol 32 ⟨.imm 1, .always, false⟩).wf,
     (Instr.fpRol 0 ⟨.port 128, .always, false⟩).wf,
     (Instr.fpRor 32 ⟨.imm 1, .always, false⟩).wf,
     (Instr.fpRor 0 ⟨.port 128, .always, false⟩).wf,
     (Instr.fpSwap 32 ⟨.imm 1, .always, false⟩).wf,
     (Instr.fpSwap 0 ⟨.port 128, .always, false⟩).wf,
     (Instr.fpEq 32 ⟨.imm 1, .always, false⟩).wf,
     (Instr.fpEq 0 ⟨.port 128, .always, false⟩).wf,
     (Instr.fpNe 32 ⟨.imm 1, .always, false⟩).wf,
     (Instr.fpNe 0 ⟨.port 128, .always, false⟩).wf,
     (Instr.fpLtu 32 ⟨.imm 1, .always, false⟩).wf,
     (Instr.fpLtu 0 ⟨.port 128, .always, false⟩).wf,
     (Instr.fpLeu 32 ⟨.imm 1, .always, false⟩).wf,
     (Instr.fpLeu 0 ⟨.port 128, .always, false⟩).wf,
     (Instr.fpLt 32 ⟨.imm 1, .always, false⟩).wf,
     (Instr.fpLt 0 ⟨.port 128, .always, false⟩).wf,
     (Instr.fpLe 32 ⟨.imm 1, .always, false⟩).wf,
     (Instr.fpLe 0 ⟨.port 128, .always, false⟩).wf,
     (Instr.fpBit 32 ⟨.imm 1, .always, false⟩).wf,
     (Instr.fpBit 0 ⟨.port 128, .always, false⟩).wf,
     (Instr.fpAny 32 ⟨.imm 1, .always, false⟩).wf,
     (Instr.fpAny 0 ⟨.port 128, .always, false⟩).wf,
     (Instr.fpGrd 32 ⟨.imm 1, .always, false⟩).wf,
     (Instr.fpGrd 0 ⟨.port 128, .always, false⟩).wf].all (fun b => !b) = true := by decide +kernel

theorem test_ill_formed_FpControl :
    [(Instr.fpMove 32 0 0).wf,
     (Instr.jmp 32 ⟨.imm 1, .always, false⟩).wf,
     (Instr.jmp 0 ⟨.port 128, .always, false⟩).wf,
     (Instr.call 32 ⟨.imm 1, .always, false⟩).wf,
     (Instr.call 0 ⟨.port 128, .always, false⟩).wf,
     (Instr.ret 32 ⟨.imm 1, .always, false⟩).wf,
     (Instr.ret 0 ⟨.port 128, .always, false⟩).wf,
     (Instr.eret 32 ⟨.imm 1, .always, false⟩).wf,
     (Instr.eret 0 ⟨.port 128, .always, false⟩).wf,
     (Instr.ipendClear 32 ⟨.imm 1, .always, false⟩).wf,
     (Instr.ipendClear 0 ⟨.port 128, .always, false⟩).wf,
     (Instr.rpt 32 ⟨.imm 1, .always, false⟩).wf,
     (Instr.rpt 0 ⟨.port 128, .always, false⟩).wf,
     (Instr.fpEventEntry 32).wf,
     (Instr.tas 32 ⟨.imm 1, .always, false⟩).wf,
     (Instr.tas 0 ⟨.port 128, .always, false⟩).wf,
     (Instr.semClr 32 ⟨.imm 1, .always, false⟩).wf,
     (Instr.semClr 0 ⟨.port 128, .always, false⟩).wf].all (fun b => !b) = true := by decide +kernel

theorem test_ill_formed_FpUnits :
    [(Instr.caRw 32 0 0 ⟨.always, false⟩).wf,
     (Instr.caRw 0 2 0 ⟨.always, false⟩).wf,
     (Instr.caRw 0 0 128 ⟨.always, false⟩).wf,
     (Instr.caRw 0 0 0 ⟨.ifOne 1, false⟩).wf,
     (Instr.caRb 32 0 0 ⟨.always, false⟩).wf,
     (Instr.caRb 0 2 0 ⟨.always, false⟩).wf,
     (Instr.caRb 0 0 128 ⟨.always, false⟩).wf,
     (Instr.caRb 0 0 0 ⟨.ifOne 1, false⟩).wf,
     (Instr.caWw 32 0 ⟨.imm 1, .always, false⟩).wf,
     (Instr.caWw 0 2 ⟨.imm 1, .always, false⟩).wf,
     (Instr.caWw 0 0 ⟨.port 128, .always, false⟩).wf,
     (Instr.caWb 32 0 ⟨.imm 1, .always, false⟩).wf,
     (Instr.caWb 0 2 ⟨.imm 1, .always, false⟩).wf,
     (Instr.caWb 0 0 ⟨.port 128, .always, false⟩).wf,
     (Instr.caPk 32 0 0 ⟨.always, false⟩).wf,
     (Instr.caPk 0 2 0 ⟨.always, false⟩).wf,
     (Instr.caPk 0 0 128 ⟨.always, false⟩).wf,
     (Instr.caPk 0 0 0 ⟨.ifOne 1, false⟩).wf,
     (Instr.crcCfg 32 ⟨.imm 1, .always, false⟩).wf,
     (Instr.crcCfg 0 ⟨.port 128, .always, false⟩).wf,
     (Instr.crcT 32 ⟨.imm 1, .always, false⟩).wf,
     (Instr.crcT 0 ⟨.port 128, .always, false⟩).wf,
     (Instr.crcTb 32 ⟨.imm 1, .always, false⟩).wf,
     (Instr.crcTb 0 ⟨.port 128, .always, false⟩).wf,
     (Instr.sumSet 32 ⟨.imm 1, .always, false⟩).wf,
     (Instr.sumSet 0 ⟨.port 128, .always, false⟩).wf,
     (Instr.sumT 32 ⟨.imm 1, .always, false⟩).wf,
     (Instr.sumT 0 ⟨.port 128, .always, false⟩).wf,
     (Instr.qinPop 32 ⟨.imm 1, .always, false⟩).wf,
     (Instr.qinPop 0 ⟨.port 128, .always, false⟩).wf,
     (Instr.qinFree 32 ⟨.imm 1, .always, false⟩).wf,
     (Instr.qinFree 0 ⟨.port 128, .always, false⟩).wf,
     (Instr.qoutPush 32 ⟨.imm 1, .always, false⟩).wf,
     (Instr.qoutPush 0 ⟨.port 128, .always, false⟩).wf,
     (Instr.qoutDone 32 0 ⟨.always, false⟩).wf,
     (Instr.qoutDone 0 128 ⟨.always, false⟩).wf,
     (Instr.qoutDone 0 0 ⟨.ifOne 1, false⟩).wf,
     (Instr.tsqPop 32 ⟨.imm 1, .always, false⟩).wf,
     (Instr.tsqPop 0 ⟨.port 128, .always, false⟩).wf,
     (Instr.now 32 ⟨.imm 1, .always, false⟩).wf,
     (Instr.now 0 ⟨.port 128, .always, false⟩).wf,
     (Instr.rx 32 ⟨.imm 1, .always, false⟩).wf,
     (Instr.rx 0 ⟨.port 128, .always, false⟩).wf,
     (Instr.lutT 32 ⟨.imm 1, .always, false⟩).wf,
     (Instr.lutT 0 ⟨.port 128, .always, false⟩).wf].all (fun b => !b) = true := by decide +kernel

theorem test_ill_formed_SpArithmetic :
    [(Instr.mov 32 0 (.reg 1)).wf,
     (Instr.mov 0 8 (.reg 1)).wf,
     (Instr.mov 0 0 (.reg 8)).wf,
     (Instr.spAdd 32 0 (.reg 1)).wf,
     (Instr.spAdd 0 8 (.reg 1)).wf,
     (Instr.spAdd 0 0 (.reg 8)).wf,
     (Instr.spAdc 32 0 (.reg 1)).wf,
     (Instr.spAdc 0 8 (.reg 1)).wf,
     (Instr.spAdc 0 0 (.reg 8)).wf,
     (Instr.spSub 32 0 (.reg 1)).wf,
     (Instr.spSub 0 8 (.reg 1)).wf,
     (Instr.spSub 0 0 (.reg 8)).wf,
     (Instr.spSbb 32 0 (.reg 1)).wf,
     (Instr.spSbb 0 8 (.reg 1)).wf,
     (Instr.spSbb 0 0 (.reg 8)).wf,
     (Instr.cmp 32 0 (.reg 1)).wf,
     (Instr.cmp 0 8 (.reg 1)).wf,
     (Instr.cmp 0 0 (.reg 8)).wf,
     (Instr.spAnd 32 0 (.reg 1)).wf,
     (Instr.spAnd 0 8 (.reg 1)).wf,
     (Instr.spAnd 0 0 (.reg 8)).wf,
     (Instr.spOr 32 0 (.reg 1)).wf,
     (Instr.spOr 0 8 (.reg 1)).wf,
     (Instr.spOr 0 0 (.reg 8)).wf,
     (Instr.spXor 32 0 (.reg 1)).wf,
     (Instr.spXor 0 8 (.reg 1)).wf,
     (Instr.spXor 0 0 (.reg 8)).wf,
     (Instr.spAndn 32 0 (.reg 1)).wf,
     (Instr.spAndn 0 8 (.reg 1)).wf,
     (Instr.spAndn 0 0 (.reg 8)).wf,
     (Instr.tst 32 0 (.reg 1)).wf,
     (Instr.tst 0 8 (.reg 1)).wf,
     (Instr.tst 0 0 (.reg 8)).wf,
     (Instr.spShl 32 0 (.reg 1)).wf,
     (Instr.spShl 0 8 (.reg 1)).wf,
     (Instr.spShl 0 0 (.reg 8)).wf,
     (Instr.spShr 32 0 (.reg 1)).wf,
     (Instr.spShr 0 8 (.reg 1)).wf,
     (Instr.spShr 0 0 (.reg 8)).wf,
     (Instr.spSar 32 0 (.reg 1)).wf,
     (Instr.spSar 0 8 (.reg 1)).wf,
     (Instr.spSar 0 0 (.reg 8)).wf,
     (Instr.spRol 32 0 (.reg 1)).wf,
     (Instr.spRol 0 8 (.reg 1)).wf,
     (Instr.spRol 0 0 (.reg 8)).wf,
     (Instr.spBit 32 0 (.reg 1)).wf,
     (Instr.spBit 0 8 (.reg 1)).wf,
     (Instr.spBit 0 0 (.reg 8)).wf,
     (Instr.asr 32 0 0).wf,
     (Instr.asr 0 2 0).wf,
     (Instr.asr 0 0 8).wf].all (fun b => !b) = true := by decide +kernel

theorem test_ill_formed_SpMemory :
    [(Instr.localLoad 32 (.d 0) 0 aMode).wf,
     (Instr.localLoad 0 (.a 8) 0 aMode).wf,
     (Instr.localLoad 0 (.d 0) 8 aMode).wf,
     (Instr.localLoad 0 (.d 0) 0 (.indexed 8)).wf,
     (Instr.localStore 32 (.d 0) 0 aMode).wf,
     (Instr.localStore 0 (.a 8) 0 aMode).wf,
     (Instr.localStore 0 (.d 0) 8 aMode).wf,
     (Instr.localStore 0 (.d 0) 0 (.indexed 8)).wf,
     (Instr.ldD 32 (.loc) 0 0 0).wf,
     (Instr.ldD 0 (.loc) 8 0 0).wf,
     (Instr.ldD 0 (.loc) 0 8 0).wf,
     (Instr.ldA 32 (.loc) 0 0 0).wf,
     (Instr.ldA 0 (.loc) 8 0 0).wf,
     (Instr.ldA 0 (.loc) 0 8 0).wf,
     (Instr.stD 32 (.loc) 0 0 0).wf,
     (Instr.stD 0 (.loc) 8 0 0).wf,
     (Instr.stD 0 (.loc) 0 8 0).wf,
     (Instr.stA 32 (.loc) 0 0 0).wf,
     (Instr.stA 0 (.loc) 8 0 0).wf,
     (Instr.stA 0 (.loc) 0 8 0).wf,
     (Instr.ldx 32 (.loc) 0 0 aMode).wf,
     (Instr.ldx 0 (.loc) 8 0 aMode).wf,
     (Instr.ldx 0 (.loc) 0 8 aMode).wf,
     (Instr.ldx 0 (.loc) 0 0 (.indexed 8)).wf,
     (Instr.stx 32 (.loc) 0 0 aMode).wf,
     (Instr.stx 0 (.loc) 8 0 aMode).wf,
     (Instr.stx 0 (.loc) 0 8 aMode).wf,
     (Instr.stx 0 (.loc) 0 0 (.indexed 8)).wf,
     (Instr.ldabs 32 (.loc) 0 0).wf,
     (Instr.ldabs 0 (.loc) 8 0).wf,
     (Instr.stabs 32 (.loc) 0 0).wf,
     (Instr.stabs 0 (.loc) 8 0).wf,
     (Instr.aaddShort 32 0 0).wf,
     (Instr.aaddShort 0 8 0).wf,
     (Instr.xmov 32 (.d 0) (.d 0)).wf,
     (Instr.xmov 0 (.a 8) (.d 0)).wf,
     (Instr.xmov 0 (.d 0) (.a 8)).wf,
     (Instr.amov 32 0 0).wf,
     (Instr.amov 0 8 0).wf,
     (Instr.aadd 32 0 0).wf,
     (Instr.aadd 0 8 0).wf,
     (Instr.asub 32 0 0).wf,
     (Instr.asub 0 8 0).wf,
     (Instr.push 32 (.d 0)).wf,
     (Instr.push 0 (.a 8)).wf,
     (Instr.pop 32 (.d 0)).wf,
     (Instr.pop 0 (.a 8)).wf,
     (Instr.ldres 32 (.loc) 0 0).wf,
     (Instr.ldres 0 (.loc) 8 0).wf,
     (Instr.ldres 0 (.loc) 0 8).wf,
     (Instr.stcond 32 (.loc) 0 0).wf,
     (Instr.stcond 0 (.loc) 8 0).wf,
     (Instr.stcond 0 (.loc) 0 8).wf,
     (Instr.semtas 32 0 0).wf,
     (Instr.semtas 0 8 0).wf,
     (Instr.semtas 0 0 32).wf,
     (Instr.semclr 32 0).wf,
     (Instr.semclr 0 32).wf].all (fun b => !b) = true := by decide +kernel

theorem test_ill_formed_SpAccumulators :
    [(Instr.mul 32 0 0 0).wf,
     (Instr.mul 0 2 0 0).wf,
     (Instr.mul 0 0 8 0).wf,
     (Instr.mul 0 0 0 8).wf,
     (Instr.mac 32 0 0 0).wf,
     (Instr.mac 0 2 0 0).wf,
     (Instr.mac 0 0 8 0).wf,
     (Instr.mac 0 0 0 8).wf,
     (Instr.msu 32 0 0 0).wf,
     (Instr.msu 0 2 0 0).wf,
     (Instr.msu 0 0 8 0).wf,
     (Instr.msu 0 0 0 8).wf,
     (Instr.mulu 32 0 0 0).wf,
     (Instr.mulu 0 2 0 0).wf,
     (Instr.mulu 0 0 8 0).wf,
     (Instr.mulu 0 0 0 8).wf,
     (Instr.macu 32 0 0 0).wf,
     (Instr.macu 0 2 0 0).wf,
     (Instr.macu 0 0 8 0).wf,
     (Instr.macu 0 0 0 8).wf,
     (Instr.accClr 32 0).wf,
     (Instr.accClr 0 2).wf,
     (Instr.sat 32 0).wf,
     (Instr.sat 0 2).wf,
     (Instr.norm 32 0 0).wf,
     (Instr.norm 0 2 0).wf,
     (Instr.norm 0 0 8).wf,
     (Instr.rnd 32 0).wf,
     (Instr.rnd 0 2).wf,
     (Instr.movh 32 0 0).wf,
     (Instr.movh 0 2 0).wf,
     (Instr.movh 0 0 8).wf,
     (Instr.movl 32 0 0).wf,
     (Instr.movl 0 2 0).wf,
     (Instr.movl 0 0 8).wf,
     (Instr.ldh 32 0 0).wf,
     (Instr.ldh 0 2 0).wf,
     (Instr.ldh 0 0 8).wf,
     (Instr.addac 32 0).wf,
     (Instr.addac 0 2).wf].all (fun b => !b) = true := by decide +kernel

theorem test_ill_formed_SpControl :
    [(Instr.bcc 32 0 (.short 0)).wf,
     (Instr.bcc 0 15 (.short 0)).wf,
     (Instr.call0 32 (.short 0)).wf,
     (Instr.spCall 32 0 true 0).wf,
     (Instr.spCall 0 8 true 0).wf,
     (Instr.spRet 32).wf,
     (Instr.spEret 32).wf,
     (Instr.rep 32 (.short 0)).wf,
     (Instr.rep 0 (.long 0x8000)).wf,
     (Instr.repi 32 (.short 0)).wf,
     (Instr.repi 0 (.long 0)).wf,
     (Instr.jmpAn 32 0).wf,
     (Instr.jmpAn 0 8).wf,
     (Instr.wait 32).wf,
     (Instr.di 32).wf,
     (Instr.ei 32).wf,
     (Instr.mfc 32 0 0).wf,
     (Instr.mfc 0 8 0).wf,
     (Instr.mfc 0 0 32).wf,
     (Instr.mtc 32 0 0).wf,
     (Instr.mtc 0 32 0).wf,
     (Instr.mtc 0 0 8).wf,
     (Instr.copr 32 0 0).wf,
     (Instr.copr 0 8 0).wf,
     (Instr.copr 0 0 16).wf,
     (Instr.copw 32 0 0).wf,
     (Instr.copw 0 16 0).wf,
     (Instr.copw 0 0 8).wf,
     (Instr.copst 32 0).wf,
     (Instr.copst 0 8).wf,
     (Instr.nop 32).wf,
     (Instr.spEventEntry 32).wf].all (fun b => !b) = true := by decide +kernel

theorem test_ill_formed_InterlockCommands :
    [(Instr.endcyc 32).wf,
     (Instr.rise 32 0 0 0).wf,
     (Instr.rise 0 8 0 0).wf,
     (Instr.rise 0 0 4096 0).wf,
     (Instr.rise 0 0 0 16).wf,
     (Instr.fall 32 0 0 0).wf,
     (Instr.fall 0 8 0 0).wf,
     (Instr.fall 0 0 4096 0).wf,
     (Instr.fall 0 0 0 16).wf,
     (Instr.ilkCycleStart 32).wf,
     (Instr.ilkOverrun 32).wf,
     (Instr.ilkRun 288 0).wf,
     (Instr.ilkRun 0 32).wf,
     (Instr.ilkStop 288 0).wf,
     (Instr.ilkStop 0 32).wf,
     (Instr.hold 288 0).wf,
     (Instr.hold 0 32).wf,
     (Instr.forceSet 288 0 0 0).wf,
     (Instr.forceSet 0 32 0 0).wf,
     (Instr.forceClear 288 0 0).wf,
     (Instr.forceClear 0 32 0).wf,
     (Instr.forceClearAll 288 0).wf,
     (Instr.forceClearAll 0 32).wf].all (fun b => !b) = true := by decide +kernel

theorem test_ill_formed_CanCommands :
    [(Instr.canModeWrite 256 0 0).wf,
     (Instr.canModeWrite 0 8 0).wf,
     (Instr.canTimingWrite 256 0 8 0).wf,
     (Instr.canTimingWrite 0 8 8 0).wf,
     (Instr.canTimingWrite 0 0 1 0).wf,
     (Instr.canTxreq 256 0 0).wf,
     (Instr.canTxreq 0 8 0).wf,
     (Instr.canTxabort 256 0 0).wf,
     (Instr.canTxabort 0 8 0).wf,
     (Instr.canRxpop 256 0).wf,
     (Instr.canRxpop 0 8).wf,
     (Instr.recover 256 0).wf,
     (Instr.recover 0 8).wf,
     (Instr.canFrameReceive 8 (.error 1)).wf,
     (Instr.canTxAttemptEnd 8 (.ok)).wf,
     (Instr.canRecoveryEnd 8 128).wf,
     (Instr.canTxRingFetch 8).wf,
     (Instr.canWakeValidityExpiry 8).wf,
     (Instr.wakeDisClear 256 0 0x80000000).wf,
     (Instr.wakeDisClear 0 8 0x80000000).wf,
     (Instr.canWakeMatch 8 aCan true).wf,
     (Instr.canWakePin 8).wf].all (fun b => !b) = true := by decide +kernel

theorem test_ill_formed_ThicketCommands :
    [(Instr.tkStep 32 0).wf,
     (Instr.tkEnable 256 0 0x80000000).wf,
     (Instr.tkEnable 0 32 0x80000000).wf,
     (Instr.tkDisable 256 0 0).wf,
     (Instr.tkDisable 0 32 0).wf,
     (Instr.tkLutWrite 256 0 0 0).wf,
     (Instr.tkLutWrite 0 32 0 0).wf,
     (Instr.tkLutWrite 0 0 1024 0).wf,
     (Instr.tkTxfifoWrite 256 0 0).wf,
     (Instr.tkTxfifoWrite 0 32 0).wf,
     (Instr.tkRxfifoRead 256 0 0 4).wf,
     (Instr.tkRxfifoRead 0 32 0 4).wf,
     (Instr.tkRxfifoRead 0 0 1 4).wf].all (fun b => !b) = true := by decide +kernel

theorem test_ill_formed_SecurityCommands :
    [(Instr.keyInstall 288 0 1 0 (List.replicate 32 0)).wf,
     (Instr.keyErase 288 0x80000000).wf,
     (Instr.keyInfo 288 0).wf,
     (Instr.svnCommit 288 0).wf,
     (Instr.fuseProg 288 0 [] none).wf,
     (Instr.txAnWrite 256 0 0).wf,
     (Instr.txAnWrite 0 8 0).wf].all (fun b => !b) = true := by decide +kernel

theorem test_ill_formed_HostMessageCommands :
    [(Instr.tdCtlWrite 326 0 0).wf,
     (Instr.tdCtlWrite 0 272 0).wf,
     (Instr.tdTake 288).wf,
     (Instr.fdPost 288).wf,
     (Instr.ping 288 []).wf,
     (Instr.ptpTxSet 288 0 []).wf,
     (Instr.msixPost 256 0).wf,
     (Instr.msixPost 0 64).wf,
     (Instr.holdoffEnd 256).wf,
     (Instr.vectorUnmask 256 0 true).wf,
     (Instr.vectorUnmask 0 64 true).wf,
     (Instr.fdPtrLoRead 326 0 0 4).wf,
     (Instr.fdPtrLoRead 0 272 0 4).wf,
     (Instr.fdPtrLoRead 0 0 1 4).wf].all (fun b => !b) = true := by decide +kernel

theorem test_ill_formed_HostPortCommands :
    [(Instr.hostLinkUp 4 0 0).wf,
     (Instr.hostLinkUp 0 4 0).wf,
     (Instr.hostLinkUp 0 0 16).wf,
     (Instr.hostPortReset 4 (.hot)).wf,
     (Instr.dmaPauseStart 4 true).wf,
     (Instr.dmaPauseEnd 4).wf,
     (Instr.linkLossTimeout 4).wf,
     (Instr.functionLevelReset 256).wf,
     (Instr.numvfsWrite 4 true 0).wf,
     (Instr.d3hotEntry 256).wf,
     (Instr.d0Return 256 true).wf,
     (Instr.hostBankAccess 256 0 true [] []).wf,
     (Instr.hostBankAccess 0 0x200000 true [] []).wf,
     (Instr.dmaFault 256 (.bridge)).wf,
     (Instr.functionResetComplete 256).wf,
     (Instr.perstRelease 4).wf,
     (Instr.pcieAerError 256 true).wf].all (fun b => !b) = true := by decide +kernel

theorem test_ill_formed_PowerCommands :
    [(Instr.supplyWarn 11).wf,
     (Instr.brownOut 11).wf,
     (Instr.setMode 256 0x0A5C0007).wf,
     (Instr.coreReset 256 0x0A5C0001).wf,
     (Instr.systemReset 256 0x0A5C0000).wf,
     (Instr.standby 256 0x0A5C0000).wf].all (fun b => !b) = true := by decide +kernel

theorem test_ill_formed_UpdateCommands :
    [(Instr.stageOpen 288 0).wf,
     (Instr.stageOpen 0 256).wf,
     (Instr.stageWrite 288 0 [] true).wf,
     (Instr.stageClose 288 ⟨Machine.Manifest.zero, aSet⟩).wf,
     (Instr.activateCluster 288 0 true).wf,
     (Instr.activateCluster 0 8 true).wf,
     (Instr.activateWing 288 (.east) true).wf,
     (Instr.activateDevice 288 0 true).wf,
     (Instr.settingsLoad 288 true).wf,
     (Instr.abort 288).wf].all (fun b => !b) = true := by decide +kernel

theorem test_ill_formed_SafetyCommands :
    [(Instr.clockWindow 25 true true).wf].all (fun b => !b) = true := by decide +kernel

/-- What a state after one command shows; false where the command stops. -/
def after (o : Host.Outcome State Fault Refusal) (p : State → Bool) : Bool :=
  match o with
  | .next s => p s
  | _ => false

/-- Engine 0 with the ALU and the shifter of the FP holding values. -/
def fpHolds (o : Half) (c : Bool) : State :=
  { rich with eng := [(0, { rich.en 0 with fp := { (rich.en 0).fp with aluO := ⟨o, 0⟩, aluC := ⟨c, false⟩, shO := o } })] }

/-- Engine 0 with D0, D1 of the SP and its C flag. -/
def spHolds (a b : Half) (sr : Half) : State :=
  { rich with eng := [(0, { rich.en 0 with sp := { (rich.en 0).sp with d := [(0, a), (1, b)], sr := sr } })] }

/-- R327: 0xFFFF + 1 is 0 with a carry; the carry enters an ADC. -/
theorem test_fp_add_carries :
    (after (exec (.fpAdd 0 0 ⟨.imm 1, .always, false⟩) (fpHolds 0xFFFF false)) (fun t => (t.en 0).fp.aluR.e == 0 && (t.en 0).fp.aluC.e) &&
     after (exec (.fpAdc 0 0 ⟨.imm 1, .always, false⟩) (fpHolds 0x7FFF true)) (fun t => (t.en 0).fp.aluR.e == 0x8001 && !(t.en 0).fp.aluC.e)) = true := by
  decide +kernel

/-- R327: SUB computes O - T and keeps the borrow; SAR copies bit 15. -/
theorem test_fp_sub_borrows :
    (after (exec (.fpSub 0 0 ⟨.imm 3, .always, false⟩) (fpHolds 2 false)) (fun t => (t.en 0).fp.aluR.e == 0xFFFF && (t.en 0).fp.aluC.e) &&
     after (exec (.fpSar 0 ⟨.imm 4, .always, false⟩) (fpHolds 0x8010 false)) (fun t => (t.en 0).fp.shR == 0xF801)) = true := by decide +kernel

/-- R345: 0x7FFF + 1 overflows to a negative result without carry. -/
theorem test_sp_add_overflows :
    after (exec (.spAdd 0 0 (.reg 1)) (spHolds 0x7FFF 1 0)) (fun t => t.dReg 0 0 == 0x8000 && (flagsOf (t.sr 0) == ⟨true, false, false, true⟩)) = true := by
  decide +kernel

/-- R345: CMP of equal values sets Z and clears C, and writes no register. -/
theorem test_sp_cmp_equal :
    after (exec (.cmp 0 0 (.reg 1)) (spHolds 5 5 0xF)) (fun t => t.dReg 0 0 == 5 && (flagsOf (t.sr 0) == ⟨false, true, false, false⟩)) = true := by
  decide +kernel

/-- R345: SHR by 1 puts the last bit shifted out into C; a count of 0 leaves C. -/
theorem test_sp_shr_carry :
    (after (exec (.spShr 0 0 (.imm6 1)) (spHolds 0x8001 0 0)) (fun t => t.dReg 0 0 == 0x4000 && (flagsOf (t.sr 0)).c) &&
     after (exec (.spShr 0 0 (.imm6 0)) (spHolds 0x8001 0 2)) (fun t => t.dReg 0 0 == 0x8001 && (flagsOf (t.sr 0)).c == tst (2 : Half) 1)) = true := by
  decide +kernel

/-- R338: CALL at depth 0 pushes the address after it; RS.TOP is then that address. -/
theorem test_call_pushes :
    after (exec (.call 0 ⟨.imm 40, .always, false⟩) rich) (fun t => (t.en 0).fp.rs == [101] && (t.en 0).fp.pc == 40) = true := by decide +kernel

/-- R4: a write to an offset that no register occupies has no effect. -/
theorem test_write_nowhere :
    after (exec (.registerWrite 0 0x01FFFFFC 4 0xFFFFFFFF 0) rich) (fun t => t.regs == rich.regs) = true := by decide +kernel

/-- R450: the first byte of the user area is written, the byte below it is not. -/
theorem test_mram_user_edge :
    after (exec (.mramUserWrite 0 0x7FFF [0x11, 0x22]) rich) (fun t => Tab.get 0 t.mram.mem 0x7FFF == 0 && Tab.get 0 t.mram.mem 0x8000 == 0x22) = true := by
  decide +kernel

/-- R31: the discarded write of a fenced steward is counted. -/
theorem test_fence_hit :
    after (exec (.stewardConfigWrite .west 0x900000 7) (rich.wb Reg.ARB_STATUS (fenceBit .west) true))
      (fun t => t.rf Reg.ARB_STATUS 0 16 == 1 && t.rd 0x900000 == rich.rd 0x900000) = true := by decide +kernel

/-- R166: without P_TRIP the first check fails, and nothing but the result is told. -/
theorem test_trip_refused :
    after (exec (.pulse 0 1 0) (rich.wf (Reg.FN_PRIV 0) 0 6 1)) (fun t => t.rf (Reg.TRIP_CMD_STAT 0) 29 3 == 1 && t.rd Reg.TRIP_HCMD_STATE == 0) = true := by
  decide +kernel

/-- R298, R396: byte enables choose the bytes of a write of the host bank. -/
theorem test_bank_byte_enables :
    after (exec (.hostBankAccess 0 8 true [true, false, true] [1, 2, 3]) (rich.wr (Reg.FN_HB 0 1) 1))
      (fun t => Tab.get 0 t.host.bank 8 == 1 && Tab.get 0 t.host.bank 9 == 0 && Tab.get 0 t.host.bank 10 == 3) = true := by decide +kernel

/-- R381: a read of an empty RX FIFO gives 0. -/
theorem test_thicket_empty_read :
    after (exec (.tkRxfifoRead 0 0 0 4) (tkOn 0 [] [])) (fun t => t.bus.rdata == 0 && t.bus.cpl == .ok) = true := by decide +kernel

/-- A command at the front of the queue runs, and the rest waits. -/
theorem test_step_takes_front :
    after (step { rich with pending := [.mspiRead 0, .heartbeatLost .east] }) (fun t => t.pending == [.heartbeatLost .east]) = true := by decide +kernel

/-- R43: an empty queue lets one nanosecond pass. -/
theorem test_idle_counts : after (step rich) (fun t => t.clk.ns == rich.clk.ns + 1 && t.clk.ltcE == rich.clk.ltcE + 1) = true := by decide +kernel

/-- R502: after TRST_N, four clocks into Shift-DR hold the IDCODE 0x1726_4C3D, and TDO shows its bit 0. -/
theorem test_tap_idcode :
    after (exec (.debugUnlock ⟨[⟨false, true, false⟩, ⟨true, false, false⟩, ⟨true, true, false⟩, ⟨true, false, false⟩, ⟨true, false, false⟩], .none⟩) rich)
      (fun t => decide ((BitVec.ofBoolListLE t.sec.tap.dr).toNat = 0x17264C3D) && t.tdo == some true) = true := by decide +kernel

/-- R31: a class that is not fenced is written by a fenced steward too. -/
theorem test_fence_class :
    after (exec (.stewardConfigWrite .west 0x800000 7) (rich.wb Reg.ARB_STATUS (fenceBit .west) true))
      (fun t => t.rf Reg.ARB_STATUS 0 16 == 0) = true := by decide +kernel

/-- An image of firmware of 20 octets with the trailer of R419, signed with ECDSA over P-384 outside the model. -/
def signedFirmware : List Octet :=
  natOctets 243 0x4c535746010000000100000014000000df000000495837323634206669726d7761726553494731000100030000000f000000000e2a6dec9d2b66068f44d66230316468f879062b0062f6e64c81263eef27c80980c2b9ddd0434c02bd5a3759b069920f6b9f3967b78cd7e64532a1961333df2b0c0bb4935d975524971656187dc2513be780a0a11b855499043962c35f90b3080cdb5b6c37c06f0b88759eeb947a3bdf4386c2c5bc302908c432c4eb659738f597afea8e97d536da39b61105ace1a2899d36deb5d1388e5c6de4f29df6f53759a3e09ee1da0a0b53e2dce3e16c70d9c6cd2e9454fe30de6356be4b33ecb9fa8c

/-- The SHA-384 of that image's root public key, as fuse bits. -/
def rootBits : List Nat :=
  (List.range 384).filter (fun i => Nat.testBit 0x2a7ee2a260f6abbad5ec60b41309a0a2d943bf200929b64a0323fcbf9f578f13ae91df818c1ebfa40a2f9e85f9e1eeed i)

/-- A device that holds the signed image in slot 0 of its flash and the hash in its fuses. -/
def signedBoot : State := { State.reset with sec.fuseLatched := [(0, rootBits)], upd.flash := putFlash [] (slotBase 0 0) signedFirmware }

/-- R419, R420: the signature verifies, and the boot goes on. -/
theorem test_signed_firmware_boots : (signedBoot.bootComplete true true true).dev.st = .selfTest := by decide +kernel


end Sys2Proof.Tests
end

section
/-! SUPPORT. What the host's accesses of every width come to: one aligned word written or read through BAR0, two of them for 64 bits
(R3), an offset without a register (R4), and a register that a plain read or write reaches. -/

namespace Sys2Proof.Machine

/-! Writes (R3-R6) -/

/-- A write of one aligned word at an offset of a function's BAR0, where the function reaches it. -/
def State.writeWord (s : State) (fn off : Nat) (val hw : Word) : State :=
  match barAddr fn off with
  | some a => if s.reach fn then s.writeReg fn a val hw else s
  | none => s

theorem State.writeWord_reach {s : State} {fn off a : Nat} (ha : barAddr fn off = some a) (hr : s.reach fn = true) (val hw : Word) :
    s.writeWord fn off val hw = s.writeReg fn a val hw := by
  simp [State.writeWord, ha, hr]

/-- A write command with operands the device has does its write. -/
theorem exec_registerWrite {fn size : Nat} (h : registerWriteOk fn size = true) (s : State) (off : Nat) (val : BitVec 64) (hw : Word) :
    exec (.registerWrite fn off size val hw) s = .next (s.registerWrite fn off size val hw) :=
  checked_of h

section
variable {fn off : Nat} (s : State) (val : BitVec 64) (hw : Word)

theorem State.registerWrite_word (hm : ¬(fn = 0 ∧ 0x01100000 ≤ off ∧ off + 4 ≤ 0x01140000)) (ho : off % 4 = 0) :
    s.registerWrite fn off 4 val hw = s.writeWord fn off (val.setWidth 32) hw := by
  rw [State.registerWrite, if_neg hm, if_neg (by omega), if_neg (by decide)]
  rfl

theorem State.registerWrite_dword (hm : ¬(fn = 0 ∧ 0x01100000 ≤ off ∧ off + 8 ≤ 0x01140000)) (ho : off % 4 = 0) :
    s.registerWrite fn off 8 val hw =
      (s.writeWord fn off (val.setWidth 32) hw).writeWord fn (off + 4) ((val >>> (32 : Nat)).setWidth 32) 0 := by
  rw [State.registerWrite, if_neg hm, if_neg (by omega), if_pos rfl]
  rfl

theorem State.registerWrite_discarded {size : Nat} (hm : ¬(fn = 0 ∧ 0x01100000 ≤ off ∧ off + size ≤ 0x01140000))
    (h : off % 4 ≠ 0 ∨ size < 4) : s.registerWrite fn off size val hw = s := by
  rw [State.registerWrite, if_neg hm, if_pos h]

end

/-- A write of a register whose write has no act of its own stores its writable bits (R5, R6). -/
theorem State.writeReg_store {s : State} {fn a : Nat} {r : RegRow} (val hw : Word) (hmb : s.mbWord a = none) (hb : s.blockOn a = true)
    (hr : s.regAt a = some r) (hp : r.key ≠ Reg.ER_PEND 0) (hact : byKey acts r.key = none) (hpage : byKey pageActs r.key = none)
    (hmay : s.mayWrite fn r = true) (ha : r.key ≠ Reg.SAFE_ALARM) (ht : r.key ≠ Reg.TIME_SERVO) :
    s.writeReg fn a val hw = s.store r a val hw := by
  simp [State.writeReg, hmb, hb, hr, hp, hact, hpage, hmay, ha, ht]

/-- The owner's write of retained memory, with P_CFG, puts the bytes that lie in the user area (R450). -/
theorem State.mramUserWrite_owner {s : State} (hr : s.reach 0 = true) (hc : s.pCfg 0 = true) (off : Nat) (data : List Octet) :
    s.mramUserWrite 0 off data =
      eachIn ((List.range data.length).filter (fun i => decide (0x8000 ≤ off + i) && decide (off + i < 0x10000)))
        (fun i t => { t with mram.mem := putBytes t.mram.mem (off + i) [data.getD i 0] }) s := by
  simp [State.mramUserWrite, hr, hc]

/-! Reads (R3-R7) -/

/-- A read of bytes of one register at an offset of a function's BAR0. -/
def State.readAt (s : State) (fn off lane size : Nat) (inc : Word) : State :=
  match barAddr fn off with
  | some a => s.readReg fn a lane size inc
  | none => s.refuseBus .ur

theorem State.readAt_of_barAddr {fn off a : Nat} (s : State) (ha : barAddr fn off = some a) (lane size : Nat) (inc : Word) :
    s.readAt fn off lane size inc = s.readReg fn a lane size inc := by
  simp [State.readAt, ha]

/-- A read command with operands the device has does its read. -/
theorem exec_readClear {fn size : Nat} (h : readClearOk fn size = true) (s : State) (off : Nat) (inc : Word) :
    exec (.readClear fn off size inc) s = .next (s.hostRead fn off size inc) :=
  checked_of h

/-- A read that crosses no register boundary reads one register. -/
theorem State.read32_within {off size : Nat} (h : off % 4 + size ≤ 4) (s : State) (fn : Nat) (inc : Word) :
    s.read32 fn off size inc = s.readAt fn (off / 4 * 4) (off % 4) size inc := by
  rw [State.read32, if_pos h]
  rfl

section
variable {s : State} {fn off : Nat} (hr : s.reach fn = true) (inc : Word)
include hr

theorem State.hostRead_narrow {size : Nat} (hm : ¬(fn = 0 ∧ off < 0x01140000 ∧ 0x01100000 < off + size)) (h8 : size ≠ 8) :
    s.hostRead fn off size inc = s.read32 fn off size inc := by
  rw [State.hostRead, hr, if_neg (by decide), if_neg hm, if_neg h8]

theorem State.hostRead_dword (hm : ¬(fn = 0 ∧ off < 0x01140000 ∧ 0x01100000 < off + 8)) :
    s.hostRead fn off 8 inc = joinReads 4 (s.read32 fn off 4 inc) (fun t => t.read32 fn (off + 4) 4 0) := by
  rw [State.hostRead, hr, if_neg (by decide), if_neg hm, if_pos rfl]

end

/-- Two reads that both complete are joined, the data of the second above those of the first. -/
theorem joinReads_ok {n : Nat} {first : State} {second : State → State} (h1 : first.bus.cpl = .ok) (h2 : (second first).bus.cpl = .ok) :
    joinReads n first second =
      { second first with bus.rdata := first.bus.rdata ||| ((second first).bus.rdata <<< (8 * n)) } := by
  simp [joinReads, h1, h2]

/-- A 64-bit read of a register whose read acts is the act on its word and then the read of the next word (R3). -/
theorem State.ownRead_dword (s : State) (fn a : Nat) (act : State → Nat → Nat → State) :
    s.ownRead fn a 0 8 act = joinReads 4 (act s 0 4) (fun t => t.read32 fn (a + 4) 4 0) := if_pos rfl

theorem State.capturePop_dword (s : State) (c : Nat) :
    s.capturePop 0 c 0 8 =
      joinReads 4 (s.capPop 0 c 0 4) (fun t => t.read32 0 (Reg.CAP_FIFO (capWing c) (c % 4) 3 + 4) 4 0) :=
  (if_pos (by decide)).trans (s.ownRead_dword _ _ _)

/-- A read of a register whose read does not act returns its bytes and clears what it clears (R5, R7). -/
theorem State.readReg_plain {s : State} {fn a lane size : Nat} (inc : Word) (hmb : s.mbWord a = none) (hb : s.blockOn a = true)
    (hact : s.readAct fn a lane size = none) :
    s.readReg fn a lane size inc = ((s.used 1).readClears a lane size inc).answer (laneData (s.shown fn a) lane size) := by
  simp [State.readReg, hmb, hb, hact]

/-! Offsets without a register (R4) -/

@[simp] theorem laneData_zero (lane size : Nat) : laneData 0 lane size = 0 := by simp [laneData]

section
variable {a : Nat} (h : regInfo a = none) (s : State)
include h

theorem State.regAt_eq_none : s.regAt a = none := by simp [State.regAt, h]

theorem State.readAct_eq_none (fn lane size : Nat) : s.readAct fn a lane size = none := by simp [State.readAct, h]

theorem State.shown_eq_zero (fn : Nat) : s.shown fn a = 0 := by simp [State.shown, State.regAt_eq_none h]

theorem State.readClears_eq_self (lane size : Nat) (inc : Word) : s.readClears a lane size inc = s := by
  simp [State.readClears, State.regAt_eq_none h]

/-- A read where no register lies answers 0; outside SAFE TALK it takes a free word, of which the answer shows nothing. -/
theorem State.readReg_unoccupied (hmb : s.mbWord a = none) (fn lane size : Nat) (inc : Word) :
    s.readReg fn a lane size inc = (if s.blockOn a then s.used 1 else s).answer 0 := by
  cases hb : s.blockOn a with
  | false => simp [State.readReg, hmb, hb]
  | true =>
    rw [State.readReg_plain inc hmb hb (State.readAct_eq_none h s fn lane size), State.readClears_eq_self h, State.shown_eq_zero h,
      laneData_zero]
    rfl

theorem State.writeReg_unoccupied (hmb : s.mbWord a = none) (fn : Nat) (val hw : Word) : s.writeReg fn a val hw = s := by
  simp [State.writeReg, hmb, State.regAt_eq_none h]

end

end Sys2Proof.Machine
end

section
/-! CLAIMS. The statements of chapter 0: the widths of accesses, offsets without a register, the reset state, and the register accesses that
complete. -/

namespace Sys2Proof.Machine

/-! Accesses of every width (R3) -/

/-- A 64-bit write is the write of the low word, then that of the high word at the next one. -/
theorem exec_registerWrite_dword {s t u : State} {fn off : Nat} {val : BitVec 64} {hw : Word} (hok : registerWriteOk fn 8 = true)
    (ho : off % 4 = 0) (hm : fn = 0 → off + 8 ≤ 0x01100000 ∨ 0x01140000 ≤ off)
    (h1 : exec (.registerWrite fn off 4 val hw) s = .next t)
    (h2 : exec (.registerWrite fn (off + 4) 4 (val >>> (32 : Nat)) 0) t = .next u) :
    exec (.registerWrite fn off 8 val hw) s = .next u := by
  have hok4 : registerWriteOk fn 4 = true := hok
  rw [exec_registerWrite hok4, State.registerWrite_word _ _ _ (by omega) ho] at h1
  rw [exec_registerWrite hok4, State.registerWrite_word _ _ _ (by omega) (by omega)] at h2
  rw [exec_registerWrite hok, State.registerWrite_dword _ _ _ (by omega) ho, Host.Outcome.next.inj h1, h2]

/-- A write that is narrow or not aligned is discarded; one of a width that no access has is no event. -/
theorem exec_registerWrite_discarded {s : State} {fn off size : Nat} {val : BitVec 64} {hw : Word}
    (hm : fn = 0 → off + size ≤ 0x01100000 ∨ 0x01140000 ≤ off) (h : off % 4 ≠ 0 ∨ size < 4) :
    exec (.registerWrite fn off size val hw) s = .next s := by
  cases hok : registerWriteOk fn size with
  | false => exact checked_ill hok
  | true =>
    have hs : 0 < size := by
      rcases Nat.eq_zero_or_pos size with rfl | hs
      · simp [registerWriteOk, sizeOk] at hok
      · exact hs
    rw [exec_registerWrite hok, State.registerWrite_discarded _ _ _ (by omega) h]

/-- A 64-bit read of two words that both complete joins their data. -/
theorem exec_readClear_dword {s t u : State} {fn off : Nat} {inc : Word} (hok : readClearOk fn 8 = true) (hs : s.reach fn = true)
    (ht : t.reach fn = true) (hm : fn = 0 → off + 8 ≤ 0x01100000 ∨ 0x01140000 ≤ off)
    (h1 : exec (.readClear fn off 4 inc) s = .next t) (h2 : exec (.readClear fn (off + 4) 4 0) t = .next u)
    (c1 : t.bus.cpl = .ok) (c2 : u.bus.cpl = .ok) :
    exec (.readClear fn off 8 inc) s = .next { u with bus.rdata := t.bus.rdata ||| (u.bus.rdata <<< (32 : Nat)) } := by
  have hok4 : readClearOk fn 4 = true := hok
  rw [exec_readClear hok4, State.hostRead_narrow hs _ (by omega) (by decide)] at h1
  rw [exec_readClear hok4, State.hostRead_narrow ht _ (by omega) (by decide)] at h2
  have e1 := Host.Outcome.next.inj h1
  have e2 := Host.Outcome.next.inj h2
  rw [exec_readClear hok, State.hostRead_dword hs _ (by omega), e1, joinReads_ok c1 (by rw [e2]; exact c2), e2]

/-- The 64-bit read of a register whose read acts, by a command that needs no power of MAIN. -/
theorem checked_ownRead_dword {ok : Bool} (h : ok = true) (s : State) (fn a : Nat) (act : State → Nat → Nat → State) :
    checked ok s (s.ownRead fn a 0 8 act) = .next (joinReads 4 (act s 0 4) (fun t => t.read32 fn (a + 4) 4 0)) := by
  rw [checked_of h, State.ownRead_dword]

/-- Settles O24: each 64-bit access runs the two word accesses that its hypotheses name, one after the other. -/
theorem accessWidths : Obligations.AccessWidths := by
  unfold Obligations.AccessWidths
  refine ⟨fun _ _ _ _ _ _ _ hok ho hm h1 h2 => exec_registerWrite_dword hok ho hm h1 h2,
    fun _ _ _ _ _ _ hm h => exec_registerWrite_discarded hm h,
    fun s t u fn off inc hok hs ht hm h1 h2 c1 c2 => ⟨_, exec_readClear_dword hok hs ht hm h1 h2 c1 c2, c2, rfl, rfl⟩,
    fun s w n j => ⟨?timeNow, ?ltc, ?triple, ?capture, ?tsq, ?phasor, ?cycle, ?macCounter, ?rxFifo⟩⟩
  case timeNow => exact fun _ hok => checked_ownRead_dword hok s _ _ _
  case ltc => exact fun hok => checked_ownRead_dword hok s _ _ _
  case triple => exact fun hok => checked_ownRead_dword hok s _ _ _
  case capture => exact fun k hok => (live_of hok k).trans (congrArg _ (s.capturePop_dword n))
  case tsq => exact fun hok => checked_ownRead_dword hok s _ _ _
  case phasor => exact fun hok => checked_ownRead_dword hok s _ _ _
  case cycle => exact fun hok => checked_ownRead_dword hok s _ _ _
  case macCounter => exact fun hok => checked_ownRead_dword hok s _ _ _
  case rxFifo => exact fun hok => checked_ownRead_dword hok s _ _ _

/-! Offsets without a register (R4) -/

theorem exec_readClear_unoccupied {s : State} {fn off a : Nat} (inc : Word) (hfn : fn < 256) (hr : s.reach fn = true) (ho : off % 4 = 0)
    (ha : barAddr fn off = some a) (h : regInfo a = none) (hmb : s.mbWord a = none)
    (hm : ¬(fn = 0 ∧ 0x01100000 ≤ off ∧ off < 0x01140000)) :
    exec (.readClear fn off 4 inc) s = .next ((if s.blockOn a then s.used 1 else s).answer 0) := by
  have hok : readClearOk fn 4 = true := by simp [readClearOk, sizeOk, hfn]
  have hoff : off / 4 * 4 = off := by omega
  rw [exec_readClear hok, State.hostRead_narrow hr _ (by omega) (by decide), State.read32_within (by omega), hoff,
    State.readAt_of_barAddr s ha, State.readReg_unoccupied h s hmb]

theorem exec_registerWrite_unoccupied {s : State} {fn off a : Nat} (val : BitVec 64) (hw : Word) (hfn : fn < 256)
    (hr : s.reach fn = true) (ho : off % 4 = 0) (ha : barAddr fn off = some a) (h : regInfo a = none) (hmb : s.mbWord a = none)
    (hm : ¬(fn = 0 ∧ 0x01100000 ≤ off ∧ off < 0x01140000)) :
    exec (.registerWrite fn off 4 val hw) s = .next s := by
  have hok : registerWriteOk fn 4 = true := by simp [registerWriteOk, sizeOk, hfn]
  rw [exec_registerWrite hok, State.registerWrite_word _ _ _ (by omega) ho, State.writeWord_reach ha hr,
    State.writeReg_unoccupied h s hmb]

/-- Settles O23: a read there answers 0 and uses up at most a free word; a write there ends without effect. -/
theorem unoccupiedOffsets : Obligations.UnoccupiedOffsets := by
  unfold Obligations.UnoccupiedOffsets
  intro s fn off a inc hw val hfn hr ho ha h hmb hm
  refine ⟨⟨_, exec_readClear_unoccupied inc hfn hr ho ha h hmb hm, rfl, rfl, ?_⟩,
    exec_registerWrite_unoccupied val hw hfn hr ho ha h hmb hm⟩
  cases s.blockOn a <;> rfl

/-! The reset state (R8, R454) -/

/-- No register is listed at reset, so one of a range in which every row resets to zero reads 0. -/
theorem rd_reset_eq_zero {lo hi : Nat} (h : resetsZero lo hi = true) (hp : hi < 0x02000000) {a : Nat} (h1 : lo ≤ a) (h2 : a ≤ hi) :
    State.reset.rd a = 0 :=
  regReset_eq_zero h hp h1 h2

/-- A field of a register that reads 0 is 0. -/
theorem State.rf_eq_zero {s : State} {a : Nat} (h : s.rd a = 0) (lo n : Nat) : s.rf a lo n = 0 := by
  simp [State.rf, fld, h]

theorem arbiter_and_host_lines_reset : resetsZero Reg.ARB_STATUS Reg.ARB_EPOCH = true ∧
    resetsZero Reg.TRIP_HCMD_STATE Reg.TRIP_HCMD_STATE = true := by decide +kernel

theorem backup_registers_reset : resetsZero (Reg.BKUP 0) (Reg.BKUP 31) = true := by decide +kernel

theorem engine_states_reset : (List.range 32).all (fun n => resetsZero (Reg.PE_STAT n) (Reg.PE_STAT n)) = true := by decide +kernel

theorem stream_states_reset : resetsZero (Reg.STREAM_STAT .east 0) (Reg.STREAM_STAT .east 511) = true ∧
    resetsZero (Reg.STREAM_STAT .west 0) (Reg.STREAM_STAT .west 511) = true := by decide +kernel

theorem rd_reset_bkup {k : Nat} (hk : k < 32) : State.reset.rd (Reg.BKUP k) = 0 :=
  rd_reset_eq_zero backup_registers_reset (by decide) (by simp only [Reg.BKUP]; omega) (by simp only [Reg.BKUP]; omega)

theorem peState_reset {n : Nat} (hn : n < 32) : State.reset.peState n = 0 :=
  State.rf_eq_zero (rd_reset_eq_zero (List.all_eq_true.mp engine_states_reset n (List.mem_range.mpr hn))
    (by simp only [Reg.PE_STAT]; omega) le_rfl le_rfl) 29 3

theorem rd_reset_streamStat (w : Wing) {n : Nat} (hn : n < 512) : State.reset.rd (Reg.STREAM_STAT w n) = 0 := by
  cases w with
  | east => exact rd_reset_eq_zero stream_states_reset.1 (by decide) (by simp only [Reg.STREAM_STAT]; omega) (by simp only [Reg.STREAM_STAT]; omega)
  | west => exact rd_reset_eq_zero stream_states_reset.2 (by decide) (by simp only [Reg.STREAM_STAT]; omega) (by simp only [Reg.STREAM_STAT]; omega)

theorem steward_reset : State.reset.steward = none := by
  have h : State.reset.rf Reg.ARB_STATUS 26 2 = 0 :=
    State.rf_eq_zero (rd_reset_eq_zero arbiter_and_host_lines_reset.1 (by decide) le_rfl (by decide)) 26 2
  simp [State.steward, h]

/-- Settles O4: the records are those State.reset gives, and each register named resets to zero. -/
theorem resetValues : Obligations.ResetValues := by
  unfold Obligations.ResetValues
  refine ⟨rfl, rfl, rfl, rfl, rfl, rfl, ?epoch, steward_reset, fun _ => rd_reset_bkup, ?lines, fun _ => peState_reset, rfl, rfl,
    fun n hn => ⟨State.rf_eq_zero (rd_reset_streamStat .east hn) 29 3, State.rf_eq_zero (rd_reset_streamStat .west hn) 29 3⟩⟩
  case epoch => exact rd_reset_eq_zero arbiter_and_host_lines_reset.1 (by decide) (by decide) le_rfl
  case lines => exact rd_reset_eq_zero arbiter_and_host_lines_reset.2 (by decide) le_rfl le_rfl

/-! Accesses that complete (R3, R5, R450, R496) -/

/-- Settles O26: each command is well formed, and its operation takes the branch that its hypotheses leave. -/
theorem accessCommandsComplete : Obligations.AccessCommandsComplete := by
  unfold Obligations.AccessCommandsComplete
  refine ⟨?write, ?read, fun _ _ => checked_of rfl, fun _ _ => checked_of rfl, ?mram⟩
  case write =>
    intro s fn off val hw hok hm ho a ha hr hmb hb r hat hp hact hpage hmay halarm hservo
    rw [exec_registerWrite hok, State.registerWrite_word _ _ _ (by omega) ho, State.writeWord_reach ha hr,
      State.writeReg_store _ _ hmb hb hat hp hact hpage hmay halarm hservo]
  case read =>
    intro s fn off size inc hok hr hm hl a ha hmb hb hact
    rw [exec_readClear hok, State.hostRead_narrow hr _ (by omega) (by omega), State.read32_within hl, State.readAt_of_barAddr s ha,
      State.readReg_plain inc hmb hb hact]
  case mram =>
    rintro s fn off data hok hr rfl hc
    exact (checked_of hok).trans (congrArg _ (State.mramUserWrite_owner hr hc off data))

end Sys2Proof.Machine
end

section
/-! SUPPORT. The one form that every arm of exec has, and the commands of wings, link, arbiter and stewards (01_architecture.md). -/

namespace Sys2Proof.Machine

/-! Every command (R12, R438) -/

/-- Every arm of exec guards its effect `t` by the check of its operands, and by the power and reset of MAIN where Instr.ofMain lists
the command. -/
theorem exec_eq_live_or_checked (c : Instr) (s : State) :
    ∃ t, exec c s = if c.ofMain then live c.wf s t else checked c.wf s t := by
  cases c <;> exact ⟨_, rfl⟩

/-- Settles O25, from the two forms of an arm: `live` for a command of MAIN, `checked` for any other. -/
theorem everyCommandAnswers : Obligations.EveryCommandAnswers := by
  unfold Obligations.EveryCommandAnswers
  intro c s
  obtain ⟨t, e⟩ := exec_eq_live_or_checked c s
  rw [e]
  cases c.ofMain with
  | true => exact ⟨⟨_, rfl⟩, fun hw => live_ill hw, fun _ hd => live_down hd⟩
  | false => exact ⟨⟨_, rfl⟩, fun hw => checked_ill hw, fun h => nomatch h⟩

/-! Counting fields -/

theorem capAt_eq_min (m k : Nat) : capAt m k = min k m := by
  unfold capAt; split <;> omega

section
variable (s : State) {lo n : Nat} (h : lo + n ≤ 32) (a k : Nat)
include h

/-- A counting field after an addition to it: at most all-ones. -/
theorem State.rf_cnt_same : (s.cnt a lo n k).rf a lo n = min (s.rf a lo n + k) (2 ^ n - 1) := by
  have hp : 0 < 2 ^ n := Nat.two_pow_pos n
  have hlt : capAt (2 ^ n - 1) (s.rf a lo n + k) < 2 ^ n := by rw [capAt_eq_min]; omega
  rw [State.rf, State.cnt, State.rd_wf_same, fld_setFld _ _ _ _ h, Nat.mod_eq_of_lt hlt, capAt_eq_min]

/-- An addition to a counting field carries into no bit above it. -/
theorem State.rb_cnt_above {b : Nat} (hb : lo + n ≤ b) : (s.cnt a lo n k).rb a b = s.rb a b := by
  rw [State.rb, State.cnt, State.rd_wf_same, tst_fld, fld_setFld_above _ _ _ _ _ _ h hb, ← tst_fld, State.rb]

end

/-! A steward's configuration write (R20, R21, R31) -/

section
variable {s : State} {w : Wing} {addr : Nat} (hs : s.stewUp w = true) (hc : fencedClass addr = true)
include hs hc

theorem State.stewardConfigWrite_fenced (hf : s.fenced w = true) (val : Word) : s.stewardConfigWrite w addr val = s.fenceHit := by
  simp [State.stewardConfigWrite, hs, hc, hf]

theorem State.stewardConfigWrite_holder (hf : s.fenced w = false) (hw : s.steward = some w) (val : Word) :
    s.stewardConfigWrite w addr val = s.mirrorOr (.config addr val) (fun u => u.stewardWr addr val) := by
  simp [State.stewardConfigWrite, hs, hc, hf, hw]

end

/-- Settles O21: the write comes to one more in the counting field FENCE_HITS, the low half of ARB_STATUS. -/
theorem fencedStewardDiscarded : Obligations.FencedStewardDiscarded := by
  unfold Obligations.FencedStewardDiscarded
  intro s w addr val hm hs hc hf
  have e : exec (.stewardConfigWrite w addr val) s = .next s.fenceHit :=
    (live_of rfl hm).trans (congrArg _ (State.stewardConfigWrite_fenced hs hc hf val))
  exact ⟨s.fenceHit, e, rfl, fun a ha => s.rd_cnt_ne ha.symm 0 16 1, s.rf_cnt_same (by decide) Reg.ARB_STATUS 1,
    fun b hb => s.rb_cnt_above (by decide) Reg.ARB_STATUS 1 hb⟩

/-! Link, arbiter and steward commands that complete (R16, R21, R23-R25, R28, R31, R33, R35, R506) -/

section
variable {c : Prop} [Decidable c] {ok : Bool} {s t u : State} (h : ok = true) (k : s.mainUp = true)
include h k

/-- A command of a powered block whose condition holds takes effect. -/
theorem live_when (hc : c) : live ok s (if c then t else u) = .next t := by rw [if_pos hc, live_of h k]

/-- A command of a powered block that no condition holds back takes effect. -/
theorem live_unless (hc : ¬c) : live ok s (if c then u else t) = .next t := by rw [if_neg hc, live_of h k]

end

/-- Settles O27: MAIN is up, and the hypotheses of each command leave the one branch of its operation that acts. -/
theorem stewardCommandsComplete : Obligations.StewardCommandsComplete := by
  unfold Obligations.StewardCommandsComplete
  refine ⟨fun _ _ hok k => live_of hok k, fun _ _ hok k => live_of hok k, ?trainDeadline, ?blockReceive, ?globalDecision, ?heartbeatSend,
    ?heartbeatLinkReceive, ?heartbeatLost, ?configWrite, ?mirrorRequest, ?mirrorComplete, fun _ k => live_of rfl k,
    fun _ _ k => live_of rfl k, fun _ _ _ _ _ k => live_of rfl k, fun _ _ k => live_of rfl k, fun _ k => live_of rfl k, ?deputyAck,
    ?mirrorAckTimeout⟩
  case trainDeadline =>
    intro s k ht hd
    exact live_unless rfl k (by simp [ht, hd])
  case blockReceive =>
    intro s b ok k hl h1 h2
    exact live_unless rfl k (by simp [hl, h1, h2])
  case globalDecision => exact fun _ _ k hr => live_when rfl k hr
  case heartbeatSend =>
    intro s w k soon hs hm hsoon e n q
    exact live_unless (c := (!s.stewUp w || s.arb.mute.at_ w || soon) = true) rfl k (by simp [hs, hm, hsoon])
  case heartbeatLinkReceive =>
    intro s w epoch k _ e q hq s1 he
    refine (live_of rfl k).trans (congrArg _ ?_)
    rw [State.heartbeatLinkReceive, hq]
    exact if_neg (not_not_intro he)
  case heartbeatLost =>
    intro s w k hs ht
    exact live_unless rfl k (by simp [hs, ht])
  case configWrite =>
    intro s w addr val k hs hc hf hw
    exact (live_of rfl k).trans (congrArg _ (State.stewardConfigWrite_holder hs hc hf hw val))
  case mirrorRequest =>
    intro s w k hl hw hr hs he
    exact live_unless rfl k (by simp [hl, hw, hr, hs, he])
  case mirrorComplete =>
    intro s w k hl hr hs hq
    exact live_unless rfl k (by simp [hl, hr, hs, hq])
  case deputyAck =>
    intro s received k hh before m after ha
    refine (live_of rfl k).trans (congrArg _ ?_)
    rw [State.deputyAck, if_neg (by simp [hh]), ha]
  case mirrorAckTimeout =>
    intro s k m _ hq ht hr
    refine (live_of rfl k).trans (congrArg _ ?_)
    rw [State.mirrorAckTimeout, hq]
    exact if_neg (by simp [ht, hr])

end Sys2Proof.Machine
end

section
/-! SUPPORT. Time (02_time.md): what a nanosecond without a command adds to each clock, and a command of any domain, or a read by the
owner of a register whose read acts, whose conditions leave one branch. -/

namespace Sys2Proof.Machine

/-! A nanosecond (R12, R13, R43, R452) -/

/-- With no command waiting only the clocks change (log entry 4). -/
theorem step_of_pending_nil {s : State} (h : s.pending = []) : step s = .next s.tick := by
  rw [step, h]

theorem bitOf_eq_one_iff (b : Bool) : bitOf b = 1 ↔ b = true := by cases b <;> decide

theorem ofNat_bitOf_decide (n : Nat) (p : Prop) [Decidable p] : BitVec.ofNat n (bitOf (decide p)) = if p then 1 else 0 := by
  by_cases h : p <;> simp [bitOf, h]

section
variable {s : State}

/-- The LTCs count while MAIN is up (R43). -/
theorem State.tick_ltc_of_up (h : s.mainUp = true) : s.tick.clk.ltcE = s.clk.ltcE + 1 ∧ s.tick.clk.ltcW = s.clk.ltcW + 1 := by
  simp [State.tick, h, bitOf]

/-- They hold their values while it is not. -/
theorem State.tick_ltc_of_down (h : s.mainUp = false) : s.tick.clk.ltcE = s.clk.ltcE ∧ s.tick.clk.ltcW = s.clk.ltcW := by
  simp [State.tick, h, bitOf]

/-- The RTC counts each 32,768th edge of CD0 outside OFF (R452). -/
theorem State.tick_rtc : s.tick.clk.rtc = s.clk.rtc +
    (if s.dev.st ≠ .off ∧ Config.cd0Edge s.clk.ns = true ∧ (s.clk.cd0 + 1) % 32768 = 0 then 1 else 0) := by
  simp only [State.tick, ofNat_bitOf_decide, bitOf_eq_one_iff, Bool.and_eq_true, bne_iff_ne, and_assoc]

end

/-! Conditions of a command -/

section
variable {c : Prop} [Decidable c] {ok : Bool} {s t u : State} (h : ok = true)
include h

/-- A command of any domain whose condition holds takes effect. -/
theorem checked_when (hc : c) : checked ok s (if c then t else u) = .next t := by rw [if_pos hc, checked_of h]

/-- A command of any domain that no condition holds back takes effect. -/
theorem checked_unless (hc : ¬c) : checked ok s (if c then u else t) = .next t := by rw [if_neg hc, checked_of h]

end

/-! Reads that act (R3, R40, R467) -/

theorem State.ownRead_narrow {s : State} {fn a lane size : Nat} {act : State → Nat → Nat → State} (h8 : size ≠ 8) :
    s.ownRead fn a lane size act = act s lane size := if_neg h8

/-- The owner's read outside SAFE TALK does what the read does and answers the register's bytes. -/
theorem State.ownerRead_owner {s : State} (hr : s.reach 0 = true) (ht : s.dev.st ≠ .safeTalk) (lane size : Nat) (v : Word)
    (act : State → State) : s.ownerRead 0 lane size v act = (act s).answer (laneData v lane size) := by
  simp [State.ownerRead, hr, ht]

/-- Such a read of at most four bytes, by a command that needs no power of MAIN. -/
theorem checked_ownRead_narrow {ok : Bool} {s t : State} {fn a lane size : Nat} {act : State → Nat → Nat → State} (hok : ok = true)
    (h8 : size ≠ 8) (hact : act s lane size = t) : checked ok s (s.ownRead fn a lane size act) = .next t := by
  rw [checked_of hok, State.ownRead_narrow h8, hact]

end Sys2Proof.Machine
end

section
/-! CLAIMS. The statements of chapter 2: the passing of time, PTP, device time and its sources, triggers and published streams. -/

namespace Sys2Proof.Machine

/-! The passing of time -/

/-- Settles O2, from what a nanosecond adds to each clock. -/
theorem emptyQueuePassesTime : Obligations.EmptyQueuePassesTime := by
  unfold Obligations.EmptyQueuePassesTime
  exact fun s hq => ⟨s.tick.clk, step_of_pending_nil hq, rfl, rfl, rfl, State.tick_ltc_of_up, State.tick_ltc_of_down, State.tick_rtc⟩

/-! PTP messages and port states (R53-R55) -/

/-- Settles O28: MAIN is up, and the hypotheses of each command leave the one branch of its operation that acts. -/
theorem ptpCommandsComplete : Obligations.PtpCommandsComplete := by
  unfold Obligations.PtpCommandsComplete
  refine ⟨?syncReceive, ?followUpReceive, fun _ _ _ _ hok k => live_of hok k, fun _ _ _ _ _ _ hok k => live_of hok k, ?announceReceive,
    fun _ _ hok k => live_of hok k, fun _ _ _ _ _ _ _ _ hok k => live_of hok k, fun _ _ hok k => live_of hok k,
    fun _ _ _ _ hok k => live_of hok k, ?portStateWrite⟩
  case syncReceive =>
    intro s p oneStep h origin corr phase hok k hp
    exact live_unless hok k (by simp [hp])
  case followUpReceive =>
    intro s p h origin corr hok k q n c rx hw hq hn hp
    refine (live_of hok k).trans (congrArg _ ?_)
    rw [State.followUpReceive, hw]
    exact if_pos ⟨hq, hn, hp⟩
  case announceReceive =>
    intro s p valid m phase hok k hd hv
    refine (live_of hok k).trans (congrArg _ ?_)
    cases hp : s.ptpOn p with
    | true => simp [State.announceReceive, hp, hd, hv]
    | false => simp [State.announceReceive, hp]
  case portStateWrite =>
    intro s fn p val hok ho
    exact checked_unless hok (by simp [ho])

/-! Device time, its sources, pulses and captures (R45-R49, R53, R56, R60-R66, R505) -/

/-- Settles O29: MAIN is up or not needed, and the hypotheses of each command leave the one branch of its operation that acts. -/
theorem timeCommandsComplete : Obligations.TimeCommandsComplete := by
  unfold Obligations.TimeCommandsComplete
  refine ⟨?shadowWrite, ?commit, fun _ k => live_of rfl k, fun _ _ k => live_of rfl k, fun _ k hg => live_when rfl k hg,
    fun _ k h3 hl => live_when rfl k ⟨h3, hl⟩, ?step, fun _ _ _ hok ho => checked_when hok ho, fun _ _ _ _ hok k => live_of hok k,
    fun _ _ k => live_of rfl k, fun _ k => live_of rfl k, ?ppsOutFall, fun _ _ _ _ _ hok k => live_of hok k, ?nowRead, ?ltcRead,
    ?tripleRead, ?capturePop, ?tsqEntryPop⟩
  case shadowWrite =>
    intro s writer target word val hok k hf hs
    refine (live_of hok k).trans (congrArg _ ?_)
    simp [State.timeShadowWrite, hf, hs]
  case commit =>
    intro s writer target k hf hs t
    refine (live_of rfl k).trans (congrArg _ ?_)
    simp [State.timeCommit, hf, hs, t]
  case step =>
    intro s fn amount hok ho hs ha hr
    exact checked_when hok (by simp [ho, hs, ha, hr])
  case ppsOutFall =>
    intro s k t ht
    refine (live_of rfl k).trans (congrArg _ ?_)
    rw [State.ppsOutFall, ht]
  case nowRead =>
    exact fun _ _ _ _ hok h8 hr ht => checked_ownRead_narrow hok h8 (by simp only [State.nowRead, State.ownerRead_owner hr ht])
  case ltcRead =>
    exact fun _ _ _ _ hok h8 hr ht => checked_ownRead_narrow hok h8 (by simp only [State.ltcLoRead, State.ownerRead_owner hr ht])
  case tripleRead =>
    exact fun _ _ _ _ hok h8 hr ht => checked_ownRead_narrow hok h8 (by simp only [State.tripleRead, State.ownerRead_owner hr ht])
  case capturePop =>
    intro s mid c lane size hok k h8 hm q s1
    refine (live_of hok k).trans (congrArg _ ?_)
    by_cases hh : mid < 256
    · rw [if_pos hh] at hm
      obtain ⟨rfl, hr, ht⟩ := hm
      rw [State.capturePop, if_pos hh, if_pos hh, State.ownRead_narrow h8, State.capPop, State.ownerRead_owner hr ht]
    · rw [if_neg hh] at hm
      rw [State.capturePop, if_neg hh, if_neg hh, if_pos hm]
  case tsqEntryPop =>
    exact fun _ _ _ _ hok h8 hr ht => checked_ownRead_narrow hok h8 (by simp only [State.tsqTake, State.ownerRead_owner hr ht])

/-! Trigger outputs and published streams (R63, R64, R92, R93, R384) -/

/-- Settles O30: MAIN is up or not needed, and the hypotheses of each command leave the one branch of its operation that acts. -/
theorem triggerCommandsComplete : Obligations.TriggerCommandsComplete := by
  unfold Obligations.TriggerCommandsComplete
  refine ⟨?arm, ?fire, ?pulseEnd, ?wrAdvance, ?frameSend, ?pubDma⟩
  case arm =>
    intro s fn m val hok ho
    exact checked_unless hok (by simp [ho])
  case fire =>
    intro s m hok k x t ctrl ha ht
    exact live_unless hok k (by simpa [ha, x] using ht)
  case pulseEnd =>
    intro s m hok k x e he hl
    refine (live_of hok k).trans (congrArg _ ?_)
    simp only [State.triggerPulseEnd]
    rw [he]
    exact if_neg (Nat.not_lt.mpr hl)
  case wrAdvance =>
    intro s fn p val hok c hc ho hh
    refine (checked_of hok).trans (congrArg _ ?_)
    rw [State.pubWrAdvance, hc]
    exact if_pos (by simp [ho, hh])
  case frameSend =>
    intro s p hok k c hc n hn x he hb s0 keys
    refine (live_of hok k).trans (congrArg _ ?_)
    rw [State.pubFrameSend, hc]
    dsimp only
    rw [hn]
    exact if_neg (ne_true_of_eq_false (Bool.or_eq_false_iff.mpr ⟨decide_eq_false (not_not_intro he), hb⟩))
  case pubDma =>
    intro s p hok k c hc key hf hh hp
    refine (live_of hok k).trans (congrArg _ ?_)
    rw [State.thicketPubDma, hc, hf]
    exact if_neg (by simp [hh, hp])

end Sys2Proof.Machine
end

section
/-! SUPPORT. Changes one after another, and what a change of the engines needs (Laws/Within.lean).
Where a proof says `with_reducible`, the operations it names would otherwise be unfolded to be compared. -/

namespace Sys2Proof.Machine

/-- One change after another, read as an operation is applied: the last one first. -/
theorem Within.after {m n : Nat} {s t u : State} (k : Within n t u) (h : Within m s t) (hs : Sub n m) : Within m s u :=
  h.step k hs

/-- The first branch goes on from where the second stands. -/
theorem Within.ite_then {m : Nat} {s t u : State} {c : Prop} [Decidable c] (h : Within m s t) (k : Within m s t → Within m s u) :
    Within m s (if c then u else t) :=
  .ite (k h) h

/-- The second branch goes on from where the first stands. -/
theorem Within.ite_else {m : Nat} {s t u : State} {c : Prop} [Decidable c] (h : Within m s t) (k : Within m s t → Within m s u) :
    Within m s (if c then t else u) :=
  .ite h (k h)

/-- A mask within a second that lies in a third. -/
theorem Sub.trans {a b c : Nat} (h : Sub a b) (k : Sub b c) : Sub a c := by
  unfold Sub at *
  rw [← h, Nat.land_assoc, k]

theorem bit_of_sub_true {a b i : Nat} (h : Sub a b) (ha : a.testBit i = true) : b.testBit i = true := by
  unfold Sub at h
  rw [← h, Nat.testBit_land, Bool.and_eq_true] at ha
  exact ha.2

theorem Within.of_pair {α : Type} {n : Nat} {s t : State} {p : α × State} {a : α} (e : p = (a, t)) (h : Within n s p.2) :
    Within n s t := by
  subst e; exact h

theorem Tab.mem_of_find {α : Type} {t : Tab α} {a : Nat} {x : α} (h : Tab.find t a = some x) : (a, x) ∈ t := by
  induction t with
  | nil => cases h
  | cons p t ih =>
    unfold Tab.find at h
    split at h
    · next e => subst e; cases h; exact List.mem_cons_self
    · exact List.mem_cons_of_mem _ (ih h)

/-- A change of the engines alone that keeps their banks canonical where every memory of the state is. -/
theorem Within.on_engOf {m : Nat} {s : State} {v : Tab Engine} (hm : m.testBit 16 = true)
    (hv : s.memOk = true → engOk s.eng = true → engOk v = true) : Within m s { s with eng := v } := by
  have h (hok : s.memOk = true) : Within m s { s with eng := v } := .on_eng (.refl ..) hm (hv hok)
  by_cases hok : s.memOk = true
  · exact h hok
  · exact { Within.refl m s with mem := fun x => absurd x hok, eng := fun x => absurd x (by simp [hm]) }

/-- What holds of a definition's body holds of the definition. (The kernel, asked whether an application of it is the body applied, looks
into the body's matches first, and can be long about it.) -/
theorem of_body {α : Sort*} (P : α → Prop) {f g : α} (e : f = g) (h : P g) : P f := e ▸ h

namespace State

theorem memOk_en {s : State} (h : s.memOk = true) (n : Nat) :
    Memory.wf 0 (s.en n).code = true ∧ Memory.wf 0 (s.en n).data = true := by
  simp only [memOk, Bool.and_eq_true, List.all_eq_true] at h
  unfold en Tab.get
  cases hf : Tab.find s.eng n with
  | none => exact ⟨rfl, rfl⟩
  | some e => exact h.2 _ (Tab.mem_of_find hf)

/-- A write of an engine whose banks stay canonical. -/
theorem setEn_wf (s : State) (n : Nat) (e : Engine)
    (he : Memory.wf 0 (s.en n).code = true → Memory.wf 0 (s.en n).data = true →
      Memory.wf 0 e.code = true ∧ Memory.wf 0 e.data = true) :
    Within 65536 s (s.setEn n e) :=
  .on_engOf rfl fun hm => eng_put n e (he (memOk_en hm n).1 (memOk_en hm n).2).1 (he (memOk_en hm n).1 (memOk_en hm n).2).2

/-- A write of an engine that leaves its banks. -/
theorem setEn_only (s : State) (n : Nat) (e : Engine) (hc : e.code = (s.en n).code) (hd : e.data = (s.en n).data) :
    Within 65536 s (s.setEn n e) :=
  setEn_wf s n e fun c d => ⟨hc ▸ c, hd ▸ d⟩

end State

end Sys2Proof.Machine
end

section
/-! SUPPORT. What each operation of Machine/Ops.lean may change (Laws/Within.lean). -/

namespace Sys2Proof.Machine.State

theorem nextSeq_only (s : State) (k : Nat) : Within 2 s (s.nextSeq k).2 := wf_only ..

end Sys2Proof.Machine.State
end

section
/-! SUPPORT. What each operation of Machine/Bridge.lean may change (Laws/Within.lean). -/

namespace Sys2Proof.Machine.State

theorem brErr_only (s : State) (who b : Nat) : Within 34603011 s (s.brErr who b) :=
  .ite (.refl ..) (.ite (.refl ..) ((raiseAt_only ..).after ((wb_only ..).sub rfl) rfl))

theorem lostWrite_only (s : State) (who : Nat) : Within 34603011 s (s.lostWrite who) :=
  .ite (.refl ..) (.ite_then ((cnt_only ..).sub rfl) fun h1 => (raiseAt_only ..).after h1 rfl)

theorem imageRead_only (s : State) (a : Nat) : Within 34603011 s (s.imageRead a).2 := by
  unfold imageRead
  split
  · exact raise_only ..
  · exact .refl ..

theorem imageWrite_only (s : State) (a : Nat) (v : Half) : Within 16384 s (s.imageWrite a v) :=
  .on_bridge (.refl ..) rfl (Memory.wf_store _ a v) id

theorem imageBuf_only (s : State) (who node : Nat) : Within 34603011 s (s.imageBuf who node).2 := by
  unfold imageBuf
  dsimp only
  split
  · split
    · exact .refl ..
    · split
      · exact .refl ..
      · split
        · exact .refl ..
        · exact .ite_else ((wb_only ..).sub rfl) fun h1 => (raiseAt_only ..).after h1 rfl
  · exact .refl ..

theorem latchNode_only (s : State) (who node : Nat) : Within 16384 s (s.latchNode who node) := .on_bridge (.refl ..) rfl id id

theorem cyclicRead_only (s : State) (who : Nat) (a : Word) : Within 34603011 s (s.cyclicRead who a).2 := by
  unfold cyclicRead
  dsimp only
  split
  · exact imageBuf_only ..
  · split
    · split
      · split
        · exact (used_only ..).after (imageBuf_only ..) rfl
        · exact (imageRead_only ..).after (imageBuf_only ..) rfl
      · exact imageBuf_only ..
    · exact imageBuf_only ..

theorem draftWrite_only (s : State) (off : Nat) (v mask : Half) : Within 16384 s (s.draftWrite off v mask) :=
  .on_bridge (.refl ..) rfl id (Memory.wf_store _ _ _)

theorem cyclicWrite_only (s : State) (who : Nat) (a : Word) (v : Half) : Within 34619395 s (s.cyclicWrite who a v) := by
  unfold cyclicWrite
  dsimp only
  split
  · split
    · refine .ite (.refl ..) ?_
      refine .ite ?_ ((draftWrite_only ..).after (.ite ((brErr_only ..).sub rfl) (.refl ..)) rfl)
      split
      · exact .on_bridge ((brErr_only ..).sub rfl) rfl id id
      · exact .on_bridge (.refl ..) rfl id id
    · exact .refl ..
  · exact .refl ..

theorem releaseHold_only (s : State) (fn : Nat) : Within 16384 s (s.releaseHold fn) :=
  .eachIn (.on_bridge (.refl ..) rfl id id) fun _ _ h => (draftWrite_only ..).after h rfl

theorem outHoldSet_only (s : State) (fn node : Nat) : Within 16386 s (s.outHoldSet fn node) :=
  .ite (.refl ..) (.on_bridge ((wr_only ..).after ((releaseHold_only ..).sub rfl) rfl) rfl id id)

theorem outHoldClear_only (s : State) (fn : Nat) : Within 16386 s (s.outHoldClear fn) :=
  .ite (.refl ..) ((wb_only ..).after ((releaseHold_only ..).sub rfl) rfl)

theorem outHoldExpiry_only (s : State) (fn : Nat) : Within 34619395 s (s.outHoldExpiry fn) := by
  unfold outHoldExpiry
  split
  · exact .ite ((brErr_only ..).after ((releaseHold_only ..).sub rfl) rfl) (.refl ..)
  · exact .refl ..

theorem setQueue_only (s : State) (node : Nat) (q : List BReq) : Within 16384 s (s.setQueue node q) := .on_bridge (.refl ..) rfl id id

theorem enqueue_only (s : State) (q : BReq) : Within 16384 s (s.enqueue q) := .on_bridge (setQueue_only ..) rfl id id

theorem bar2Word_only (s : State) (fn : Nat) (a : Word) : Within 34603011 s (s.bar2Word fn a).2 := by
  unfold bar2Word
  split
  · exact brErr_only ..
  · split
    · exact brErr_only ..
    · split
      · exact cyclicRead_only ..
      · exact brErr_only ..

theorem bar2Words_only (fn off k : Nat) : ∀ (s : State) (i : Nat) (l : List Half), Within 34603011 s (s.bar2Words fn off k i l).2 := by
  induction k with
  | zero => exact fun s _ _ => .refl _ s
  | succ k ih => exact fun s _ _ => (ih ..).after (bar2Word_only ..) rfl

theorem bar2Read_only (s : State) (fn off size : Nat) : Within 34603019 s (s.bar2Read fn off size) :=
  .ite ((unreached_only ..).sub rfl) ((answer_only ..).after ((bar2Words_only ..).sub rfl) rfl)

theorem bar2Put_only (s : State) (fn : Nat) (a : Word) (v : Half) : Within 34619395 s (s.bar2Put fn a v) :=
  .ite ((brErr_only ..).sub rfl) (.ite ((brErr_only ..).sub rfl) (.ite (cyclicWrite_only ..) (.ite ((lostWrite_only ..).sub rfl) (.ite
    ((brErr_only ..).after ((lostWrite_only ..).sub rfl) rfl) ((enqueue_only ..).sub rfl)))))

theorem bar2Write_only (s : State) (fn off size : Nat) (val : BitVec 64) : Within 34619395 s (s.bar2Write fn off size val) :=
  .ite (.refl ..) (.ite ((brErr_only ..).sub rfl) (.each (.refl ..) fun _ _ h => (bar2Put_only ..).after h rfl))

theorem brSnapWrite_only (s : State) (fn : Nat) (val : Word) : Within 16386 s (s.brSnapWrite fn val) :=
  .ite (.refl ..) (.ite ((wf_only ..).after ((latchNode_only ..).after ((wr_only ..).sub rfl) rfl) rfl) (.on_bridge ((wr_only ..).sub rfl)
    rfl id id))

theorem writeCompletion_only (s : State) (x : BResp) : Within 1064962 s (s.writeCompletion x) := by
  unfold writeCompletion
  refine .ite ?host ?engine
  case host =>
    have h (d : List Dma) (v : Word) : Within 1064962 s ({ s with host.dma := d }.wr (Reg.BR_CQ_TAIL x.who) v) :=
      (wr_only ..).after (.on_host (.refl ..) rfl id) rfl
    exact .ite ((signal_only ..).after (h _ _) rfl) (h _ _)
  case engine =>
    split
    · exact .on_bridge_host (.refl ..) rfl rfl id id fun h => putWords_wf _ _ _ (putWords_wf _ _ _ h)
    · exact .refl ..

theorem completeNow_only (s : State) (who status : Nat) (addr : Word) (user : Half) (buf : Nat) (data : List Half) :
    Within 1064962 s (s.completeNow who status addr user buf data) :=
  writeCompletion_only ..

theorem refuseReq_only (s : State) (who status : Nat) (addr : Word) (user : Half) (buf : Nat) :
    Within 34619395 s (s.refuseReq who status addr user buf) :=
  (completeNow_only ..).after (.ite ((brErr_only ..).sub rfl) (.ite ((brErr_only ..).sub rfl) (.refl ..))) rfl

theorem fetched_only (s : State) (who : Nat) : Within 1064962 s (s.fetched who) := by
  refine .ite ((wr_only ..).after ?_ rfl) (.on_bridge (.refl ..) rfl id id)
  cases h : s.dmaServe who 32 with
  | none => exact .refl ..
  | some t => exact (dmaServe_some h).sub rfl

theorem cyclicReads_only (who k : Nat) : ∀ (s : State) (a : Word) (l : List Half), Within 34603011 s (s.cyclicReads who a k l).2 := by
  induction k with
  | zero => exact fun s _ _ => .refl _ s
  | succ k ih => exact fun s _ _ => (ih ..).after (cyclicRead_only ..) rfl

theorem read_only (s : State) (who : Nat) (e0 : List Word) : Within 34619395 s (s.read who e0) := by
  unfold read
  dsimp only
  refine .ite (.refl ..) ?_
  split
  · exact (refuseReq_only ..).after ((fetched_only ..).sub rfl) rfl
  · refine .ite ((completeNow_only ..).after ((cyclicReads_only ..).after ((fetched_only ..).sub rfl) rfl) rfl) ?_
    split
    · exact (raiseAt_only ..).after ((completeNow_only ..).after ((fetched_only ..).sub rfl) rfl) rfl
    · exact (enqueue_only ..).after (.on_bridge ((used_only ..).after ((fetched_only ..).sub rfl) rfl) rfl id id) rfl

theorem postWrite_only (s : State) (q : BReq) : Within 1064962 s (s.postWrite q) :=
  .ite (.on_bridge ((enqueue_only ..).sub rfl) rfl id id) ((writeCompletion_only ..).after ((enqueue_only ..).sub rfl) rfl)

theorem write_only (s : State) (who : Nat) (e0 : List Word) (data : List Half) : Within 34619395 s (s.write who e0 data) := by
  unfold write
  dsimp only
  refine .ite (.refl ..) ?_
  split
  · exact (refuseReq_only ..).after ((fetched_only ..).sub rfl) rfl
  · exact .ite ((completeNow_only ..).after (.eachIn ((fetched_only ..).sub rfl) fun _ _ h => (cyclicWrite_only ..).after h rfl) rfl)
      ((postWrite_only ..).after ((fetched_only ..).sub rfl) rfl)

theorem sqDoorbell_only (s : State) (fn : Nat) (tail : Word) : Within 2 s (s.sqDoorbell fn tail) := .ite (wr_only ..) (.refl ..)

theorem ack_only (s : State) (node : Nat) (rseq : BitVec 11) : Within 16384 s (s.ack node rseq) := by
  unfold ack
  dsimp only
  split
  · exact .ite (.refl ..) (.on_bridge (setQueue_only ..) rfl id id)
  · exact .refl ..

theorem rdata_only (s : State) (node : Nat) (rseq tag : BitVec 11) (status : BitVec 4) (data : List Half) :
    Within 16385 s (s.rdata node rseq tag status data) := by
  unfold rdata
  dsimp only
  split
  · refine .ite ?_ ?_
    · split <;> exact .on_bridge ((setQueue_only ..).sub rfl) rfl id id
    · (repeat' split) <;> exact .on_bridge ((used_only ..).after ((setQueue_only ..).sub rfl) rfl) rfl id id
  · exact .on_bridge (.refl ..) rfl id id

theorem acycResend_only (s : State) (node : Nat) : Within 16384 s (s.acycResend node) :=
  .ite (.refl ..) (.on_bridge (setQueue_only ..) rfl id id)

theorem acycTimeout_only (s : State) (node : Nat) : Within 34619395 s (s.acycTimeout node) :=
  .ite (.refl ..) ((raiseAt_only ..).after (.on_bridge ((setQueue_only ..).sub rfl) rfl id id) rfl)

theorem ageQueues_only (s : State) (r : Nat) : Within 16384 s (s.ageQueues r) :=
  .each (.refl ..) fun _ _ h => .ite (.on_bridge ((setQueue_only ..).after h rfl) rfl id id) h

theorem dropResp_only (s : State) (x : BResp) : Within 16384 s (s.dropResp x) := .on_bridge (.refl ..) rfl id id

theorem complServe_some {s t : State} {who n : Nat} (h : s.complServe who n = some t) : Within 1048576 s t := by
  unfold complServe at h
  split at h
  · exact dmaServe_some h
  · cases h; exact .refl ..

theorem completionWrite_only (s : State) (who : Nat) : Within 1064962 s (s.completionWrite who) := by
  unfold completionWrite
  dsimp only
  split
  · refine .ite (.refl ..) ?_
    split
    · exact (writeCompletion_only ..).after ((dropResp_only ..).after ((complServe_some (by assumption)).sub rfl) rfl) rfl
    · exact .refl ..
  · exact .refl ..

theorem responseDiscard_only (s : State) (who : Nat) : Within 34619395 s (s.responseDiscard who) := by
  unfold responseDiscard
  dsimp only
  split
  · exact .ite (.refl ..) (.ite_else ((dropResp_only ..).sub rfl) fun h1 => .ite_then ((cnt_only ..).after h1 rfl) fun h2 =>
      (raiseAt_only ..).after h2 rfl)
  · exact .refl ..

theorem retireNode_only (s : State) (node status : Nat) : Within 34619395 s (s.retireNode node status) :=
  .ite (.refl ..) (.ite_else (.eachIn (.on_bridge ((setQueue_only ..).sub rfl) rfl id id) fun _ _ h => (lostWrite_only ..).after h rfl)
    fun h1 => (raiseAt_only ..).after h1 rfl)

theorem admitQueue_only (s : State) (node : Nat) : Within 16384 s (s.admitQueue node) := .on_bridge (setQueue_only ..) rfl id id

theorem bridgeReset_only (s : State) (fn : Nat) : Within 16384 s (s.bridgeReset fn) := .on_bridge (releaseHold_only ..) rfl id id

end Sys2Proof.Machine.State
end

section
/-! SUPPORT. What each operation of Machine/Hedge.lean may change (Laws/Within.lean). -/

namespace Sys2Proof.Machine.State

theorem hedgeEvent_only (s : State) (es : Nat) (w : Wing) (n : Nat) : Within 34603011 s (s.hedgeEvent es w n) := raiseAt_only ..

theorem setHedge_only (s : State) (w : Wing) (h : Hedge) : Within 1024 s (s.setHedge w h) := .on_hedge (.refl ..) rfl

theorem showGroups_only (s : State) (w : Wing) : Within 2 s (s.showGroups w) :=
  .eachIn (.refl ..) fun _ _ h => .each h fun _ _ h => (wr_only ..).after h rfl

theorem showFreq_only (s : State) (w : Wing) (t : Nat) : Within 2 s (s.showFreq w t) := wr_only ..

theorem freqHoldTimeout_only (s : State) (w : Wing) (t : Nat) : Within 1026 s (s.freqHoldTimeout w t) := by
  unfold freqHoldTimeout
  dsimp only
  split
  · exact .ite ((showFreq_only ..).after ((setHedge_only ..).sub rfl) rfl) (.refl ..)
  · exact .refl ..

theorem showElem_only (s : State) (w : Wing) (e : Nat) : Within 2 s (s.showElem w e) :=
  (wf_only ..).after ((wf_only ..).after (wf_only ..) rfl) rfl

theorem putElem_only (s : State) (w : Wing) (e : Nat) (x : Elem) : Within 34604035 s (s.putElem w e x) :=
  .ite_then (.ite_then ((showElem_only ..).after ((setHedge_only ..).sub rfl) rfl) fun h1 => (hedgeEvent_only ..).after
    ((wb_only ..).after h1 rfl) rfl) fun h2 => (hedgeEvent_only ..).after ((wb_only ..).after h2 rfl) rfl

theorem driveLines_only (s : State) (w : Wing) : Within 34672643 s (s.driveLines w) :=
  .ite_else (.each (.refl ..) fun _ _ h => .ite ((showElem_only ..).after h rfl) h) fun h1 => (revote_only ..).after ((wr_only ..).after
    h1 rfl) rfl

theorem elemDue_only (s : State) (w : Wing) (e : Nat) (types : List Nat) (due : ElSet → Elem → Bool) (f : Elem → Elem) :
    Within 34673667 s (s.elemDue w e types due f) :=
  .ite ((driveLines_only ..).after ((putElem_only ..).sub rfl) rfl) (.refl ..)

theorem phRead_only (s : State) (fn : Nat) (w : Wing) (c lane size : Nat) : Within 1032 s (s.phRead fn w c lane size) :=
  ownerRead_in (.refl ..) rfl fun _ h => (setHedge_only ..).after h rfl

theorem acceptRecs_only (s : State) (recs : List HedgeRec) (t : Nat) : Within 1024 s (s.acceptRecs recs t) :=
  .eachIn (.refl ..) fun _ _ h => .eachIn h fun _ _ h => (setHedge_only ..).after h rfl

theorem hedgeSet_only (s : State) (ch : Nat) (given : List HedgeRec) : Within 5245953 s (s.hedgeSet ch given) := by
  refine request_in (.refl ..) fun t h => ?_
  have reply (ws : List Word) : Within 5245953 s (t.reply ch ws) := (reply_only ..).after h rfl
  generalize t.firstFault = fault
  refine .ite (reply _) (.ite ((used_only ..).after (reply _) rfl) (.ite ((used_only ..).after (reply _) rfl) ?_))
  split
  · exact reply _
  · exact (journalAdd_only ..).after ((reply_only ..).after ((acceptRecs_only ..).after (.on_lease h rfl) rfl) rfl) rfl

theorem hedgeTApply_only (s : State) : Within 34605059 s (s.hedgeTApply) := by
  unfold hedgeTApply
  dsimp only
  split
  · exact .ite (.refl ..) (.ite_then (.ite_then (.on_lease (.refl ..) rfl) fun h1 => (hedgeEvent_only ..).after h1 rfl) fun h2 =>
      (hedgeEvent_only ..).after h2 rfl)
  · exact .refl ..

theorem leaseSeen_only (s : State) (v : Bool) : Within 1024 s (s.leaseSeen v) := .on_hedge (.refl ..) rfl

theorem lapse_only (s : State) (cause : Nat) : Within 34606083 s (s.lapse cause) :=
  .ite ((raise_only ..).after ((leaseSeen_only ..).after ((used_only ..).after (.on_lease (.refl ..) rfl) rfl) rfl) rfl) (.refl ..)

theorem leaseTimeout_only (s : State) : Within 34606083 s (s.leaseTimeout) := .ite (lapse_only ..) (.refl ..)

theorem leaseResult_only (s : State) (fn r : Nat) : Within 2048 s (s.leaseResult fn r) := .on_lease (.refl ..) rfl

theorem leaseCmd_in {m : Nat} {b s : State} {fn : Nat} {go : State → State} (hs : Sub 34606083 m) (h : Within m b s)
    (hgo : ∀ t, Within m b t → Within m b (go t)) : Within m b (s.leaseCmd fn go) :=
  .ite h (.ite ((leaseResult_only ..).after h (.trans (by decide) hs)) (hgo _ ((leaseTimeout_only ..).after h (.trans (by decide) hs))))

theorem acquire_only (s : State) (fn : Nat) (seq : BitVec 16) : Within 34606083 s (s.acquire fn seq) := by
  unfold acquire
  dsimp only
  refine leaseCmd_in rfl (.refl ..) fun _ h => ?_
  split
  · exact (raise_only ..).after ((leaseSeen_only ..).after ((leaseResult_only ..).after (.on_lease h rfl) rfl) rfl) rfl
  · exact .ite ((used_only ..).after ((leaseResult_only ..).after h rfl) rfl) ((leaseResult_only ..).after h rfl)

theorem refresh_only (s : State) (fn : Nat) (seq : BitVec 16) : Within 34606083 s (s.refresh fn seq) :=
  leaseCmd_in rfl (.refl ..) fun _ h => .ite ((leaseResult_only ..).after h rfl) (.ite ((leaseResult_only ..).after h rfl)
    ((leaseResult_only ..).after (.on_lease h rfl) rfl))

theorem release_only (s : State) (fn : Nat) (seq : BitVec 16) : Within 34606083 s (s.release fn seq) :=
  leaseCmd_in rfl (.refl ..) fun _ h => .ite ((leaseResult_only ..).after h rfl) ((lapse_only ..).after ((leaseResult_only ..).after h
    rfl) rfl)

end Sys2Proof.Machine.State
end

section
/-! SUPPORT. What each operation of Machine/Time.lean may change (Laws/Within.lean). -/

namespace Sys2Proof.Machine.State

theorem setTrg_only (s : State) (m : Nat) (x : Trg) : Within 64 s (s.setTrg m x) := .on_time (.refl ..) rfl

theorem trgSkip_only (s : State) (m now : Nat) : Within 34603075 s (s.trgSkip m now) :=
  .ite ((raiseAt_only ..).after ((setTrg_only ..).sub rfl) rfl) (.refl ..)

theorem ringStep_only (s : State) (r : Nat) (d : Int) : Within 34611203 s (s.ringStep r d) :=
  .ite (.refl ..) (.ite_else ((setRg_only ..).sub rfl) fun h1 => (raiseAt_only ..).after ((wb_only ..).after h1 rfl) rfl)

theorem timeMoved_only (s : State) (w : Wing) (d : Int) : Within 34611523 s (s.timeMoved w d) :=
  .ite_then (.each ((wallStep_only ..).sub rfl) fun _ _ h => .ite ((ringStep_only ..).after h rfl) h) fun h1 => .each h1 fun _ _ h => .ite
    ((trgSkip_only ..).after h rfl) h

theorem setTriple_only (s : State) (w : Wing) (t : Triple) : Within 34611523 s (s.setTriple w t) :=
  .ite_then (.on_time (.refl ..) rfl) fun h1 => (timeMoved_only ..).after h1 rfl

theorem stepWing_only (s : State) (w : Wing) (d : Int) : Within 34611523 s (s.stepWing w d) := setTriple_only ..

theorem stepBoth_only (s : State) (d : Int) : Within 34611523 s (s.stepBoth d) :=
  (raise_only ..).after (.ite_else (stepWing_only ..) fun h1 => (stepWing_only ..).after h1 rfl) rfl

theorem commitTriple_only (s : State) (w : Wing) (t : Triple) : Within 34611523 s (s.commitTriple w t) :=
  (raiseIf_only ..).after (setTriple_only ..) rfl

theorem timeShadowWrite_only (s : State) (writer target : Wing) (word : Nat) (val : Word) :
    Within 66 s (s.timeShadowWrite writer target word val) :=
  .ite ((fenceHit_only ..).sub rfl) (.ite (.on_time (.refl ..) rfl) (.refl ..))

theorem timeCommit_only (s : State) (writer target : Wing) : Within 34611555 s (s.timeCommit writer target) :=
  .ite ((fenceHit_only ..).sub rfl) (.ite (.refl ..) (.ite ((commitTriple_only ..).sub rfl) (.ite (.refl ..) (mirrorOr_in (.refl ..) rfl
    fun _ h => (commitTriple_only ..).after h rfl))))

theorem showSynch_only (s : State) : Within 2 s (s.showSynch) := wf_only ..

theorem cutPps_only (s : State) : Within 64 s (s.cutPps) := .ite (.on_time (.refl ..) rfl) (.refl ..)

theorem setTimeState_only (s : State) (v : Nat) : Within 34603075 s (s.setTimeState v) :=
  .ite (.refl ..) ((raise_only ..).after ((cutPps_only ..).after ((showSynch_only ..).after (.on_time (.ite_then ((wf_only ..).after
    ((wf_only ..).sub rfl) rfl) fun h1 => .on_time h1 rfl) rfl) rfl) rfl) rfl)

theorem loseSource_only (s : State) : Within 34603075 s (s.loseSource) := by
  unfold loseSource
  dsimp only
  refine .ite (.refl ..) ?_
  split
  · exact (setTimeState_only ..).after ((raise_only ..).after (.on_time (.refl ..) rfl) rfl) rfl
  · exact (setTimeState_only ..).after ((raise_only ..).after (.on_time (.refl ..) rfl) rfl) rfl
  · exact (raise_only ..).after (.on_time (.refl ..) rfl) rfl

theorem sourceLost_only (s : State) : Within 34603075 s (s.sourceLost) := .ite (loseSource_only ..) (.refl ..)

theorem holdLimitExpiry_only (s : State) : Within 34603075 s (s.holdLimitExpiry) := .ite (setTimeState_only ..) (.refl ..)

theorem gainSource_only (s : State) : Within 34603075 s (s.gainSource) := by
  unfold gainSource
  dsimp only
  split
  · exact (setTimeState_only ..).after ((showSynch_only ..).after ((wf_only ..).after (.on_time (.refl ..) rfl) rfl) rfl) rfl
  · exact (setTimeState_only ..).after ((showSynch_only ..).after ((wf_only ..).after (.on_time (.refl ..) rfl) rfl) rfl) rfl
  · exact (setTimeState_only ..).after ((showSynch_only ..).after ((wf_only ..).after (.on_time (.refl ..) rfl) rfl) rfl) rfl
  · exact (showSynch_only ..).after ((wf_only ..).after (.on_time (.refl ..) rfl) rfl) rfl

theorem rateNow_only (s : State) (v : Word) : Within 34611523 s (s.rateNow v) := setTriple_only ..

theorem servoRate_only (s : State) : Within 34611555 s (s.servoRate) :=
  (used_only ..).after (mirrorOr_in (.refl ..) rfl fun _ h => (rateNow_only ..).after h rfl) rfl

theorem decideStep_only (s : State) (d : Int) : Within 34611555 s (s.decideStep d) :=
  mirrorOr_in (.refl ..) rfl fun _ h => (stepBoth_only ..).after h rfl

theorem servoMove_only (s : State) (off : Int) : Within 34611555 s (s.servoMove off) :=
  .ite (.ite_then (.on_time (.ite (decideStep_only ..) (servoRate_only ..)) rfl) fun h1 => (setTimeState_only ..).after h1 rfl) (.ite_then
    (.on_time (servoRate_only ..) rfl) fun h2 => (setTimeState_only ..).after h2 rfl)

theorem servoUpdate_only (s : State) (w : Wing) : Within 34611555 s (s.servoUpdate w) := by
  unfold servoUpdate
  split
  · exact .refl ..
  · exact .ite (.refl ..) ((servoMove_only ..).after ((gainSource_only ..).after (.on_time (.refl ..) rfl) rfl) rfl)

theorem gmChanged_only (s : State) : Within 34603075 s (s.gmChanged) :=
  .ite ((setTimeState_only ..).after ((raise_only ..).sub rfl) rfl) ((showSynch_only ..).after ((raise_only ..).sub rfl) rfl)

theorem gmChange_only (s : State) (fn : Nat) (clockClass : BitVec 8) : Within 34603075 s (s.gmChange fn clockClass) :=
  .ite ((gmChanged_only ..).after (.on_time (.refl ..) rfl) rfl) (.refl ..)

theorem step_only (s : State) (fn : Nat) (amount : Int) : Within 34611555 s (s.step fn amount) := .ite (decideStep_only ..) (.refl ..)

theorem timePortStateWrite_only (s : State) (fn p : Nat) (val : Word) : Within 34603075 s (s.timePortStateWrite fn p val) :=
  .ite (.refl ..) (.ite ((wb_only ..).sub rfl) (.ite ((gmChanged_only ..).after (.on_time ((wf_only ..).after ((wr_only ..).sub rfl) rfl)
    rfl) rfl) (.ite (.ite ((loseSource_only ..).after ((gmChanged_only ..).after (.on_time ((wf_only ..).after ((wr_only ..).sub rfl) rfl)
    rfl) rfl) rfl) ((gmChanged_only ..).after (.on_time ((wf_only ..).after ((wr_only ..).sub rfl) rfl) rfl) rfl)) ((wr_only ..).sub
    rfl))))

theorem nowRead_only (s : State) (fn : Nat) (w : Wing) (lane size : Nat) : Within 72 s (s.nowRead fn w lane size) :=
  ownerRead_in (.refl ..) rfl fun _ h => .on_time h rfl

theorem ltcLoRead_only (s : State) (fn : Nat) (w : Wing) (lane size : Nat) : Within 72 s (s.ltcLoRead fn w lane size) :=
  ownerRead_in (.refl ..) rfl fun _ h => .on_time h rfl

theorem tripleRead_only (s : State) (fn : Nat) (w : Wing) (lane size : Nat) : Within 72 s (s.tripleRead fn w lane size) :=
  ownerRead_in (.refl ..) rfl fun _ h => .on_time h rfl

theorem measured_only (s : State) (src : Nat) (m : Nat × Nat) : Within 64 s (s.measured src m) :=
  .ite (.on_time (.refl ..) rfl) (.refl ..)

theorem toServo_only (s : State) (p origin : Nat) (corr : Int) (rx : Nat) : Within 64 s (s.toServo p origin corr rx) :=
  (measured_only ..).after (.on_time (.refl ..) rfl) rfl

theorem syncReceive_only (s : State) (p : Nat) (oneStep : Bool) (h : PtpHdr) (origin : Nat) (corr : Int) (phase : Nat) :
    Within 64 s (s.syncReceive p oneStep h origin corr phase) :=
  .ite (.refl ..) (.ite ((toServo_only ..).after (.ite (.on_time (.refl ..) rfl) (.refl ..)) rfl) (.on_time (.ite (.on_time (.refl ..)
    rfl) (.refl ..)) rfl))

theorem followUpReceive_only (s : State) (p : Nat) (h : PtpHdr) (origin : Nat) (corr : Int) :
    Within 64 s (s.followUpReceive p h origin corr) := by
  unfold followUpReceive
  dsimp only
  split
  · exact .ite (.on_time (toServo_only ..) rfl) (.refl ..)
  · exact .refl ..

theorem tsqPush_only (s : State) (p : Nat) (x : TsRec) : Within 34603075 s (s.tsqPush p x) :=
  .ite ((raiseAt_only ..).after ((cnt_only ..).after ((wb_only ..).sub rfl) rfl) rfl) (.on_time (.refl ..) rfl)

theorem stampEvent_only (s : State) (p t : Nat) (seq : Half) : Within 34603075 s (s.stampEvent p t seq) :=
  .ite (tsqPush_only ..) (.refl ..)

theorem syncTransmit_only (s : State) (p : Nat) (seq : Half) (phase : Nat) : Within 34603075 s (s.syncTransmit p seq phase) := by
  unfold syncTransmit
  dsimp only
  exact .ite (.refl ..) (.ite (.on_time (stampEvent_only ..) rfl) (.on_time (stampEvent_only ..) rfl))

theorem pdelayExchange_only (s : State) (p : Nat) (resp : Bool) (seq : Half) (out back : Nat × Fin 16) :
    Within 34603075 s (s.pdelayExchange p resp seq out back) :=
  .ite (.refl ..) (.ite (stampEvent_only ..) ((wr_only ..).after (stampEvent_only ..) rfl))

theorem setUtc_only (s : State) (utc : Word) : Within 34603011 s (s.setUtc utc) := (raiseIf_only ..).after ((wr_only ..).sub rfl) rfl

theorem parentAnnounce_only (s : State) (utc : Word) (tlv : List Word) : Within 34603075 s (s.parentAnnounce utc tlv) :=
  (setUtc_only ..).after (.on_time (.refl ..) rfl) rfl

theorem announceReceive_only (s : State) (p : Nat) (valid : Bool) (m : PtpNote) (phase : Nat) :
    Within 34603075 s (s.announceReceive p valid m phase) :=
  .ite (.refl ..) ((send_only ..).after (.ite (parentAnnounce_only ..) (.refl ..)) rfl)

theorem announceTransmit_only (s : State) (p : Nat) : Within 65 s (s.announceTransmit p) := by
  unfold announceTransmit
  dsimp only
  refine .ite ?_ (.refl ..)
  refine (used_only ..).after ?_ rfl
  split <;> exact .on_time (.refl ..) rfl

theorem forwardPtp_only (s : State) (pout : Nat) (m : PtpMsg) (add : Int) : Within 64 s (s.forwardPtp pout m add) :=
  .on_time (.refl ..) rfl

theorem ptpTransit_only (s : State) (pin pout : Nat) (kind : PtpKind) (m : PtpMsg) (age phaseIn phaseOut : Nat) :
    Within 34603075 s (s.ptpTransit pin pout kind m age phaseIn phaseOut) := by
  unfold ptpTransit
  dsimp only
  refine .ite ((forwardPtp_only ..).sub rfl) ?_
  split
  · exact (stampEvent_only ..).after ((forwardPtp_only ..).sub rfl) rfl
  · exact (stampEvent_only ..).after ((forwardPtp_only ..).sub rfl) rfl
  · refine (stampEvent_only ..).after ?_ rfl
    refine (forwardPtp_only ..).after ?_ rfl
    split <;> exact .on_time (.refl ..) rfl
  · split
    · exact (forwardPtp_only ..).after (.on_time (.refl ..) rfl) rfl
    · exact (cnt_only ..).after ((forwardPtp_only ..).sub rfl) rfl

theorem heldSyncExpiry_only (s : State) (p : Nat) : Within 64 s (s.heldSyncExpiry p) := .on_time (.refl ..) rfl

theorem irigbFrame_only (s : State) (widths : List Nat) (age phase : Nat) : Within 34603075 s (s.irigbFrame widths age phase) := by
  unfold irigbFrame
  dsimp only
  exact .ite (.ite (.on_time (.refl ..) rfl) (.ite ((setUtc_only ..).after ((measured_only ..).after (.on_time (.refl ..) rfl) rfl) rfl)
    ((measured_only ..).after (.on_time (.refl ..) rfl) rfl))) ((raise_only ..).after ((cnt_only ..).after (.on_time (.refl ..) rfl) rfl)
    rfl)

theorem ppsInEdge_only (s : State) (x : PpsPulse) : Within 34603075 s (s.ppsInEdge x) :=
  .ite ((measured_only ..).after (.on_time (.refl ..) rfl) rfl) ((raise_only ..).after (.on_time (.refl ..) rfl) rfl)

theorem ppsOutRise_only (s : State) : Within 64 s (s.ppsOutRise) := .ite (.refl ..) (.on_time (.refl ..) rfl)

theorem ppsOutFall_only (s : State) : Within 64 s (s.ppsOutFall) := by
  unfold ppsOutFall
  split
  · exact .ite (.on_time (.refl ..) rfl) (.refl ..)
  · exact .refl ..

theorem captureEdge_only (s : State) (c : Nat) (e : CapEdge) (width phase : Nat) : Within 34603075 s (s.captureEdge c e width phase) :=
  .ite (.refl ..) (.ite ((raiseAt_only ..).after (.on_time (.refl ..) rfl) rfl) ((raiseIf_only ..).after (.on_time (.refl ..) rfl) rfl))

theorem capTake_only (s : State) (c lane size : Nat) : Within 72 s (s.capTake c lane size) :=
  (answer_only ..).after (.on_time (.refl ..) rfl) rfl

theorem capPop_only (s : State) (fn c lane size : Nat) : Within 72 s (s.capPop fn c lane size) :=
  ownerRead_in (.refl ..) rfl fun _ h => .on_time h rfl

theorem tsqTake_only (s : State) (fn p lane size : Nat) : Within 72 s (s.tsqTake fn p lane size) :=
  ownerRead_in (.refl ..) rfl fun _ h => .on_time h rfl

end Sys2Proof.Machine.State
end

section
/-! SUPPORT. What each operation of Machine/Caravan.lean may change (Laws/Within.lean). -/

namespace Sys2Proof.Machine.State

theorem onLane_only (s : State) (r : Nat) (tail : Bool) (f : Lane → Lane) : Within 8192 s (s.onLane r tail f) := setRg_only ..

theorem ringEvent_only (s : State) (r i : Nat) : Within 34603011 s (s.ringEvent r i) := raiseAt_only ..

theorem setRingState_only (s : State) (r v : Nat) : Within 34603011 s (s.setRingState r v) :=
  .ite (.refl ..) ((ringEvent_only ..).after ((wf_only ..).sub rfl) rfl)

theorem ringClear_only (s : State) (r : Nat) : Within 2 s (s.ringClear r) :=
  (wf_only ..).after ((wf_only ..).after ((wf_only ..).after
    (Within.foldl (fun _ _ h => (wb_only ..).after h rfl) _ _ (.refl ..)) rfl) rfl) rfl

theorem ringStop_only (s : State) (r : Nat) : Within 34603027 s (s.ringStop r) := by
  unfold ringStop
  dsimp only
  exact (setAlarm_only ..).after ((ringClear_only ..).after ((setRingState_only ..).sub rfl) rfl) rfl

theorem cmdRec_only (s : State) (r : Nat) (c : CmdRec) : Within 8192 s (s.cmdRec r c) := setRg_only ..

theorem cmdFirst_only (s : State) (r : Nat) (c : CmdRec) : Within 8192 s (s.cmdFirst r c) := setRg_only ..

theorem fillAcyc_only (l : List SEnt) : ∀ s : State, Within 16384 s (s.fillAcyc l).2 := by
  induction l with
  | nil => exact .refl _
  | cons e l ih =>
    intro s
    unfold fillAcyc
    split
    · exact (ih ..).after (setQueue_only ..) rfl
    · exact ih s

end Sys2Proof.Machine.State
end

section
/-! SUPPORT. What each operation of Machine/Caique.lean may change (Laws/Within.lean). -/

namespace Sys2Proof.Machine.State

theorem cutOff_only (s : State) (r : Nat) : Within 8192 s (s.cutOff r) := setRg_only ..

theorem caravanCutoff_only (s : State) (r : Nat) : Within 8192 s (s.caravanCutoff r) := by
  unfold caravanCutoff
  refine .ite (.refl ..) ?_
  split
  · exact .ite (.refl ..) (cutOff_only ..)
  · exact .refl ..

theorem copyBuf_only (s : State) (ents : List SEnt) (src dst : Nat) : Within 16384 s (s.copyBuf ents src dst) :=
  .eachIn (.refl ..) fun _ _ h => .each h fun _ _ hu => .on_bridge hu rfl (Memory.wf_store _ _ _) id

theorem rotate_only (s : State) (r : Nat) : Within 24578 s (s.rotate r) :=
  (copyBuf_only ..).after ((cnt_only ..).after (.on_bridge ((setRg_only ..).sub rfl) rfl id id) rfl) rfl

theorem imageRotate_only (s : State) (r : Nat) : Within 24578 s (s.imageRotate r) := .ite (.refl ..) (rotate_only ..)

theorem nodeTo_only (s : State) (r p v : Nat) : Within 2 s (s.nodeTo r p v) := (wf_only ..).after (wf_only ..) rfl

theorem nodeOut_only (s : State) (r p v : Nat) : Within 34619395 s (s.nodeOut r p v) :=
  .ite_then ((nodeTo_only ..).sub rfl) fun h1 => (retireNode_only ..).after h1 rfl

theorem admitNode_only (s : State) (r p : Nat) (eui : BitVec 64) (epoch : Nat) : Within 34627587 s (s.admitNode r p eui epoch) :=
  (ringEvent_only ..).after ((cnt_only ..).after ((admitQueue_only ..).after ((nodeTo_only ..).after ((setRg_only ..).after
    ((cmdRec_only ..).sub rfl) rfl) rfl) rfl) rfl) rfl

theorem commitEpoch_only (s : State) (r : Nat) (sched : List (Word × Word)) : Within 34627587 s (s.commitEpoch r sched) := by
  unfold commitEpoch
  dsimp only
  refine .ite (.refl ..) ?_
  refine .ite ((setRg_only ..).sub rfl) ?_
  refine .each ((setRg_only ..).after ((wb_only ..).after ((wf_only ..).after (.each (.refl ..) fun _ _ h => (wr_only ..).after
    ((wr_only ..).after h rfl) rfl) rfl) rfl) rfl) fun _ _ h => ?_
  split
  · exact .ite ((admitNode_only ..).after h rfl) h
  · exact h

theorem addSets_only (s : State) (r : Nat) : Within 34627587 s (s.addSets r) := .ite (.refl ..) (commitEpoch_only ..)

theorem retryCommit_only (s : State) (r : Nat) : Within 34627587 s (s.retryCommit r) := by
  unfold retryCommit
  split
  · exact (commitEpoch_only ..).after ((setRg_only ..).sub rfl) rfl
  · exact addSets_only ..

theorem swapBanks_only (s : State) (r : Nat) : Within 34627587 s (s.swapBanks r) :=
  (retryCommit_only ..).after ((ringEvent_only ..).after ((wb_only ..).after ((wf_only ..).after ((setRg_only ..).sub rfl) rfl) rfl) rfl)
    rfl

theorem epochSwap_only (s : State) (r : Nat) : Within 34627587 s (s.epochSwap r) := .ite (swapBanks_only ..) (.refl ..)

theorem cmdResult_only (s : State) (r v : Nat) : Within 2 s (s.cmdResult r v) := wf_only ..

theorem countRepair_only (s : State) (r : Nat) : Within 2 s (s.countRepair r) := (wb_only ..).after (wf_only ..) rfl

theorem showDefer_only (s : State) (r : Nat) (deferred carried : List SEnt) : Within 34603011 s (s.showDefer r deferred carried) :=
  .ite_else ((wb_only ..).after (.each (.refl ..) fun _ _ h => .ite_then ((wb_only ..).after h rfl) fun h1 => (cnt_only ..).after h1 rfl)
    rfl) fun h2 => (ringEvent_only ..).after h2 rfl

theorem sendBoth_only (s : State) (r t : Nat) : Within 34627587 s (s.sendBoth r t) :=
  (showDefer_only ..).after ((setRg_only ..).after ((fillAcyc_only ..).sub rfl) rfl) rfl

theorem isolateNow_only (s : State) (r : Nat) (sp : Nat × Nat) : Within 34627587 s (s.isolateNow r sp) :=
  (ringEvent_only ..).after (.each ((wb_only ..).after ((wb_only ..).after ((setRg_only ..).sub rfl) rfl) rfl) fun _ _ h => .ite
    ((ringEvent_only ..).after ((nodeOut_only ..).after h rfl) rfl) h) rfl

theorem isolateSent_only (s : State) (r : Nat) : Within 34627587 s (s.isolateSent r) := by
  unfold isolateSent
  split
  · exact .ite (.refl ..) (isolateNow_only ..)
  · exact .refl ..

theorem afterDepart_only (s : State) (r : Nat) : Within 34627603 s (s.afterDepart r) :=
  .ite_then (.ite_then ((isolateSent_only ..).after ((ageQueues_only ..).after (.ite_then (.ite_else (.ite_then ((wr_only ..).after
    ((setRg_only ..).sub rfl) rfl) fun h1 => (cmdResult_only ..).after h1 rfl) fun h2 => (cnt_only ..).after h2 rfl) fun h3 =>
    (ringEvent_only ..).after ((wb_only ..).after h3 rfl) rfl) rfl) rfl) fun h4 => (setRingState_only ..).after h4 rfl) fun h5 =>
    (ringStop_only ..).after h5 rfl

theorem departAt_only (s : State) (r t : Nat) : Within 34627603 s (s.departAt r t) :=
  (afterDepart_only ..).after ((sendBoth_only ..).after ((countRepair_only ..).after (.ite_then (.ite_else (.ite (.refl ..)
    ((cutOff_only ..).sub rfl)) fun h1 => (rotate_only ..).after h1 rfl) fun h2 => (swapBanks_only ..).after h2 rfl) rfl) rfl) rfl

theorem cqDepart_only (s : State) (r : Nat) : Within 34627603 s (s.cqDepart r) := by
  unfold cqDepart
  refine .ite (.refl ..) ?_
  split
  · exact .ite (.refl ..) (departAt_only ..)
  · exact .refl ..

theorem triggerSourceStop_only (s : State) (r : Nat) : Within 34611203 s (s.triggerSourceStop r) :=
  .ite ((ringEvent_only ..).after ((setRg_only ..).sub rfl) rfl) (.refl ..)

theorem ringBegin_only (s : State) (r : Nat) (mramOk : Bool) : Within 34611219 s (s.ringBegin r mramOk) :=
  .ite (.refl ..) (.ite (.refl ..) ((setRingState_only ..).after (.ite_else ((ringClear_only ..).after ((wr_only ..).after
    ((wr_only ..).after ((setRg_only ..).after (.on_mram (.refl ..) rfl id) rfl) rfl) rfl) rfl) fun h1 => (ringEvent_only ..).after
    ((setAlarm_only ..).after ((wb_only ..).after h1 rfl) rfl) rfl) rfl))

theorem ringStart_only (s : State) (r : Nat) (mramOk : Bool) : Within 34611219 s (s.ringStart r mramOk) :=
  .ite (ringBegin_only ..) (.refl ..)

theorem epochCommit_only (s : State) (r : Nat) (w : Wing) (sched : List (Word × Word)) : Within 34627619 s (s.epochCommit r w sched) :=
  .ite (.refl ..) (.ite ((fenceHits_only ..).sub rfl) (.ite (mirrorOr_in (.refl ..) rfl fun _ h => (commitEpoch_only ..).after h rfl)
    (.refl ..)))

end Sys2Proof.Machine.State
end

section
/-! SUPPORT. What each operation of Machine/CaiqueRx.lean may change (Laws/Within.lean). -/

namespace Sys2Proof.Machine.State

theorem showWrap_only (s : State) (r : Nat) : Within 34611203 s (s.showWrap r) :=
  .ite_else ((wf_only ..).after ((wf_only ..).after ((wb_only ..).sub rfl) rfl) rfl) fun h1 => (ringEvent_only ..).after
    ((setRg_only ..).after h1 rfl) rfl

theorem readLoop_only (s : State) (r : Nat) (tail : Bool) (c : Caravan) : Within 34611203 s (s.readLoop r tail c) :=
  (showWrap_only ..).after ((setRg_only ..).sub rfl) rfl

theorem invalidAt_only (s : State) (r : Nat) (tail : Bool) : Within 34611203 s (s.invalidAt r tail) :=
  (showWrap_only ..).after ((cnt_only ..).after ((setRg_only ..).sub rfl) rfl) rfl

theorem caravanMissing_only (s : State) (r : Nat) (tail : Bool) : Within 34611203 s (s.caravanMissing r tail) := by
  unfold caravanMissing
  refine .ite (.refl ..) ?_
  split
  · exact .ite ((invalidAt_only ..).after ((onLane_only ..).sub rfl) rfl) (.refl ..)
  · exact .refl ..

theorem laneSignalLoss_only (s : State) (r : Nat) (tail : Bool) : Within 34611203 s (s.laneSignalLoss r tail) :=
  .ite ((showWrap_only ..).after ((onLane_only ..).sub rfl) rfl) (.refl ..)

theorem laneSignalReturn_only (s : State) (r : Nat) (tail : Bool) : Within 8192 s (s.laneSignalReturn r tail) :=
  .ite (onLane_only ..) (.refl ..)

theorem acycParse_only (k : Nat) : ∀ (s : State) (node : Nat) (l : List Half), Within 16385 s (acycParse k s node l) := by
  induction k with
  | zero => exact fun s _ _ => .refl _ s
  | succ k ih =>
    intro s node l
    unfold acycParse
    split
    · exact .refl ..
    · refine .ite ((ih ..).after ((ack_only ..).sub rfl) rfl) (.ite ?_ (.refl ..))
      split
      · exact .ite (.refl ..) ((ih ..).after ((rdata_only ..).sub rfl) rfl)
      · exact .refl ..

theorem takeSlot_only (s : State) (r : Nat) (e : SEnt) (l : List Half) : Within 24577 s (s.takeSlot r e l) :=
  .ite ((acycParse_only ..).after ((setRg_only ..).sub rfl) rfl) (.ite_then ((setRg_only ..).sub rfl) fun h1 => .eachIn h1 fun _ _ h =>
    (imageWrite_only ..).after h rfl)

theorem readSlot_only (s : State) (r : Nat) (cycle : BitVec 48) (e : Option SEnt) (x : Slot) : Within 24579 s (s.readSlot r cycle e x) := by
  unfold readSlot
  refine .ite (.ite (.refl ..) ((cnt_only ..).sub rfl)) ?_
  split
  · exact .ite ((takeSlot_only ..).sub rfl) (.refl ..)
  · exact .refl ..

theorem takeSlots_only (r : Nat) (cycle : BitVec 48) (l : List Slot) :
    ∀ (s : State) (ents : List SEnt), Within 24579 s (takeSlots r cycle s ents l) := by
  induction l with
  | nil => exact fun s _ => .refl _ s
  | cons x l ih => exact fun s _ => (ih ..).after (readSlot_only ..) rfl

theorem readJoins_only (s : State) (r : Nat) (c : Caravan) (tagBad : Bool) : Within 8192 s (s.readJoins r c tagBad) :=
  .eachIn (.refl ..) fun _ _ h => .ite h ((setRg_only ..).after h rfl)

theorem refuseJoin_only (s : State) (r : Nat) (eui : BitVec 64) (reason : Nat) : Within 34627587 s (s.refuseJoin r eui reason) := by
  unfold refuseJoin
  dsimp only
  refine (ringEvent_only ..).after ?_ rfl
  refine (cnt_only ..).after ?_ rfl
  split
  · exact (wf_only ..).after ((nodeOut_only ..).after ((cmdRec_only ..).sub rfl) rfl) rfl
  · exact (cmdRec_only ..).sub rfl

theorem joinAnswer_only (s : State) (r : Nat) : Within 34627587 s (s.joinAnswer r) := by
  unfold joinAnswer
  dsimp only
  split
  · exact .refl ..
  · refine .ite (.refl ..) ?_
    refine .ite ((refuseJoin_only ..).after ((setRg_only ..).sub rfl) rfl) ?_
    split
    · exact (refuseJoin_only ..).after ((setRg_only ..).sub rfl) rfl
    · exact .ite ((refuseJoin_only ..).after ((setRg_only ..).sub rfl) rfl) (.ite ((admitNode_only ..).after ((setRg_only ..).sub rfl)
        rfl) (.ite ((refuseJoin_only ..).after ((setRg_only ..).sub rfl) rfl) ((addSets_only ..).after ((nodeOut_only ..).after
        ((setRg_only ..).after ((setRg_only ..).sub rfl) rfl) rfl) rfl)))

theorem setOnce_in {m : Nat} {b s : State} {a k : Nat} {ev : State → State} (hs : Sub 2 m) (h : Within m b s)
    (hev : ∀ t, Within m b t → Within m b (ev t)) : Within m b (s.setOnce a k ev) :=
  .ite h (hev _ ((wb_only ..).after h hs))

theorem readMark_only (s : State) (r : Nat) (tail : Bool) (p : Nat) (m : HopMark) : Within 34619395 s (s.readMark r tail p m) :=
  .ite (.refl ..) (.ite_then (.ite_then (.ite_then ((wb_only ..).after ((wf_only ..).sub rfl) rfl) fun h1 => setOnce_in rfl
    ((wb_only ..).after h1 rfl) fun _ h => (ringEvent_only ..).after h rfl) fun h2 => setOnce_in rfl h2 fun _ h =>
    (ringEvent_only ..).after h rfl) fun h3 => (ringEvent_only ..).after ((nodeOut_only ..).after h3 rfl) rfl)

theorem leadCheck_only (s : State) (r : Nat) (c : Caravan) : Within 34603011 s (s.leadCheck r c) :=
  .ite (.refl ..) (setOnce_in rfl (.refl ..) fun _ h => (ringEvent_only ..).after h rfl)

theorem isolate_only (s : State) (r : Nat) (sp : Nat × Nat) : Within 8192 s (s.isolate r sp) :=
  .ite (.refl ..) ((setRg_only ..).after (.ite_else (.ite (.refl ..) (cmdFirst_only ..)) fun h1 => (cmdFirst_only ..).after h1 rfl) rfl)

theorem guardRun_only (s : State) (r : Nat) (tail : Bool) (c : Caravan) : Within 8194 s (s.guardRun r tail c) := by
  unfold guardRun
  dsimp only
  split
  · refine .ite (.refl ..) ?_
    refine .ite ((onLane_only ..).sub rfl) ?_
    split
    · exact (cnt_only ..).after ((onLane_only ..).sub rfl) rfl
    · split
      · exact .ite ((isolate_only ..).after ((onLane_only ..).sub rfl) rfl) ((cnt_only ..).after ((onLane_only ..).sub rfl) rfl)
      · exact (onLane_only ..).sub rfl
  · exact .refl ..

theorem readCaravan_only (s : State) (r : Nat) (tail : Bool) (c : Caravan) : Within 34627587 s (s.readCaravan r tail c) :=
  (leadCheck_only ..).after ((readJoins_only ..).after ((takeSlots_only ..).after (.each ((readLoop_only ..).after ((onLane_only ..).after
    ((guardRun_only ..).after ((setRg_only ..).sub rfl) rfl) rfl) rfl) fun _ _ h => (readMark_only ..).after h rfl) rfl) rfl) rfl

theorem validAt_only (s : State) (r : Nat) (tail : Bool) (c : Caravan) : Within 34627587 s (s.validAt r tail c) :=
  .ite ((onLane_only ..).after ((onLane_only ..).sub rfl) rfl) ((readCaravan_only ..).after ((onLane_only ..).sub rfl) rfl)

theorem caravanReceive_only (s : State) (r : Nat) (tail : Bool) (c : Caravan) : Within 34627587 s (s.caravanReceive r tail c) :=
  .ite (.refl ..) (.ite ((validAt_only ..).after ((onLane_only ..).sub rfl) rfl) (.ite (.ite_else ((invalidAt_only ..).after
    ((onLane_only ..).sub rfl) rfl) fun h1 => (readLoop_only ..).after h1 rfl) (.ite_then ((invalidAt_only ..).after ((onLane_only ..).sub
    rfl) rfl) fun h2 => (readJoins_only ..).after h2 rfl)))

theorem nodeLost_only (s : State) (r n : Nat) : Within 34619395 s (s.nodeLost r n) :=
  .ite ((ringEvent_only ..).after (nodeOut_only ..) rfl) (.refl ..)

theorem applyInstant_only (s : State) (r : Nat) : Within 34627587 s (s.applyInstant r) :=
  .eachIn ((setRg_only ..).sub rfl) fun _ _ h => (nodeTo_only ..).after ((retireNode_only ..).after h rfl) rfl

theorem echoReqSend_only (s : State) (r : Nat) (tail : Bool) : Within 8192 s (s.echoReqSend r tail) := .ite (setRg_only ..) (.refl ..)

theorem echoReqReceive_only (s : State) (r : Nat) (tail : Bool) (x : LineSet) (turn : BitVec 24) :
    Within 8192 s (s.echoReqReceive r tail x turn) := by
  unfold echoReqReceive
  split
  · exact .ite (onLane_only ..) (.refl ..)
  · exact .refl ..

theorem echoRspReceive_only (s : State) (r : Nat) (tail : Bool) (x : LineSet) (ns : Nat) (sub : Fin 16) :
    Within 8192 s (s.echoRspReceive r tail x ns sub) := by
  unfold echoRspReceive
  dsimp only
  split
  · exact .ite (onLane_only ..) (.refl ..)
  · exact .refl ..

theorem echoTimeout_only (s : State) (r : Nat) (tail : Bool) : Within 8192 s (s.echoTimeout r tail) := by
  unfold echoTimeout
  split
  · exact .ite (.refl ..) (onLane_only ..)
  · exact .refl ..

theorem ringCmd_in {m : Nat} {b s : State} {fn r op deny : Nat} {go : State → State} (hs : Sub 8194 m) (h : Within m b s)
    (hgo : ∀ t, Within m b t → Within m b (go t)) : Within m b (s.ringCmd fn r op deny go) := by
  have refused (k : Nat) : Within m b (s.cmdResult r k) := (cmdResult_only ..).after h (.trans (by decide) hs)
  exact .ite h (.ite (refused _) (.ite (refused _) (.ite (refused _) (.ite (refused _)
    (hgo _ ((setRg_only ..).after h (.trans (by decide) hs)))))))

theorem unwrapRecs_only (s : State) (r : Nat) (u d : Option Nat) : Within 8192 s (s.unwrapRecs r u d) := by
  unfold unwrapRecs
  dsimp only
  split
  · refine (cmdRec_only ..).after ?_ rfl
    split
    · exact cmdRec_only ..
    · exact .refl ..
  · split
    · exact cmdRec_only ..
    · exact .refl ..

theorem unwrap_only (s : State) (fn r : Nat) : Within 8194 s (s.unwrap fn r) :=
  ringCmd_in rfl (.refl ..) fun _ h => (unwrapRecs_only ..).after h rfl

theorem restore_only (s : State) (fn r : Nat) : Within 34611203 s (s.restore fn r) := by
  unfold restore
  dsimp only
  refine ringCmd_in rfl (.refl ..) fun _ h => ?_
  split
  · exact (ringEvent_only ..).after ((wb_only ..).after (.each ((unwrapRecs_only ..).after ((setRg_only ..).after h rfl) rfl) fun _ _ h =>
      .ite ((ringEvent_only ..).after ((nodeTo_only ..).after h rfl) rfl) h) rfl) rfl
  · exact h

theorem sleep_only (s : State) (fn r : Nat) : Within 8194 s (s.sleep fn r) :=
  ringCmd_in rfl (.refl ..) fun _ h => (cmdRec_only ..).after h rfl

theorem wake_only (s : State) (fn r : Nat) : Within 8195 s (s.wake fn r) :=
  (used_only ..).after (ringCmd_in rfl (.refl ..) fun _ h => (setRg_only ..).after h rfl) rfl

theorem nodeReset_only (s : State) (fn r node : Nat) : Within 8194 s (s.nodeReset fn r node) :=
  ringCmd_in rfl (.refl ..) fun _ h => (setRg_only ..).after ((cmdRec_only ..).after h rfl) rfl

theorem clearFalseWake_only (s : State) (fn r node : Nat) : Within 8194 s (s.clearFalseWake fn r node) :=
  ringCmd_in rfl (.refl ..) fun _ h => (cmdRec_only ..).after h rfl

theorem cycleRead_only (s : State) (fn r lane size : Nat) : Within 10 s (s.cycleRead fn r lane size) :=
  ownerRead_in (.refl ..) rfl fun _ h => (wr_only ..).after h rfl

end Sys2Proof.Machine.State
end

section
/-! SUPPORT. What each operation of Machine/Msec.lean may change (Laws/Within.lean). -/

namespace Sys2Proof.Machine.State

theorem msecRx_only (s : State) (u : Nat) (m : MacSec) : Within 34603011 s (s.msecRx u m).2 := by
  unfold msecRx
  dsimp only
  split
  · exact (wr_only ..).after ((wr_only ..).sub rfl) rfl
  · exact (raiseAt_only ..).after ((cnt_only ..).sub rfl) rfl

theorem exhDrop_only (s : State) (u a : Nat) : Within 36700163 s (s.exhDrop u a) :=
  .ite_else ((cnt_only ..).sub rfl) fun h1 => (raiseAt_only ..).after (.on_sec h1 rfl (fun _ _ h => h)) rfl

theorem spendPn_only (s : State) (u a : Nat) : Within 36700163 s (s.spendPn u a) :=
  .ite_then (.ite_then ((wr_only ..).after ((wr_only ..).sub rfl) rfl) fun h1 => .on_sec h1 rfl (fun _ _ h => h)) fun h2 =>
    (raiseAt_only ..).after (.on_sec h2 rfl (fun _ _ h => h)) rfl

theorem msecTx_only (s : State) (p : Nat) : Within 36700163 s (s.msecTx p).2 := by
  unfold msecTx
  dsimp only
  split
  · exact .refl ..
  · split
    · exact .refl ..
    · split
      · exact exhDrop_only ..
      · split
        · exact .refl ..
        · exact spendPn_only ..

end Sys2Proof.Machine.State
end

section
/-! SUPPORT. What each operation of Machine/Switch.lean may change (Laws/Within.lean). -/

namespace Sys2Proof.Machine.State

theorem macCnt_only (s : State) (p j k : Nat) : Within 34603011 s (s.macCnt p j k) :=
  .ite_then ((wr_only ..).after ((wr_only ..).sub rfl) rfl) fun h1 => (raiseAt_only ..).after ((wb_only ..).after h1 rfl) rfl

theorem portCnt_only (s : State) (p j : Nat) : Within 34603011 s (s.portCnt p j) := .ite (macCnt_only ..) (.refl ..)

theorem countAll_only (s : State) (p len : Nat) : Within 34603011 s (s.countAll p len) :=
  .ite_else ((macCnt_only ..).after (macCnt_only ..) rfl) fun h1 => (macCnt_only ..).after h1 rfl

theorem rxErr_only (s : State) (p : Nat) : Within 34603011 s (s.rxErr p) :=
  setOnce_in rfl (.refl ..) fun _ h => (raiseAt_only ..).after h rfl

theorem countOk_only (s : State) (p : Nat) (f : Frame) : Within 34603011 s (s.countOk p f) :=
  .ite ((macCnt_only ..).after ((macCnt_only ..).after (macCnt_only ..) rfl) rfl) (.ite ((macCnt_only ..).after ((macCnt_only ..).after
    (macCnt_only ..) rfl) rfl) ((macCnt_only ..).after (macCnt_only ..) rfl))

theorem setPaused_only (s : State) (p : Nat) (v : Bool) : Within 34603011 s (s.setPaused p v) :=
  .ite (.refl ..) ((raiseAt_only ..).after ((wb_only ..).sub rfl) rfl)

theorem takePause_only (s : State) (p : Nat) (quanta : Half) : Within 34635779 s (s.takePause p quanta) :=
  .ite ((macCnt_only ..).sub rfl) (.ite ((setPaused_only ..).after (.on_sw ((macCnt_only ..).sub rfl) rfl) rfl) ((setPaused_only ..).after
    (.on_sw ((macCnt_only ..).sub rfl) rfl) rfl))

theorem pauseReceive_only (s : State) (p : Nat) (quanta : Half) : Within 34635779 s (s.pauseReceive p quanta) :=
  .ite (.refl ..) ((takePause_only ..).after ((countAll_only ..).sub rfl) rfl)

theorem showPfc_only (s : State) (p : Nat) : Within 2 s (s.showPfc p) := wf_only ..

theorem takePfc_only (s : State) (p : Nat) (vec : Octet) (quanta : List Half) : Within 34635779 s (s.takePfc p vec quanta) :=
  .ite ((macCnt_only ..).sub rfl) ((showPfc_only ..).after (.each ((macCnt_only ..).sub rfl) fun _ _ h => .ite h (.ite (setOnce_in rfl h
    fun _ h => (raiseAt_only ..).after h rfl) (.ite (.on_sw h rfl) (.on_sw h rfl)))) rfl)

theorem pfcReceive_only (s : State) (p : Nat) (vec : Octet) (quanta : List Half) : Within 34635779 s (s.pfcReceive p vec quanta) :=
  .ite (.refl ..) ((takePfc_only ..).after ((countAll_only ..).sub rfl) rfl)

theorem macControl_only (s : State) (p : Nat) (f : Frame) : Within 34635779 s (s.macControl p f) :=
  .ite (takePause_only ..) (.ite (takePfc_only ..) (.refl ..))

theorem pairCnt_only (s : State) (k i : Nat) : Within 2 s (s.pairCnt k i) := cnt_only ..

theorem dupNote_only (s : State) (k d : Nat) (b : Bool) (src : BitVec 48) (seq : Half) : Within 32770 s (s.dupNote k d b src seq) :=
  .ite ((pairCnt_only ..).after (.on_sw (.refl ..) rfl) rfl) (.on_sw (.refl ..) rfl)

theorem entryForget_only (s : State) (k dir : Nat) : Within 32770 s (s.entryForget k dir) := by
  unfold entryForget
  dsimp only
  split
  · exact .ite (.refl ..) (.ite_else (.on_sw (.refl ..) rfl) fun h1 => (pairCnt_only ..).after h1 rfl)
  · exact .refl ..

theorem nodeFull_only (s : State) (k : Nat) : Within 34603011 s (s.nodeFull k) := (raiseIf_only ..).after ((pairCnt_only ..).sub rfl) rfl

theorem noteSource_only (s : State) (k : Nat) (a : BitVec 48) : Within 34635779 s (s.noteSource k a) := by
  unfold noteSource
  split
  · exact .on_sw (.refl ..) rfl
  · exact (nodeFull_only ..).sub rfl

theorem nodeForget_only (s : State) (k : Nat) (mac : BitVec 48) : Within 32768 s (s.nodeForget k mac) := .on_sw (.refl ..) rfl

theorem learnAsk_only (s : State) (vid : Nat) (a : BitVec 48) (port : Nat) : Within 32770 s (s.learnAsk vid a port) := by
  unfold learnAsk
  dsimp only
  refine .ite (.refl ..) ?_
  refine .ite ((cnt_only ..).sub rfl) ?_
  split <;> exact .on_sw (.refl ..) rfl

theorem fdbPut_only (s : State) (key : Nat) (e : Fdb) : Within 32768 s (s.fdbPut key e) := .on_sw (.refl ..) rfl

theorem fdbMove_only (s : State) (key : Nat) (e : Fdb) (port : Nat) (pr : Bool) : Within 34635779 s (s.fdbMove key e port pr) :=
  .ite ((cnt_only ..).after ((fdbPut_only ..).sub rfl) rfl) ((raise_only ..).after ((fdbPut_only ..).sub rfl) rfl)

theorem learnRequest_only (s : State) : Within 34635779 s (s.learnRequest) := by
  unfold learnRequest
  dsimp only
  split
  · exact .refl ..
  · split
    · exact .ite_else (.on_sw (.refl ..) rfl) fun h1 => (cnt_only ..).after h1 rfl
    · split
      · exact .ite ((cnt_only ..).after (.on_sw (.refl ..) rfl) rfl) (.ite ((fdbPut_only ..).after (.on_sw (.refl ..) rfl) rfl)
          ((fdbMove_only ..).after (.on_sw (.refl ..) rfl) rfl))
      · exact .ite ((raiseIf_only ..).after ((cnt_only ..).after (.on_sw (.refl ..) rfl) rfl) rfl) ((fdbPut_only ..).after (.on_sw
          (.refl ..) rfl) rfl)

theorem moveLockEnd_only (s : State) (vid : Nat) (mac : BitVec 48) : Within 32768 s (s.moveLockEnd vid mac) := by
  unfold moveLockEnd
  split
  · split
    · exact .ite (.refl ..) (fdbPut_only ..)
    · exact .refl ..
  · exact .refl ..

theorem macAgeOut_only (s : State) (vid : Nat) (mac : BitVec 48) : Within 32768 s (s.macAgeOut vid mac) := by
  unfold macAgeOut
  split
  · exact .ite (.refl ..) (.on_sw (.refl ..) rfl)
  · exact .refl ..

theorem fdbLookup_only (s : State) (fn : Nat) (val : Word) : Within 2 s (s.fdbLookup fn val) :=
  .ite ((wr_only ..).after (wr_only ..) rfl) (.refl ..)

theorem refuseAt_only (s : State) (d q src : Nat) : Within 34603011 s (s.refuseAt d q src) :=
  .ite (.refl ..) (.ite (macCnt_only ..) (.ite ((cnt_only ..).sub rfl) ((raiseIf_only ..).after ((portCnt_only ..).after
    ((cnt_only ..).sub rfl) rfl) rfl)))

theorem admitAll_only (s : State) (src pcp n : Nat) (buf : Option (Nat × Half × Bool)) (ds : List Dest) :
    Within 34635779 s (s.admitAll src pcp n buf ds) :=
  (wf_only ..).after (.eachIn (.on_sw (.eachIn (.refl ..) fun _ _ h => (refuseAt_only ..).after h rfl) rfl) fun _ _ h => .on_sw h rfl) rfl

theorem takeToken_some {s t : State} {p i : Nat} (h : s.takeToken p i = some t) : Within 32768 s t := by
  unfold takeToken at h
  dsimp only at h
  split at h
  · cases h; exact .refl ..
  · split at h
    · cases h; exact .on_sw (.refl ..) rfl
    · cases h

theorem policeDrop_only (s : State) (p i : Nat) : Within 34603011 s (s.policeDrop p i) :=
  (raiseIf_only ..).after ((portCnt_only ..).after ((cnt_only ..).sub rfl) rfl) rfl

theorem copies_only (q : Nat) (mk : Nat → Frame) (l : List Nat) :
    ∀ (s : State) (seqs : List (Nat × Half)), Within 2 s (copies q mk s seqs l).2 := by
  induction l with
  | nil => exact fun s _ => .refl _ s
  | cons d l ih =>
    intro s seqs
    unfold copies
    split
    · dsimp only
      split
      · exact ih ..
      · split
        · exact ih ..
        · exact (ih ..).after (nextSeq_only ..) rfl
    · exact ih ..

theorem sendQ_only (s : State) (q p vid : Nat) (f : Frame) (buf : Option (Nat × Half × Bool)) (ports : List Nat) :
    Within 34635779 s (s.sendQ q p vid f buf ports) :=
  (admitAll_only ..).after ((copies_only ..).sub rfl) rfl

theorem sendTo_only (s : State) (p vid : Nat) (f : Frame) (buf : Option (Nat × Half × Bool)) (ports : List Nat) :
    Within 34635779 s (s.sendTo p vid f buf ports) :=
  sendQ_only ..

theorem ringSend_only (s : State) (p vid : Nat) (f : Frame) (ports : List Nat) : Within 34635779 s (s.ringSend p vid f ports) :=
  sendQ_only ..

theorem noteProxy_only (s : State) (p : Nat) (f : Frame) : Within 34635779 s (s.noteProxy p f).1 := by
  unfold noteProxy
  refine List.foldlRecOn (motive := fun (a : State × List Nat) => Within 34635779 s a.1) _ _ (.refl ..) fun a ha k _ => ?_
  dsimp only
  split
  · split
    · exact .on_sw ha rfl
    · exact (nodeFull_only ..).after ha rfl
  · exact ha

theorem forward_only (s : State) (p vid : Nat) (f : Frame) (buf : Option (Nat × Half × Bool)) (keep : Nat → Bool) :
    Within 34635779 s (s.forward p vid f buf keep) := by
  unfold forward
  dsimp only
  (repeat' split) <;> exact (sendTo_only ..).after (noteProxy_only ..) rfl

theorem prpReceive_only (s : State) (p k : Nat) (b : Bool) (vid : Nat) (f : Frame) : Within 34635779 s (s.prpReceive p k b vid f) := by
  unfold prpReceive
  dsimp only
  split
  · exact .ite_else ((noteSource_only ..).after ((dupNote_only ..).after (.ite ((raiseIf_only ..).after ((pairCnt_only ..).sub rfl) rfl)
      (.refl ..)) rfl) rfl) fun h1 => (forward_only ..).after h1 rfl
  · exact (forward_only ..).after (noteSource_only ..) rfl

theorem dupSent_only (s : State) (k d : Nat) (b : Bool) (src : BitVec 48) (seq : Half) : Within 32770 s (s.dupSent k d b src seq) :=
  .ite (.refl ..) (dupNote_only ..)

theorem quadPass_only (s : State) (p vid k : Nat) (src : BitVec 48) (seq : Half) (f : Frame) :
    Within 34635779 s (s.quadPass p vid k src seq f) :=
  (ringSend_only ..).after (.eachIn (.refl ..) fun _ _ h => (dupSent_only ..).after h rfl) rfl

theorem hsrReceive_only (s : State) (p k : Nat) (b : Bool) (vid : Nat) (f : Frame) : Within 34635779 s (s.hsrReceive p k b vid f) := by
  unfold hsrReceive
  dsimp only
  split
  · exact .ite_else (.ite_else ((noteSource_only ..).after ((dupNote_only ..).sub rfl) rfl) fun h1 => (ringSend_only ..).after h1 rfl) fun
      h2 => .ite ((quadPass_only ..).after h2 rfl) ((forward_only ..).after h2 rfl)
  · exact .refl ..

theorem police_in {m : Nat} {b s : State} {p c : Nat} {go : State → State} (hs : Sub 34635779 m) (h : Within m b s)
    (hgo : ∀ t, Within m b t → Within m b (go t)) : Within m b (s.police p c go) := by
  unfold police
  split
  · split
    · next e => exact hgo _ ((takeToken_some e).after h (.trans (by decide) hs))
    · exact (policeDrop_only ..).after h (.trans (by decide) hs)
  · exact hgo s h

theorem ingress_only (s : State) (p : Nat) (f : Frame) (buf : Option (Nat × Half × Bool)) : Within 34635779 s (s.ingress p f buf) := by
  unfold ingress
  dsimp only
  refine .ite (.refl ..) ?_
  refine .ite ((portCnt_only ..).sub rfl) ?_
  refine police_in rfl ((learnAsk_only ..).sub rfl) fun _ h => ?_
  split
  · exact .ite ((prpReceive_only ..).after h rfl) ((hsrReceive_only ..).after h rfl)
  · exact (forward_only ..).after h rfl

theorem toSwitch_only (s : State) (p : Nat) (f : Frame) : Within 36819139 s (s.toSwitch p f) :=
  .ite ((ingress_only ..).after (svCopy_only ..) rfl) (.refl ..)

theorem fromMac_only (s : State) (p : Nat) (f : Frame) : Within 36819139 s (s.fromMac p f) := by
  unfold fromMac
  split
  · split
    · exact (toSwitch_only ..).after ((Within.of_pair (by assumption) (msecRx_only ..)).sub rfl) rfl
    · exact (Within.of_pair (by assumption) (msecRx_only ..)).sub rfl
  · exact toSwitch_only ..

theorem frameReceive_only (s : State) (p : Nat) (x : Arrival) : Within 36819139 s (s.frameReceive p x) := by
  unfold frameReceive
  dsimp only
  refine .ite ((ingress_only ..).sub rfl) ?_
  refine .ite (.refl ..) ?_
  split
  · exact .ite_then (.ite_then ((macCnt_only ..).after ((countAll_only ..).sub rfl) rfl) fun h1 => (macCnt_only ..).after h1 rfl) fun h2
      => (rxErr_only ..).after h2 rfl
  · exact .ite ((macControl_only ..).after ((countAll_only ..).sub rfl) rfl) ((fromMac_only ..).after ((countOk_only ..).after
      ((countAll_only ..).sub rfl) rfl) rfl)

end Sys2Proof.Machine.State
end

section
/-! SUPPORT. What each operation of Machine/SwitchTx.lean may change (Laws/Within.lean). -/

namespace Sys2Proof.Machine.State

theorem linkChange_only (s : State) (p : Nat) (up : Bool) : Within 34603011 s (s.linkChange p up) :=
  .ite (.refl ..) ((raiseIf_only ..).after ((raiseAt_only ..).after ((wb_only ..).after ((wb_only ..).sub rfl) rfl) rfl) rfl)

theorem bufBack_only (s : State) (f : QFrame) : Within 65536 s (s.bufBack f) := by
  unfold bufBack
  split
  · refine .ite (.refl ..) (setEn_wf s _ _ fun c d => ?_)
    split <;> exact ⟨c, d⟩
  · exact .refl ..

theorem flushPort_only (s : State) (p : Nat) : Within 34705411 s (s.flushPort p) :=
  .ite_then (.eachIn (.on_trip_sw (.refl ..) rfl rfl) fun _ _ h => (bufBack_only ..).after h rfl) fun h1 => (macCnt_only ..).after h1 rfl

theorem linkDown_only (s : State) (p : Nat) : Within 34705411 s (s.linkDown p) :=
  .ite ((flushPort_only ..).after ((linkChange_only ..).sub rfl) rfl) (.refl ..)

theorem linkUp_only (s : State) (p : Nat) (speed : BitVec 2) (anDone : Bool) : Within 34603011 s (s.linkUp p speed anDone) :=
  .ite ((wb_only ..).after ((wf_only ..).after (linkChange_only ..) rfl) rfl) (.refl ..)

theorem pauseExpiry_only (s : State) (p : Nat) (cls : Option Nat) : Within 34635779 s (s.pauseExpiry p cls) := by
  unfold pauseExpiry
  split
  · split
    · exact .ite (.refl ..) ((setPaused_only ..).after (.on_sw (.refl ..) rfl) rfl)
    · exact .refl ..
  · split
    · exact .ite (.refl ..) ((showPfc_only ..).after (.on_sw (.refl ..) rfl) rfl)
    · exact .refl ..

theorem pauseSend_only (s : State) (p pcp : Nat) : Within 34635779 s (s.pauseSend p pcp) := by
  unfold pauseSend
  dsimp only
  refine .ite (.refl ..) ?_
  split
  · refine .ite ?_ (.refl ..)
    refine (macCnt_only ..).after ?_ rfl
    split <;> exact .on_sw (.refl ..) rfl
  · refine .ite ?_ ?_
    · refine (macCnt_only ..).after ?_ rfl
      split <;> exact .on_sw (.refl ..) rfl
    · refine .ite ?_ (.refl ..)
      refine (macCnt_only ..).after ?_ rfl
      split <;> exact .on_sw (.refl ..) rfl

theorem transfer_only (s : State) (i o q : Nat) : Within 36864 s (s.transfer i o q) := by
  unfold transfer
  dsimp only
  split
  · split
    · split <;> exact .on_trip_sw (.refl ..) rfl rfl
    · exact .refl ..
  · split
    · split <;> exact .on_sw (.on_sw (.refl ..) rfl) rfl
    · exact .refl ..

theorem crossbarMatch_only (s : State) : Within 36864 s (s.crossbarMatch) :=
  .eachIn (.on_sw (.refl ..) rfl) fun _ _ h => (transfer_only ..).after h rfl

theorem countTx_only (s : State) (p : Nat) (f : Frame) : Within 34603011 s (s.countTx p f) :=
  .ite ((macCnt_only ..).after ((macCnt_only ..).after (macCnt_only ..) rfl) rfl) (.ite ((macCnt_only ..).after ((macCnt_only ..).after
    (macCnt_only ..) rfl) rfl) ((macCnt_only ..).after (macCnt_only ..) rfl))

theorem toEngine_only (s : State) (n : Nat) (x : QFrame) (base : Half) : Within 65536 s (s.toEngine n x base) :=
  setEn_wf s n _ fun c d => ⟨c, putHalves_wf _ _ _ d⟩

theorem eccDrop_only (s : State) (p : Nat) : Within 34603027 s (s.eccDrop p) :=
  (safeLast_only ..).after ((raise_only ..).after ((setAlarm_only ..).after ((raise_only ..).after ((portCnt_only ..).sub rfl) rfl) rfl)
    rfl) rfl

theorem frameTransmit_only (s : State) (p : Nat) (ecc begun : Bool) (phase : Nat) :
    Within 36798547 s (s.frameTransmit p ecc begun phase) := by
  unfold frameTransmit
  dsimp only
  split
  · exact .refl ..
  · refine .ite (.refl ..) ?_
    refine .ite ((eccDrop_only ..).after ((bufBack_only ..).after (.on_sw (.refl ..) rfl) rfl) rfl) ?_
    refine .ite ((eccDrop_only ..).after ((bufBack_only ..).after (.on_sw (.refl ..) rfl) rfl) rfl) ?_
    refine .ite ((bufBack_only ..).after (.on_sw (.refl ..) rfl) rfl) ?_
    refine .ite ?_ ?_
    · split
      · exact (bufBack_only ..).after ((toEngine_only ..).after (.on_sw (.refl ..) rfl) rfl) rfl
      · exact .refl ..
    · refine .ite ((macCnt_only ..).after ((bufBack_only ..).after (.on_sw (.refl ..) rfl) rfl) rfl) ?_
      split
      · exact (bufBack_only ..).after ((Within.of_pair (by assumption) (msecTx_only ..)).after (.on_sw (.refl ..) rfl) rfl) rfl
      · split
        · exact (tsqPush_only ..).after ((countTx_only ..).after ((bufBack_only ..).after (.on_sw ((Within.of_pair (by assumption)
            (msecTx_only ..)).after (.on_sw (.refl ..) rfl) rfl) rfl) rfl) rfl) rfl
        · exact (countTx_only ..).after ((bufBack_only ..).after (.on_sw ((Within.of_pair (by assumption) (msecTx_only ..)).after (.on_sw
            (.refl ..) rfl) rfl) rfl) rfl) rfl

theorem ptpUnsupported_only (s : State) (p : Nat) (delayMsg : Bool) (x : Arrival) : Within 36819139 s (s.ptpUnsupported p delayMsg x) :=
  .ite (frameReceive_only ..) (.ite ((countOk_only ..).after ((countAll_only ..).after ((raiseIf_only ..).after ((cnt_only ..).sub rfl)
    rfl) rfl) rfl) ((frameReceive_only ..).after ((raiseIf_only ..).after ((cnt_only ..).sub rfl) rfl) rfl))

end Sys2Proof.Machine.State
end

section
/-! SUPPORT. What each operation of Machine/Operands.lean may change (Laws/Within.lean). -/

namespace Sys2Proof.Machine.State

theorem onFp_only (s : State) (n : Nat) (f : Fp → Fp) : Within 65536 s (s.onFp n f) := setEn_only s n _ rfl rfl

theorem onSp_only (s : State) (n : Nat) (f : Sp → Sp) : Within 65536 s (s.onSp n f) := setEn_only s n _ rfl rfl

theorem setPe_only (s : State) (n v : Nat) : Within 34603011 s (s.setPe n v) :=
  .ite (.refl ..) ((raiseAt_only ..).after ((wf_only ..).sub rfl) rfl)

theorem peEvent_only (s : State) (n i : Nat) : Within 34603011 s (s.peEvent n i) := raiseAt_only ..

theorem persCause_only (s : State) (n : Nat) (arg cause : Half) : Within 34603011 s (s.persCause n arg cause) :=
  (peEvent_only ..).after ((wr_only ..).sub rfl) rfl

theorem localPut_only (s : State) (n a : Nat) (v : Half) : Within 65536 s (s.localPut n a v) :=
  setEn_wf s n _ fun c d => ⟨c, Memory.wf_store _ a v d⟩

theorem localWrite_ok {s t : State} {n : Nat} {p : Proc} {a v : Half} (h : s.localWrite n p a v = .ok t) : Within 65536 s t := by
  unfold localWrite at h
  split at h
  · cases h; exact localPut_only ..
  · cases h

theorem killResv_only (s : State) (sp : Space) (a : Nat) : Within 65536 s (s.killResv sp a) := by
  refine .on_eng (.refl ..) rfl fun h => ?_
  rw [List.all_map]
  refine List.all_eq_true.mpr fun p hp => ?_
  have hw := List.all_eq_true.mp h p hp
  dsimp only [Function.comp]
  split
  · split <;> exact hw
  · exact hw

theorem farImageRead_ok {s t : State} {n : Nat} {p : Proc} {a v : Half} (h : s.farImageRead n p a = .ok (v, t)) :
    Within 34603011 s t := by
  have read {r : Half × State} (hr : Within 34603011 s r.2) (e : Except.ok (ε := Nat) r = .ok (v, t)) : Within 34603011 s t := by
    injection e with e; subst e; exact hr
  unfold farImageRead at h
  dsimp only at h
  split at h
  · split at h
    · exact read (cyclicRead_only ..) h
    · exact read (.refl ..) h
  · split at h
    · exact read (imageRead_only ..) h
    · cases h

theorem farImageWrite_ok {s t : State} {n : Nat} {p : Proc} {a v : Half} (h : s.farImageWrite n p a v = .ok t) :
    Within 34684931 s t := by
  unfold farImageWrite at h
  dsimp only at h
  split at h
  · split at h
    · cases h; exact (cyclicWrite_only ..).sub rfl
    · cases h; exact .refl ..
  · split at h
    · cases h; exact (killResv_only ..).after ((imageWrite_only ..).sub rfl) rfl
    · cases h

theorem hostPut_only (s : State) (w : Nat) (v : Half) : Within 1114112 s (s.hostPut w v) :=
  (killResv_only ..).after (.on_host (.refl ..) rfl (putBytes_wf _ _ _)) rfl

theorem farHostWrite_ok {s t : State} {n : Nat} {p : Proc} {a v : Half} (h : s.farHostWrite n p a v = .ok t) : Within 1114112 s t := by
  unfold farHostWrite at h
  dsimp only at h
  split at h
  · cases h; exact hostPut_only ..
  · cases h

theorem setImgBase_only (s : State) (n : Nat) (v : Half) (x3 : Proc) : Within 65536 s (s.setImgBase n v x3) := by
  unfold setImgBase
  split
  · exact onFp_only ..
  · exact onSp_only ..

theorem setHostBase_only (s : State) (n : Nat) (v : Half) (x3 : Proc) : Within 65536 s (s.setHostBase n v x3) := by
  unfold setHostBase
  split
  · exact onFp_only ..
  · exact onSp_only ..

theorem setPersArg_only (s : State) (n : Nat) (v : Half) (x3 : Proc) : Within 65536 s (s.setPersArg n v x3) := by
  unfold setPersArg
  split
  · exact onFp_only ..
  · exact onSp_only ..

theorem ioWrite_ok {s t : State} {n : Nat} {p : Proc} {a v : Half} (h : s.ioWrite n p a v = .ok t) : Within 34668547 s t := by
  unfold ioWrite at h
  split at h <;> cases h
  case h_2 => exact (setImgBase_only ..).sub rfl
  case h_3 => exact (setHostBase_only ..).sub rfl
  case h_4 => exact (setEn_only s n { s.en n with kickAt := s.clk.ns } rfl rfl).sub rfl
  case h_5 => exact (persCause_only ..).sub rfl
  case h_8 => exact (setPersArg_only ..).sub rfl
  all_goals exact .refl ..

/-- A read of any space leaves the state, but for what a read of the cyclic space notes. -/
theorem memRead_ok {s t : State} {n : Nat} {p : Proc} {sp : Space} {a v : Half} (h : s.memRead n p sp a = .ok (v, t)) :
    Within 34603011 s t := by
  unfold memRead at h
  cases sp with
  | loc =>
    cases hr : s.localRead n a with
    | error c => rw [hr] at h; cases h
    | ok w => rw [hr] at h; cases h; exact .refl ..
  | image => exact farImageRead_ok h
  | host =>
    simp only [farHostRead] at h
    split at h
    · cases h; exact .refl ..
    · cases h
  | io =>
    simp only [ioRead] at h
    split at h <;> cases h <;> exact .refl ..

theorem memWrite_ok {s t : State} {n : Nat} {p : Proc} {sp : Space} {a v : Half} (h : s.memWrite n p sp a v = .ok t) :
    Within 34684931 s t := by
  unfold memWrite at h
  cases sp with
  | loc => exact (localWrite_ok h).sub rfl
  | image => exact (farImageWrite_ok h).sub rfl
  | host => exact (farHostWrite_ok h).sub rfl
  | io => exact (ioWrite_ok h).sub rfl

theorem setD_only (s : State) (n d : Nat) (v : Half) : Within 65536 s (s.setD n d v) := onSp_only ..

theorem setA_only (s : State) (n a : Nat) (v : Half) : Within 65536 s (s.setA n a v) := onSp_only ..

theorem setSpReg_only (s : State) (n : Nat) (v : Half) (x3 : SpReg) : Within 65536 s (s.setSpReg n v x3) := by
  unfold setSpReg
  split
  · exact setD_only ..
  · exact setA_only ..

end Sys2Proof.Machine.State
end

section
/-! SUPPORT. What each operation of Machine/Engine.lean may change (Laws/Within.lean). -/

namespace Sys2Proof.Machine.State

theorem setCop_only (s : State) (n : Nat) (p : Proc) (c : CopPort) : Within 65536 s (s.setCop n p c) := by
  unfold setCop
  split
  · exact onFp_only ..
  · exact onSp_only ..

theorem fpEdge_only (s : State) (n e : Nat) : Within 65536 s (s.fpEdge n e) := onFp_only ..

theorem spEdge_only (s : State) (n e : Nat) : Within 65536 s (s.spEdge n e) := onSp_only ..

theorem copEdge_only (s : State) (n : Nat) (x2 : Proc) : Within 65536 s (s.copEdge n x2) := by
  unfold copEdge
  split
  · exact fpEdge_only ..
  · exact spEdge_only ..

theorem localPuts_only (s : State) (n a : Nat) (l : List Half) : Within 65536 s (s.localPuts n a l) :=
  .eachIn (.refl ..) fun _ _ h => (localPut_only ..).after h rfl

theorem copFinish_only (s : State) (n : Nat) (p : Proc) : Within 65536 s (s.copFinish n p) := by
  unfold copFinish
  dsimp only
  split
  · exact .refl ..
  · exact (copEdge_only ..).after ((localPuts_only ..).after (setCop_only ..) rfl) rfl

theorem copSettle_only (s : State) (n : Nat) (p : Proc) : Within 65536 s (s.copSettle n p) := by
  unfold copSettle
  dsimp only
  split
  · exact .refl ..
  · exact .ite (setCop_only ..) (copFinish_only ..)

theorem engineTrapWith_only (s : State) (n : Nat) (w : Word) : Within 34672643 s (s.engineTrapWith n w) :=
  (holdSources_only ..).after ((peEvent_only ..).after ((setPe_only ..).after ((setEn_only _ _ _ (by rfl) (by rfl)).after
    ((wr_only ..).after ((copSettle_only ..).after ((copSettle_only ..).sub rfl) rfl) rfl) rfl) rfl) rfl) rfl

theorem engineTrap_only (s : State) (n : Nat) (p : Proc) (cause : Nat) (pc : Half) : Within 34672643 s (s.engineTrap n p cause pc) :=
  engineTrapWith_only ..

theorem watchdog_only (s : State) (n : Nat) : Within 34672643 s (s.watchdog n) := by
  unfold watchdog
  dsimp only
  split
  · exact .refl ..
  · exact .ite (.refl ..) ((engineTrapWith_only ..).after ((used_only ..).sub rfl) rfl)

theorem setCtx_only (s : State) (n x : Nat) (c : CopCtx) : Within 65536 s (s.setCtx n x c) := (setEn_only _ _ _ (by rfl) (by rfl)).sub rfl

theorem ctxUse_only (s : State) (n x : Nat) : Within 34668547 s (s.ctxUse n x) :=
  .ite (.ite_then ((peEvent_only ..).sub rfl) fun h1 => (raiseAt_only ..).after h1 rfl) (.ite_then ((setCtx_only ..).sub rfl) fun h2 =>
    (raiseAt_only ..).after ((peEvent_only ..).after h2 rfl) rfl)

theorem bindCtx_only (s : State) (n x slot start limit : Nat) : Within 65536 s (s.bindCtx n x slot start limit) := setCtx_only ..

theorem drbgWords_only (s : State) (k : Nat) : Within 2097152 s (s.drbgWords k).2 := by
  unfold drbgWords
  dsimp only
  exact .on_sec (.refl ..) rfl (fun _ _ h => h)

theorem copIssue_only (s : State) (n : Nat) (p : Proc) (op : Nat) (t : Half) : Within 36765699 s (s.copIssue n p op t).2 := by
  unfold copIssue
  dsimp only
  split
  · (repeat' split) <;> exact .refl ..
  · (repeat' split) <;> exact .refl ..
  · split
    · exact .refl ..
    · split
      · exact (peEvent_only ..).sub rfl
      · split <;> exact .refl ..
  · split
    · exact .refl ..
    · split
      · exact (peEvent_only ..).sub rfl
      · split
        · split <;> exact (ctxUse_only ..).sub rfl
        · exact .refl ..
  · split
    · exact .refl ..
    · split
      · exact (peEvent_only ..).sub rfl
      · split
        · split <;> exact (ctxUse_only ..).sub rfl
        · exact .refl ..
  · split
    · exact .refl ..
    · split
      · exact (peEvent_only ..).sub rfl
      · (repeat' split) <;> exact .refl ..
  · split
    · exact (peEvent_only ..).sub rfl
    · split
      · exact .refl ..
      · exact (bindCtx_only ..).sub rfl
  · split
    · exact .refl ..
    · split
      · exact .refl ..
      · exact (drbgWords_only ..).sub rfl
  · exact .refl ..

theorem copGo_only (s : State) (n : Nat) (p : Proc) (op : Nat) (t : Half) : Within 36765699 s (s.copGo n p op t).1 := by
  unfold copGo eff
  dsimp only
  split
  · exact (setCop_only ..).after ((Within.of_pair (by assumption) (copIssue_only ..)).after ((copFinish_only ..).sub rfl) rfl) rfl
  · exact (Within.of_pair (by assumption) (copIssue_only ..)).after ((copFinish_only ..).sub rfl) rfl

theorem setSem_only (s : State) (n i : Nat) (v : Bool) : Within 65536 s (s.setSem n i v) := (setEn_only _ _ _ (by rfl) (by rfl)).sub rfl

theorem peDbankAddrWrite_only (s : State) (fn n : Nat) (val : Word) : Within 2 s (s.peDbankAddrWrite fn n val) :=
  .ite (wf_only ..) (.refl ..)

end Sys2Proof.Machine.State
end

section
/-! SUPPORT. What each operation of Machine/Fp.lean may change (Laws/Within.lean). -/

namespace Sys2Proof.Machine.State

theorem setCursor_only (s : State) (n c : Nat) (x : Cursor) : Within 65536 s (s.setCursor n c x) := onFp_only ..

theorem effRead_in {m : Nat} {b s : State} {x : Except Nat (Half × State)} {f : Half → State → Eff} (h : Within m b s)
    (hf : ∀ v t, x = .ok (v, t) → Within m b (f v t).1) : Within m b (effRead s x f).1 := by
  unfold effRead
  split
  · exact hf _ _ rfl
  · exact h

theorem effOf_in {m : Nat} {b s : State} {x : Except Nat State} (h : Within m b s) (hx : ∀ t, x = .ok t → Within m b t) :
    Within m b (effOf s x).1 := by
  unfold effOf
  split
  · exact hx _ rfl
  · exact h

theorem bind_in {m : Nat} {b : State} {r : Eff} {f : State → Eff} (h : Within m b r.1) (hf : ∀ t, Within m b t → Within m b (f t).1) :
    Within m b (r.bind f).1 := by
  unfold Eff.bind
  split
  · exact hf _ h
  · exact h

theorem curWord_in {m : Nat} {b s : State} {n c : Nat} {f : Half → State → Eff} (hs : Sub 34603011 m) (h : Within m b s)
    (hf : ∀ v t, Within m b t → Within m b (f v t).1) : Within m b (s.curWord n c f).1 := by
  unfold curWord
  dsimp only
  split
  · exact effRead_in h fun v t e => hf v t ((memRead_ok e).after h hs)
  · split
    · exact h
    · refine effRead_in h fun v t e => ?_
      have ht := (memRead_ok e).after h hs
      exact effRead_in ht fun w u e => hf _ u ((memRead_ok e).after ht hs)

theorem curOctet_in {m : Nat} {b s : State} {n c : Nat} {f : Half → State → Eff} (hs : Sub 34603011 m) (h : Within m b s)
    (hf : ∀ v t, Within m b t → Within m b (f v t).1) : Within m b (s.curOctet n c f).1 := by
  unfold curOctet
  dsimp only
  split
  · exact h
  · exact effRead_in h fun v t e => hf _ t ((memRead_ok e).after h hs)

theorem octetWrite_only (s : State) (n : Nat) (x : Cursor) (pos : Half) (o : Octet) : Within 34684931 s (s.octetWrite n x pos o).1 := by
  unfold octetWrite
  dsimp only
  split
  · exact .refl ..
  · exact effOf_in (.refl ..) fun t e => memWrite_ok e

theorem curPut_only (s : State) (n c : Nat) (v : Half) : Within 34684931 s (s.curPut n c v).1 := by
  unfold curPut
  dsimp only
  split
  · exact effOf_in (.refl ..) fun t e => memWrite_ok e
  · split
    · exact .refl ..
    · exact bind_in (octetWrite_only ..) fun t h => (octetWrite_only ..).after h rfl

theorem curByte_only (s : State) (n c : Nat) (v : Half) : Within 34684931 s (s.curByte n c v).1 := by
  unfold curByte
  dsimp only
  split
  · exact .refl ..
  · exact octetWrite_only ..

theorem advance_only (s : State) (n c : Nat) (k : Half) : Within 65536 s (s.advance n c k) := setCursor_only ..

theorem crcOut_only (s : State) (n : Nat) : Within 1 s (s.crcOut n).2 := by
  unfold crcOut
  dsimp only
  split
  · exact .refl ..
  · exact used_only ..
  · exact .refl ..

/-- A read of a port hands on a state that differs in the engine and in what a read of the cyclic space notes. -/
theorem fpRead_in {m : Nat} {b s : State} {n p : Nat} {k : Half → State → Eff} (hs : Sub 34668547 m) (h : Within m b s)
    (hk : ∀ v t, Within m b t → Within m b (k v t).1) : Within m b (s.fpRead n p k).1 := by
  have hr : Sub 34603011 m := .trans (by decide) hs
  have he : Sub 65536 m := .trans (by decide) hs
  have hu : Sub 1 m := .trans (by decide) hs
  have fp (f : Fp → Fp) : Within m b (s.onFp n f) := (onFp_only ..).after h he
  have adv (c : Nat) (d : Half) (v : Half) (t : State) (ht : Within m b t) : Within m b (k v (t.advance n c d)).1 :=
    hk _ _ ((advance_only ..).after ht he)
  unfold fpRead
  dsimp only
  split
  · exact hk _ _ h
  · split
    case h_9 | h_15 => exact curWord_in hr h (adv _ _)
    case h_10 | h_16 => exact curOctet_in hr h (adv _ _)
    case h_11 | h_17 => exact curWord_in hr h hk
    case h_18 | h_19 => exact hk _ _ ((crcOut_only ..).after h hu)
    case h_21 | h_24 | h_31 => exact hk _ _ (fp _)
    case h_34 => exact hk _ _ ((setCop_only ..).after ((copFinish_only ..).after h (.trans (by decide) hs)) he)
    case h_39 => exact h
    all_goals exact hk _ _ h

theorem fpAluGo_only (s : State) (n alu : Nat) (op : FpAlu) (t : Half) : Within 65536 s (s.fpAluGo n alu op t) := onFp_only ..

theorem fpShiftGo_only (s : State) (n : Nat) (op : FpShift) (t : Half) : Within 65536 s (s.fpShiftGo n op t) := onFp_only ..

theorem fpCmpGo_only (s : State) (n : Nat) (op : FpCmp) (t : Half) : Within 65536 s (s.fpCmpGo n op t) := onFp_only ..

theorem crcCfgGo_only (s : State) (n : Nat) (v : Half) : Within 65536 s (s.crcCfgGo n v) := onFp_only ..

theorem crcFeed_only (s : State) (n : Nat) (l : List Octet) : Within 65536 s (s.crcFeed n l) := onFp_only ..

theorem qinPopGo_only (s : State) (n : Nat) (q : Half) : Within 65537 s (s.qinPopGo n q) := by
  unfold qinPopGo
  dsimp only
  split
  · exact (used_only ..).after ((onFp_only ..).sub rfl) rfl
  · exact (onFp_only ..).after ((setEn_only _ _ _ (by rfl) (by rfl)).sub rfl) rfl

theorem qinFreeGo_only (s : State) (n : Nat) (b : Half) : Within 65536 s (s.qinFreeGo n b).1 := by
  unfold qinFreeGo eff
  dsimp only
  split
  · exact .refl ..
  · split
    · exact (setEn_only _ _ _ (by rfl) (by rfl)).sub rfl
    · exact .refl ..

theorem qoutPushGo_only (s : State) (n : Nat) : Within 34701315 s (s.qoutPushGo n).1 := by
  unfold qoutPushGo eff
  dsimp only
  split
  · with_reducible exact (onFp_only ..).sub rfl
  · split
    · with_reducible exact (onFp_only ..).sub rfl
    · with_reducible exact .ite_else ((ingress_only ..).after ((onFp_only ..).sub rfl) rfl) fun h1 => (bufBack_only ..).after h1 rfl

theorem setTsqR_only (s : State) (n : Nat) (l : List Half) : Within 65536 s (s.setTsqR n l) := onFp_only ..

theorem tsqPopGo_only (s : State) (n : Nat) : Within 65600 s (s.tsqPopGo n) := (setTsqR_only ..).after (.on_time (.refl ..) rfl) rfl

theorem tsqNowGo_only (s : State) (n : Nat) : Within 65536 s (s.tsqNowGo n) := setTsqR_only ..

theorem tsqRxGo_only (s : State) (n : Nat) (h : Half) : Within 65537 s (s.tsqRxGo n h) := by
  unfold tsqRxGo
  split
  · exact (setTsqR_only ..).sub rfl
  · exact (used_only ..).after ((setTsqR_only ..).sub rfl) rfl

theorem lutGo_only (s : State) (n : Nat) : Within 65536 s (s.lutGo n).1 := by
  unfold lutGo eff
  dsimp only
  split
  · with_reducible exact onFp_only ..
  · split
    · with_reducible exact onFp_only ..
    · with_reducible exact (onFp_only ..).after (onFp_only ..) rfl
    · with_reducible exact (onFp_only ..).after (onFp_only ..) rfl

theorem fpTas_only (s : State) (n : Nat) (v : Half) : Within 65536 s (s.fpTas n v) := (setSem_only ..).after (onFp_only ..) rfl

theorem fpSemClr_only (s : State) (n : Nat) (v : Half) : Within 65536 s (s.fpSemClr n v) := (spEdge_only ..).after (setSem_only ..) rfl

theorem fpGoto_only (s : State) (n : Nat) (a : Half) : Within 65536 s (s.fpGoto n a) := onFp_only ..

theorem fpCallGo_only (s : State) (n : Nat) (a : Half) : Within 65536 s (s.fpCallGo n a).1 := by
  unfold fpCallGo eff
  dsimp only
  split
  · with_reducible exact onFp_only ..
  · split
    · split
      · with_reducible exact .refl ..
      · with_reducible exact onFp_only ..
    · split
      · with_reducible exact .refl ..
      · with_reducible exact onFp_only ..

theorem fpRetGo_only (s : State) (n : Nat) : Within 65536 s (s.fpRetGo n).1 := by
  unfold fpRetGo eff
  split
  · with_reducible exact .refl ..
  · with_reducible exact onFp_only ..

theorem fpEretGo_only (s : State) (n : Nat) : Within 65536 s (s.fpEretGo n).1 := by
  unfold fpEretGo eff
  split
  · with_reducible exact .refl ..
  · with_reducible exact onFp_only ..

theorem fpRptGo_only (s : State) (n : Nat) (v : Half) : Within 65536 s (s.fpRptGo n v).1 := by
  unfold fpRptGo eff
  dsimp only
  split
  · with_reducible exact .refl ..
  · with_reducible exact onFp_only ..

theorem setCur_only (s : State) (n c : Nat) (g : Cursor → Cursor) : Within 65536 s (s.setCur n c g) := setCursor_only ..

theorem copOperand_only (s : State) (n : Nat) (p : Proc) (g : CopPort → CopPort) : Within 65536 s (s.copOperand n p g) := setCop_only ..

theorem fpWrite_only (s : State) (n p : Nat) (v : Half) (op : Option Nat) : Within 36814915 s (s.fpWrite n p v op).1 := by
  unfold fpWrite eff
  split
  · with_reducible exact (onFp_only ..).sub rfl
  · split <;> with_reducible first
      | exact .refl .. | exact (onFp_only ..).sub rfl | exact (fpAluGo_only ..).sub rfl
      | exact (fpShiftGo_only ..).sub rfl | exact (fpCmpGo_only ..).sub rfl | exact (setCur_only ..).sub rfl
      | exact bind_in ((curPut_only ..).sub rfl) fun _ h => (advance_only ..).after h rfl
      | exact bind_in ((curByte_only ..).sub rfl) fun _ h => (advance_only ..).after h rfl
      | exact (crcCfgGo_only ..).sub rfl | exact (crcFeed_only ..).sub rfl | exact (qinPopGo_only ..).sub rfl
      | exact (qinFreeGo_only ..).sub rfl | exact (qoutPushGo_only ..).sub rfl | exact (fpGoto_only ..).sub rfl
      | exact (fpCallGo_only ..).sub rfl | exact (fpRetGo_only ..).sub rfl | exact (fpEretGo_only ..).sub rfl
      | exact (fpRptGo_only ..).sub rfl | exact (fpTas_only ..).sub rfl | exact (fpSemClr_only ..).sub rfl
      | exact (tsqPopGo_only ..).sub rfl | exact (tsqNowGo_only ..).sub rfl | exact (tsqRxGo_only ..).sub rfl
      | exact (lutGo_only ..).sub rfl | exact (copOperand_only ..).sub rfl | exact (copGo_only ..).sub rfl

theorem fpAdvance_only (s : State) (n len : Nat) : Within 65536 s (s.fpAdvance n len) := onFp_only ..

theorem fpFetchNext_only (s : State) (n : Nat) : Within 34672643 s (s.fpFetchNext n) := .ite (.refl ..) (engineTrap_only ..)

theorem fpEnd_in {m : Nat} {b : State} {n : Nat} {pc : Half} {r : Eff} (hs : Sub 34672643 m) (h : Within m b r.1) :
    Within m b (fpEnd n pc r) := by
  unfold fpEnd
  split
  · exact (engineTrap_only ..).after h (.trans (by decide) hs)
  · exact (fpFetchNext_only ..).after h hs

theorem fpSrcRead_in {m : Nat} {b s : State} {n : Nat} {src : FpSrc} {k : Half → State → Eff} (hs : Sub 34668547 m) (h : Within m b s)
    (hk : ∀ v t, Within m b t → Within m b (k v t).1) : Within m b (s.fpSrcRead n src k).1 := by
  cases src with
  | port p => exact fpRead_in hs h hk
  | imm v => exact hk v s h

theorem fpMv_only (s : State) (n : Nat) (src : FpSrc) (g : FpGuard) (long : Bool) (dst : Nat) (op : Option Nat) :
    Within 36819011 s (s.fpMv n src g long dst op) := by
  have trap (c : Nat) : Within 36819011 s (s.engineTrap n .fp c (s.en n).fp.pc) := (engineTrap_only ..).sub rfl
  unfold fpMv
  dsimp only
  refine .ite (.refl ..) (.ite (trap _) (.ite ?skip (.ite (trap _) (.ite (trap _) (.ite (trap _) ?move)))))
  case skip => exact (fpFetchNext_only ..).after ((fpAdvance_only ..).sub rfl) rfl
  case move =>
    exact fpEnd_in rfl (fpSrcRead_in rfl (.refl ..) fun v t ht => (fpWrite_only ..).after ((fpAdvance_only ..).after ht rfl) rfl)

theorem fpMove_only (s : State) (n : Nat) (w0 w1 : Half) : Within 36819011 s (s.fpMove n w0 w1) :=
  .ite (fpMv_only ..) (.ite ((engineTrap_only ..).sub rfl) (fpMv_only ..))

theorem fpTo_only (s : State) (n dst : Nat) (m : FpMv) : Within 36819011 s (s.fpTo n dst m) := fpMv_only ..

theorem fpEventEntry_only (s : State) (n : Nat) : Within 34672643 s (s.fpEventEntry n) := by
  unfold fpEventEntry
  dsimp only
  refine .ite (.refl ..) ?_
  split
  · exact (fpFetchNext_only ..).after ((onFp_only ..).after ((copSettle_only ..).sub rfl) rfl) rfl
  · exact .refl ..

end Sys2Proof.Machine.State
end

section
/-! SUPPORT. What each operation of Machine/Sp.lean may change (Laws/Within.lean). -/

namespace Sys2Proof.Machine.State

theorem setSr_only (s : State) (n : Nat) (v : Half) : Within 65536 s (s.setSr n v) := onSp_only ..

theorem setSpPc_only (s : State) (n : Nat) (a : Half) : Within 65536 s (s.setSpPc n a) := onSp_only ..

theorem setSk_only (s : State) (n : Nat) (a : Half) : Within 65536 s (s.setSk n a) := onSp_only ..

theorem spAdvance_only (s : State) (n len : Nat) : Within 65536 s (s.spAdvance n len) := onSp_only ..

theorem spFetchNext_only (s : State) (n : Nat) : Within 34672643 s (s.spFetchNext n) := .ite (.refl ..) (engineTrap_only ..)

theorem spEnd_in {m : Nat} {b : State} {n : Nat} {pc : Half} {r : Eff} (hs : Sub 34672643 m) (h : Within m b r.1) :
    Within m b (spEnd n pc r) := by
  unfold spEnd
  split
  · exact (engineTrap_only ..).after ((onSp_only ..).after h (.trans (by decide) hs)) hs
  · exact (spFetchNext_only ..).after h hs

/-- An instruction that changes no more than `m` after its advance. -/
theorem spIssue_in {m : Nat} {s : State} {n len : Nat} {rep : Bool} {go : State → Eff}
    (hs : Sub 34672643 m) (hgo : ∀ t, Within m s t → Within m s (go t).1) : Within m s (s.spIssue n len rep go) := by
  unfold spIssue
  dsimp only
  refine .ite (.refl ..) (.ite ?fetch (.ite (spEnd_in hs (.refl ..)) (spEnd_in hs (hgo _ ?advance))))
  case fetch => exact (engineTrap_only ..).sub hs
  case advance => exact (spAdvance_only ..).sub (.trans (by decide) hs)

theorem spAluGo_only (s : State) (n d : Nat) (op : SpAlu) (src : SpSrc) : Within 65536 s (s.spAluGo n d op src).1 := by
  unfold spAluGo eff
  exact .ite (setSr_only ..) ((setD_only ..).after (setSr_only ..) rfl)

theorem spAluOp_only (s : State) (n d : Nat) (op : SpAlu) (src : SpSrc) : Within 34672643 s (s.spAluOp n d op src) :=
  spIssue_in rfl fun _ h => (spAluGo_only ..).after h rfl

theorem spLoad_only (s : State) (n : Nat) (sp : Space) (x : SpReg) (ea : Half) (am : Nat) (am' : Half) :
    Within 34668547 s (s.spLoad n sp x ea am am').1 :=
  effRead_in (.refl ..) fun _ _ e => (setSpReg_only ..).after ((setA_only ..).after ((memRead_ok e).sub rfl) rfl) rfl

theorem spStore_only (s : State) (n : Nat) (sp : Space) (x : SpReg) (ea : Half) (am : Nat) (am' : Half) :
    Within 34684931 s (s.spStore n sp x ea am am').1 :=
  bind_in (effOf_in (.refl ..) fun _ e => memWrite_ok e) fun _ h => (setA_only ..).after h rfl

theorem pushWord_only (s : State) (n : Nat) (v : Half) : Within 65536 s (s.pushWord n v).1 :=
  effOf_in (setSk_only ..) fun _ e => (localWrite_ok e).after (setSk_only ..) rfl

theorem popWord_in {m : Nat} {b s : State} {n : Nat} {f : Half → State → Eff} (hs : Sub 65536 m) (h : Within m b s)
    (hf : ∀ v t, Within m b t → Within m b (f v t).1) : Within m b (s.popWord n f).1 := by
  unfold popWord
  split
  · exact h
  · split
    · exact hf _ _ ((setSk_only ..).after h hs)
    · exact h

theorem pushAll_only (n : Nat) (l : List Half) : ∀ s : State, Within 65536 s (s.pushAll n l).1 := by
  induction l with
  | nil => exact .refl _
  | cons v l ih => exact fun s => bind_in (pushWord_only ..) fun t h => (ih t).after h rfl

theorem popAll_in {m : Nat} {b : State} {n : Nat} (hs : Sub 65536 m) :
    ∀ (l : List (Half → State → State)) {s : State}, Within m b s → (∀ g ∈ l, ∀ v t, Within m b t → Within m b (g v t)) →
      Within m b (s.popAll n l).1
  | [], _, h, _ => h
  | _ :: l, _, h, hl =>
    popWord_in hs h fun v t ht => popAll_in hs l (hl _ List.mem_cons_self v t ht) fun g hg => hl g (List.mem_cons_of_mem _ hg)

theorem setAcc_only (s : State) (n k : Nat) (v : BitVec 40) : Within 65536 s (s.setAcc n k v) := onSp_only ..

theorem callGo_only (s : State) (n : Nat) (target : Half) (acs : Bool) (mask : Half) : Within 65536 s (s.callGo n target acs mask).1 :=
  bind_in (pushAll_only ..) fun _ h => (setSpPc_only ..).after h rfl

theorem accPops_in {m : Nat} {b : State} {n k : Nat} (hs : Sub 65536 m) :
    ∀ g ∈ accPops n k, ∀ v t, Within m b t → Within m b (g v t) := by
  intro g hg v t h
  simp only [accPops, List.mem_cons, List.not_mem_nil, or_false] at hg
  obtain rfl | rfl | rfl := hg <;> exact (setAcc_only ..).after h hs

theorem retGo_only (s : State) (n : Nat) : Within 65536 s (s.retGo n).1 := by
  refine popWord_in rfl (.refl ..) fun mask s1 h1 => popWord_in rfl h1 fun acs s2 h2 => bind_in ?_ fun s3 h3 =>
    popWord_in rfl h3 fun ra s4 h4 => (setSpPc_only ..).after h4 rfl
  refine popAll_in rfl _ h2 fun g hg v t h => ?_
  rcases List.mem_append.mp hg with hg | hg
  · split at hg
    · rcases List.mem_append.mp hg with hg | hg <;> exact accPops_in rfl g hg v t h
    · cases hg
  · obtain ⟨r, -, rfl⟩ := List.mem_map.mp hg
    exact (setSpReg_only ..).after h rfl

theorem accPut_only (s : State) (n k : Nat) (x : Int) : Within 65536 s (s.accPut n k x) :=
  .ite ((setSr_only ..).after (setAcc_only ..) rfl) (setAcc_only ..)

theorem setSat_only (s : State) (n : Nat) : Within 65536 s (s.setSat n) := setSr_only ..

theorem accOp_in {m : Nat} {s : State} {n : Nat} {go : State → State} (hs : Sub 34672643 m)
    (hgo : ∀ t, Within m s t → Within m s (go t)) : Within m s (s.accOp n go) :=
  spIssue_in hs hgo

theorem setZ_only (s : State) (n : Nat) (z : Bool) : Within 65536 s (s.setZ n z) := setSr_only ..

theorem ldresGo_only (s : State) (n : Nat) (sp : Space) (am dn : Nat) : Within 34668547 s (s.ldresGo n sp am dn).1 := by
  unfold ldresGo
  split
  · exact .refl ..
  · exact effRead_in (.refl ..) fun _ _ e => (setD_only ..).after ((onSp_only ..).after ((memRead_ok e).sub rfl) rfl) rfl

theorem stcondGo_only (s : State) (n : Nat) (sp : Space) (am dn : Nat) : Within 34684931 s (s.stcondGo n sp am dn).1 := by
  unfold stcondGo
  dsimp only
  split
  · exact .refl ..
  · have h : Within 34684931 s (s.onSp n (fun f => { f with resv := none })) := (onSp_only ..).sub rfl
    split
    · exact bind_in (effOf_in h fun _ e => (memWrite_ok e).after h rfl) fun _ ht => (setZ_only ..).after ht rfl
    · exact (setZ_only ..).after h rfl

theorem crWrite_only (s : State) (n k : Nat) (v : Half) : Within 65536 s (s.crWrite n k v).1 := by
  unfold crWrite eff
  split
  · with_reducible exact setSr_only ..
  · with_reducible exact onSp_only ..
  · with_reducible exact onSp_only ..
  · with_reducible exact setSk_only ..
  · with_reducible exact .refl ..

theorem spEventEntry_only (s : State) (n : Nat) : Within 34672643 s (s.spEventEntry n) := by
  unfold spEventEntry
  dsimp only
  refine .ite (.refl ..) ?_
  split
  · exact (spFetchNext_only ..).after ((onSp_only ..).after ((copSettle_only ..).sub rfl) rfl) rfl
  · exact .refl ..

theorem spEretGo_only (s : State) (n : Nat) : Within 65536 s (s.spEretGo n).1 := by
  unfold spEretGo eff
  split
  · with_reducible exact .refl ..
  · with_reducible exact onSp_only ..

theorem repGo_only (s : State) (n : Nat) (repi : Bool) (cnt : SpRep) : Within 65536 s (s.repGo n repi cnt).1 := by
  have h (k : Nat) : Within 65536 s (s.onSp n (fun f => { f with repLeft := k, repI := repi })) := onSp_only ..
  unfold repGo eff
  cases cnt with
  | short m => exact h _
  | long w =>
    dsimp only
    split
    · exact .refl ..
    · exact h _

theorem localLoad_only (s : State) (n : Nat) (x : SpReg) (am : Nat) (mode : SpMode) : Within 34672643 s (s.localLoad n x am mode) :=
  spIssue_in rfl fun _ h => (spLoad_only ..).after h rfl

theorem localStore_only (s : State) (n : Nat) (x : SpReg) (am : Nat) (mode : SpMode) : Within 34689027 s (s.localStore n x am mode) :=
  spIssue_in rfl fun _ h => (spStore_only ..).after h rfl

theorem ldD_only (s : State) (n : Nat) (sp : Space) (am dn : Nat) (d16 : Half) : Within 34672643 s (s.ldD n sp am dn d16) :=
  spIssue_in rfl fun _ h => (spLoad_only ..).after h rfl

theorem ldA_only (s : State) (n : Nat) (sp : Space) (am an : Nat) (d16 : Half) : Within 34672643 s (s.ldA n sp am an d16) :=
  spIssue_in rfl fun _ h => (spLoad_only ..).after h rfl

theorem stD_only (s : State) (n : Nat) (sp : Space) (am dn : Nat) (d16 : Half) : Within 34689027 s (s.stD n sp am dn d16) :=
  spIssue_in rfl fun _ h => (spStore_only ..).after h rfl

theorem stA_only (s : State) (n : Nat) (sp : Space) (am an : Nat) (d16 : Half) : Within 34689027 s (s.stA n sp am an d16) :=
  spIssue_in rfl fun _ h => (spStore_only ..).after h rfl

theorem ldx_only (s : State) (n : Nat) (sp : Space) (am dn : Nat) (mode : SpMode) : Within 34672643 s (s.ldx n sp am dn mode) :=
  spIssue_in rfl fun _ h => (spLoad_only ..).after h rfl

theorem stx_only (s : State) (n : Nat) (sp : Space) (am dn : Nat) (mode : SpMode) : Within 34689027 s (s.stx n sp am dn mode) :=
  spIssue_in rfl fun _ h => (spStore_only ..).after h rfl

theorem ldabs_only (s : State) (n : Nat) (sp : Space) (dn : Nat) (a : Half) : Within 34672643 s (s.ldabs n sp dn a) :=
  spIssue_in rfl fun _ h => effRead_in h fun _ _ e => (setD_only ..).after ((memRead_ok e).after h rfl) rfl

theorem stabs_only (s : State) (n : Nat) (sp : Space) (dn : Nat) (a : Half) : Within 34689027 s (s.stabs n sp dn a) :=
  spIssue_in rfl fun _ h => effOf_in h fun _ e => (memWrite_ok e).after h rfl

theorem aaddShort_only (s : State) (n an : Nat) (s9 : BitVec 9) : Within 34672643 s (s.aaddShort n an s9) :=
  spIssue_in rfl fun _ h => (setA_only ..).after h rfl

theorem xmov_only (s : State) (n : Nat) (dst src : SpReg) : Within 34672643 s (s.xmov n dst src) :=
  spIssue_in rfl fun _ h => (setSpReg_only ..).after h rfl

theorem amov_only (s : State) (n an : Nat) (v : Half) : Within 34672643 s (s.amov n an v) :=
  spIssue_in rfl fun _ h => (setA_only ..).after h rfl

theorem aadd_only (s : State) (n an : Nat) (v : Half) : Within 34672643 s (s.aadd n an v) :=
  spIssue_in rfl fun _ h => (setA_only ..).after h rfl

theorem asub_only (s : State) (n an : Nat) (v : Half) : Within 34672643 s (s.asub n an v) :=
  spIssue_in rfl fun _ h => (setA_only ..).after h rfl

theorem bcc_only (s : State) (n : Nat) (cond : BitVec 4) (disp : SpDisp) : Within 34672643 s (s.bcc n cond disp) :=
  spIssue_in rfl fun _ h => .ite ((setSpPc_only ..).after h rfl) h

theorem call0_only (s : State) (n : Nat) (disp : SpDisp) : Within 34672643 s (s.call0 n disp) :=
  spIssue_in rfl fun _ h => (callGo_only ..).after h rfl

theorem spCall_only (s : State) (n an : Nat) (acs : Bool) (mask : Half) : Within 34672643 s (s.spCall n an acs mask) :=
  spIssue_in rfl fun _ h => (callGo_only ..).after h rfl

theorem spRet_only (s : State) (n : Nat) : Within 34672643 s (s.spRet n) := spIssue_in rfl fun _ h => (retGo_only ..).after h rfl

theorem spEret_only (s : State) (n : Nat) : Within 34672643 s (s.spEret n) := spIssue_in rfl fun _ h => (spEretGo_only ..).after h rfl

theorem rep_only (s : State) (n : Nat) (cnt : SpRep) : Within 34672643 s (s.rep n cnt) :=
  spIssue_in rfl fun _ h => (repGo_only ..).after h rfl

theorem repi_only (s : State) (n : Nat) (cnt : SpRep) : Within 34672643 s (s.repi n cnt) :=
  spIssue_in rfl fun _ h => (repGo_only ..).after h rfl

theorem semtas_only (s : State) (n d i : Nat) : Within 34672643 s (s.semtas n d i) :=
  spIssue_in rfl fun _ h => (setZ_only ..).after ((setD_only ..).after ((setSem_only ..).after h rfl) rfl) rfl

theorem semclr_only (s : State) (n i : Nat) : Within 34672643 s (s.semclr n i) :=
  spIssue_in rfl fun _ h => (fpEdge_only ..).after ((setSem_only ..).after h rfl) rfl

theorem jmpAn_only (s : State) (n an : Nat) : Within 34672643 s (s.jmpAn n an) := spIssue_in rfl fun _ h => (setSpPc_only ..).after h rfl

theorem wait_only (s : State) (n : Nat) : Within 34672643 s (s.wait n) := by
  unfold wait eff
  with_reducible exact spIssue_in rfl fun _ h => (onSp_only ..).after h rfl

theorem di_only (s : State) (n : Nat) : Within 34672643 s (s.di n) := spIssue_in rfl fun _ h => (setSr_only ..).after h rfl

theorem ei_only (s : State) (n : Nat) : Within 34672643 s (s.ei n) := spIssue_in rfl fun _ h => (setSr_only ..).after h rfl

theorem push_only (s : State) (n : Nat) (x : SpReg) : Within 34672643 s (s.push n x) :=
  spIssue_in rfl fun _ h => (pushWord_only ..).after h rfl

theorem pop_only (s : State) (n : Nat) (x : SpReg) : Within 34672643 s (s.pop n x) :=
  spIssue_in rfl fun _ h => popWord_in rfl h fun _ _ h => (setSpReg_only ..).after h rfl

theorem mfc_only (s : State) (n d k : Nat) : Within 34672643 s (s.mfc n d k) := by
  unfold mfc eff
  refine spIssue_in rfl fun _ h => ?_
  split
  · exact (setD_only ..).after h rfl
  · exact h

theorem mtc_only (s : State) (n k d : Nat) : Within 34672643 s (s.mtc n k d) := spIssue_in rfl fun _ h => (crWrite_only ..).after h rfl

theorem copr_only (s : State) (n d k : Nat) : Within 34672643 s (s.copr n d k) :=
  spIssue_in rfl fun _ h => (setD_only ..).after ((copFinish_only ..).after h rfl) rfl

theorem copw_only (s : State) (n k d : Nat) : Within 34672643 s (s.copw n k d) := by
  unfold copw eff
  dsimp only
  refine spIssue_in rfl fun _ h => ?_
  split
  · with_reducible exact (copOperand_only ..).after h rfl
  · with_reducible exact (copOperand_only ..).after h rfl
  · with_reducible exact (copOperand_only ..).after h rfl
  · with_reducible exact h
  · with_reducible exact (copOperand_only ..).after h rfl

theorem copst_only (s : State) (n d : Nat) : Within 34672643 s (s.copst n d) := spIssue_in rfl fun _ h => (setD_only ..).after h rfl

theorem nop_only (s : State) (n : Nat) : Within 34672643 s (s.nop n) := spIssue_in rfl fun _ h => h

theorem ldres_only (s : State) (n : Nat) (sp : Space) (am dn : Nat) : Within 34672643 s (s.ldres n sp am dn) :=
  spIssue_in rfl fun _ h => (ldresGo_only ..).after h rfl

theorem stcond_only (s : State) (n : Nat) (sp : Space) (am dn : Nat) : Within 34689027 s (s.stcond n sp am dn) :=
  spIssue_in rfl fun _ h => (stcondGo_only ..).after h rfl

theorem mul_only (s : State) (n ac da db : Nat) : Within 34672643 s (s.mul n ac da db) :=
  accOp_in rfl fun _ h => (accPut_only ..).after h rfl

theorem mac_only (s : State) (n ac da db : Nat) : Within 34672643 s (s.mac n ac da db) :=
  accOp_in rfl fun _ h => (accPut_only ..).after h rfl

theorem msu_only (s : State) (n ac da db : Nat) : Within 34672643 s (s.msu n ac da db) :=
  accOp_in rfl fun _ h => (accPut_only ..).after h rfl

theorem mulu_only (s : State) (n ac da db : Nat) : Within 34672643 s (s.mulu n ac da db) :=
  accOp_in rfl fun _ h => (accPut_only ..).after h rfl

theorem macu_only (s : State) (n ac da db : Nat) : Within 34672643 s (s.macu n ac da db) :=
  accOp_in rfl fun _ h => (accPut_only ..).after h rfl

theorem accClr_only (s : State) (n ac : Nat) : Within 34672643 s (s.accClr n ac) := accOp_in rfl fun _ h => (setAcc_only ..).after h rfl

theorem sat_only (s : State) (n ac : Nat) : Within 34672643 s (s.sat n ac) :=
  accOp_in rfl fun _ h => .ite ((setSat_only ..).after ((setAcc_only ..).after h rfl) rfl) h

theorem norm_only (s : State) (n ac da : Nat) : Within 34672643 s (s.norm n ac da) :=
  accOp_in rfl fun _ h => (setD_only ..).after ((setAcc_only ..).after h rfl) rfl

theorem rnd_only (s : State) (n ac : Nat) : Within 34672643 s (s.rnd n ac) := accOp_in rfl fun _ h => (accPut_only ..).after h rfl

theorem movh_only (s : State) (n ac da : Nat) : Within 34672643 s (s.movh n ac da) :=
  accOp_in rfl fun _ h => .ite ((setSat_only ..).after ((setD_only ..).after h rfl) rfl) ((setD_only ..).after h rfl)

theorem movl_only (s : State) (n ac da : Nat) : Within 34672643 s (s.movl n ac da) := accOp_in rfl fun _ h => (setD_only ..).after h rfl

theorem ldh_only (s : State) (n ac da : Nat) : Within 34672643 s (s.ldh n ac da) := accOp_in rfl fun _ h => (setAcc_only ..).after h rfl

theorem asr_only (s : State) (n ac db : Nat) : Within 34672643 s (s.asr n ac db) := accOp_in rfl fun _ h => (setAcc_only ..).after h rfl

theorem addac_only (s : State) (n ac : Nat) : Within 34672643 s (s.addac n ac) := accOp_in rfl fun _ h => (accPut_only ..).after h rfl

end Sys2Proof.Machine.State
end

section
/-! SUPPORT. What each operation of Machine/Ilk.lean may change (Laws/Within.lean). -/

namespace Sys2Proof.Machine.State

theorem winPut_only (s : State) (n a : Nat) (v : Half) : Within 81920 s (s.winPut n a v) :=
  (killResv_only ..).after ((imageWrite_only ..).sub rfl) rfl

theorem onIlk_only (s : State) (n : Nat) (f : Ilk → Ilk) : Within 65536 s (s.onIlk n f) := setEn_only s n _ rfl rfl

theorem showForces_only (s : State) (n : Nat) : Within 2 s (s.showForces n) := (wf_only ..).after (wb_only ..) rfl

theorem forcedPin_only (s : State) (applied : List Force) : Within 16 s (s.forcedPin applied) :=
  .ite (.on_dev (.refl ..) rfl) (.ite (.refl ..) (.on_dev (.refl ..) rfl))

theorem forceEntry_only (s : State) (n slot : Nat) : Within 81921 s (s.forceEntry n slot) :=
  (used_only ..).after (.each (.refl ..) fun _ _ h => (winPut_only ..).after h rfl) rfl

theorem ilkBits_only (s : State) (n : Nat) (w0 w1 : Half) : Within 34672643 s (s.ilkBits n w0 w1) :=
  .ite (.refl ..) ((evalTargets_only ..).after (.eachIn (.refl ..) fun _ _ h => (setSource_only ..).after (.on_trip h rfl) rfl) rfl)

theorem showOutq_only (s : State) (n nout : Nat) : Within 81920 s (s.showOutq n nout) :=
  .each (.refl ..) fun _ _ h => (winPut_only ..).after h rfl

theorem publish_only (s : State) (n : Nat) (k : Package) (val : Nat → Half) : Within 34689027 s (s.publish n k val) := by
  unfold publish
  dsimp only
  refine (showOutq_only ..).after ?_ rfl
  refine (onIlk_only ..).after ?_ rfl
  refine .eachIn ((ilkBits_only ..).sub rfl) fun _ _ h => ?_
  split
  · exact (cyclicWrite_only ..).after h rfl
  · exact h

theorem publishOut_only (s : State) (n : Nat) (k : Package) : Within 34689043 s (s.publishOut n k) :=
  (forcedPin_only ..).after ((onIlk_only ..).after ((publish_only ..).sub rfl) rfl) rfl

theorem publishStop_only (s : State) (n : Nat) : Within 34689043 s (s.publishStop n) := by
  unfold publishStop
  split
  · exact (forcedPin_only ..).after ((onIlk_only ..).after ((publish_only ..).sub rfl) rfl) rfl
  · exact .refl ..

theorem ilkCause_only (s : State) (n : Nat) (c : Half) : Within 34603011 s (s.ilkCause n c) := persCause_only ..

theorem ilk_setMode_only (s : State) (n m : Nat) : Within 34603011 s (s.setMode_ n m) :=
  .ite (.refl ..) ((ilkCause_only ..).after ((wf_only ..).sub rfl) rfl)

theorem unhold_only (s : State) (n : Nat) : Within 34668547 s (s.unhold n) := by
  unfold unhold
  dsimp only
  split
  · exact .refl ..
  · exact .ite_then ((setEn_only _ _ _ (by rfl) (by rfl)).sub rfl) fun h1 => (setPe_only ..).after h1 rfl

theorem toStop_only (s : State) (n : Nat) : Within 34689043 s (s.toStop n) :=
  .ite (.refl ..) ((publishStop_only ..).after ((onIlk_only ..).after ((wb_only ..).after ((ilk_setMode_only ..).after ((unhold_only ..).sub
    rfl) rfl) rfl) rfl) rfl)

theorem toRun_only (s : State) (n : Nat) : Within 34668547 s (s.toRun n) := by
  unfold toRun
  split
  · exact .refl ..
  · exact (ilk_setMode_only ..).after (unhold_only ..) rfl
  · exact (onIlk_only ..).after ((wb_only ..).after ((ilk_setMode_only ..).sub rfl) rfl) rfl

theorem toHold_only (s : State) (n : Nat) : Within 34668547 s (s.toHold n) :=
  .ite (.refl ..) (.ite_then ((onIlk_only ..).after ((ilk_setMode_only ..).sub rfl) rfl) fun h1 => (setPe_only ..).after h1 rfl)

theorem ilkTrigger_only (s : State) (n : Nat) : Within 65538 s (s.ilkTrigger n) := by
  unfold ilkTrigger
  split
  · exact .refl ..
  · exact .ite (.refl ..) (.ite ((cnt_only ..).sub rfl) ((onIlk_only ..).sub rfl))

theorem curToPrev_only (s : State) (n : Nat) : Within 16384 s (s.curToPrev n) := by
  refine .on_bridge (.refl ..) rfl (fun h => ?_) id
  have hz : ∀ p ∈ s.bridge.image, p.2 ≠ 0 := by
    simp only [Memory.wf, Bool.and_eq_true, List.all_eq_true, decide_eq_true_eq] at h
    exact h.2
  refine List.foldlRecOn (motive := fun t => Memory.wf 0 t = true) _ _ (Memory.wf_filter _ _ _ h) fun t ht p hp => ?_
  exact Memory.wf_put t _ _ (hz p (List.mem_filter.mp hp).1) ht

theorem snapshot_only (s : State) (n : Nat) (k : Package) : Within 34684947 s (s.snapshot n k) :=
  (forcedPin_only ..).after ((onIlk_only ..).after (.ite_then (.each (.eachIn ((curToPrev_only ..).sub rfl) fun _ _ h =>
    (winPut_only ..).after ((imageRead_only ..).after h rfl) rfl) fun _ _ h => (winPut_only ..).after h rfl) fun h1 =>
    (curToPrev_only ..).after h1 rfl) rfl) rfl

theorem ilkCycleStart_only (s : State) (n : Nat) : Within 34684947 s (s.ilkCycleStart n) := by
  unfold ilkCycleStart
  dsimp only
  split
  · exact .refl ..
  · exact .ite (.refl ..) ((spEdge_only ..).after ((onSp_only ..).after ((onIlk_only ..).after ((wb_only ..).after (snapshot_only ..) rfl)
      rfl) rfl) rfl)

theorem overrunNow_only (s : State) (n : Nat) (k : Package) : Within 34689043 s (s.overrunNow n k) :=
  .ite ((ilkCause_only ..).after ((wb_only ..).after ((toStop_only ..).after ((onIlk_only ..).after ((cnt_only ..).after ((wf_only ..).sub
    rfl) rfl) rfl) rfl) rfl) rfl) ((ilkCause_only ..).after ((onIlk_only ..).after ((cnt_only ..).after ((wf_only ..).sub rfl) rfl) rfl)
    rfl)

theorem ilkOverrun_only (s : State) (n : Nat) : Within 34689043 s (s.ilkOverrun n) := by
  unfold ilkOverrun
  split
  · exact .refl ..
  · exact .ite (overrunNow_only ..) (.refl ..)

theorem cycTime_only (s : State) (n : Nat) : Within 2 s (s.cycTime n) := by
  unfold cycTime
  dsimp only
  split
  · exact .refl ..
  · exact (wf_only ..).after (wf_only ..) rfl

theorem endcycGo_only (s : State) (n : Nat) : Within 34689043 s (s.endcycGo n).1 := by
  unfold endcycGo eff
  dsimp only
  split
  · with_reducible exact .refl ..
  · split
    · with_reducible exact (onIlk_only ..).after ((onSp_only ..).after (ilkOverrun_only ..) rfl) rfl
    · split
      · with_reducible exact (onSp_only ..).after (ilkOverrun_only ..) rfl
      · with_reducible exact (publishOut_only ..).after (.ite_else ((wb_only ..).after ((cycTime_only ..).after ((onSp_only ..).after
          (ilkOverrun_only ..) rfl) rfl) rfl) fun h1 => (wf_only ..).after h1 rfl) rfl

theorem endcyc_only (s : State) (n : Nat) : Within 34689043 s (s.endcyc n) := spIssue_in rfl fun _ h => (endcycGo_only ..).after h rfl

theorem curBit_only (s : State) (n k b : Nat) (prev : Bool) : Within 34603011 s (s.curBit n k b prev).2 := imageRead_only ..

theorem edgeGo_only (s : State) (n d k b : Nat) (rise : Bool) : Within 34668547 s (s.edgeGo n d k b rise).1 := by
  unfold edgeGo eff
  dsimp only
  split
  · exact .refl ..
  · split
    · exact .refl ..
    · exact (setZ_only ..).after ((setD_only ..).after ((curBit_only ..).after ((curBit_only ..).sub rfl) rfl) rfl) rfl

theorem rise_only (s : State) (n d k b : Nat) : Within 34672643 s (s.rise n d k b) :=
  spIssue_in rfl fun _ h => (edgeGo_only ..).after h rfl

theorem fall_only (s : State) (n d k b : Nat) : Within 34672643 s (s.fall n d k b) :=
  spIssue_in rfl fun _ h => (edgeGo_only ..).after h rfl

theorem ilkAct_in {m : Nat} {b t : State} {ch n priv : Nat} {allowed badArg : Bool} {go : State → Nat × State}
    (hs : Sub 1048576 m) (h : Within m b t) (hgo : ∀ u, Within m b u → Within m b (go u).2) :
    Within m b (t.ilkAct ch n priv allowed badArg go) := by
  unfold ilkAct
  exact .ite ((reply_only ..).after h hs) (.ite ((reply_only ..).after h hs)
    (.ite ((reply_only ..).after h hs) ((reply_only ..).after (hgo t h) hs)))

theorem ilkCmd_in {m : Nat} {b s : State} {ch op need : Nat} {given : List Word} {go : Nat → Word → Word → State → State}
    (hs : Sub 1048576 m) (h : Within m b s) (hgo : ∀ n v w t, Within m b t → Within m b (go n v w t)) :
    Within m b (s.ilkCmd ch op need given go) :=
  request_in h fun _ ht => .ite ((reply_only ..).after ht hs) (.ite ht (.ite ((reply_only ..).after ht hs) (hgo _ _ _ _ ht)))

theorem ilkRun_only (s : State) (ch n : Nat) : Within 38862851 s (s.ilkRun ch n) :=
  ilkCmd_in rfl (.refl ..) fun _ _ _ _ h => ilkAct_in rfl h fun _ h => (journalAdd_only ..).after ((toRun_only ..).after h rfl) rfl

theorem ilkStop_only (s : State) (ch n : Nat) : Within 38883347 s (s.ilkStop ch n) :=
  ilkCmd_in rfl (.refl ..) fun _ _ _ _ h => ilkAct_in rfl h fun _ h => (journalAdd_only ..).after ((toStop_only ..).after h rfl) rfl

theorem hold_only (s : State) (ch n : Nat) : Within 34668547 s (s.hold ch n) :=
  ilkCmd_in rfl (.refl ..) fun _ _ _ _ h => ilkAct_in rfl h fun _ h => (toHold_only ..).after h rfl

theorem forcesChanged_only (s : State) (n slot : Nat) (l : List (Nat × Force)) : Within 34684931 s (s.forcesChanged n slot l) :=
  (ilkCause_only ..).after ((showForces_only ..).after ((forceEntry_only ..).after ((onIlk_only ..).sub rfl) rfl) rfl) rfl

theorem forceSet_only (s : State) (ch n : Nat) (w1 w2 : Word) : Within 34684931 s (s.forceSet ch n w1 w2) := by
  unfold forceSet
  dsimp only
  refine ilkCmd_in rfl (.refl ..) fun _ _ _ _ h => ?_
  refine ilkAct_in rfl h fun _ h => ?_
  split
  · exact (forcesChanged_only ..).after h rfl
  · split
    · exact (forcesChanged_only ..).after h rfl
    · exact h

theorem forceClear_only (s : State) (ch n : Nat) (w1 : Word) : Within 34684931 s (s.forceClear ch n w1) := by
  unfold forceClear
  dsimp only
  refine ilkCmd_in rfl (.refl ..) fun _ _ _ _ h => ?_
  refine ilkAct_in rfl h fun _ h => ?_
  split
  · exact (forcesChanged_only ..).after h rfl
  · exact h

theorem dropForces_only (s : State) (n : Nat) : Within 34684931 s (s.dropForces n) :=
  .ite (.refl ..) ((ilkCause_only ..).after ((showForces_only ..).after ((onIlk_only ..).after (.eachIn (.refl ..) fun _ _ h =>
    (forceEntry_only ..).after h rfl) rfl) rfl) rfl)

theorem forceClearAll_only (s : State) (ch n : Nat) : Within 34684931 s (s.forceClearAll ch n) :=
  ilkCmd_in rfl (.refl ..) fun _ _ _ _ h => ilkAct_in rfl h fun _ h => (dropForces_only ..).after h rfl

theorem toState_only (s : State) (d : DevState) : Within 34689043 s (s.toState d) :=
  .ite_else (.ite_then ((enter_only ..).sub rfl) fun h1 => .each h1 fun _ _ h => .ite ((toStop_only ..).after h rfl) h) fun h2 => .each h2
    fun _ _ h => (dropForces_only ..).after h rfl

theorem copRow_only (s : State) (n op : Nat) (st : CopStart) : Within 36819011 s (s.copRow n op st) := by
  unfold copRow
  split
  · exact fpMv_only ..
  · exact spIssue_in rfl fun _ h => (copGo_only ..).after h rfl

theorem engStore_only (s : State) (n : Nat) (p : EngStore) : Within 36819011 s (s.engStore n p) := by
  unfold engStore
  split
  · exact fpTo_only ..
  · exact (stD_only ..).sub rfl
  · exact (stabs_only ..).sub rfl

theorem requestCtx_only (s : State) (n x role : Nat) : Within 33619968 s (s.requestCtx n x role) := by
  unfold requestCtx
  dsimp only
  split
  · exact .refl ..
  · refine .ite ((setCtx_only ..).sub rfl) ?_
    split
    · exact (setCtx_only ..).sub rfl
    · exact .ite ((bindCtx_only ..).after ((setCtx_only ..).after (.on_mram (.refl ..) rfl id) rfl) rfl) ((setCtx_only ..).after (.on_mram
        (.refl ..) rfl id) rfl)

theorem ilkInit_only (s : State) (n : Nat) (k : Package) : Within 34689043 s (s.ilkInit n k) :=
  .ite (.refl ..) (.ite_then ((showForces_only ..).after ((wr_only ..).after ((wr_only ..).sub rfl) rfl) rfl) fun h1 =>
    (publishStop_only ..).after h1 rfl)

theorem loadEngine_only (s : State) (n : Nat) (k : Package) : Within 36786195 s (s.loadEngine n k) := by
  unfold loadEngine
  dsimp only
  refine (setPe_only ..).after (.on_sec ((ilkInit_only ..).after ?_ rfl) rfl fun _ _ h => h) rfl
  refine Within.foldl (fun _ _ h => (requestCtx_only ..).after h rfl) _ _ ((wr_only ..).after
    ((setEn_wf _ _ _ fun _ _ => ?_).after ?_ rfl) rfl)
  · exact ⟨putHalves_wf _ _ _ rfl, putHalves_wf _ _ _ rfl⟩
  · exact (setPe_only ..).sub rfl

theorem engineRestart_only (s : State) (n : Nat) : Within 36786195 s (s.engineRestart n) := by
  unfold engineRestart
  dsimp only
  split
  · exact .refl ..
  · exact .ite (.refl ..) ((loadEngine_only ..).after ((cnt_only ..).after ((setEn_only _ _ _ (by rfl) (by rfl)).sub rfl) rfl) rfl)

end Sys2Proof.Machine.State
end

section
/-! SUPPORT. What each operation of Machine/Image.lean may change (Laws/Within.lean). -/

namespace Sys2Proof.Machine.State

theorem eraseFlash_only (s : State) (a n : Nat) : Within 4194304 s (s.eraseFlash a n) :=
  .on_upd (.refl ..) rfl (Memory.wf_filter _ _ _)

theorem useBoot_only (s : State) (c : Nat) (r : Word × Word × Word) : Within 4194304 s (s.useBoot c r) := .on_upd (.refl ..) rfl id

theorem readBoot_only (s : State) : Within 4194304 s s.readBoot := by
  refine of_body (fun f => Within 4194304 s (f s)) (f := readBoot) (by delta readBoot; rfl) ?_
  beta_reduce
  generalize s.bootCopy 0 = first
  generalize s.bootCopy 1 = second
  cases first with
  | none => cases second <;> exact useBoot_only ..
  | some a =>
    cases second with
    | none => exact useBoot_only ..
    | some b => exact .ite (useBoot_only ..) (useBoot_only ..)

theorem writeBoot_only (s : State) (w2 : Word) : Within 4194304 s (s.writeBoot w2) :=
  (useBoot_only ..).after (.on_upd (.refl ..) rfl (putFlash_wf _ _ _)) rfl

theorem imageRefused_only (s : State) (kind check : Nat) : Within 34603011 s (s.imageRefused kind check) :=
  .ite (raise_only ..) (.on_mram (.refl ..) rfl id)

end Sys2Proof.Machine.State
end

section
/-! SUPPORT. What each operation of Machine/Can.lean may change (Laws/Within.lean). -/

namespace Sys2Proof.Machine.State

theorem onCan_only (s : State) (x : Nat) (f : Can → Can) : Within 131072 s (s.onCan x f) := .on_can (.refl ..) rfl

theorem canEvent_only (s : State) (x i : Nat) : Within 34603011 s (s.canEvent x i) := raiseAt_only ..

theorem setEstate_only (s : State) (x v : Nat) : Within 34603011 s (s.setEstate x v) :=
  .ite (.refl ..) ((canEvent_only ..).after ((wf_only ..).sub rfl) rfl)

theorem setTx_only (s : State) (x i st cause : Nat) : Within 2 s (s.setTx x i st cause) := (wf_only ..).after (wf_only ..) rfl

theorem txMove_only (s : State) (x : Nat) (l : List Nat) (dst : Nat) : Within 2 s (s.txMove x l dst) :=
  .each (.refl ..) fun _ _ h => .ite ((setTx_only ..).after h rfl) h

theorem canBusOff_only (s : State) (x : Nat) : Within 34734083 s (s.canBusOff x) :=
  .ite_then ((onCan_only ..).after ((txMove_only ..).after ((wb_only ..).after ((setEstate_only ..).sub rfl) rfl) rfl) rfl) fun h1 =>
    (setEstate_only ..).after h1 rfl

theorem judge_only (s : State) (x tec rec : Nat) : Within 34734083 s (s.judge x tec rec) :=
  .ite ((canBusOff_only ..).after ((wf_only ..).after ((wf_only ..).sub rfl) rfl) rfl) ((setEstate_only ..).after ((wf_only ..).after
    ((wf_only ..).sub rfl) rfl) rfl)

theorem canMode_only (s : State) (x : Nat) : Within 131074 s (s.canMode x) :=
  .ite (.refl ..) (.ite_then ((onCan_only ..).sub rfl) fun h1 => (wb_only ..).after ((wr_only ..).after h1 rfl) rfl)

theorem canIdle_only (s : State) (x : Nat) : Within 131074 s (s.canIdle x) := by
  unfold canIdle
  dsimp only
  refine .ite ?_ (canMode_only ..)
  split
  · exact (setTx_only ..).after (canMode_only ..) rfl
  · exact canMode_only ..

theorem hostPuts_only (s : State) (a : Nat) (l : List Word) : Within 1114112 s (s.hostPuts a l) :=
  .eachIn (.refl ..) fun _ _ h => (hostPut_only ..).after ((hostPut_only ..).after h rfl) rfl

theorem txEnded_only (s : State) (x i : Nat) : Within 34668547 s (s.txEnded x i) := by
  unfold txEnded
  dsimp only
  split
  · exact (hostPut_only ..).after ((hostPuts_only ..).after ((canEvent_only ..).sub rfl) rfl) rfl
  · exact (canEvent_only ..).sub rfl

theorem wakeValid_only (s : State) (x : Nat) : Within 131074 s (s.wakeValid x) := by
  unfold wakeValid
  split
  · exact .ite ((wf_only ..).after ((onCan_only ..).sub rfl) rfl) (.refl ..)
  · exact .refl ..

theorem canDrop_only (s : State) (x : Nat) : Within 34603011 s (s.canDrop x) :=
  .ite_else ((wb_only ..).after ((cnt_only ..).sub rfl) rfl) fun h1 => (canEvent_only ..).after h1 rfl

theorem canAccept_only (s : State) (x : Nat) (f : CanFrame) (k : Nat) : Within 34799619 s (s.canAccept x f k) := by
  unfold canAccept
  dsimp only
  split
  · exact .ite ((canDrop_only ..).sub rfl) ((hostPut_only ..).after ((hostPuts_only ..).sub rfl) rfl)
  · exact .ite ((canDrop_only ..).sub rfl) (.ite_then ((wf_only ..).after ((onCan_only ..).sub rfl) rfl) fun h1 =>
      (canEvent_only ..).after h1 rfl)

theorem canFiltered_only (s : State) (x : Nat) (f : CanFrame) : Within 34799619 s (s.canFiltered x f) := by
  unfold canFiltered
  split
  · exact (canAccept_only ..).after ((wakeValid_only ..).sub rfl) rfl
  · exact .ite (.refl ..) ((used_only ..).after ((canAccept_only ..).after ((wakeValid_only ..).sub rfl) rfl) rfl)

theorem recDown_only (s : State) (r : Nat) : Within 1 s (recDown s r).2 := by
  unfold recDown
  split
  · exact used_only ..
  · exact .refl ..

theorem canFrameReceive_only (s : State) (x : Nat) (r : CanRx) : Within 34799619 s (s.canFrameReceive x r) := by
  unfold canFrameReceive
  dsimp only
  refine .ite (.refl ..) ?_
  refine .ite ((onCan_only ..).sub rfl) ?_
  refine (canIdle_only ..).after ?_ rfl
  split
  · exact .ite (.refl ..) ((judge_only ..).sub rfl)
  · exact .ite (.refl ..) ((canFiltered_only ..).after (.ite (.refl ..) ((judge_only ..).after ((recDown_only ..).sub rfl) rfl)) rfl)

theorem ackRun_only (s : State) (x : Nat) (r : CanTxRes) : Within 34603011 s (s.ackRun x r) := by
  unfold ackRun
  dsimp only
  split
  · exact (wb_only ..).after ((wr_only ..).sub rfl) rfl
  · exact .ite_then ((cnt_only ..).sub rfl) fun h1 => (canEvent_only ..).after ((wb_only ..).after ((wb_only ..).after h1 rfl) rfl) rfl
  · exact .refl ..

theorem endBuffer_only (s : State) (x i : Nat) (r : CanTxRes) : Within 34799619 s (s.endBuffer x i r) := by
  unfold endBuffer
  dsimp only
  split
  · exact (txEnded_only ..).after ((setTx_only ..).after ((onCan_only ..).sub rfl) rfl) rfl
  · exact .ite ((txEnded_only ..).after ((setTx_only ..).after ((onCan_only ..).sub rfl) rfl) rfl) (.ite ((txEnded_only ..).after
      ((setTx_only ..).after ((onCan_only ..).sub rfl) rfl) rfl) ((setTx_only ..).after ((onCan_only ..).sub rfl) rfl))

theorem canTxAttemptEnd_only (u : State) (x : Nat) (res : CanTxRes) : Within 34799619 u (u.canTxAttemptEnd x res) := by
  unfold canTxAttemptEnd
  dsimp only
  split
  · exact (canIdle_only ..).sub rfl
  · refine (canIdle_only ..).after ?_ rfl
    split
    · exact .ite_then ((judge_only ..).after ((wakeValid_only ..).after ((ackRun_only ..).after ((endBuffer_only ..).after
        ((canIdle_only ..).sub rfl) rfl) rfl) rfl) rfl) fun h1 => (canFiltered_only ..).after h1 rfl
    · refine (judge_only ..).after ?_ rfl
      split
      · exact (wakeValid_only ..).after ((ackRun_only ..).after ((endBuffer_only ..).after ((canIdle_only ..).sub rfl) rfl) rfl) rfl
      · exact (ackRun_only ..).after ((endBuffer_only ..).after ((canIdle_only ..).sub rfl) rfl) rfl

theorem canRecoveryEnd_only (s : State) (x runs : Nat) : Within 34734083 s (s.canRecoveryEnd x runs) :=
  .ite (.refl ..) ((canIdle_only ..).after ((txMove_only ..).after (judge_only ..) rfl) rfl)

theorem canCtrl_only (u : State) (x : Nat) (val : Word) : Within 34734083 u (u.canCtrl x val) :=
  (canIdle_only ..).after (.ite_then (.ite_then ((wr_only ..).after ((canIdle_only ..).sub rfl) rfl) fun h1 => (setEstate_only ..).after
    h1 rfl) fun h2 => (canEvent_only ..).after h2 rfl) rfl

theorem canModeWrite_only (s : State) (fn x : Nat) (val : Word) : Within 34734083 s (s.canModeWrite fn x val) :=
  .ite (canCtrl_only ..) (.refl ..)

theorem recover_only (s : State) (fn x : Nat) : Within 34734083 s (s.recover fn x) := .ite (canCtrl_only ..) (.refl ..)

theorem canTimingWrite_only (s : State) (fn x off : Nat) (val : Word) : Within 2 s (s.canTimingWrite fn x off val) := by
  unfold canTimingWrite
  refine .ite (.refl ..) ?_
  refine .ite (wb_only ..) ?_
  (repeat' split) <;> exact wr_only ..

theorem requestTx_only (s : State) (x i : Nat) : Within 2 s (s.requestTx x i) := .ite (setTx_only ..) (wb_only ..)

theorem canTxreq_only (s : State) (fn x : Nat) (bits : BitVec 64) : Within 131074 s (s.canTxreq fn x bits) :=
  .ite (.refl ..) ((canIdle_only ..).after (.each (.refl ..) fun _ _ h => .ite ((requestTx_only ..).after h rfl) h) rfl)

theorem canTxabort_only (s : State) (fn x : Nat) (bits : BitVec 64) : Within 34799619 s (s.canTxabort fn x bits) := by
  unfold canTxabort
  refine .ite (.refl ..) ?_
  refine .each ((canIdle_only ..).sub rfl) fun _ _ h => ?_
  refine .ite h ?_
  split
  · exact (txEnded_only ..).after ((setTx_only ..).after h rfl) rfl
  · exact (txEnded_only ..).after ((setTx_only ..).after h rfl) rfl
  · exact (onCan_only ..).after h rfl
  · exact h

theorem canRxpop_only (s : State) (fn x : Nat) : Within 131074 s (s.canRxpop fn x) :=
  .ite (.refl ..) ((wf_only ..).after ((onCan_only ..).sub rfl) rfl)

theorem fetchTx_only (s : State) (x b : Nat) : Within 131074 s (s.fetchTx x b) :=
  .ite (.refl ..) ((requestTx_only ..).after ((onCan_only ..).after (.each (.refl ..) fun _ _ h => (wr_only ..).after h rfl) rfl) rfl)

theorem canTxRingFetch_only (s : State) (x : Nat) : Within 131074 s (s.canTxRingFetch x) := by
  unfold canTxRingFetch
  split
  · exact (canIdle_only ..).after (.times (fun _ h => (fetchTx_only ..).after h rfl) _ _ (.refl ..)) rfl
  · exact .refl ..

theorem canWakeValidityExpiry_only (s : State) (x : Nat) : Within 34734083 s (s.canWakeValidityExpiry x) := by
  unfold canWakeValidityExpiry
  dsimp only
  split
  · exact .refl ..
  · exact .ite (.refl ..) (.ite_then ((cnt_only ..).after ((onCan_only ..).sub rfl) rfl) fun h1 => (canEvent_only ..).after
      ((wb_only ..).after h1 rfl) rfl)

theorem wakeDisClear_only (s : State) (fn x : Nat) (val : Word) : Within 2 s (s.wakeDisClear fn x val) :=
  .ite ((wf_only ..).after (wb_only ..) rfl) (.refl ..)

end Sys2Proof.Machine.State
end

section
/-! SUPPORT. What each operation of Machine/Thicket.lean may change (Laws/Within.lean). -/

namespace Sys2Proof.Machine.State

theorem onTk_only (s : State) (n : Nat) (f : Tk → Tk) : Within 262144 s (s.onTk n f) := .on_tk (.refl ..) rfl

theorem tkEvent_only (s : State) (n i : Nat) : Within 34603011 s (s.tkEvent n i) := raiseAt_only ..

theorem tkFlag_only (s : State) (n b : Nat) : Within 34603011 s (s.tkFlag n b) :=
  .ite (.refl ..) (.ite_then ((wb_only ..).sub rfl) fun h1 => (tkEvent_only ..).after h1 rfl)

theorem tkShift_only (s : State) (n : Nat) (pins : BitVec 48) (op : Nat) : Within 262144 s (s.tkShift n pins op) := onTk_only ..

theorem tkPush_only (s : State) (n : Nat) : Within 34865155 s (s.tkPush n) :=
  .ite ((tkFlag_only ..).after ((onTk_only ..).sub rfl) rfl) ((onTk_only ..).sub rfl)

theorem tkPop_only (s : State) (n : Nat) : Within 34865155 s (s.tkPop n) := by
  unfold tkPop
  split
  · exact (tkFlag_only ..).sub rfl
  · exact (onTk_only ..).sub rfl

theorem tkFifo_only (s : State) (n op : Nat) : Within 34865155 s (s.tkFifo n op) := by
  unfold tkFifo
  split
  · exact tkPush_only ..
  · exact tkPop_only ..
  · exact (tkPop_only ..).after (tkPush_only ..) rfl
  · exact .refl ..

theorem tkCount_only (s : State) (n op : Nat) : Within 262144 s (s.tkCount n op) := onTk_only ..

theorem tkRun_only (s : State) (n : Nat) (pins : BitVec 48) : Within 34865155 s (s.tkRun n pins) :=
  .ite_then ((onTk_only ..).after ((tkCount_only ..).after ((tkFifo_only ..).after ((tkShift_only ..).sub rfl) rfl) rfl) rfl) fun h1 =>
    (tkEvent_only ..).after h1 rfl

theorem tkStep_only (s : State) (n : Nat) (pins : BitVec 48) : Within 34865155 s (s.tkStep n pins) :=
  .ite (tkRun_only ..) (.ite ((tkRun_only ..).after ((used_only ..).after ((onTk_only ..).sub rfl) rfl) rfl) (.ite ((onTk_only ..).sub
    rfl) (.refl ..)))

theorem tkCtrl_only (s : State) (fn n : Nat) (val : Word) : Within 2 s (s.tkCtrl fn n val) := .ite (wb_only ..) (.refl ..)

theorem tkLutWrite_only (s : State) (fn n i : Nat) (val : Word) : Within 2 s (s.tkLutWrite fn n i val) :=
  .ite (.refl ..) (.ite (wb_only ..) (wr_only ..))

theorem tkTxfifoWrite_only (s : State) (fn n : Nat) (val : Word) : Within 262146 s (s.tkTxfifoWrite fn n val) :=
  .ite (.refl ..) (.ite ((wb_only ..).sub rfl) ((onTk_only ..).sub rfl))

theorem tkRxPop_only (s : State) (n : Nat) : Within 262144 s (s.tkRxPop n) := onTk_only ..

theorem tkTrigger_only (s : State) (w : Wing) : Within 262144 s (s.tkTrigger w) :=
  .each (.refl ..) fun _ _ h => (onTk_only ..).after h rfl

end Sys2Proof.Machine.State
end

section
/-! SUPPORT. What each operation of Machine/Trig.lean may change (Laws/Within.lean). -/

namespace Sys2Proof.Machine.State

theorem armTrg_only (s : State) (m : Nat) : Within 34603075 s (s.armTrg m) :=
  .ite ((setTrg_only ..).sub rfl) ((raiseAt_only ..).after ((setTrg_only ..).sub rfl) rfl)

theorem triggerArm_only (s : State) (fn m : Nat) (val : Word) : Within 34603075 s (s.triggerArm fn m val) :=
  .ite (.refl ..) (.ite ((setTrg_only ..).after ((wr_only ..).sub rfl) rfl) (.ite_else ((wr_only ..).sub rfl) fun h1 =>
    (armTrg_only ..).after h1 rfl))

theorem ringFire_only (s : State) (m t : Nat) : Within 8192 s (s.ringFire m t) :=
  .each (.refl ..) fun _ _ h => .ite ((setRg_only ..).after h rfl) h

theorem snapFire_only (s : State) (w : Wing) (t : Nat) : Within 1026 s (s.snapFire w t) :=
  (setHedge_only ..).after (.each (.refl ..) fun _ _ h => (wr_only ..).after h rfl) rfl

theorem pubFire_only (s : State) (m t : Nat) : Within 786432 s (s.pubFire m t) :=
  .eachIn (.refl ..) fun _ _ h => .on_pub (.eachIn h fun _ _ h => (onTk_only ..).after h rfl) rfl

theorem fireTargets_only (s : State) (m t : Nat) (ctrl : Word) : Within 861186 s (s.fireTargets m t ctrl) :=
  .ite_then (.ite_then (.ite_then (.ite ((ringFire_only ..).sub rfl) (.refl ..)) fun h1 => .each h1 fun _ _ h =>
    (ilkTrigger_only ..).after h rfl) fun h2 => (snapFire_only ..).after h2 rfl) fun h3 => (tkTrigger_only ..).after
    ((pubFire_only ..).after h3 rfl) rfl

theorem triggerFire_only (s : State) (m : Nat) : Within 35464259 s (s.triggerFire m) :=
  .ite (.refl ..) (.ite_then (.ite_then ((setTrg_only ..).sub rfl) fun h1 => (fireTargets_only ..).after h1 rfl) fun h2 =>
    (raiseAt_only ..).after h2 rfl)

theorem triggerPulseEnd_only (s : State) (m : Nat) : Within 64 s (s.triggerPulseEnd m) := by
  unfold triggerPulseEnd
  dsimp only
  split
  · exact .ite (.refl ..) (setTrg_only ..)
  · exact .refl ..

theorem setPub_only (s : State) (p : Nat) (x : Pub) : Within 524288 s (s.setPub p x) := .on_pub (.refl ..) rfl

theorem pubAdvance_only (s : State) (p to_ : Nat) : Within 524290 s (s.pubAdvance p to_) :=
  (wf_only ..).after ((setPub_only ..).sub rfl) rfl

theorem pubWrAdvance_only (s : State) (fn p : Nat) (val : Word) : Within 524290 s (s.pubWrAdvance fn p val) := by
  unfold pubWrAdvance
  split
  · exact .ite (pubAdvance_only ..) (.refl ..)
  · exact .refl ..

theorem pubSkip_only (p : Nat) (c : PubCfg) (key k : Nat) : ∀ s : State, Within 2 s (s.pubSkip p c key k) := by
  induction k with
  | zero => exact .refl _
  | succ k ih => exact fun s => .ite (.refl ..) ((ih ..).after ((cnt_only ..).after (wf_only ..) rfl) rfl)

theorem pubTake_only (p : Nat) (c : PubCfg) (limit : Nat) (l : List Nat) : ∀ s : State, Within 2 s (s.pubTake p c limit l).1 := by
  induction l with
  | nil => exact .refl _
  | cons key l ih =>
    intro s
    unfold pubTake
    exact (ih ..).after (.ite ((wf_only ..).after (pubSkip_only ..) rfl) (pubSkip_only ..)) rfl

theorem pubSign_only (s : State) (p : Nat) (c : PubCfg) (v : SvFrame) : Within 34672643 s (s.pubSign p c v).2 := by
  unfold pubSign
  dsimp only
  split
  · exact .refl ..
  · split
    · exact (raiseAt_only ..).after (.on_trip (.refl ..) rfl) rfl
    · split
      · dsimp only
        exact .on_trip ((ctxUse_only ..).sub rfl) rfl
      · exact (ctxUse_only ..).sub rfl

theorem pubSend_only (s : State) (c : PubCfg) (v : SvFrame) : Within 34635779 s (s.pubSend c v) := sendTo_only ..

theorem pubFrameSend_only (s : State) (p : Nat) : Within 35229699 s (s.pubFrameSend p) := by
  unfold pubFrameSend
  dsimp only
  split
  · exact .refl ..
  · split
    · exact .refl ..
    · refine .ite (.refl ..) ?_
      refine .ite ?_ ((persCause_only ..).after ((cnt_only ..).after ((pubTake_only ..).after ((setPub_only ..).sub rfl) rfl) rfl) rfl)
      split
      · exact (pubSend_only ..).after ((roll_only ..).after ((pubSign_only ..).after ((setPub_only ..).after ((pubTake_only ..).after
          ((setPub_only ..).sub rfl) rfl) rfl) rfl) rfl) rfl
      · exact (pubSign_only ..).after ((setPub_only ..).after ((pubTake_only ..).after ((setPub_only ..).sub rfl) rfl) rfl) rfl

theorem hostWords_only (s : State) (off : Nat) (ws : List Word) : Within 1114112 s (s.hostWords off ws) :=
  .eachIn (.refl ..) fun _ _ h => (hostPut_only ..).after ((hostPut_only ..).after h rfl) rfl

theorem pubPop_only (bad l : List Nat) : ∀ s : State, Within 262144 s (s.pubPop bad l).2 := by
  induction l with
  | nil => exact .refl _
  | cons n l ih => exact fun s => (ih ..).after (onTk_only ..) rfl

theorem thicketPubDma_only (s : State) (p : Nat) : Within 1900546 s (s.thicketPubDma p) := by
  unfold thicketPubDma
  dsimp only
  split
  · exact .ite (.refl ..) ((pubAdvance_only ..).after ((hostWords_only ..).after ((pubPop_only ..).after ((setPub_only ..).sub rfl) rfl)
      rfl) rfl)
  · exact .refl ..

end Sys2Proof.Machine.State
end

section
/-! SUPPORT. What each operation of Machine/Sec.lean may change (Laws/Within.lean). -/

namespace Sys2Proof.Machine.State

theorem blow_only (s : State) (f : Nat) (l : List Nat) : Within 2097152 s (s.blow f l) := by
  refine .on_sec (.refl ..) rfl fun g b hb => ?_
  rw [Tab.get_put]
  split
  · next e => subst e; exact List.mem_append_left _ hb
  · exact hb

theorem secRequest_in {m : Nat} {b s : State} {ch ty : Nat} {go : State → State} (hs : Sub 1048576 m) (h : Within m b s)
    (hgo : ∀ t, Within m b t → Within m b (go t)) : Within m b (s.secRequest ch ty go) :=
  request_in h fun t ht => .ite (hgo t ht) ((reply_only ..).after ht hs)

theorem svnCommit_only (s : State) (ch : Nat) (w0 : Word) : Within 36700163 s (s.svnCommit ch w0) :=
  secRequest_in rfl (.refl ..) fun _ h => .ite ((reply_only ..).after h rfl) (.ite ((reply_only ..).after h rfl) ((reply_only ..).after
    ((raise_only ..).after ((blow_only ..).after h rfl) rfl) rfl))

theorem fuseProg_only (s : State) (ch field : Nat) (bits : List Octet) (stuck : Option Nat) :
    Within 36700163 s (s.fuseProg ch field bits stuck) :=
  secRequest_in rfl (.refl ..) fun _ h => .ite ((reply_only ..).after h rfl) (.ite ((reply_only ..).after h rfl) (.ite
    ((reply_only ..).after h rfl) (.ite ((reply_only ..).after ((raise_only ..).after ((blow_only ..).after h rfl) rfl) rfl)
    ((reply_only ..).after ((blow_only ..).after h rfl) rfl))))

theorem newPubKey_only (s : State) (k : Nat) : Within 34607123 s (s.newPubKey k) := (setAlarm_only ..).after (.on_trip (.refl ..) rfl) rfl

theorem storeKey_only (s : State) (k : Nat) (b : Key) : Within 36704275 s (s.storeKey k b) :=
  (raiseAt_only ..).after ((newPubKey_only ..).after (.on_sec_mram (.refl ..) rfl rfl (fun _ _ h => h) id) rfl) rfl

theorem keyInstall_only (s : State) (ch : Nat) (slot : Octet) (attr : BitVec 24) (w1 : Word) (key : List Octet) :
    Within 36704275 s (s.keyInstall ch slot attr w1 key) := by
  unfold keyInstall
  dsimp only
  refine secRequest_in rfl (.refl ..) fun _ h => ?_
  refine .ite ((reply_only ..).after h rfl) ?_
  refine .ite ((reply_only ..).after h rfl) ?_
  refine .ite ((reply_only ..).after h rfl) ?_
  refine .ite ((reply_only ..).after h rfl) ?_
  split
  · exact (reply_only ..).after h rfl
  · exact (reply_only ..).after ((storeKey_only ..).after h rfl) rfl

theorem clearSlot_only (s : State) (k : Nat) : Within 36765699 s (s.clearSlot k) := by
  refine (raiseAt_only ..).after (.on_eng_sec_mram (.refl ..) rfl rfl rfl (fun h => ?_) (fun _ _ h => h) id) rfl
  rw [List.all_map]
  exact h

theorem keyErase_only (s : State) (ch : Nat) (w0 : Word) : Within 36765699 s (s.keyErase ch w0) :=
  secRequest_in rfl (.refl ..) fun _ h => .ite ((reply_only ..).after h rfl) (.ite ((reply_only ..).after h rfl) (.ite
    ((reply_only ..).after h rfl) ((reply_only ..).after ((clearSlot_only ..).after h rfl) rfl)))

theorem keyInfo_only (s : State) (ch : Nat) (w0 : Word) : Within 1048576 s (s.keyInfo ch w0) :=
  secRequest_in rfl (.refl ..) fun _ h => .ite ((reply_only ..).after h rfl) ((reply_only ..).after h rfl)

theorem txAnWrite_only (s : State) (fn u : Nat) (val : Word) : Within 2 s (s.txAnWrite fn u val) := .ite (wr_only ..) (.refl ..)

theorem trngHealthFail_only (s : State) : Within 36700179 s (s.trngHealthFail) :=
  (setAlarm_only ..).after ((raise_only ..).after (.on_sec (.refl ..) rfl (fun _ _ h => h)) rfl) rfl

theorem trngRecover_only (s : State) (healthy : Nat) : Within 36700179 s (s.trngRecover healthy) :=
  .ite (.refl ..) ((setAlarm_only ..).after (.on_sec (.refl ..) rfl (fun _ _ h => h)) rfl)

theorem tapClock_only (s : State) (x : TapIn) : Within 2097152 s (s.tapClock x) := by
  unfold tapClock
  dsimp only
  (repeat' split) <;> exact .on_sec (.refl ..) rfl (fun _ _ h => h)

theorem challenge_only (s : State) : Within 2097152 s (s.challenge) := .ite (.refl ..) (.on_sec (.refl ..) rfl (fun _ _ h => h))

theorem unlock_only (s : State) (k : Nat) (pub sig : List Octet) : Within 36700179 s (s.unlock k pub sig) := by
  unfold unlock
  dsimp only
  exact .ite ((raise_only ..).after ((setAlarm_only ..).after (.on_sec (.refl ..) rfl (fun _ _ h => h)) rfl) rfl) (.on_sec (.refl ..) rfl
    (fun _ _ h => h))

theorem debugUnlock_only (s : State) (x : Jtag) : Within 36700179 s (s.debugUnlock x) := by
  unfold debugUnlock
  dsimp only
  refine .ite (.eachIn (.refl ..) fun _ _ h => (tapClock_only ..).after h rfl) ?_
  split
  · exact .eachIn (.refl ..) fun _ _ h => (tapClock_only ..).after h rfl
  · exact (challenge_only ..).after (.eachIn (.refl ..) fun _ _ h => (tapClock_only ..).after h rfl) rfl
  · exact (unlock_only ..).after (.eachIn (.refl ..) fun _ _ h => (tapClock_only ..).after h rfl) rfl

end Sys2Proof.Machine.State
end

section
/-! SUPPORT. What each operation of the host's bus and memory may change (Laws/Within.lean). -/

namespace Sys2Proof.Machine.State

theorem enableFn_only (s : State) (t : Nat) : Within 1048578 s (s.enableFn t) :=
  .ite (.refl ..) ((wb_only ..).after (.on_host (.refl ..) rfl id) rfl)

theorem disableFn_only (s : State) (t : Nat) : Within 1048578 s (s.disableFn t) := (wb_only ..).after (.on_host (.refl ..) rfl id) rfl

theorem hostLinkUp_only (s : State) (port rate width : Nat) : Within 34603011 s (s.hostLinkUp port rate width) :=
  .ite (.refl ..) (.ite_then ((raiseAt_only ..).after ((wf_only ..).after ((wf_only ..).after ((wb_only ..).sub rfl) rfl) rfl) rfl) fun h1
    => (enableFn_only ..).after h1 rfl)

theorem perstRelease_only (s : State) (port : Nat) : Within 1048576 s (s.perstRelease port) :=
  .ite (.refl ..) (.on_host (.refl ..) rfl id)

theorem mbDenied_only (s : State) (ch : Nat) : Within 34603011 s (s.mbDenied ch) := (raiseAt_only ..).after ((wb_only ..).sub rfl) rfl

theorem mbDead_only (s : State) (ch : Nat) : Within 34603011 s (s.mbDead ch) :=
  .ite (.refl ..) ((raiseAt_only ..).after ((wb_only ..).sub rfl) rfl)

theorem tdWrite_in {m : Nat} {b s : State} {mid ch : Nat} {go : State → State} (hs : Sub 34603011 m) (h : Within m b s)
    (hgo : ∀ t, Within m b t → Within m b (go t)) : Within m b (s.tdWrite mid ch go) :=
  .ite h (.ite ((mbDenied_only ..).after h hs) (.ite ((mbDead_only ..).after h hs)
    (.ite ((wb_only ..).after h (.trans (by decide) hs)) (hgo s h))))

theorem tdCtlWrite_only (s : State) (mid ch : Nat) (val : Word) : Within 34603011 s (s.tdCtlWrite mid ch val) :=
  tdWrite_in rfl (.refl ..) fun _ h => (wb_only ..).after ((wr_only ..).after h rfl) rfl

theorem slotRead_in {m : Nat} {b s : State} {mid ch lane size : Nat} {dead : Bool} {v : Word} {go : State → State}
    (hs : Sub 34603019 m) (h : Within m b s) (hgo : ∀ t, Within m b t → Within m b (go t)) :
    Within m b (s.slotRead mid ch lane size dead v go) := by
  have bus : Sub 8 m := .trans (by decide) hs
  exact .ite (.ite ((unreached_only ..).after h bus) ((refuseBus_only ..).after h bus))
    (.ite ((refuseBus_only ..).after ((mbDenied_only ..).after h (.trans (by decide) hs)) bus)
      (.ite ((refuseBus_only ..).after h bus) ((answer_only ..).after (hgo s h) bus)))

theorem takeFd_only (s : State) (mid ch lane size : Nat) : Within 34603019 s (s.takeFd mid ch lane size) :=
  slotRead_in rfl (.refl ..) fun _ h => (wb_only ..).after h rfl

theorem tdClear_only (s : State) (ch : Nat) : Within 1048578 s (s.tdClear ch) := by
  unfold tdClear
  dsimp only
  split
  · exact .ite_then ((wb_only ..).sub rfl) fun h1 => (doorbell_only ..).after h1 rfl
  · exact (wb_only ..).sub rfl

theorem dispatchReq_only (s : State) (ch : Nat) (ctl : Word) : Within 1048576 s (s.dispatchReq ch ctl) := by
  unfold dispatchReq
  dsimp only
  split
  · refine (reply_only ..).after ?_ rfl
    split <;> exact .on_host (.refl ..) rfl id
  · refine .ite ?_ ?_
    · refine (reply_only ..).after ?_ rfl
      split <;> exact .on_host (.refl ..) rfl id
    · refine .ite ?_ ?_
      · refine (reply_only ..).after ?_ rfl
        split <;> exact .on_host (.refl ..) rfl id
      · refine .ite ?_ ?_
        · refine (reply_only ..).after ?_ rfl
          split <;> exact .on_host (.refl ..) rfl id
        · split <;> exact .on_host (.refl ..) rfl id

theorem tdTake_only (s : State) (ch : Nat) : Within 1048578 s (s.tdTake ch) :=
  .ite (.refl ..) (.ite_else (tdClear_only ..) fun h1 => .ite (.refl ..) ((dispatchReq_only ..).after h1 rfl))

theorem ping_only (s : State) (ch : Nat) (given : List Octet) : Within 1048576 s (s.ping ch given) :=
  request_in (.refl ..) fun _ h => .ite ((reply_only ..).after h rfl) ((replyLen_only ..).after h rfl)

theorem ptpTxSet_only (s : State) (ch p : Nat) (content : List Word) : Within 1048640 s (s.ptpTxSet ch p content) :=
  request_in (.refl ..) fun _ h => .ite ((reply_only ..).after h rfl) (.ite ((reply_only ..).after h rfl)
    ((reply_only ..).after (.on_time h rfl) rfl))

theorem fdFill_only (s : State) (ch : Nat) (m : Msg) : Within 1114114 s (s.fdFill ch m) := by
  unfold fdFill
  dsimp only
  refine (wb_only ..).after ((wr_only ..).after ((wr_only ..).after ((wr_only ..).after ((wr_only ..).after ?_ rfl) rfl) rfl) rfl) rfl
  exact .each (.on_host (.refl ..) rfl (putBytes_wf _ _ _)) fun _ _ h => (killResv_only ..).after h rfl

theorem fdPost_only (s : State) (ch : Nat) : Within 1114114 s (s.fdPost ch) := by
  unfold fdPost
  dsimp only
  split
  · refine .ite (.refl ..) ?_
    split
    · refine (doorbell_only ..).after ?_ rfl
      refine (fdFill_only ..).after ?_ rfl
      split <;> exact .on_host (.refl ..) rfl id
    · refine (fdFill_only ..).after ?_ rfl
      split <;> exact .on_host (.refl ..) rfl id
  · exact .refl ..

theorem bankPut_only (s : State) (a : Nat) (b : Octet) : Within 1114112 s (s.bankPut a b) :=
  (killResv_only ..).after (.on_host (.refl ..) rfl (putBytes_wf _ _ _)) rfl

theorem barDenied_only (s : State) (fn : Nat) : Within 34603011 s (s.barDenied fn) := (raiseAt_only ..).after ((wb_only ..).sub rfl) rfl

theorem hostBankAccess_only (s : State) (fn off : Nat) (wr : Bool) (be : List Bool) (data : List Octet) :
    Within 34668555 s (s.hostBankAccess fn off wr be data) :=
  .ite ((unreached_only ..).sub rfl) (.ite (.on_bus (.eachIn (.ite ((barDenied_only ..).sub rfl) (.refl ..)) fun _ _ h =>
    (bankPut_only ..).after h rfl) rfl) (.on_bus (.ite ((barDenied_only ..).sub rfl) (.refl ..)) rfl))

theorem vecGo_only (s : State) (t v : Nat) : Within 1048578 s (s.vecGo t v) := (postVec_only ..).after (.on_host (.refl ..) rfl id) rfl

theorem startHoldoff_only (s : State) (t : Nat) : Within 1048576 s (s.startHoldoff t) := .ite (.refl ..) (.on_host (.refl ..) rfl id)

theorem msixPost_only (s : State) (fn vec : Nat) : Within 1048578 s (s.msixPost fn vec) :=
  .ite (.refl ..) (.ite_else ((vecGo_only ..).after (.on_host (.refl ..) rfl id) rfl) fun h1 => (startHoldoff_only ..).after h1 rfl)

theorem holdoffEnd_only (s : State) (fn : Nat) : Within 1048578 s (s.holdoffEnd fn) := by
  unfold holdoffEnd
  dsimp only
  split
  · exact .ite (.refl ..) (.ite_then (.eachIn (.on_host (.refl ..) rfl id) fun _ _ h => (vecGo_only ..).after h rfl) fun h1 =>
      (startHoldoff_only ..).after h1 rfl)
  · exact .refl ..

theorem postPending_only (s : State) (fn v : Nat) : Within 1048578 s (s.postPending fn v) :=
  .ite (.ite_else ((postVec_only ..).after ((wb_only ..).sub rfl) rfl) fun h1 => (startHoldoff_only ..).after h1 rfl) (.refl ..)

theorem vectorUnmask_only (s : State) (fn vec : Nat) (all : Bool) : Within 1048578 s (s.vectorUnmask fn vec all) :=
  .ite (.refl ..) (.ite (.each (.on_host (.refl ..) rfl id) fun _ _ h => (postPending_only ..).after h rfl) (.ite (.refl ..)
    ((postPending_only ..).after ((wb_only ..).sub rfl) rfl)))

theorem showSlices_only (s : State) (t : Nat) : Within 514 s (s.showSlices t) :=
  .eachIn (.refl ..) fun _ _ h => .ite_then ((wb_only ..).after h rfl) fun h1 => .on_slice h1 rfl

theorem showPause_only (s : State) (port : Nat) (on : Bool) : Within 514 s (s.showPause port on) :=
  .eachIn ((wb_only ..).sub rfl) fun _ _ h => .ite ((showSlices_only ..).after ((wb_only ..).after h rfl) rfl) h

theorem dmaPauseStart_only (s : State) (port : Nat) (linkLoss : Bool) : Within 34603523 s (s.dmaPauseStart port linkLoss) := by
  unfold dmaPauseStart
  refine .ite (.refl ..) ?_
  split
  · exact .ite (.on_host (.refl ..) rfl id) (.refl ..)
  · exact (raiseAt_only ..).after ((showPause_only ..).after (.on_host (.refl ..) rfl id) rfl) rfl

theorem dmaPauseEnd_only (s : State) (port : Nat) : Within 34603523 s (s.dmaPauseEnd port) :=
  .ite (.refl ..) ((raiseAt_only ..).after ((showPause_only ..).after (.on_host (.refl ..) rfl id) rfl) rfl)

theorem respLost_only (s : State) (who : Nat) : Within 34619395 s (s.respLost who) := by
  unfold respLost
  dsimp only
  split
  · exact .ite_then ((cnt_only ..).after (.on_bridge (.refl ..) rfl id id) rfl) fun h1 => (raiseAt_only ..).after h1 rfl
  · exact .refl ..

theorem dmaFault_only (s : State) (fn : Nat) (kind : DmaKind) : Within 34619907 s (s.dmaFault fn kind) := by
  unfold dmaFault
  dsimp only
  refine .ite (.refl ..) ?_
  split
  · exact .ite_then ((raiseAt_only ..).after ((wb_only ..).sub rfl) rfl) fun h1 => (dropBlock_only ..).after h1 rfl
  · exact (respLost_only ..).after ((raiseAt_only ..).after ((wb_only ..).sub rfl) rfl) rfl
  · exact .ite_then ((raiseAt_only ..).after ((wb_only ..).sub rfl) rfl) fun h2 => (reply_only ..).after h2 rfl

theorem drainMb_only (s : State) (t : Nat) : Within 5242880 s (s.drainMb t) := by
  unfold drainMb
  dsimp only
  (repeat' split) <;> exact .on_host_upd (.refl ..) rfl rfl id id

theorem stopSlices_only (s : State) (t : Nat) : Within 512 s (s.stopSlices t) := .on_slice (.refl ..) rfl

theorem clearVecs_only (s : State) (t : Nat) : Within 1048576 s (s.clearVecs t) := .on_host (.refl ..) rfl id

theorem restorePage_only (s : State) (t cause : Nat) : Within 2 s (s.restorePage t cause) := (wr_only ..).after (restoreRegs_only ..) rfl

theorem flr_only (s : State) (t cause lapse : Nat) : Within 38817283 s (s.flr t cause lapse) :=
  .on_lease_host (.ite_then ((restorePage_only ..).after ((bridgeReset_only ..).after ((clearVecs_only ..).after
    ((stopSlices_only ..).after ((drainMb_only ..).sub rfl) rfl) rfl) rfl) rfl) fun h1 => (lapse_only ..).after h1 rfl) rfl rfl id

theorem functionLevelReset_only (s : State) (fn : Nat) : Within 38817283 s (s.functionLevelReset fn) := .ite (flr_only ..) (.refl ..)

theorem functionResetComplete_only (s : State) (fn : Nat) : Within 34603011 s (s.functionResetComplete fn) := by
  unfold functionResetComplete
  dsimp only
  split
  · exact (raiseAt_only ..).after ((wf_only ..).after (.ite_then (.on_host (.refl ..) rfl id) fun h1 => (wb_only ..).after h1 rfl) rfl)
      rfl
  · exact .refl ..

theorem portReset_only (s : State) (port cause : Nat) : Within 38817283 s (s.portReset port cause) :=
  (raiseAt_only ..).after (.ite_then ((wf_only ..).after ((wb_only ..).after (.eachIn (.eachIn ((dmaPauseEnd_only ..).sub rfl) fun _ _ h
    => (flr_only ..).after h rfl) fun _ _ h => (disableFn_only ..).after h rfl) rfl) rfl) fun h1 => (raiseAt_only ..).after h1 rfl) rfl

theorem hostPortReset_only (s : State) (port : Nat) (cause : PortReset) : Within 38817283 s (s.hostPortReset port cause) := by
  unfold hostPortReset
  refine .ite (.refl ..) ?_
  split
  · exact portReset_only ..
  · exact (portReset_only ..).after (.on_host (.refl ..) rfl id) rfl

theorem linkLossTimeout_only (s : State) (port : Nat) : Within 38817283 s (s.linkLossTimeout port) := by
  unfold linkLossTimeout
  split
  · exact .ite (.refl ..) (portReset_only ..)
  · exact .refl ..

theorem numvfsWrite_only (s : State) (port : Nat) (enable : Bool) (num : Nat) : Within 38817283 s (s.numvfsWrite port enable num) :=
  .ite (.refl ..) (.ite_else (.eachIn (.eachIn ((wf_only ..).sub rfl) fun _ _ h => (disableFn_only ..).after ((flr_only ..).after h rfl)
    rfl) fun _ _ h => (enableFn_only ..).after h rfl) fun h1 => (raiseAt_only ..).after h1 rfl)

theorem d3hotEntry_only (s : State) (fn : Nat) : Within 1049090 s (s.d3hotEntry fn) :=
  .ite (.refl ..) ((showSlices_only ..).after ((wb_only ..).after (.on_host (.refl ..) rfl id) rfl) rfl)

theorem d0Return_only (s : State) (fn : Nat) (noSoftReset : Bool) : Within 38817283 s (s.d0Return fn noSoftReset) :=
  .ite (.refl ..) (.ite_else ((showSlices_only ..).after ((wb_only ..).after (.on_host (.refl ..) rfl id) rfl) rfl) fun h1 =>
    (flr_only ..).after h1 rfl)

end Sys2Proof.Machine.State
end

section
/-! SUPPORT. What each operation of Machine/Power.lean may change (Laws/Within.lean). -/

namespace Sys2Proof.Machine.State

theorem turn_only (s : State) (d : DevState) : Within 34689299 s (s.turn d) :=
  .ite_then ((toState_only ..).sub rfl) fun h1 => (endSim_only ..).after ((endSim_only ..).after h1 rfl) rfl

theorem supplyWarn_only (s : State) (i : Nat) : Within 34603011 s (s.supplyWarn i) :=
  .ite (.refl ..) ((raise_only ..).after ((wb_only ..).sub rfl) rfl)

theorem restorePrev_only (s : State) : Within 4194304 s (s.restorePrev) := writeBoot_only ..

theorem trialStart_only (s : State) : Within 38797315 s (s.trialStart) :=
  .ite (.refl ..) (.ite ((raise_only ..).after ((writeBoot_only ..).sub rfl) rfl) ((writeBoot_only ..).sub rfl))

theorem resetEnds_only (s : State) : Within 38797363 s (s.resetEnds) :=
  (setAlarm_only ..).after ((trialStart_only ..).after ((readBoot_only ..).after (.on_dev_arb (.refl ..) rfl rfl) rfl) rfl) rfl

theorem resetRelease_only (s : State) : Within 38797363 s (s.resetRelease) := .ite (.refl ..) (resetEnds_only ..)

theorem stormClear_only (s : State) : Within 16 s (s.stormClear) := by
  unfold stormClear
  split
  · exact .ite (.on_dev (.refl ..) rfl) (.refl ..)
  · exact .on_dev (.refl ..) rfl

theorem coreNow_only (s : State) (ws : List Wing) (cause : Nat) : Within 34672691 s (s.coreNow ws cause) := by
  unfold coreNow
  dsimp only
  split
  · exact .ite_then (coreReset0_only ..) fun h1 => (peerReset_only ..).after h1 rfl
  · exact coreReset0_only ..

theorem stewardWatchdog_only (s : State) (w : Wing) : Within 34672691 s (s.stewardWatchdog w) := .ite (coreNow_only ..) (.refl ..)

theorem enterStandby_only (s : State) : Within 34689299 s (s.enterStandby) :=
  .on_dev_host ((wb_only ..).after (.each (turn_only ..) fun _ _ h => (wb_only ..).after h rfl) rfl) rfl rfl id

theorem standbyDone_only (s : State) : Within 34689299 s (s.standbyDone) := .ite (enterStandby_only ..) (.refl ..)

theorem caravanDepart_only (s : State) (r : Nat) : Within 34697491 s (s.caravanDepart r) :=
  (standbyDone_only ..).after ((cqDepart_only ..).sub rfl) rfl

theorem showToll_only (s : State) : Within 2 s (s.showToll) := .each (.refl ..) fun _ _ h => .ite ((wb_only ..).after h rfl) h

theorem tollLog_only (s : State) (taken : Bool) (st : Nat) : Within 42991619 s (s.tollLog taken st) :=
  (raise_only ..).after (.on_toll ((wr_only ..).sub rfl) rfl) rfl

theorem takeStep_only (s : State) (st : Nat) : Within 42991875 s (s.takeStep st) :=
  (tollLog_only ..).after ((showToll_only ..).after (.on_toll (.ite ((degradeStep_only ..).sub rfl) (.ite ((degradeStep_only ..).sub rfl)
    (.refl ..))) rfl) rfl) rfl

theorem dropStep_only (s : State) : Within 42991875 s (s.dropStep) := by
  unfold dropStep
  dsimp only
  split
  · refine (tollLog_only ..).after ?_ rfl
    refine (showToll_only ..).after ?_ rfl
    split
    · exact .on_toll ((restoreStep_only ..).sub rfl) rfl
    · split
      · exact .on_toll ((restoreStep_only ..).sub rfl) rfl
      · exact .on_toll (.refl ..) rfl
  · exact .refl ..

theorem takeAll_only (s : State) : Within 42991875 s (s.takeAll) := by
  unfold takeAll
  refine .times (fun _ h => ?_) _ _ (.refl ..)
  split
  · exact (takeStep_only ..).after h rfl
  · exact h

theorem tollMeasure_only (s : State) (mw : Nat) : Within 8388610 s (s.tollMeasure mw) :=
  .ite (.refl ..) (.ite_else (.on_toll ((wr_only ..).after (.on_toll (.refl ..) rfl) rfl) rfl) fun h1 => (wb_only ..).after h1 rfl)

theorem tollThrottleStep_only (s : State) : Within 42991875 s (s.tollThrottleStep) := by
  unfold tollThrottleStep
  refine .ite (.refl ..) ?_
  split
  · exact (takeStep_only ..).after (.on_toll (.refl ..) rfl) rfl
  · exact .refl ..

theorem tollReleaseStep_only (s : State) : Within 42991875 s (s.tollReleaseStep) :=
  .ite (.refl ..) ((dropStep_only ..).after (.on_toll (.refl ..) rfl) rfl)

theorem tollCapUnmet_only (s : State) : Within 34603011 s (s.tollCapUnmet) := by
  unfold tollCapUnmet
  split
  · exact .ite (.refl ..) ((raise_only ..).after ((wb_only ..).sub rfl) rfl)
  · exact .refl ..

theorem sampleE_only (s : State) (uv : Nat) : Within 2 s (s.sampleE uv) := wr_only ..

theorem runTask_only (s : State) (k : Nat) : Within 34615315 s (s.runTask k) := by
  unfold runTask
  dsimp only
  split
  · exact .each (.refl ..) fun _ _ h => .ite h ((setRg_only ..).after h rfl)
  · refine .eachIn (.refl ..) fun _ _ h => ?_
    split
    · exact .ite h ((changePub_only ..).after h rfl)
    · exact h
  · exact .on_mram (.refl ..) rfl id
  · exact .refl ..

theorem pfRecord_only (s : State) : Within 33554432 s (s.pfRecord) := .on_mram (.refl ..) rfl id

theorem tryTask_only (s : State) (k uv : Nat) : Within 43003923 s (s.tryTask k uv) :=
  .ite (.on_toll (.refl ..) rfl) (.ite ((runTask_only ..).after (.on_toll (.refl ..) rfl) rfl) ((pfRecord_only ..).after (.on_toll
    (.refl ..) rfl) rfl))

theorem holdupSample_only (s : State) (uv : Nat) : Within 43003923 s (s.holdupSample uv) :=
  .ite (.ite_then ((sampleE_only ..).sub rfl) fun h1 => (tryTask_only ..).after h1 rfl) (.ite ((raiseIf_only ..).after ((wb_only ..).after
    ((sampleE_only ..).sub rfl) rfl) rfl) (.refl ..))

theorem vinOkLow_only (s : State) (lowNs : Nat) : Within 43077907 s (s.vinOkLow lowNs) := by
  unfold vinOkLow
  dsimp only
  split
  · exact .refl ..
  · exact .refl ..
  · exact .on_dev (.refl ..) rfl
  · exact .on_dev (.refl ..) rfl
  · exact .ite (.refl ..) ((takeAll_only ..).after ((turn_only ..).after (.on_dev_toll (.refl ..) rfl rfl) rfl) rfl)

theorem mramUserWrite_only (s : State) (fn off : Nat) (data : List Octet) : Within 33554432 s (s.mramUserWrite fn off data) :=
  .ite (.refl ..) (.eachIn (.refl ..) fun _ _ h => .on_mram h rfl (putBytes_wf _ _ _))

end Sys2Proof.Machine.State
end

section
/-! SUPPORT. What each operation of Machine/Start.lean may change (Laws/Within.lean). -/

namespace Sys2Proof.Machine.State

theorem pfReport_only (s : State) : Within 34603011 s (s.pfReport) := by
  unfold pfReport
  split
  · exact (raiseIf_only ..).after ((wr_only ..).after (.on_mram (.refl ..) rfl id) rfl) rfl
  · exact .refl ..

theorem hostUp_only (s : State) (ports : List Nat) : Within 34603027 s (s.hostUp ports) :=
  .ite_then (.ite_then ((pfReport_only ..).after (.eachIn ((wb_only ..).sub rfl) fun _ _ h => (enableFn_only ..).after h rfl) rfl) fun h1
    => (raise_only ..).after (.on_dev h1 rfl) rfl) fun h2 => (raise_only ..).after (.on_dev h2 rfl) rfl

theorem barePf_only (s : State) (n : Nat) : Within 2 s (s.barePf n) := .ite (.refl ..) ((wr_only ..).after (wr_only ..) rfl)

theorem ringTalk_only (r : Nat) (s : State) : Within 34611219 s (State.ringTalk r s) :=
  .ite (.refl ..) (.ite_else (ringBegin_only ..) fun h1 => (setRingState_only ..).after h1 rfl)

theorem safeTalk_only (s : State) (status : Nat) : Within 34697491 s (s.safeTalk status) := by
  unfold safeTalk
  dsimp only
  exact (hostUp_only ..).after (.each (.each (.eachIn (.each ((turn_only ..).after ((wf_only ..).sub rfl) rfl) fun _ _ h =>
    (resetEngine_only ..).after h rfl) fun _ _ h => (wb_only ..).after ((wb_only ..).after h rfl) rfl) fun _ _ h =>
    (ringTalk_only ..).after h rfl) fun _ _ h => (barePf_only ..).after h rfl) rfl

theorem fwRuns_only (s : State) (w : Wing) (slot : Nat) : Within 2097152 s (s.fwRuns w slot) := .on_sec (.refl ..) rfl (fun _ _ h => h)

theorem bootSlot_only (s : State) (w : Wing) : Within 40894467 s (s.bootSlot w).2 := by
  refine of_body (fun f => Within 40894467 s (f s w).2) (f := bootSlot) (by delta bootSlot; rfl) ?_
  obtain ⟨fault, e⟩ : ∃ f, f = s.fwFault := ⟨_, rfl⟩
  beta_reduce
  rw [← e]
  have h (c : Nat) (k : Bool) : Within 40894467 s (raiseIf { s with mram.bootFail := some (1, c) } k 520) :=
    (raiseIf_only ..).after (.on_mram (.refl ..) rfl id) rfl
  dsimp only
  split
  · exact (fwRuns_only ..).sub rfl
  · split
    · exact (fwRuns_only ..).after ((raise_only ..).after ((writeBoot_only ..).after (h _ _) rfl) rfl) rfl
    · exact h _ _

theorem bootComplete_only (s : State) (flashE flashW held : Bool) : Within 40988947 s (s.bootComplete flashE flashW held) := by
  unfold bootComplete
  obtain ⟨slot, e⟩ : ∃ f, f = bootSlot := ⟨_, rfl⟩
  have boot (s : State) (w : Wing) : Within 40988947 s (slot s w).2 := e ▸ (bootSlot_only s w).sub rfl
  rw [← e]
  have h1 (d : Dev) (v : Nat) : Within 40988947 s ({ (slot (slot s .east).2 .west).2 with dev := d }.wf (Reg.BKUP 0) 16 8 v) :=
    (wf_only ..).after (.on_dev ((boot _ .west).after (boot s .east) rfl) rfl) rfl
  exact .ite (.refl ..) (.ite ((safeTalk_only ..).after (.on_dev (.refl ..) rfl) rfl)
    (.ite ((safeTalk_only ..).after (h1 _ _) rfl) (.ite ((safeTalk_only ..).after (h1 _ _) rfl)
      ((turn_only ..).after (.on_dev (h1 _ _) rfl) rfl))))

theorem manRegs_only (s : State) (m : Manifest) (hit : Nat → Bool) : Within 2 s (s.manRegs m hit) :=
  .eachIn (.refl ..) fun _ _ h => .ite ((wr_only ..).after h rfl) h

theorem startDr_only (s : State) (w : Wing) : Within 2 s (s.startDr w) :=
  .eachIn (.refl ..) fun _ _ h => (wf_only ..).after ((wf_only ..).after h rfl) rfl

theorem startWing_only (w : Wing) (s : State) : Within 34674051 s (State.startWing w s) :=
  (intakeStat_only ..).after ((wallStat_only ..).after ((driveLines_only ..).after (.each (.each ((showGroups_only ..).after
    ((wr_only ..).after ((wf_only ..).after ((wb_only ..).after ((wb_only ..).after ((wb_only ..).after (.each (.on_intake_wall_hedge
    ((startDr_only ..).sub rfl) rfl rfl rfl) fun _ _ h => (startStream_only ..).after h rfl) rfl) rfl) rfl) rfl) rfl) rfl) fun _ _ h =>
    (showFreq_only ..).after h rfl) fun _ _ h => (showElem_only ..).after h rfl) rfl) rfl) rfl

theorem putElems_only (s : State) (w : Wing) (i : SettingsImage) : Within 2 s (s.putElems w i) :=
  .eachIn (.refl ..) fun _ _ h => (wr_only ..).after ((wr_only ..).after ((wr_only ..).after ((wr_only ..).after h rfl) rfl) rfl) rfl

theorem putDr_only (s : State) (w : Wing) (i : SettingsImage) : Within 2 s (s.putDr w i) :=
  .eachIn (.refl ..) fun _ _ h => .ite ((wf_only ..).after h rfl) h

theorem putValues_only (s : State) (w : Wing) (i : SettingsImage) : Within 2 s (s.putValues w i) :=
  .ite_then (.ite_then (.ite (wf_only ..) (.refl ..)) fun h1 => (wf_only ..).after h1 rfl) fun h2 => (wf_only ..).after h2 rfl

theorem putSettings_only (s : State) (w : Wing) (i : SettingsImage) : Within 2 s (s.putSettings w i) :=
  (putValues_only ..).after ((putDr_only ..).after (putElems_only ..) rfl) rfl

theorem useHalf_only (s : State) (half : Nat) : Within 40894483 s (s.useHalf half) := by
  unfold useHalf
  dsimp only
  refine (setAlarm_only ..).after ?_ rfl
  split <;> exact .on_sec_upd ((wf_only ..).sub rfl) rfl rfl (fun _ _ h => h) id

theorem loadAll_only (s : State) (l : List Nat) : Within 36786195 s (s.loadAll l) := by
  unfold loadAll
  refine .eachIn (.refl ..) fun _ _ h => ?_
  split
  · exact (loadEngine_only ..).after h rfl
  · exact h

theorem clustersRun_only (s : State) (l : List Nat) : Within 2 s (s.clustersRun l) :=
  .eachIn (.refl ..) fun _ _ h => (wf_only ..).after h rfl

theorem thicketsRun_only (s : State) (w : Wing) : Within 2097154 s (s.thicketsRun w) := by
  unfold thicketsRun
  generalize s.thicketSvn (s.fwSlot w) = svn
  refine .eachIn ?_ fun _ _ h => (wb_only ..).after h rfl
  cases svn with
  | none => exact .refl ..
  | some v => exact .ite (.on_sec (.refl ..) rfl fun _ _ h => h) (.refl ..)

theorem trialClear_only (s : State) : Within 4194304 s (s.trialClear) := .ite (writeBoot_only ..) (.refl ..)

theorem diagLine_only (s : State) : Within 16 s (s.diagLine) := .ite (.refl ..) (.on_dev (.refl ..) rfl)

end Sys2Proof.Machine.State
end

section
/-! SUPPORT. What each operation of Machine/Steward.lean may change (Laws/Within.lean). -/

namespace Sys2Proof.Machine.State

theorem applyAct_only (s : State) (a : Act) : Within 34627907 s (s.applyAct a) := by
  unfold applyAct
  split
  · exact (applyDecision_only ..).sub rfl
  · exact (stewardWr_only ..).sub rfl
  · exact (commitTriple_only ..).sub rfl
  · exact (rateNow_only ..).sub rfl
  · exact (stepBoth_only ..).sub rfl
  · exact (commitEpoch_only ..).sub rfl

theorem applyActs_only (s : State) (l : List Mirror) : Within 34627907 s (s.applyActs l) :=
  .eachIn (.refl ..) fun _ _ h => (applyAct_only ..).after h rfl

theorem deputyAck_only (s : State) (received : Bool) : Within 34627939 s (s.deputyAck received) := by
  unfold deputyAck
  refine .ite (.refl ..) ?_
  split
  · exact .ite ((applyAct_only ..).after (.on_arb (.refl ..) rfl) rfl) (.on_arb (.refl ..) rfl)
  · exact .refl ..

theorem mirrorAckTimeout_only (s : State) : Within 34627955 s (s.mirrorAckTimeout) := by
  unfold mirrorAckTimeout
  split
  · exact .ite (.refl ..) ((dropDeputy_only ..).after ((applyActs_only ..).after (.on_arb (.refl ..) rfl) rfl) rfl)
  · exact .refl ..

end Sys2Proof.Machine.State
end

section
/-! SUPPORT. What each operation of Machine/Manifest.lean may change (Laws/Within.lean). -/

namespace Sys2Proof.Machine.State

theorem manReply_only (s : State) (ch : Nat) (ws : List Word) : Within 1048578 s (s.manReply ch ws) :=
  (reply_only ..).after ((wf_only ..).sub rfl) rfl

theorem manRequest_in {m : Nat} {b s : State} {ch ty : Nat} {go : State → State} (hs : Sub 1048578 m) (h : Within m b s)
    (hgo : ∀ t, Within m b t → Within m b (go t)) : Within m b (s.manRequest ch ty go) :=
  request_in h fun t ht => .ite ((manReply_only ..).after ht hs) (.ite ((manReply_only ..).after ht hs)
    (.ite ((manReply_only ..).after ht hs) (hgo t ht)))

theorem setVerified_only (s : State) (target slot : Nat) (v : Bool) : Within 4194304 s (s.setVerified target slot v) := by
  unfold setVerified
  split
  · exact writeBoot_only ..
  · exact writeBoot_only ..
  · exact .refl ..

theorem unstage_only (s : State) (target : Nat) : Within 4194304 s (s.unstage target) := .on_upd (.refl ..) rfl id

theorem dropBody_only (s : State) (target slot : Nat) : Within 4194304 s (s.dropBody target slot) := by
  unfold dropBody
  split
  · exact .refl ..
  · exact .on_upd (.refl ..) rfl id
  · exact .on_upd (.refl ..) rfl id

theorem stageOpen_only (s : State) (ch target : Nat) : Within 5242883 s (s.stageOpen ch target) := by
  have open_ {u : State} (x : Option (Nat × Nat × Nat × Nat)) (h : Within 5242883 s u) : Within 5242883 s { u with upd.stage := x } :=
    .on_upd h rfl id
  refine manRequest_in rfl (.refl ..) fun t h => ?_
  obtain ⟨image, e⟩ : ∃ f, f = t.freeImage := ⟨_, rfl⟩
  rw [← e]
  refine .ite ((manReply_only ..).after h rfl) ?_
  split
  · exact (used_only ..).after ((manReply_only ..).after h rfl) rfl
  · exact (manReply_only ..).after (open_ _ ((dropBody_only ..).after ((eraseFlash_only ..).after ((unstage_only ..).after
      ((setVerified_only ..).after h rfl) rfl) rfl) rfl)) rfl

theorem stageWrite_only (s : State) (ch off : Nat) (data : List Octet) (flashOk : Bool) :
    Within 5242882 s (s.stageWrite ch off data flashOk) := by
  refine manRequest_in rfl (.refl ..) fun t h => ?_
  have reply (ws : List Word) : Within 5242882 s (t.manReply ch ws) := (manReply_only ..).after h rfl
  dsimp only
  split
  · exact reply _
  · exact .ite (reply _) (.ite (reply _) ((manReply_only ..).after (.on_upd h rfl (putFlash_wf _ _ _)) rfl))

theorem keepBody_only (s : State) (target k : Nat) (body : ImageBody) : Within 4194304 s (s.keepBody target k body) := by
  unfold keepBody
  split
  · exact .refl ..
  · exact .on_upd (.refl ..) rfl id
  · exact .on_upd (.refl ..) rfl id

theorem stageClose_only (s : State) (ch : Nat) (body : ImageBody) : Within 38797315 s (s.stageClose ch body) := by
  unfold stageClose
  dsimp only
  refine manRequest_in rfl (.refl ..) fun _ h => ?_
  split
  · exact (manReply_only ..).after h rfl
  · split
    · exact (manReply_only ..).after ((raise_only ..).after ((raise_only ..).after (.on_upd h rfl id) rfl) rfl) rfl
    · exact (manReply_only ..).after (.on_upd ((keepBody_only ..).after ((setVerified_only ..).after (.on_upd h rfl id) rfl) rfl) rfl id)
        rfl

theorem abort_only (s : State) (ch : Nat) : Within 5242882 s (s.abort ch) :=
  manRequest_in rfl (.refl ..) fun _ h => .ite ((manReply_only ..).after h rfl) ((manReply_only ..).after (.on_upd h rfl id) rfl)

theorem settingsLoad_only (s : State) (ch : Nat) (flashOk : Bool) : Within 5245954 s (s.settingsLoad ch flashOk) := by
  unfold settingsLoad
  dsimp only
  refine manRequest_in rfl (.refl ..) fun _ h => ?_
  split
  · exact (manReply_only ..).after h rfl
  · exact .ite ((manReply_only ..).after h rfl) (.ite ((manReply_only ..).after h rfl) ((manReply_only ..).after ((unstage_only ..).after
      (.on_lease_upd ((acceptRecs_only ..).after h rfl) rfl rfl id) rfl) rfl))

theorem finishSettings_only (s : State) (i : SettingsImage) : Within 40980755 s (s.finishSettings i) :=
  (useHalf_only ..).after (.on_upd (.eachIn (.eachIn (.eachIn (.refl ..) fun _ _ h => (putValues_only ..).after h rfl) fun _ _ h => .ite
    ((setSect_only ..).after h rfl) h) fun _ _ h => .ite ((toRun_only ..).after h rfl) ((toStop_only ..).after h rfl)) rfl id) rfl

theorem settingsTApply_only (s : State) : Within 40982803 s (s.settingsTApply) := by
  unfold settingsTApply
  dsimp only
  split
  · exact .ite_then ((hedgeTApply_only ..).sub rfl) fun h1 => (finishSettings_only ..).after h1 rfl
  · exact (hedgeTApply_only ..).sub rfl

theorem journalCompact_only (s : State) : Within 4194304 s (s.journalCompact) := by
  unfold journalCompact
  dsimp only
  refine .ite (.refl ..) ?_
  (repeat' split) <;> exact .on_upd ((unstage_only ..).after (eraseFlash_only ..) rfl) rfl id

theorem actPhase_only (s : State) (scope ph : Nat) : Within 4194306 s (s.actPhase scope ph) := .on_upd ((wf_only ..).sub rfl) rfl id

theorem actDone_only (s : State) : Within 38797315 s (s.actDone) := (raise_only ..).after (.on_upd ((wf_only ..).sub rfl) rfl id) rfl

theorem select_only (s : State) (f : Word → Word) : Within 4194304 s (s.select f) :=
  (writeBoot_only ..).after (.on_upd (.refl ..) rfl id) rfl

theorem actCheck_only (s : State) : Within 40894467 s (s.actCheck) := by
  unfold actCheck
  dsimp only
  split
  · exact .ite ((actDone_only ..).after ((clustersRun_only ..).sub rfl) rfl) (.refl ..)
  · exact .ite ((actDone_only ..).after ((thicketsRun_only ..).after ((clustersRun_only ..).sub rfl) rfl) rfl) (.refl ..)
  · exact .refl ..

theorem notePkgFault_only (s : State) (n : Nat) : Within 34603011 s (s.notePkgFault n) := by
  unfold notePkgFault
  split
  · exact imageRefused_only ..
  · exact .refl ..

theorem engineLoad_only (s : State) (n : Nat) (flashOk : Bool) : Within 40980499 s (s.engineLoad n flashOk) := by
  unfold engineLoad
  dsimp only
  refine .ite (.refl ..) ?_
  refine .ite ((actCheck_only ..).after (.ite (.on_upd (.refl ..) rfl id) (.refl ..)) rfl) ?_
  refine (actCheck_only ..).after ?_ rfl
  split
  · exact (loadEngine_only ..).after (.ite (.on_upd (.refl ..) rfl id) (.refl ..)) rfl
  · exact (notePkgFault_only ..).after (.ite (.on_upd (.refl ..) rfl id) (.refl ..)) rfl

theorem activate_in {m : Nat} {b s : State} {ch scope : Nat} {w0 : Word} {go : Word → State → State} (hs : Sub 1048578 m)
    (h : Within m b s) (hgo : ∀ w t, Within m b t → Within m b (go w t)) : Within m b (s.activate ch scope w0 go) :=
  manRequest_in hs h fun t ht => .ite ((manReply_only ..).after ht hs) (.ite ht (hgo _ t ht))

theorem activateCluster_only (s : State) (ch c : Nat) (flashOk : Bool) : Within 40996867 s (s.activateCluster ch c flashOk) := by
  unfold activateCluster
  dsimp only
  refine activate_in rfl (.refl ..) fun _ _ h => ?_
  split
  · with_reducible exact (manReply_only ..).after h rfl
  · with_reducible exact .ite ((manReply_only ..).after h rfl) (.ite ((manReply_only ..).after h rfl) ((actCheck_only ..).after (.on_upd
      ((wf_only ..).after ((wf_only ..).after (.each ((cnt_only ..).after ((flushPort_only ..).after ((wf_only ..).after
      ((manReply_only ..).after ((select_only ..).after h rfl) rfl) rfl) rfl) rfl) fun _ _ h => (resetEngine_only ..).after h rfl) rfl)
      rfl) rfl id) rfl))

theorem activateWing_only (s : State) (ch : Nat) (w : Wing) (flashOk : Bool) : Within 38866995 s (s.activateWing ch w flashOk) := by
  refine activate_in rfl (.refl ..) fun w0 t h => ?_
  have reply (ws : List Word) : Within 38866995 s (t.manReply ch ws) := (manReply_only ..).after h rfl
  dsimp only
  generalize t.stagedSlot 0 = slot
  cases slot with
  | none => exact reply _
  | some k =>
    have h2 (f : Word → Word) (v : Wing) : Within 38866995 s { (((t.select f).manReply ch [0]).actPhase 1 5) with
        upd.actWing := v, upd.loaded := [] } :=
      .on_upd ((actPhase_only ..).after ((manReply_only ..).after ((select_only ..).after h rfl) rfl) rfl) rfl id
    exact .ite (reply _) (.ite (reply _) (.ite (reply _) (.ite (.on_arb (h2 _ _) rfl) ((coreNow_only ..).after (h2 _ _) rfl))))

theorem wingSections_only (s : State) (w : Wing) (m : Manifest) : Within 104158611 s (s.wingSections w m) :=
  (loadAll_only ..).after ((putSettings_only ..).after ((thicketsRun_only ..).after ((startWing_only ..).after (.each (.on_man
    ((manRegs_only ..).after ((restoreRegs_only ..).sub rfl) rfl) rfl) fun _ _ h => (wb_only ..).after ((onTk_only ..).after h rfl) rfl)
    rfl) rfl) rfl) rfl

theorem actFails_only (s : State) (w : Wing) : Within 38868019 s (s.actFails w) :=
  (coreNow_only ..).after ((compareOn_only ..).after ((actDone_only ..).after ((restorePrev_only ..).sub rfl) rfl) rfl) rfl

theorem reloadWing_only (s : State) (w : Wing) : Within 108352915 s (s.reloadWing w) := by
  unfold reloadWing
  dsimp only
  refine .ite (.refl ..) ?_
  split
  · exact .ite ((actCheck_only ..).after (.each (.refl ..) fun _ _ h => (wf_only ..).after h rfl) rfl) ((clustersRun_only ..).after
      ((loadAll_only ..).sub rfl) rfl)
  · exact .ite ((clustersRun_only ..).after ((wingSections_only ..).sub rfl) rfl) ((clustersRun_only ..).after ((loadAll_only ..).sub rfl)
      rfl)
  · exact (clustersRun_only ..).after ((loadAll_only ..).sub rfl) rfl

theorem coreResetEnd_only (s : State) (w : Wing) : Within 108352947 s (s.coreResetEnd w) := by
  have h := (bootSlot_only s w).sub (m := 108352947) rfl
  unfold coreResetEnd
  generalize s.bootSlot w = p at h ⊢
  obtain ⟨ok, s1⟩ := p
  have h2 (d : Dev) (a : Arb) : Within 108352947 s { s1 with dev := d, arb := a } := .on_dev_arb h rfl rfl
  exact .ite (.refl ..) (.ite ((actFails_only ..).sub rfl) (.ite ((reloadWing_only ..).after (h2 _ _) rfl) (h2 _ _)))

end Sys2Proof.Machine.State
end

section
/-! SUPPORT. What each operation of Machine/Safe.lean may change (Laws/Within.lean). -/

namespace Sys2Proof.Machine.State

theorem reactAlarm_only (s : State) (bit es wing : Nat) : Within 34603027 s (s.reactAlarm bit es wing) :=
  (safeLast_only ..).after ((raiseAt_only ..).after (setAlarm_only ..) rfl) rfl

theorem eccCe_only (s : State) (n : Option Nat) : Within 2 s (s.eccCe n) := by
  unfold eccCe
  dsimp only
  refine .ite (.refl ..) ?_
  split
  · exact (cnt_only ..).after (cnt_only ..) rfl
  · exact cnt_only ..

theorem tempRead_only (s : State) (centre west east : Octet) : Within 59769107 s (s.tempRead centre west east) := by
  unfold tempRead
  refine .ite (.refl ..) ?_
  extract_lets l top m at_ s1 safe s2 s3 toll s4
  have h2 : Within 59769107 s s2 := .on_safe ((wr_only ..).sub rfl) rfl
  have h3 : Within 59769107 s s3 := .ite ((reactAlarm_only ..).after h2 rfl) h2
  have h4 : Within 59769107 s s4 := .ite ((takeAll_only ..).after (.on_toll h3 rfl) rfl) h3
  split
  · exact .ite ((setAlarm_only ..).after (.on_toll h4 rfl) rfl) h4
  · exact h4

end Sys2Proof.Machine.State
end

section
/-! SUPPORT. What each operation of Machine/Access.lean may change (Laws/Within.lean). -/

namespace Sys2Proof.Machine.State

theorem macLowRead_only (s : State) (fn p j lane size : Nat) : Within 32776 s (s.macLowRead fn p j lane size) :=
  ownerRead_in (.refl ..) rfl fun _ h => .on_sw h rfl

theorem rxFifoRead_only (s : State) (fn n lane size : Nat) : Within 262152 s (s.rxFifoRead fn n lane size) :=
  ownerRead_in (.refl ..) rfl fun _ h => (tkRxPop_only ..).after h rfl

theorem readAct_some {s t : State} {fn a lane size : Nat} (h : s.readAct fn a lane size = some t) : Within 296010 s t := by
  unfold readAct at h
  split at h
  · cases h
  · dsimp only at h
    split at h
    · cases h; exact (nowRead_only ..).sub rfl
    split at h
    · cases h; exact (ltcLoRead_only ..).sub rfl
    split at h
    · cases h; exact (tripleRead_only ..).sub rfl
    split at h
    · cases h; exact (capPop_only ..).sub rfl
    split at h
    · cases h; exact (tsqTake_only ..).sub rfl
    split at h
    · cases h; exact (phRead_only ..).sub rfl
    split at h
    · cases h; exact (cycleRead_only ..).sub rfl
    split at h
    · cases h; exact (macLowRead_only ..).sub rfl
    split at h
    · cases h; exact (rxFifoRead_only ..).sub rfl
    · cases h

theorem readClears_only (s : State) (a lane size : Nat) (inc : Word) : Within 66 s (s.readClears a lane size inc) := by
  unfold readClears
  dsimp only
  split
  · exact .refl ..
  · refine .ite (.refl ..) ?_
    refine .ite ((setTrg_only ..).sub rfl) ?_
    refine .ite ?_ (.ite (.ite (.refl ..) ((wf_only ..).sub rfl)) ((wr_only ..).sub rfl))
    split <;> exact .on_time (.refl ..) rfl

theorem mbRead_only (s : State) (mid ch i lane size : Nat) : Within 34603019 s (s.mbRead mid ch i lane size) :=
  .ite (slotRead_in rfl (.refl ..) fun _ h => h) (.ite (takeFd_only ..) (.ite (slotRead_in rfl (.refl ..) fun _ h => h) (slotRead_in rfl
    ((used_only ..).sub rfl) fun _ h => h)))

theorem readReg_only (s : State) (fn a lane size : Nat) (inc : Word) : Within 34899019 s (s.readReg fn a lane size inc) := by
  unfold readReg
  split
  · exact (mbRead_only ..).sub rfl
  · refine .ite ((answer_only ..).sub rfl) ?_
    split
    · exact (readAct_some (by assumption)).sub rfl
    · exact (answer_only ..).after ((readClears_only ..).after ((used_only ..).sub rfl) rfl) rfl

theorem joinReads_in {m : Nat} {b : State} {n : Nat} {first : State} {second : State → State} (hs : m.testBit 3 = true)
    (h : Within m b (second first)) : Within m b (joinReads n first second) :=
  .ite (.on_bus h hs) (.ite h (.on_bus h hs))

theorem read32_only (s : State) (fn off size : Nat) (inc : Word) : Within 34899019 s (s.read32 fn off size inc) := by
  unfold read32
  dsimp only
  refine .ite ?_ ?_
  · split
    · exact readReg_only ..
    · exact (refuseBus_only ..).sub rfl
  · refine joinReads_in rfl ?_
    split
    · refine (readReg_only ..).after ?_ rfl
      split
      · exact readReg_only ..
      · exact (refuseBus_only ..).sub rfl
    · refine (refuseBus_only ..).after ?_ rfl
      split
      · exact readReg_only ..
      · exact (refuseBus_only ..).sub rfl

theorem mramRead_only (s : State) (off size : Nat) : Within 9 s (s.mramRead off size) :=
  (answer_only ..).after ((used_only ..).sub rfl) rfl

theorem hostRead_only (s : State) (fn off size : Nat) (inc : Word) : Within 34899019 s (s.hostRead fn off size inc) :=
  .ite ((unreached_only ..).sub rfl) (.ite ((mramRead_only ..).sub rfl) (.ite (joinReads_in rfl ((read32_only ..).after (read32_only ..)
    rfl)) (read32_only ..)))

theorem ownRead_in {m : Nat} {b s : State} {fn a lane size : Nat} {act : State → Nat → Nat → State}
    (hs : Sub 34899019 m) (ha : ∀ l z, Within m b (act s l z)) : Within m b (s.ownRead fn a lane size act) :=
  .ite (joinReads_in (bit_of_sub_true hs rfl) ((read32_only ..).after (ha _ _) hs)) (ha _ _)

theorem timeNowRead_only (s : State) (fn : Nat) (w : Wing) (lane size : Nat) : Within 34899019 s (s.timeNowRead fn w lane size) :=
  ownRead_in rfl fun _ _ => (nowRead_only ..).sub rfl

theorem ltcRead_only (s : State) (fn : Nat) (w : Wing) (lane size : Nat) : Within 34899019 s (s.ltcRead fn w lane size) :=
  ownRead_in rfl fun _ _ => (ltcLoRead_only ..).sub rfl

theorem timeTripleRead_only (s : State) (fn : Nat) (w : Wing) (lane size : Nat) : Within 34899019 s (s.timeTripleRead fn w lane size) :=
  ownRead_in rfl fun _ _ => (tripleRead_only ..).sub rfl

theorem capturePop_only (s : State) (mid c lane size : Nat) : Within 34899019 s (s.capturePop mid c lane size) :=
  .ite (ownRead_in rfl fun _ _ => (capPop_only ..).sub rfl) (.ite ((capTake_only ..).sub rfl) (.refl ..))

theorem tsqEntryPop_only (s : State) (fn p lane size : Nat) : Within 34899019 s (s.tsqEntryPop fn p lane size) :=
  ownRead_in rfl fun _ _ => (tsqTake_only ..).sub rfl

theorem hedgePhRead_only (s : State) (fn : Nat) (w : Wing) (c lane size : Nat) : Within 34899019 s (s.hedgePhRead fn w c lane size) :=
  ownRead_in rfl fun _ _ => (phRead_only ..).sub rfl

theorem cqCycleRead_only (s : State) (fn r lane size : Nat) : Within 34899019 s (s.cqCycleRead fn r lane size) :=
  ownRead_in rfl fun _ _ => (cycleRead_only ..).sub rfl

theorem macCounterRead_only (s : State) (fn p j lane size : Nat) : Within 34899019 s (s.macCounterRead fn p j lane size) :=
  ownRead_in rfl fun _ _ => (macLowRead_only ..).sub rfl

theorem tkRxfifoRead_only (s : State) (fn n lane size : Nat) : Within 34899019 s (s.tkRxfifoRead fn n lane size) :=
  ownRead_in rfl fun _ _ => (rxFifoRead_only ..).sub rfl

theorem fdPtrLoRead_only (s : State) (mid ch lane size : Nat) : Within 34603019 s (s.fdPtrLoRead mid ch lane size) :=
  .ite (joinReads_in rfl ((mbRead_only ..).after (takeFd_only ..) rfl)) (takeFd_only ..)

theorem mspiRead_only (s : State) (idx : Octet) : Within 9 s (s.mspiRead idx) := .on_bus ((used_only ..).sub rfl) rfl

theorem mi2cRead_only (s : State) (idx : Octet) : Within 9 s (s.mi2cRead idx) := .on_bus ((used_only ..).sub rfl) rfl

end Sys2Proof.Machine.State
end

section
/-! SUPPORT. What every command that restarts nothing may change: the parts whose lists in Safety.lean name it. -/

namespace Sys2Proof

/-- What the lists of Safety.lean say of a command, by the bit of the part in a mask (Laws/Within.lean); no list names the other parts. -/
def Instr.mayPart (c : Instr) : Nat → Bool
  | 2 => c.mayRestart
  | 3 => c.mayBus
  | 5 => c.mayArb
  | 7 => c.mayIntake
  | 8 => c.mayWall
  | 9 => c.maySlice
  | 10 => c.mayHedge
  | 11 => c.mayLease
  | 13 => c.mayRing
  | 17 => c.mayCan
  | 18 => c.mayTk
  | 19 => c.mayPub
  | 22 => c.mayUpd
  | 23 => c.mayToll
  | 24 => c.maySafe
  | 26 => c.mayMan
  | _ => true

/-- No list keeps the command from a part of the mask. -/
def Instr.allows (c : Instr) (m : Nat) : Bool := (List.range 27).all fun i => !m.testBit i || c.mayPart i

/-- A part whose list does not name the command lies outside a mask that the lists allow it. -/
theorem Instr.testBit_of_allows {c : Instr} {m i : Nat} (h : c.allows m = true) (hi : i < 27) (hc : c.mayPart i = false) :
    m.testBit i = false := by
  simpa [hc] using List.all_eq_true.mp h i (List.mem_range.mpr hi)

end Sys2Proof

namespace Sys2Proof.Machine

/-- A command of MAIN changes no more than its effect does: with MAIN down or operands the device lacks it changes nothing. -/
theorem live_within {m : Nat} {ok : Bool} {s u t : State} (h : live ok s u = .next t) (k : Within m s u) : Within m s t := by
  unfold live at h
  split at h <;> cases h
  · exact k
  · exact .refl ..

/-- A command of any domain changes no more than its effect does. -/
theorem checked_within {m : Nat} {ok : Bool} {s u t : State} (h : checked ok s u = .next t) (k : Within m s u) : Within m s t := by
  unfold checked at h
  split at h <;> cases h
  · exact k
  · exact .refl ..

/-- A command that restarts nothing changes only parts whose lists name it; the queue stands, blown fuses stay blown and canonical
memories stay canonical. -/
theorem exec_within {c : Instr} {s t : State} (hr : c.mayRestart = false) (h : exec c s = .next t) :
    ∃ m, Within m s t ∧ c.allows m = true := by
  cases c with
  | readClear => exact ⟨_, checked_within h (State.hostRead_only ..), rfl⟩
  | iwlLaneUp => exact ⟨_, live_within h (State.iwlLaneUp_only ..), rfl⟩
  | iwlLaneFail => exact ⟨_, live_within h (State.iwlLaneFail_only ..), rfl⟩
  | iwlTrainDeadline => exact ⟨_, live_within h (State.iwlTrainDeadline_only ..), rfl⟩
  | iwlBlockReceive => exact ⟨_, live_within h (State.iwlBlockReceive_only ..), rfl⟩
  | globalDecision => exact ⟨_, live_within h (State.globalDecision_only ..), rfl⟩
  | deputyAck => exact ⟨_, live_within h (State.deputyAck_only ..), rfl⟩
  | mirrorAckTimeout => exact ⟨_, live_within h (State.mirrorAckTimeout_only ..), rfl⟩
  | heartbeatSend => exact ⟨_, live_within h (State.heartbeatSend_only ..), rfl⟩
  | heartbeatLinkReceive => exact ⟨_, live_within h (State.heartbeatLinkReceive_only ..), rfl⟩
  | heartbeatLost => exact ⟨_, live_within h (State.heartbeatLost_only ..), rfl⟩
  | stewardConfigWrite => exact ⟨_, live_within h (State.stewardConfigWrite_only ..), rfl⟩
  | mirrorRequest => exact ⟨_, live_within h (State.mirrorRequest_only ..), rfl⟩
  | mirrorComplete => exact ⟨_, live_within h (State.mirrorComplete_only ..), rfl⟩
  | timeShadowWrite => exact ⟨_, live_within h (State.timeShadowWrite_only ..), rfl⟩
  | timeCommit => exact ⟨_, live_within h (State.timeCommit_only ..), rfl⟩
  | timeNowRead => exact ⟨_, checked_within h (State.timeNowRead_only ..), rfl⟩
  | ltcRead => exact ⟨_, checked_within h (State.ltcRead_only ..), rfl⟩
  | timeTripleRead => exact ⟨_, checked_within h (State.timeTripleRead_only ..), rfl⟩
  | servoUpdate => exact ⟨_, live_within h (State.servoUpdate_only ..), rfl⟩
  | sourceLost => exact ⟨_, live_within h (State.sourceLost_only ..), rfl⟩
  | holdLimitExpiry => exact ⟨_, live_within h (State.holdLimitExpiry_only ..), rfl⟩
  | step => exact ⟨_, checked_within h (State.step_only ..), rfl⟩
  | gmChange => exact ⟨_, checked_within h (State.gmChange_only ..), rfl⟩
  | timePortStateWrite => exact ⟨_, checked_within h (State.timePortStateWrite_only ..), rfl⟩
  | syncReceive => exact ⟨_, live_within h (State.syncReceive_only ..), rfl⟩
  | followUpReceive => exact ⟨_, live_within h (State.followUpReceive_only ..), rfl⟩
  | syncTransmit => exact ⟨_, live_within h (State.syncTransmit_only ..), rfl⟩
  | pdelayExchange => exact ⟨_, live_within h (State.pdelayExchange_only ..), rfl⟩
  | announceReceive => exact ⟨_, live_within h (State.announceReceive_only ..), rfl⟩
  | announceTransmit => exact ⟨_, live_within h (State.announceTransmit_only ..), rfl⟩
  | ptpTransit => exact ⟨_, live_within h (State.ptpTransit_only ..), rfl⟩
  | heldSyncExpiry => exact ⟨_, live_within h (State.heldSyncExpiry_only ..), rfl⟩
  | ptpUnsupported => exact ⟨_, live_within h (State.ptpUnsupported_only ..), rfl⟩
  | irigbFrame => exact ⟨_, live_within h (State.irigbFrame_only ..), rfl⟩
  | ppsInEdge => exact ⟨_, live_within h (State.ppsInEdge_only ..), rfl⟩
  | ppsOutRise => exact ⟨_, live_within h (State.ppsOutRise_only ..), rfl⟩
  | ppsOutFall => exact ⟨_, live_within h (State.ppsOutFall_only ..), rfl⟩
  | triggerArm => exact ⟨_, checked_within h (State.triggerArm_only ..), rfl⟩
  | triggerFire => exact ⟨_, live_within h (State.triggerFire_only ..), rfl⟩
  | triggerPulseEnd => exact ⟨_, live_within h (State.triggerPulseEnd_only ..), rfl⟩
  | captureEdge => exact ⟨_, live_within h (State.captureEdge_only ..), rfl⟩
  | capturePop => exact ⟨_, live_within h (State.capturePop_only ..), rfl⟩
  | tsqEntryPop => exact ⟨_, checked_within h (State.tsqEntryPop_only ..), rfl⟩
  | svFrameReceive => exact ⟨_, live_within h (State.svFrameReceive_only ..), rfl⟩
  | svForwardReceive => exact ⟨_, live_within h (State.svForwardReceive_only ..), rfl⟩
  | discardWindowExpiry => exact ⟨_, live_within h (State.discardWindowExpiry_only ..), rfl⟩
  | policerToken => exact ⟨_, live_within h (State.policerToken_only ..), rfl⟩
  | pairingWindowEnd => exact ⟨_, live_within h (State.pairingWindowEnd_only ..), rfl⟩
  | streamLoss => exact ⟨_, live_within h (State.streamLoss_only ..), rfl⟩
  | confrevClear => exact ⟨_, checked_within h (State.confrevClear_only ..), rfl⟩
  | simEnWrite => exact ⟨_, checked_within h (State.simEnWrite_only ..), rfl⟩
  | pubWrAdvance => exact ⟨_, checked_within h (State.pubWrAdvance_only ..), rfl⟩
  | pubFrameSend => exact ⟨_, live_within h (State.pubFrameSend_only ..), rfl⟩
  | thicketPubDma => exact ⟨_, live_within h (State.thicketPubDma_only ..), rfl⟩
  | wallAsduWrite => exact ⟨_, live_within h (State.wallAsduWrite_only ..), rfl⟩
  | rowOpen => exact ⟨_, live_within h (State.rowOpen_only ..), rfl⟩
  | rowDeadline => exact ⟨_, live_within h (State.rowDeadline_only ..), rfl⟩
  | derivedRowRelease => exact ⟨_, live_within h (State.derivedRowRelease_only ..), rfl⟩
  | wallDegradeStep => exact ⟨_, live_within h (State.wallDegradeStep_only ..), rfl⟩
  | wallRestoreStep => exact ⟨_, live_within h (State.wallRestoreStep_only ..), rfl⟩
  | sliceEnable => exact ⟨_, checked_within h (State.sliceEnable_only ..), rfl⟩
  | sliceDisable => exact ⟨_, checked_within h (State.sliceDisable_only ..), rfl⟩
  | sliceConsWrite => exact ⟨_, checked_within h (State.sliceConsWrite_only ..), rfl⟩
  | sliceBlockWrite => exact ⟨_, live_within h (State.sliceBlockWrite_only ..), rfl⟩
  | elementOperate => exact ⟨_, live_within h (State.elemDue_only ..), rfl⟩
  | elementResetDelayExpiry => exact ⟨_, live_within h (State.elemDue_only ..), rfl⟩
  | inverseTimeOperate => exact ⟨_, live_within h (State.elemDue_only ..), rfl⟩
  | inverseResetExpiry => exact ⟨_, live_within h (State.elemDue_only ..), rfl⟩
  | retrip => exact ⟨_, live_within h (State.elemDue_only ..), rfl⟩
  | bfOperate => exact ⟨_, live_within h (State.elemDue_only ..), rfl⟩
  | inputInvalidBlock => exact ⟨_, live_within h (State.elemDue_only ..), rfl⟩
  | freqHoldTimeout => exact ⟨_, live_within h (State.freqHoldTimeout_only ..), rfl⟩
  | hedgePhRead => exact ⟨_, checked_within h (State.hedgePhRead_only ..), rfl⟩
  | acquire => exact ⟨_, checked_within h (State.acquire_only ..), rfl⟩
  | refresh => exact ⟨_, checked_within h (State.refresh_only ..), rfl⟩
  | release => exact ⟨_, checked_within h (State.release_only ..), rfl⟩
  | leaseTimeout => exact ⟨_, live_within h (State.leaseTimeout_only ..), rfl⟩
  | hedgeSet => exact ⟨_, live_within h (State.hedgeSet_only ..), rfl⟩
  | settingsTApply => exact ⟨_, live_within h (State.settingsTApply_only ..), rfl⟩
  | tpMinExpiry => exact ⟨_, live_within h (State.tpMinExpiry_only ..), rfl⟩
  | engineSourceWrite => exact ⟨_, live_within h (State.engineSourceWrite_only ..), rfl⟩
  | gsiTalExpiry => exact ⟨_, live_within h (State.gsiTalExpiry_only ..), rfl⟩
  | engHoldExpiry => exact ⟨_, live_within h (State.engHoldExpiry_only ..), rfl⟩
  | pulse => exact ⟨_, checked_within h (State.pulse_only ..), rfl⟩
  | clear => exact ⟨_, checked_within h (State.clear_only ..), rfl⟩
  | hcmdPulseEnd => exact ⟨_, live_within h (State.hcmdPulseEnd_only ..), rfl⟩
  | readbackMismatch => exact ⟨_, live_within h (State.readbackMismatch_only ..), rfl⟩
  | tripPubChange => exact ⟨_, live_within h (State.tripPubChange_only ..), rfl⟩
  | tripPubResend => exact ⟨_, live_within h (State.tripPubResend_only ..), rfl⟩
  | caravanCutoff => exact ⟨_, live_within h (State.caravanCutoff_only ..), rfl⟩
  | caravanDepart => exact ⟨_, live_within h (State.caravanDepart_only ..), rfl⟩
  | caravanReceive => exact ⟨_, live_within h (State.caravanReceive_only ..), rfl⟩
  | caravanMissing => exact ⟨_, live_within h (State.caravanMissing_only ..), rfl⟩
  | laneSignalLoss => exact ⟨_, live_within h (State.laneSignalLoss_only ..), rfl⟩
  | nodeLost => exact ⟨_, live_within h (State.nodeLost_only ..), rfl⟩
  | joinAnswer => exact ⟨_, live_within h (State.joinAnswer_only ..), rfl⟩
  | imageRotate => exact ⟨_, live_within h (State.imageRotate_only ..), rfl⟩
  | echoReqSend => exact ⟨_, live_within h (State.echoReqSend_only ..), rfl⟩
  | echoReqReceive => exact ⟨_, live_within h (State.echoReqReceive_only ..), rfl⟩
  | echoRspReceive => exact ⟨_, live_within h (State.echoRspReceive_only ..), rfl⟩
  | echoTimeout => exact ⟨_, live_within h (State.echoTimeout_only ..), rfl⟩
  | ringStart => exact ⟨_, live_within h (State.ringStart_only ..), rfl⟩
  | epochCommit => exact ⟨_, live_within h (State.epochCommit_only ..), rfl⟩
  | epochSwap => exact ⟨_, live_within h (State.epochSwap_only ..), rfl⟩
  | triggerSourceStop => exact ⟨_, live_within h (State.triggerSourceStop_only ..), rfl⟩
  | unwrap => exact ⟨_, checked_within h (State.unwrap_only ..), rfl⟩
  | restore => exact ⟨_, checked_within h (State.restore_only ..), rfl⟩
  | sleep => exact ⟨_, checked_within h (State.sleep_only ..), rfl⟩
  | wake => exact ⟨_, checked_within h (State.wake_only ..), rfl⟩
  | nodeReset => exact ⟨_, checked_within h (State.nodeReset_only ..), rfl⟩
  | clearFalseWake => exact ⟨_, checked_within h (State.clearFalseWake_only ..), rfl⟩
  | bar2Read => exact ⟨_, checked_within h (State.bar2Read_only ..), rfl⟩
  | bar2Write => exact ⟨_, checked_within h (State.bar2Write_only ..), rfl⟩
  | brSnapWrite => exact ⟨_, checked_within h (State.brSnapWrite_only ..), rfl⟩
  | outHoldSet => exact ⟨_, checked_within h (State.outHoldSet_only ..), rfl⟩
  | outHoldClear => exact ⟨_, checked_within h (State.outHoldClear_only ..), rfl⟩
  | outHoldExpiry => exact ⟨_, checked_within h (State.outHoldExpiry_only ..), rfl⟩
  | sqDoorbell => exact ⟨_, checked_within h (State.sqDoorbell_only ..), rfl⟩
  | read => exact ⟨_, live_within h (State.read_only ..), rfl⟩
  | write => exact ⟨_, live_within h (State.write_only ..), rfl⟩
  | ack => exact ⟨_, live_within h (State.ack_only ..), rfl⟩
  | rdata => exact ⟨_, live_within h (State.rdata_only ..), rfl⟩
  | acycResend => exact ⟨_, live_within h (State.acycResend_only ..), rfl⟩
  | acycTimeout => exact ⟨_, live_within h (State.acycTimeout_only ..), rfl⟩
  | completionWrite => exact ⟨_, live_within h (State.completionWrite_only ..), rfl⟩
  | responseDiscard => exact ⟨_, live_within h (State.responseDiscard_only ..), rfl⟩
  | frameReceive => exact ⟨_, live_within h (State.frameReceive_only ..), rfl⟩
  | pauseReceive => exact ⟨_, live_within h (State.pauseReceive_only ..), rfl⟩
  | pfcReceive => exact ⟨_, live_within h (State.pfcReceive_only ..), rfl⟩
  | pauseExpiry => exact ⟨_, live_within h (State.pauseExpiry_only ..), rfl⟩
  | pauseSend => exact ⟨_, live_within h (State.pauseSend_only ..), rfl⟩
  | learnRequest => exact ⟨_, live_within h (State.learnRequest_only ..), rfl⟩
  | moveLockEnd => exact ⟨_, live_within h (State.moveLockEnd_only ..), rfl⟩
  | macAgeOut => exact ⟨_, live_within h (State.macAgeOut_only ..), rfl⟩
  | linkDown => exact ⟨_, live_within h (State.linkDown_only ..), rfl⟩
  | linkUp => exact ⟨_, live_within h (State.linkUp_only ..), rfl⟩
  | crossbarMatch => exact ⟨_, live_within h (State.crossbarMatch_only ..), rfl⟩
  | frameTransmit => exact ⟨_, live_within h (State.frameTransmit_only ..), rfl⟩
  | entryForget => exact ⟨_, live_within h (State.entryForget_only ..), rfl⟩
  | nodeForget => exact ⟨_, live_within h (State.nodeForget_only ..), rfl⟩
  | fdbLookup => exact ⟨_, checked_within h (State.fdbLookup_only ..), rfl⟩
  | macCounterRead => exact ⟨_, checked_within h (State.macCounterRead_only ..), rfl⟩
  | engineLoad => exact ⟨_, live_within h (State.engineLoad_only ..), rfl⟩
  | engineRestart => exact ⟨_, live_within h (State.engineRestart_only ..), rfl⟩
  | watchdog => exact ⟨_, live_within h (State.watchdog_only ..), rfl⟩
  | wdtKick => exact ⟨_, live_within h (State.engStore_only ..), rfl⟩
  | persEvent => exact ⟨_, live_within h (State.engStore_only ..), rfl⟩
  | peDbankAddrWrite => exact ⟨_, checked_within h (State.peDbankAddrWrite_only ..), rfl⟩
  | crc => exact ⟨_, live_within h (State.copRow_only ..), rfl⟩
  | shaBlock => exact ⟨_, live_within h (State.copRow_only ..), rfl⟩
  | gmacCheck => exact ⟨_, live_within h (State.copRow_only ..), rfl⟩
  | gmacSign => exact ⟨_, live_within h (State.copRow_only ..), rfl⟩
  | gcmSeal => exact ⟨_, live_within h (State.copRow_only ..), rfl⟩
  | gcmOpen => exact ⟨_, live_within h (State.copRow_only ..), rfl⟩
  | keyLoad => exact ⟨_, live_within h (State.copRow_only ..), rfl⟩
  | rng => exact ⟨_, live_within h (State.copRow_only ..), rfl⟩
  | copComplete => exact ⟨_, live_within h (State.copFinish_only ..), rfl⟩
  | fpMove => exact ⟨_, live_within h (State.fpMove_only ..), rfl⟩
  | fpAdd => exact ⟨_, live_within h (State.fpTo_only ..), rfl⟩
  | fpSub => exact ⟨_, live_within h (State.fpTo_only ..), rfl⟩
  | fpAnd => exact ⟨_, live_within h (State.fpTo_only ..), rfl⟩
  | fpOr => exact ⟨_, live_within h (State.fpTo_only ..), rfl⟩
  | fpXor => exact ⟨_, live_within h (State.fpTo_only ..), rfl⟩
  | fpAndn => exact ⟨_, live_within h (State.fpTo_only ..), rfl⟩
  | fpAdc => exact ⟨_, live_within h (State.fpTo_only ..), rfl⟩
  | fpSbb => exact ⟨_, live_within h (State.fpTo_only ..), rfl⟩
  | fpShl => exact ⟨_, live_within h (State.fpTo_only ..), rfl⟩
  | fpShr => exact ⟨_, live_within h (State.fpTo_only ..), rfl⟩
  | fpSar => exact ⟨_, live_within h (State.fpTo_only ..), rfl⟩
  | fpRol => exact ⟨_, live_within h (State.fpTo_only ..), rfl⟩
  | fpRor => exact ⟨_, live_within h (State.fpTo_only ..), rfl⟩
  | fpSwap => exact ⟨_, live_within h (State.fpTo_only ..), rfl⟩
  | fpEq => exact ⟨_, live_within h (State.fpTo_only ..), rfl⟩
  | fpNe => exact ⟨_, live_within h (State.fpTo_only ..), rfl⟩
  | fpLtu => exact ⟨_, live_within h (State.fpTo_only ..), rfl⟩
  | fpLeu => exact ⟨_, live_within h (State.fpTo_only ..), rfl⟩
  | fpLt => exact ⟨_, live_within h (State.fpTo_only ..), rfl⟩
  | fpLe => exact ⟨_, live_within h (State.fpTo_only ..), rfl⟩
  | fpBit => exact ⟨_, live_within h (State.fpTo_only ..), rfl⟩
  | fpAny => exact ⟨_, live_within h (State.fpTo_only ..), rfl⟩
  | fpGrd => exact ⟨_, live_within h (State.fpTo_only ..), rfl⟩
  | caRw => exact ⟨_, live_within h (State.fpMv_only ..), rfl⟩
  | caRb => exact ⟨_, live_within h (State.fpMv_only ..), rfl⟩
  | caWw => exact ⟨_, live_within h (State.fpTo_only ..), rfl⟩
  | caWb => exact ⟨_, live_within h (State.fpTo_only ..), rfl⟩
  | caPk => exact ⟨_, live_within h (State.fpMv_only ..), rfl⟩
  | crcCfg => exact ⟨_, live_within h (State.fpTo_only ..), rfl⟩
  | crcT => exact ⟨_, live_within h (State.fpTo_only ..), rfl⟩
  | crcTb => exact ⟨_, live_within h (State.fpTo_only ..), rfl⟩
  | sumSet => exact ⟨_, live_within h (State.fpTo_only ..), rfl⟩
  | sumT => exact ⟨_, live_within h (State.fpTo_only ..), rfl⟩
  | qinPop => exact ⟨_, live_within h (State.fpTo_only ..), rfl⟩
  | qinFree => exact ⟨_, live_within h (State.fpTo_only ..), rfl⟩
  | qoutPush => exact ⟨_, live_within h (State.fpTo_only ..), rfl⟩
  | qoutDone => exact ⟨_, live_within h (State.fpMv_only ..), rfl⟩
  | jmp => exact ⟨_, live_within h (State.fpTo_only ..), rfl⟩
  | call => exact ⟨_, live_within h (State.fpTo_only ..), rfl⟩
  | ret => exact ⟨_, live_within h (State.fpTo_only ..), rfl⟩
  | eret => exact ⟨_, live_within h (State.fpTo_only ..), rfl⟩
  | ipendClear => exact ⟨_, live_within h (State.fpTo_only ..), rfl⟩
  | rpt => exact ⟨_, live_within h (State.fpTo_only ..), rfl⟩
  | tas => exact ⟨_, live_within h (State.fpTo_only ..), rfl⟩
  | semClr => exact ⟨_, live_within h (State.fpTo_only ..), rfl⟩
  | tsqPop => exact ⟨_, live_within h (State.fpTo_only ..), rfl⟩
  | now => exact ⟨_, live_within h (State.fpTo_only ..), rfl⟩
  | rx => exact ⟨_, live_within h (State.fpTo_only ..), rfl⟩
  | lutT => exact ⟨_, live_within h (State.fpTo_only ..), rfl⟩
  | fpEventEntry => exact ⟨_, live_within h (State.fpEventEntry_only ..), rfl⟩
  | mov => exact ⟨_, live_within h (State.spAluOp_only ..), rfl⟩
  | spAdd => exact ⟨_, live_within h (State.spAluOp_only ..), rfl⟩
  | spAdc => exact ⟨_, live_within h (State.spAluOp_only ..), rfl⟩
  | spSub => exact ⟨_, live_within h (State.spAluOp_only ..), rfl⟩
  | spSbb => exact ⟨_, live_within h (State.spAluOp_only ..), rfl⟩
  | cmp => exact ⟨_, live_within h (State.spAluOp_only ..), rfl⟩
  | spAnd => exact ⟨_, live_within h (State.spAluOp_only ..), rfl⟩
  | spOr => exact ⟨_, live_within h (State.spAluOp_only ..), rfl⟩
  | spXor => exact ⟨_, live_within h (State.spAluOp_only ..), rfl⟩
  | spAndn => exact ⟨_, live_within h (State.spAluOp_only ..), rfl⟩
  | tst => exact ⟨_, live_within h (State.spAluOp_only ..), rfl⟩
  | spShl => exact ⟨_, live_within h (State.spAluOp_only ..), rfl⟩
  | spShr => exact ⟨_, live_within h (State.spAluOp_only ..), rfl⟩
  | spSar => exact ⟨_, live_within h (State.spAluOp_only ..), rfl⟩
  | spRol => exact ⟨_, live_within h (State.spAluOp_only ..), rfl⟩
  | spBit => exact ⟨_, live_within h (State.spAluOp_only ..), rfl⟩
  | localLoad => exact ⟨_, live_within h (State.localLoad_only ..), rfl⟩
  | localStore => exact ⟨_, live_within h (State.localStore_only ..), rfl⟩
  | ldD => exact ⟨_, live_within h (State.ldD_only ..), rfl⟩
  | ldA => exact ⟨_, live_within h (State.ldA_only ..), rfl⟩
  | stD => exact ⟨_, live_within h (State.stD_only ..), rfl⟩
  | stA => exact ⟨_, live_within h (State.stA_only ..), rfl⟩
  | ldx => exact ⟨_, live_within h (State.ldx_only ..), rfl⟩
  | stx => exact ⟨_, live_within h (State.stx_only ..), rfl⟩
  | ldabs => exact ⟨_, live_within h (State.ldabs_only ..), rfl⟩
  | stabs => exact ⟨_, live_within h (State.stabs_only ..), rfl⟩
  | aaddShort => exact ⟨_, live_within h (State.aaddShort_only ..), rfl⟩
  | xmov => exact ⟨_, live_within h (State.xmov_only ..), rfl⟩
  | amov => exact ⟨_, live_within h (State.amov_only ..), rfl⟩
  | aadd => exact ⟨_, live_within h (State.aadd_only ..), rfl⟩
  | asub => exact ⟨_, live_within h (State.asub_only ..), rfl⟩
  | bcc => exact ⟨_, live_within h (State.bcc_only ..), rfl⟩
  | call0 => exact ⟨_, live_within h (State.call0_only ..), rfl⟩
  | spCall => exact ⟨_, live_within h (State.spCall_only ..), rfl⟩
  | spRet => exact ⟨_, live_within h (State.spRet_only ..), rfl⟩
  | spEret => exact ⟨_, live_within h (State.spEret_only ..), rfl⟩
  | rep => exact ⟨_, live_within h (State.rep_only ..), rfl⟩
  | repi => exact ⟨_, live_within h (State.repi_only ..), rfl⟩
  | semtas => exact ⟨_, live_within h (State.semtas_only ..), rfl⟩
  | semclr => exact ⟨_, live_within h (State.semclr_only ..), rfl⟩
  | jmpAn => exact ⟨_, live_within h (State.jmpAn_only ..), rfl⟩
  | wait => exact ⟨_, live_within h (State.wait_only ..), rfl⟩
  | di => exact ⟨_, live_within h (State.di_only ..), rfl⟩
  | ei => exact ⟨_, live_within h (State.ei_only ..), rfl⟩
  | endcyc => exact ⟨_, live_within h (State.endcyc_only ..), rfl⟩
  | push => exact ⟨_, live_within h (State.push_only ..), rfl⟩
  | pop => exact ⟨_, live_within h (State.pop_only ..), rfl⟩
  | mfc => exact ⟨_, live_within h (State.mfc_only ..), rfl⟩
  | mtc => exact ⟨_, live_within h (State.mtc_only ..), rfl⟩
  | copr => exact ⟨_, live_within h (State.copr_only ..), rfl⟩
  | copw => exact ⟨_, live_within h (State.copw_only ..), rfl⟩
  | copst => exact ⟨_, live_within h (State.copst_only ..), rfl⟩
  | nop => exact ⟨_, live_within h (State.nop_only ..), rfl⟩
  | ldres => exact ⟨_, live_within h (State.ldres_only ..), rfl⟩
  | stcond => exact ⟨_, live_within h (State.stcond_only ..), rfl⟩
  | rise => exact ⟨_, live_within h (State.rise_only ..), rfl⟩
  | fall => exact ⟨_, live_within h (State.fall_only ..), rfl⟩
  | mul => exact ⟨_, live_within h (State.mul_only ..), rfl⟩
  | mac => exact ⟨_, live_within h (State.mac_only ..), rfl⟩
  | msu => exact ⟨_, live_within h (State.msu_only ..), rfl⟩
  | mulu => exact ⟨_, live_within h (State.mulu_only ..), rfl⟩
  | macu => exact ⟨_, live_within h (State.macu_only ..), rfl⟩
  | accClr => exact ⟨_, live_within h (State.accClr_only ..), rfl⟩
  | sat => exact ⟨_, live_within h (State.sat_only ..), rfl⟩
  | norm => exact ⟨_, live_within h (State.norm_only ..), rfl⟩
  | rnd => exact ⟨_, live_within h (State.rnd_only ..), rfl⟩
  | movh => exact ⟨_, live_within h (State.movh_only ..), rfl⟩
  | movl => exact ⟨_, live_within h (State.movl_only ..), rfl⟩
  | ldh => exact ⟨_, live_within h (State.ldh_only ..), rfl⟩
  | asr => exact ⟨_, live_within h (State.asr_only ..), rfl⟩
  | addac => exact ⟨_, live_within h (State.addac_only ..), rfl⟩
  | spEventEntry => exact ⟨_, live_within h (State.spEventEntry_only ..), rfl⟩
  | ilkCycleStart => exact ⟨_, live_within h (State.ilkCycleStart_only ..), rfl⟩
  | ilkOverrun => exact ⟨_, live_within h (State.ilkOverrun_only ..), rfl⟩
  | ilkRun => exact ⟨_, live_within h (State.ilkRun_only ..), rfl⟩
  | ilkStop => exact ⟨_, live_within h (State.ilkStop_only ..), rfl⟩
  | hold => exact ⟨_, live_within h (State.hold_only ..), rfl⟩
  | forceSet => exact ⟨_, live_within h (State.forceSet_only ..), rfl⟩
  | forceClear => exact ⟨_, live_within h (State.forceClear_only ..), rfl⟩
  | forceClearAll => exact ⟨_, live_within h (State.forceClearAll_only ..), rfl⟩
  | canModeWrite => exact ⟨_, checked_within h (State.canModeWrite_only ..), rfl⟩
  | canTimingWrite => exact ⟨_, checked_within h (State.canTimingWrite_only ..), rfl⟩
  | canTxreq => exact ⟨_, checked_within h (State.canTxreq_only ..), rfl⟩
  | canTxabort => exact ⟨_, checked_within h (State.canTxabort_only ..), rfl⟩
  | canRxpop => exact ⟨_, checked_within h (State.canRxpop_only ..), rfl⟩
  | recover => exact ⟨_, checked_within h (State.recover_only ..), rfl⟩
  | canFrameReceive => exact ⟨_, live_within h (State.canFrameReceive_only ..), rfl⟩
  | canTxAttemptEnd => exact ⟨_, live_within h (State.canTxAttemptEnd_only ..), rfl⟩
  | canRecoveryEnd => exact ⟨_, live_within h (State.canRecoveryEnd_only ..), rfl⟩
  | canTxRingFetch => exact ⟨_, live_within h (State.canTxRingFetch_only ..), rfl⟩
  | canWakeValidityExpiry => exact ⟨_, live_within h (State.canWakeValidityExpiry_only ..), rfl⟩
  | wakeDisClear => exact ⟨_, checked_within h (State.wakeDisClear_only ..), rfl⟩
  | tkStep => exact ⟨_, live_within h (State.tkStep_only ..), rfl⟩
  | tkEnable => exact ⟨_, checked_within h (State.tkCtrl_only ..), rfl⟩
  | tkDisable => exact ⟨_, checked_within h (State.tkCtrl_only ..), rfl⟩
  | tkLutWrite => exact ⟨_, checked_within h (State.tkLutWrite_only ..), rfl⟩
  | tkTxfifoWrite => exact ⟨_, checked_within h (State.tkTxfifoWrite_only ..), rfl⟩
  | tkRxfifoRead => exact ⟨_, checked_within h (State.tkRxfifoRead_only ..), rfl⟩
  | hostLinkUp => exact ⟨_, live_within h (State.hostLinkUp_only ..), rfl⟩
  | hostPortReset => exact ⟨_, checked_within h (State.hostPortReset_only ..), rfl⟩
  | dmaPauseStart => exact ⟨_, live_within h (State.dmaPauseStart_only ..), rfl⟩
  | dmaPauseEnd => exact ⟨_, live_within h (State.dmaPauseEnd_only ..), rfl⟩
  | linkLossTimeout => exact ⟨_, live_within h (State.linkLossTimeout_only ..), rfl⟩
  | functionLevelReset => exact ⟨_, checked_within h (State.functionLevelReset_only ..), rfl⟩
  | numvfsWrite => exact ⟨_, live_within h (State.numvfsWrite_only ..), rfl⟩
  | d3hotEntry => exact ⟨_, checked_within h (State.d3hotEntry_only ..), rfl⟩
  | d0Return => exact ⟨_, checked_within h (State.d0Return_only ..), rfl⟩
  | hostBankAccess => exact ⟨_, checked_within h (State.hostBankAccess_only ..), rfl⟩
  | dmaFault => exact ⟨_, checked_within h (State.dmaFault_only ..), rfl⟩
  | tdCtlWrite => exact ⟨_, live_within h (State.tdCtlWrite_only ..), rfl⟩
  | tdTake => exact ⟨_, live_within h (State.tdTake_only ..), rfl⟩
  | fdPost => exact ⟨_, live_within h (State.fdPost_only ..), rfl⟩
  | fdPtrLoRead => exact ⟨_, live_within h (State.fdPtrLoRead_only ..), rfl⟩
  | ping => exact ⟨_, live_within h (State.ping_only ..), rfl⟩
  | ptpTxSet => exact ⟨_, live_within h (State.ptpTxSet_only ..), rfl⟩
  | msixPost => exact ⟨_, checked_within h (State.msixPost_only ..), rfl⟩
  | holdoffEnd => exact ⟨_, checked_within h (State.holdoffEnd_only ..), rfl⟩
  | vectorUnmask => exact ⟨_, checked_within h (State.vectorUnmask_only ..), rfl⟩
  | keyInstall => exact ⟨_, live_within h (State.keyInstall_only ..), rfl⟩
  | keyErase => exact ⟨_, live_within h (State.keyErase_only ..), rfl⟩
  | keyInfo => exact ⟨_, live_within h (State.keyInfo_only ..), rfl⟩
  | svnCommit => exact ⟨_, live_within h (State.svnCommit_only ..), rfl⟩
  | fuseProg => exact ⟨_, live_within h (State.fuseProg_only ..), rfl⟩
  | txAnWrite => exact ⟨_, checked_within h (State.txAnWrite_only ..), rfl⟩
  | trngHealthFail => exact ⟨_, live_within h (State.trngHealthFail_only ..), rfl⟩
  | trngRecover => exact ⟨_, live_within h (State.trngRecover_only ..), rfl⟩
  | debugUnlock => exact ⟨_, live_within h (State.debugUnlock_only ..), rfl⟩
  | supplyWarn => exact ⟨_, checked_within h (State.supplyWarn_only ..), rfl⟩
  | stewardWatchdog => exact ⟨_, live_within h (State.stewardWatchdog_only ..), rfl⟩
  | stormClear => exact ⟨_, checked_within h (State.stormClear_only ..), rfl⟩
  | vinOkLow => exact ⟨_, checked_within h (State.vinOkLow_only ..), rfl⟩
  | tollMeasure => exact ⟨_, checked_within h (State.tollMeasure_only ..), rfl⟩
  | tollThrottleStep => exact ⟨_, checked_within h (State.tollThrottleStep_only ..), rfl⟩
  | tollReleaseStep => exact ⟨_, checked_within h (State.tollReleaseStep_only ..), rfl⟩
  | tollCapUnmet => exact ⟨_, checked_within h (State.tollCapUnmet_only ..), rfl⟩
  | holdupSample => exact ⟨_, checked_within h (State.holdupSample_only ..), rfl⟩
  | mramUserWrite => exact ⟨_, checked_within h (State.mramUserWrite_only ..), rfl⟩
  | bootComplete => exact ⟨_, live_within h (State.bootComplete_only ..), rfl⟩
  | trialClear => exact ⟨_, live_within h (State.trialClear_only ..), rfl⟩
  | diagLine => exact ⟨_, live_within h (State.diagLine_only ..), rfl⟩
  | stageOpen => exact ⟨_, live_within h (State.stageOpen_only ..), rfl⟩
  | stageWrite => exact ⟨_, live_within h (State.stageWrite_only ..), rfl⟩
  | stageClose => exact ⟨_, live_within h (State.stageClose_only ..), rfl⟩
  | activateCluster => exact ⟨_, live_within h (State.activateCluster_only ..), rfl⟩
  | activateWing => exact ⟨_, live_within h (State.activateWing_only ..), rfl⟩
  | settingsLoad => exact ⟨_, live_within h (State.settingsLoad_only ..), rfl⟩
  | abort => exact ⟨_, live_within h (State.abort_only ..), rfl⟩
  | journalCompact => exact ⟨_, live_within h (State.journalCompact_only ..), rfl⟩
  | tempRead => exact ⟨_, live_within h (State.tempRead_only ..), rfl⟩
  | mspiRead => exact ⟨_, checked_within h (State.mspiRead_only ..), rfl⟩
  | mi2cRead => exact ⟨_, checked_within h (State.mi2cRead_only ..), rfl⟩
  | coreResetEnd => exact ⟨_, live_within h (State.coreResetEnd_only ..), rfl⟩
  | resetRelease => exact ⟨_, checked_within h (State.resetRelease_only ..), rfl⟩
  | functionResetComplete => exact ⟨_, checked_within h (State.functionResetComplete_only ..), rfl⟩
  | perstRelease => exact ⟨_, checked_within h (State.perstRelease_only ..), rfl⟩
  | applyInstant => exact ⟨_, live_within h (State.applyInstant_only ..), rfl⟩
  | laneSignalReturn => exact ⟨_, live_within h (State.laneSignalReturn_only ..), rfl⟩
  | eccCe => exact ⟨_, live_within h (State.eccCe_only ..), rfl⟩
  | cqCycleRead => exact ⟨_, checked_within h (State.cqCycleRead_only ..), rfl⟩
  | pcieAerError => exact ⟨_, checked_within h (State.raiseAt_only ..), rfl⟩
  | _ => cases hr

end Sys2Proof.Machine
end

section
/-! CLAIMS. The statements of chapter 3: the sample intake. -/

namespace Sys2Proof.Machine

/-! The intake's commands (R74, R78, R81-R84, R88, R89) -/

/-- Settles O31: MAIN is up or not needed, and the hypotheses of each command leave the one branch of its operation that acts. -/
theorem intakeCommandsComplete : Obligations.IntakeCommandsComplete := by
  unfold Obligations.IntakeCommandsComplete
  refine ⟨?frameReceive, ?forwardReceive, fun _ _ _ hok k => live_of hok k, ?policerToken, ?pairingEnd, ?streamLoss, ?confrevClear,
    ?simEnWrite⟩
  case frameReceive =>
    intro s w port f ts k i x q hq hx
    refine (live_of rfl k).trans (congrArg _ ?_)
    rw [State.svFrameReceive, hq]
    exact if_pos hx
  case forwardReceive =>
    intro s w port f ts k i no x q hq hx ht
    refine (live_of rfl k).trans (congrArg _ ?_)
    rw [State.svForwardReceive, hq]
    exact if_pos ⟨hx, ht⟩
  case policerToken =>
    intro s w n hok k x next h0 hn
    exact live_unless hok k (c := (decide (s.strState w n = 0) || decide (s.clk.ns * s.strRate w n < next)) = true) (by simp [h0, hn])
  case pairingEnd =>
    intro s w n hok k x p q hp hu ts
    refine (live_of hok k).trans (congrArg _ ?_)
    rw [State.pairingWindowEnd, hp]
    exact if_neg (Nat.not_le.mpr hu)
  case streamLoss =>
    intro s w n hok k h2 hl
    exact live_when hok k (by simp [h2, hl])
  case confrevClear =>
    intro s fn w n val hok ho
    exact checked_unless hok (by simp [ho])
  case simEnWrite =>
    intro s fn w val hok ho
    exact checked_unless hok (by simp [ho])

/-! What the commands leave unchanged (R77, R78, R107, R110, R121) -/

/-- Settles O9: a command that may restart the device is in each list; any other changes only parts whose lists name it. -/
theorem samplesFrame : Obligations.SamplesFrame := by
  unfold Obligations.SamplesFrame
  intro c s t h
  cases hr : c.mayRestart with
  | true => simp [Instr.mayIntake, Instr.mayWall, Instr.maySlice, hr]
  | false =>
    obtain ⟨m, w, ha⟩ := exec_within hr h
    exact ⟨fun hl => w.intake (Instr.testBit_of_allows ha (by decide) hl), fun hl => w.wall (Instr.testBit_of_allows ha (by decide) hl),
      fun hl => w.slice (Instr.testBit_of_allows ha (by decide) hl)⟩

end Sys2Proof.Machine
end

section
/-! CLAIMS. The statements of chapter 4: the sample wall and its slices. -/

namespace Sys2Proof.Machine

/-! The commands of the wall and of the slices (R107, R108, R110, R115, R119, R121, R124) -/

/-- Settles O32: MAIN is up or not needed, and the hypotheses of each command leave the one branch of its operation that acts. -/
theorem wallCommandsComplete : Obligations.WallCommandsComplete := by
  unfold Obligations.WallCommandsComplete
  refine ⟨?asduWrite, ?rowOpen, ?rowDeadline, ?rowRelease, ?derivedRelease, ?degradeStep, ?restoreStep, ?enable, ?disable, ?consWrite,
    ?blockWrite⟩
  case asduWrite =>
    intro s w k a q hq s1 n
    refine (live_of rfl k).trans (congrArg _ ?_)
    rw [State.wallAsduWrite, hq]
  case rowOpen =>
    intro s w n hok k key rate hon hd ha hk level
    exact live_unless hok k (c := (!s.sectOn w n || s.sectF w n 30 1 == 1 || !s.armed || !s.openDue w n key) = true)
      (by simp [hon, hd, ha, hk])
  case rowDeadline =>
    intro s w n hok k hon x rate late upd s1
    exact live_unless hok k (by simp [hon])
  case rowRelease =>
    intro s w n ecc hok k hon hd h hh
    have e : exec (.rowRelease w n ecc) s = .next (s.rowRelease w n ecc) := live_of hok k
    rw [State.rowRelease, if_neg (by simp [hon, hd]), hh] at e
    exact e
  case derivedRelease =>
    intro s w n hok k hon hd src srcRate rate l hl key hk
    refine (live_of hok k).trans (congrArg _ ?_)
    rw [State.derivedRowRelease, if_neg (by simp [hon, hd])]
    dsimp only
    rw [hl]
    exact if_neg (Nat.not_le.mpr hk)
  case degradeStep =>
    intro s w k t ht hd
    refine (live_of rfl k).trans (congrArg _ ?_)
    rw [State.wallDegradeStep, ht]
    exact if_neg (Nat.not_lt.mpr hd)
  case restoreStep =>
    intro s w k t ht hd
    refine (live_of rfl k).trans (congrArg _ ?_)
    rw [State.wallRestoreStep, ht]
    exact if_neg (Nat.not_lt.mpr hd)
  case enable =>
    intro s fn g val hok hr ho a hoff hon h3 h12 s1
    refine (checked_of hok).trans (congrArg _ ?_)
    simp [State.sliceEnable, State.sliceCfgWrite, hr, ho, a, s1, hoff, hon, h3, h12]
  case disable =>
    intro s fn g val hok hr ho a hon hoff s1
    refine (checked_of hok).trans (congrArg _ ?_)
    simp [State.sliceDisable, State.sliceCfgWrite, hr, ho, a, s1, hon, hoff]
  case consWrite =>
    intro s fn g val hok cons prod hr ho hv
    exact checked_when hok (by simp [hr, ho, hv, cons, prod])
  case blockWrite =>
    intro s g hok k fn b cfg sl hs rows rest prod cons n odd
    exact live_unless hok k (by simp [hs])

end Sys2Proof.Machine
end

section
/-! SUPPORT. The Hedge units (05_hedge.md): a lease command of a tenant that may give it, a request taken on a channel, and an element
that is due. -/

namespace Sys2Proof.Machine

/-- A lease command of a tenant with P_PROT acts after a timer that expires in the same cycle (R147, R148). -/
theorem State.leaseCmd_of {s : State} {fn : Nat} (hr : s.reach fn = true) (hp : s.hasPriv fn 0 = true) (go : State → State) :
    s.leaseCmd fn go = go s.leaseTimeout := by
  rw [State.leaseCmd, hr, hp]; rfl

/-- The request taken on a channel is carried out by the command of its TYPE (R402). -/
theorem State.request_of {s : State} {ch ty : Nat} {rq : ReqMsg} (hf : Tab.find s.host.taken ch = some rq) (ht : rq.typ.toNat = ty)
    (go : State → State) : s.request ch ty go = go s := by
  rw [State.request, hf]; exact if_pos ht

/-- An element that is on, of a type of the command, not OFF and due changes, and the lines follow (R140-R144). -/
theorem live_elemDue {ok : Bool} {s : State} {w : Wing} {e : Nat} {types : List Nat} {due : ElSet → Elem → Bool} {f : Elem → Elem}
    (hok : ok = true) (k : s.mainUp = true) (hon : tst (s.elCfg w e 0) 31 = true) (hty : types.contains (s.elType w e) = true)
    (hm : (s.elSettings w e).mode ≠ 0) (hd : due (s.elSettings w e) (s.elem w e) = true) :
    live ok s (s.elemDue w e types due f) = .next ((s.putElem w e (f (s.elem w e))).driveLines w) :=
  live_when hok k (by rw [hon, hty, bne_iff_ne.mpr hm, hd]; rfl)

end Sys2Proof.Machine
end

section
/-! CLAIMS. The statements of chapter 5: the Hedge units and the protection lease. -/

namespace Sys2Proof.Machine

/-! What the commands leave unchanged (R140, R144, R147, R148, R151) -/

/-- Settles O10: a command that may restart the device is in both lists; any other changes only parts whose lists name it. -/
theorem protectionFrame : Obligations.ProtectionFrame := by
  unfold Obligations.ProtectionFrame
  intro c s t h
  cases hr : c.mayRestart with
  | true => simp [Instr.mayHedge, Instr.mayLease, hr]
  | false =>
    obtain ⟨m, w, ha⟩ := exec_within hr h
    exact ⟨fun hl => w.hedge (Instr.testBit_of_allows ha (by decide) hl), fun hl => w.lease (Instr.testBit_of_allows ha (by decide) hl)⟩

/-! The protection lease and the settings (R147, R148, R151) -/

/-- Settles O33: the function has P_PROT or the request its TYPE, and the hypotheses of each command leave the one branch that acts. -/
theorem leaseCommandsComplete : Obligations.LeaseCommandsComplete := by
  unfold Obligations.LeaseCommandsComplete
  refine ⟨?acquire, ?refresh, ?release, fun _ k hd => live_when rfl k hd, ?hedgeSet, fun _ k => live_of rfl k⟩
  case acquire =>
    intro s fn seq hok hr hp t hh again s1
    refine (checked_of hok).trans (congrArg _ ?_)
    rw [State.acquire, State.leaseCmd_of hr hp, hh]
  case refresh =>
    intro s fn seq hok hr hp t hh hq
    refine (checked_of hok).trans (congrArg _ ?_)
    rw [State.refresh, State.leaseCmd_of hr hp, if_neg (not_not_intro hh), if_neg (not_not_intro hq)]
  case release =>
    intro s fn seq hok hr hp t hh
    refine (checked_of hok).trans (congrArg _ ?_)
    rw [State.release, State.leaseCmd_of hr hp, if_neg (not_not_intro hh)]
  case hedgeSet =>
    intro s ch given hok k rq hf hy
    dsimp only
    intro hm hp hn hv
    refine (live_of hok k).trans (congrArg _ ?_)
    rw [State.hedgeSet, State.request_of hf hy]
    simp only [hm, hp, hn, hv]
    rfl

/-! Elements, frequencies, comparison records and phasors (R131, R135, R140-R144, R154, R157) -/

/-- Settles O34: MAIN is up or not needed; an element is due, and the hypotheses of any other command leave the one branch that acts. -/
theorem hedgeCommandsComplete : Obligations.HedgeCommandsComplete := by
  unfold Obligations.HedgeCommandsComplete
  refine ⟨?operate, ?resetDelay, ?inverseOperate, ?inverseReset, ?retrip, ?bfOperate, ?inputInvalid, ?freqHold, ?recordReceive,
    ?recordTimeout, fun _ _ _ k => live_of rfl k, ?phRead⟩
  case operate | resetDelay | inverseOperate | inverseReset | retrip | bfOperate | inputInvalid =>
    intro s w e hok k x g hon hty hm hd
    exact live_elemDue hok k hon hty hm hd
  case freqHold =>
    intro s w t hok k x a ha hh hd
    refine (live_of hok k).trans (congrArg _ ?_)
    simp only [State.freqHoldTimeout]
    rw [ha]
    exact if_pos (by simp [x, hh, hd])
  case recordReceive =>
    intro s w r k o no x q hq hx ht
    refine (live_of rfl k).trans (congrArg _ ?_)
    simp only [State.comparisonRecordReceive]
    rw [hq]
    exact if_pos ⟨hx, ht⟩
  case recordTimeout =>
    intro s w sec hok k h p hp hd hc
    refine (live_of hok k).trans (congrArg _ ?_)
    simp only [State.comparisonRecordTimeout]
    rw [hp]
    exact if_neg (by simp [hd, hc])
  case phRead =>
    exact fun _ _ _ _ _ hok h8 hr ht => checked_ownRead_narrow hok h8 (by simp only [State.phRead, State.ownerRead_owner hr ht])

end Sys2Proof.Machine
end

section
/-! SUPPORT. The trip path (06_trip_path.md): a write of GO that passes the checks of R166 or fails one, and what a refusal changes. -/

namespace Sys2Proof.Machine

/-! A write of GO (R166, R167) -/

/-- The state after a refusal: RESULT names the check that failed, the refusal counts, ES570 is raised (R167, R177, R179). -/
def State.tripRefuse (s : State) (fn r : Nat) : State :=
  ((s.wf (Reg.TRIP_CMD_STAT fn) 29 3 r).cnt Reg.TRIP_CMD_REFUSED_CNT 0 32 1).raise 570

section
variable {s : State} {fn : Nat} (seq crc : Half) (hr : s.reach fn = true)
include hr

/-- A live function's staged command that fails a check is refused. -/
theorem State.tripGo_refused (hc : s.tripCheck fn seq crc ≠ 0) :
    s.tripGo fn seq crc = s.tripRefuse fn (s.tripCheck fn seq crc) := by
  rw [State.tripGo, hr]; exact if_neg hc

/-- One that passes them all is carried out. -/
theorem State.tripGo_accepted (hc : s.tripCheck fn seq crc = 0) : s.tripGo fn seq crc = s.tripDo fn seq := by
  rw [State.tripGo, hr]; exact if_pos hc

end

/-- The result of the checks fits the three bits of RESULT. -/
theorem State.tripCheck_lt_eight (s : State) (fn : Nat) (seq crc : Half) : s.tripCheck fn seq crc < 8 := by
  unfold State.tripCheck
  dsimp only
  repeat' split
  all_goals decide

/-! What a refusal changes -/

/-- A function's page lies above every register outside the pages (R40). -/
theorem tripCmdStat_ne {fn a : Nat} (h : a < 0x02000000) : Reg.TRIP_CMD_STAT fn ≠ a := by
  simp only [Reg.TRIP_CMD_STAT, fnPage]; omega

section
variable (s : State) (fn r : Nat)

/-- A refusal leaves the trip path's own part of the state as it is. -/
theorem State.tripRefuse_trip : (s.tripRefuse fn r).trip = s.trip := (State.raise_only _ 570).trip rfl

/-- It changes no register but three. -/
theorem State.rd_tripRefuse_ne {a : Nat} (h1 : Reg.TRIP_CMD_STAT fn ≠ a) (h2 : Reg.TRIP_CMD_REFUSED_CNT ≠ a) (h3 : a ≠ Reg.ER_PEND 17) :
    (s.tripRefuse fn r).rd a = s.rd a := by
  rw [State.tripRefuse, State.raise, State.rd_raiseAt_ne _ _ _ _ _ h3, State.rd_cnt_ne _ h2, State.rd_wf_ne _ h1]

/-- In TRIP_CMD_STAT it writes RESULT alone. -/
theorem State.rd_tripRefuse_stat :
    (s.tripRefuse fn r).rd (Reg.TRIP_CMD_STAT fn) = setFld (s.rd (Reg.TRIP_CMD_STAT fn)) 29 3 r := by
  rw [State.tripRefuse, State.raise, State.rd_raiseAt_ne _ _ _ _ _ (tripCmdStat_ne (by decide)),
    State.rd_cnt_ne _ (tripCmdStat_ne (by decide)).symm, State.rd_wf_same]

/-- RESULT names the check. -/
theorem State.rf_tripRefuse_result (h : r < 8) : (s.tripRefuse fn r).rf (Reg.TRIP_CMD_STAT fn) 29 3 = r := by
  rw [State.rf, State.rd_tripRefuse_stat, fld_setFld _ _ _ _ (by decide)]
  exact Nat.mod_eq_of_lt h

/-- LAST_SEQ stands. -/
theorem State.rf_tripRefuse_lastSeq :
    (s.tripRefuse fn r).rf (Reg.TRIP_CMD_STAT fn) 0 16 = s.rf (Reg.TRIP_CMD_STAT fn) 0 16 := by
  rw [State.rf, State.rd_tripRefuse_stat, fld_setFld_below _ _ _ _ _ _ (by decide) (by decide), State.rf]

/-- One more refusal is counted. -/
theorem State.rf_tripRefuse_count : (s.tripRefuse fn r).rf Reg.TRIP_CMD_REFUSED_CNT 0 32 =
    min (s.rf Reg.TRIP_CMD_REFUSED_CNT 0 32 + 1) 0xFFFFFFFF := by
  rw [State.tripRefuse, State.raise, State.rf, State.rd_raiseAt_ne _ _ _ _ _ (by decide), ← State.rf, State.rf_cnt_same _ (by decide),
    State.rf, State.rd_wf_ne _ (tripCmdStat_ne (by decide))]
  rfl

/-- TRIP_CMD_REFUSED (ES570) is pending. -/
theorem State.rb_tripRefuse_pend : (s.tripRefuse fn r).rb (Reg.ER_PEND 17) 26 = true := State.rb_raiseAt _ 570 0 0

end

end Sys2Proof.Machine
end

section
/-! CLAIMS. The statements of chapter 6: the trip path. -/

namespace Sys2Proof.Machine

/-! A refused trip command (R166, R167) -/

/-- Settles O22: PULSE and CLEAR are one write of GO, whose refusal changes three registers and what the event signals and logs. -/
theorem tripCommandRefused : Obligations.TripCommandRefused := by
  unfold Obligations.TripCommandRefused
  intro s fn seq crc c hcmd hfn hr hc
  let r := s.tripCheck fn seq crc
  have next : exec c s = .next (s.tripRefuse fn r) := by
    have go := (checked_of (s := s) (decide_eq_true hfn)).trans (congrArg _ (State.tripGo_refused seq crc hr hc))
    rcases hcmd with rfl | rfl <;> exact go
  exact ⟨_, next, s.rf_tripRefuse_result fn r (s.tripCheck_lt_eight fn seq crc), s.rf_tripRefuse_lastSeq fn r, s.tripRefuse_trip fn r,
    s.rd_tripRefuse_ne fn r (tripCmdStat_ne (by decide)) (by decide) (by decide), s.rf_tripRefuse_count fn r, s.rb_tripRefuse_pend fn r⟩

/-! The trip commands that complete (R162, R163, R165, R167, R169, R172) -/

/-- Settles O35: MAIN is up or not needed, the time of each timed command has come, and the checks of a write of GO are passed. -/
theorem tripCommandsComplete : Obligations.TripCommandsComplete := by
  unfold Obligations.TripCommandsComplete
  refine ⟨fun _ _ hok k hd => live_when hok k hd, ?sourceWrite, fun _ _ _ hok k => live_of hok k, ?holdExpiry, ?pulse, ?clear, ?pulseEnd,
    fun _ _ _ k => live_of rfl k, ?pubChange, ?pubResend⟩
  case sourceWrite =>
    intro s n bit v q hok k w key hb s0
    exact live_unless hok k (by rw [hb]; decide)
  case holdExpiry =>
    intro s w bit hok k key t0 ht hd s1
    refine (live_of hok k).trans (congrArg _ ?_)
    simp only [State.engHoldExpiry]
    rw [ht]
    exact if_neg (Nat.not_lt.mpr hd)
  case pulse | clear =>
    intro s fn seq crc hok hr hc mask ctl till s1
    exact (checked_of hok).trans (congrArg _ (State.tripGo_accepted seq crc hr hc))
  case pulseEnd =>
    intro s n hok k t ht hd
    refine (live_of hok k).trans (congrArg _ ?_)
    rw [State.hcmdPulseEnd, ht]
    exact if_neg (Nat.not_lt.mpr hd)
  case pubChange =>
    intro s g hok k c hg hl hm
    refine (live_of hok k).trans (congrArg _ ?_)
    rw [State.tripPubChange, hg]
    exact if_pos (by simp [hl, hm])
  case pubResend =>
    intro s g hok k c hg p hp hl hd i p1
    refine (live_of hok k).trans (congrArg _ ?_)
    rw [State.tripPubResend, hg, hp]
    exact if_neg (by simp [hl, hd])

end Sys2Proof.Machine
end

section
/-! SUPPORT. The Caique link (07_caique_link.md): a ring command that no refusal holds back. -/

namespace Sys2Proof.Machine

/-- The owner's command with P_CFG, of a ring that runs with no command and no switch pending, is carried out (R228, R230). -/
theorem State.ringCmd_accepted {s : State} {fn r op deny : Nat} (ho : s.ownerIn fn = true) (hp : s.pCfg fn = true)
    (hb : (s.rg r).busy.isSome = false) (hw : s.rb (Reg.CQ_RING_STAT r) 22 = false) (hr : s.ringState r = 2) (hd : deny = 0)
    (go : State → State) : s.ringCmd fn r op deny go = go (s.setRg r { s.rg r with busy := some op }) := by
  simp [State.ringCmd, ho, hp, hb, hw, hr, hd]

end Sys2Proof.Machine
end

section
/-! CLAIMS. The statements of chapter 7: the Caique link. -/

namespace Sys2Proof.Machine

/-! Rings, their start, cycles and epochs (R185, R204, R205, R209, R228, R238, R240) -/

/-- Settles O36: MAIN is up or not needed, and the hypotheses of each command leave the one branch of its operation that acts. -/
theorem ringCommandsComplete : Obligations.RingCommandsComplete := by
  unfold Obligations.RingCommandsComplete
  refine ⟨?cutoff, ?rotate, ?start, ?commit, ?swap, ?sourceStop, fun _ _ hok k => live_of hok k, ?cycleRead⟩
  case cutoff =>
    intro s r hok k hr hc
    exact live_unless hok k (by simp [hr, hc])
  case rotate =>
    intro s r hok k hr hx hd
    exact live_unless hok k (by simp [hr, hx, hd])
  case start =>
    intro s r mramOk hok k hd hs
    exact live_when hok k (by simp [hd, hs])
  case commit =>
    intro s r w sched hok k hw
    exact live_unless hok k (by simp [hw])
  case swap =>
    intro s r hok k due hr hs hd
    exact live_when hok k (c := (decide (s.ringState r ≠ 0) && s.swapDue r && due) = true) (by simp [hr, hs, hd])
  case sourceStop =>
    intro s r hok k x hr ht hl hx
    exact live_when hok k (c := (decide (s.ringState r ≠ 0) && s.trgRing r && x.trgLast.isSome && !x.trgStop) = true)
      (by simp [hr, ht, hl, hx])
  case cycleRead =>
    exact fun _ _ _ _ hok h8 hr ht => checked_ownRead_narrow hok h8 (by simp only [State.cycleRead, State.ownerRead_owner hr ht])

/-! Caravans received, joins, breaks and ring commands (R195, R198, R212, R217, R221, R223, R224, R226, R227, R249) -/

/-- Settles O37: MAIN is up or the ring command is accepted, and the hypotheses of each command leave the one branch that acts. -/
theorem caravanCommandsComplete : Obligations.CaravanCommandsComplete := by
  unfold Obligations.CaravanCommandsComplete
  refine ⟨?receive, ?missing, fun _ _ _ hok k hc => live_when hok k hc, ?nodeLost, ?joinAnswer, ?echoReqSend, ?echoReqReceive,
    ?echoRspReceive, ?echoTimeout, ?unwrap, ?restore, ?sleep, ?wake, ?nodeReset, ?clearFalseWake, fun _ _ hok k => live_of hok k,
    fun _ _ _ hok k hc => live_when hok k hc⟩
  case receive =>
    intro s r tail c hok k hr form seq s0
    exact live_unless hok k hr
  case missing =>
    intro s r tail hok k hr a ha hp
    refine (live_of hok k).trans (congrArg _ ?_)
    rw [State.caravanMissing, if_neg hr, ha]
    exact if_pos hp
  case nodeLost =>
    intro s r n hok k x v hv ha hb
    exact live_when hok k (c := ((v == 2 || v == 3) && decide (3 ≤ x.missA) && decide (3 ≤ x.missB)) = true)
      (by simp [hv, ha, hb])
  case joinAnswer =>
    intro s r hok k x eui tagBad t hj s1 hr
    refine (live_of hok k).trans (congrArg _ ?_)
    simp only [State.joinAnswer]
    rw [hj]
    exact if_neg hr
  case echoReqSend =>
    intro s r tail hok k hc hg x
    exact live_when hok k (by simp [hc, hg])
  case echoReqReceive =>
    intro s r tail x turn hok k id hx hc
    refine (live_of hok k).trans (congrArg _ ?_)
    rw [State.echoReqReceive, hx]
    exact if_pos hc
  case echoRspReceive =>
    intro s r tail x ns sub hok k l id turn hx i at_ he hi ht
    refine (live_of hok k).trans (congrArg _ ?_)
    simp only [State.echoRspReceive]
    rw [hx, he]
    exact if_pos ⟨hi, ht⟩
  case echoTimeout =>
    intro s r tail hok k z at_ he ht
    refine (live_of hok k).trans (congrArg _ ?_)
    rw [State.echoTimeout, he]
    exact if_neg (Nat.not_lt.mpr ht)
  case unwrap =>
    intro s fn r hok x ho hp hb hw hr hd
    refine (checked_of hok).trans (congrArg _ ?_)
    rw [State.unwrap]
    exact State.ringCmd_accepted ho hp hb hw hr hd _
  case restore =>
    intro s fn r hok x deny ho hp hb hw hr hd
    refine (checked_of hok).trans (congrArg _ ?_)
    rw [State.restore]
    exact State.ringCmd_accepted ho hp hb hw hr hd _
  case sleep =>
    intro s fn r hok ho hp hb hw hr
    exact (checked_of hok).trans (congrArg _ (State.ringCmd_accepted ho hp hb hw hr rfl _))
  case wake =>
    intro s fn r hok ho hp hb hw hr he
    refine (checked_of hok).trans (congrArg _ ?_)
    exact congrArg (State.used · 1) (State.ringCmd_accepted ho hp hb hw hr (if_pos he) _)
  case nodeReset | clearFalseWake =>
    intro s fn r node hok ho hp hb hw hr hd
    exact (checked_of hok).trans (congrArg _ (State.ringCmd_accepted ho hp hb hw hr hd _))

end Sys2Proof.Machine
end

section
/-! CLAIMS. The statements of chapter 8: the cycles of the Caique rings. -/

namespace Sys2Proof.Machine

/-! What the commands leave unchanged (R209, R213, R222, R461, R469, R23, R3) -/

/-- Settles O12: a command that may restart the device is in all four lists; any other changes only parts whose lists name it. -/
theorem ringsAndUpdateFrame : Obligations.RingsAndUpdateFrame := by
  unfold Obligations.RingsAndUpdateFrame
  intro c s t h
  cases hr : c.mayRestart with
  | true => simp [Instr.mayRing, Instr.mayArb, Instr.mayUpd, Instr.mayBus, hr]
  | false =>
    obtain ⟨m, w, ha⟩ := exec_within hr h
    have unlisted {i : Nat} (hi : i < 27) : c.mayPart i = false → m.testBit i = false := Instr.testBit_of_allows ha hi
    exact ⟨fun hl => w.ring (unlisted (by decide) hl), fun hl => w.arb (unlisted (by decide) hl),
      fun hl => w.upd (unlisted (by decide) hl), fun hl => w.bus (unlisted (by decide) hl)⟩

end Sys2Proof.Machine
end

section
/-! SUPPORT. What every command keeps, whatever parts it changes (R422, R438, R450): the queue, blown fuses, canonical memories. -/

namespace Sys2Proof.Machine

/-- The queue stands, blown fuses stay blown and canonical memories stay canonical; every part of the state may change. -/
abbrev Keeps (s t : State) : Prop := Within 134217727 s t

/-- A change of few parts keeps what a change of all of them must. -/
theorem Within.keeps {m : Nat} {s t : State} (h : Within m s t) : Keeps s t := by
  constructor
  case pending => exact h.pending
  case mem => exact h.mem
  case fuse => exact h.fuse
  all_goals exact fun x => absurd x (by decide)

theorem State.memOk_mram {s : State} (h : s.memOk = true) : Memory.wf 0 s.mram.mem = true := by
  simp only [State.memOk, Bool.and_eq_true] at h
  obtain ⟨⟨⟨_, hm⟩, _⟩, _⟩ := h
  exact hm

/-- The MRAM put back as it was at the start. -/
theorem Keeps.restore_mram {s t : State} (h : Keeps s t) : Keeps s { t with mram := s.mram } := by
  by_cases hok : s.memOk = true
  · exact .on_mram h rfl fun _ => State.memOk_mram hok
  · exact { h with mem := fun x => absurd x hok, mram := fun _ => rfl }

end Sys2Proof.Machine
end

section
/-! SUPPORT. What the row's evaluation and the comparison of the wings keep (Machine/Hedge.lean). -/

namespace Sys2Proof.Machine.State

theorem rowPhasors_keeps (s : State) (w : Wing) (n : Nat) (r : Row) : Keeps s (s.rowPhasors w n r) :=
  (setHedge_only ..).after (.eachIn (.refl ..) fun _ _ h => (setHedge_only ..).after h rfl) rfl

theorem updateFreq_keeps (s : State) (w : Wing) (fs t : Nat) (g : Group) : Keeps s (s.updateFreq w fs t g) := by
  have put (y : Freq) (u : State) :
      Keeps u ((u.setHedge w { u.hedge.at_ w with freq := Tab.put (u.hedge.at_ w).freq t y }).showFreq w t) :=
    (showFreq_only ..).after (setHedge_only ..).keeps rfl
  exact .ite (.ite (put ..) ((hedgeEvent_only ..).after (put ..) rfl)) (.ite_then (put ..) fun h => (hedgeEvent_only ..).after h rfl)

theorem rowFreqs_keeps (s : State) (w : Wing) (n : Nat) : Keeps s (s.rowFreqs w n) := by
  refine .each (.refl ..) fun t u h => ?_
  split
  · exact .ite ((updateFreq_keeps ..).after h rfl) h
  · exact h

theorem putSet_keeps (s : State) (w : Wing) (e : Nat) (ws : List Word) : Keeps s (s.putSet w e ws) :=
  .ite_else (.each (.refl ..) fun _ _ h => (wr_only ..).after h rfl) fun h => (putElem_only ..).after h rfl

theorem switchElem_keeps (s : State) (w : Wing) (key fs e : Nat) : Keeps s (s.switchElem w key fs e) :=
  .ite (.refl ..) (.eachIn (setHedge_only ..).keeps fun _ _ h => (putSet_keeps ..).after h rfl)

theorem setOverride_keeps (s : State) (v : Bool) : Keeps s (s.setOverride v) :=
  .ite (.refl ..) ((revote_only ..).after ((voteAlarm_only ..).after ((raise_only ..).after (.on_safe (.refl ..) rfl) rfl) rfl) rfl)

theorem identify_keeps (s : State) : Keeps s s.identify := by
  have h1 : Keeps s ((s.raise 487).setOverride true) := (setOverride_keeps ..).after (raise_only ..).keeps rfl
  exact .ite (.on_hedge_safe h1 rfl rfl) (.eachIn h1 fun _ _ h => (exclude_only ..).after h rfl)

theorem rowMismatch_keeps (s : State) (w : Wing) (n : Nat) : Keeps s (s.rowMismatch w n) :=
  .ite_then ((cnt_only ..).after ((cnt_only ..).after (setHedge_only ..).keeps rfl) rfl) fun h2 =>
    .ite_else (.ite_else ((wb_only ..).after ((wb_only ..).after h2 rfl) rfl) fun h3 =>
      (hedgeEvent_only ..).after ((hedgeEvent_only ..).after h3 rfl) rfl) fun h4 => (identify_keeps ..).after h4 rfl

theorem rowMatch_keeps (s : State) (w : Wing) (n : Nat) : Keeps s (s.rowMatch w n) :=
  .ite_then ((wf_only ..).after (setHedge_only ..).keeps rfl) fun h1 => .ite_then ((wb_only ..).after h1 rfl) fun h2 =>
    .ite_else ((wb_only ..).after h2 rfl) fun h3 => (setOverride_keeps ..).after (.on_safe h3 rfl) rfl

theorem compareRow_keeps (s : State) (w : Wing) (own got : CmpRec) : Keeps s (s.compareRow w own got) :=
  .ite (rowMatch_keeps ..) (rowMismatch_keeps ..)

theorem ownRecord_keeps (s : State) (w : Wing) (n : Nat) (r : Row) : Keeps s (s.ownRecord w n r) := by
  unfold ownRecord
  dsimp only
  have h1 : Keeps s { s with arb.linkNo := s.arb.linkNo + 1 } := .on_arb (.refl ..) rfl
  refine .ite (.refl ..) ?_
  split
  · exact (compareRow_keeps ..).after ((setHedge_only ..).after h1 rfl) rfl
  · exact (setHedge_only ..).after h1 rfl

theorem takeRecord_keeps (s : State) (w : Wing) (r : CmpRec) : Keeps s (s.takeRecord w r) := by
  unfold takeRecord
  dsimp only
  refine .ite (.refl ..) ?_
  split
  · exact (compareRow_keeps ..).after (setHedge_only ..).keeps rfl
  · exact .ite (setHedge_only ..).keeps (.refl ..)

theorem comparisonRecordReceive_keeps (s : State) (w : Wing) (r : CmpRec) : Keeps s (s.comparisonRecordReceive w r) := by
  unfold comparisonRecordReceive
  dsimp only
  split
  · exact .ite ((takeRecord_keeps ..).after (setHedge_only ..).keeps rfl) (.refl ..)
  · exact .refl ..

theorem comparisonRecordTimeout_keeps (s : State) (w : Wing) (sec : Nat) : Keeps s (s.comparisonRecordTimeout w sec) := by
  unfold comparisonRecordTimeout
  dsimp only
  split
  · exact .ite (.refl ..) ((rowMismatch_keeps ..).after (setHedge_only ..).keeps rfl)
  · exact .refl ..

theorem hedgeFault_keeps (s : State) (w : Wing) (es : Nat) : Keeps s (s.hedgeFault w es) :=
  (exclude_only ..).after ((wingFault_only ..).after ((hedgeEvent_only ..).after (wb_only ..).keeps rfl) rfl) rfl

theorem checkerStep_keeps (s : State) (w : Wing) (diff : Bool) : Keeps s (s.checkerStep w diff) := by
  unfold checkerStep
  dsimp only
  split
  · exact .ite_then (setHedge_only ..).keeps fun h1 => (hedgeFault_keeps ..).after (.ite_then h1 fun h => .on_safe h rfl) rfl
  · exact .refl ..

theorem snapRow_keeps (s : State) (w : Wing) (n : Nat) (r : Row) : Keeps s (s.snapRow w n r) := by
  unfold snapRow
  dsimp only
  split
  · exact .ite (.refl ..) ((setHedge_only ..).after
      (.eachIn (.refl ..) fun _ _ h => (wr_only ..).after ((wr_only ..).after h rfl) rfl) rfl)
  · exact .refl ..

theorem hedgeEvaluate_keeps (s : State) (w : Wing) (chkDiff : Bool) : Keeps s (s.hedgeEvaluate w chkDiff) := by
  unfold hedgeEvaluate
  split
  case h_2 => exact .refl ..
  case h_1 n r q _ =>
    have h0 : Keeps s { s with wall := s.wall.set w { s.wall.at_ w with hedgeQ := q } } := .on_wall (.refl ..) rfl
    refine .ite h0 ((checkerStep_keeps ..).after ((ownRecord_keeps ..).after ((snapRow_keeps ..).after
      ((driveLines_only ..).after (.eachIn ?rowDone fun e t h => ?elem) rfl) rfl) rfl) rfl)
    case rowDone => exact (rowFreqs_keeps ..).after ((rowPhasors_keeps ..).after h0 rfl) rfl
    case elem =>
      dsimp only
      split
      · exact (putElem_only ..).after ((switchElem_keeps ..).after h rfl) rfl
      · exact h

end Sys2Proof.Machine.State
end

section
/-! SUPPORT. What setting the time and comparing the wings' clocks keep (Machine/Time.lean). -/

namespace Sys2Proof.Machine.State

theorem armTime_keeps (s : State) : Keeps s s.armTime :=
  (wb_only ..).after ((setTimeState_only ..).after ((raise_only ..).after
    (.ite_else (setTriple_only ..).keeps fun h => (setTriple_only ..).after h rfl) rfl) rfl) rfl

theorem capture_keeps (s : State) : Keeps s s.capture := by
  unfold capture
  split <;> exact .on_time (.refl ..) rfl

theorem diffOver_keeps (s : State) (st : Wing) (d : Int) : Keeps s (s.diffOver st d) := by
  unfold diffOver
  extract_lets s1 time s2 again s3
  have h2 : Keeps s s2 := .on_time (.ite (raise_only ..).keeps (.refl ..)) rfl
  exact .ite ((exclude_only ..).after h2 rfl) (.ite ((exclude_only ..).after h2 rfl)
    ((raise_only ..).after ((setTriple_only ..).after (.on_time ((setAlarm_only ..).after h2 rfl) rfl) rfl) rfl))

theorem wingStrobe_keeps (s : State) : Keeps s s.wingStrobe := by
  unfold wingStrobe
  dsimp only
  refine .ite (capture_keeps ..) ?_
  have h2 (l : List Wing) : Keeps s (eachIn l (fun w t => t.exclude w 566) s.capture) :=
    .eachIn (capture_keeps ..) fun _ _ h => (exclude_only ..).after h rfl
  split
  · exact .ite (h2 _) (.ite ((diffOver_keeps ..).after ((wf_only ..).after (h2 _) rfl) rfl)
      ((setTriple_only ..).after (.on_time ((wf_only ..).after (h2 _) rfl) rfl) rfl))
  · exact h2 _

end Sys2Proof.Machine.State
end

section
/-! SUPPORT. What resets, SYS_CMD, wake-ups and the hold-up tasks keep (Machine/Power.lean). -/

namespace Sys2Proof.Machine.State

theorem powerOff_keeps (s : State) : Keeps s s.powerOff :=
  Keeps.restore_mram (t := { s.restart .power 1 with dev.st := .off, dev.prev := .off }) (.on_dev (restart_only ..) rfl)

theorem brownOut_keeps (s : State) (i : Nat) : Keeps s (s.brownOut i) :=
  .ite (.refl ..) (.ite (powerOff_keeps ..) (restart_only ..))

theorem powerOn_keeps (s : State) (x : PowerUp) : Keeps s (s.powerOn x) :=
  .ite ((resetEnds_only ..).after (.on_dev (.ite (restart_only ..) (.refl ..)) rfl) rfl) (.refl ..)

theorem sysReset_keeps (s : State) (cause : Nat) : Keeps s (s.sysReset cause) := .ite (restart_only ..) (.refl ..)

theorem resetPin_keeps (s : State) (lowNs : Nat) : Keeps s (s.resetPin lowNs) :=
  .ite (.refl ..) (.ite (sysReset_keeps ..) (.ite_then (used_only ..).keeps fun h1 => (sysReset_keeps ..).after h1 rfl))

theorem debugReset_keeps (s : State) : Keeps s s.debugReset := .ite (sysReset_keeps ..) (.refl ..)

theorem beginStandby_keeps (s : State) : Keeps s s.beginStandby :=
  (standbyDone_only ..).after (.each ((tripOutputs_only ..).after (.on_dev (.refl ..) rfl) rfl) fun _ _ h =>
    .ite h ((setRg_only ..).after h rfl)) rfl

theorem sysResult_keeps (s : State) (v : Nat) : Keeps s (s.sysResult v) := (wf_only ..).keeps

theorem sysOp_keeps (s : State) (op arg : Nat) : Keeps s (s.sysOp op arg) := by
  unfold sysOp
  split
  · split
    · exact .ite ((sysResult_keeps ..).after (turn_only ..).keeps rfl) (sysResult_keeps ..)
    · exact sysResult_keeps ..
  · split
    · exact (sysResult_keeps ..).after (coreNow_only ..).keeps rfl
    · exact sysResult_keeps ..
  · exact (sysReset_keeps ..).after (sysResult_keeps ..) rfl
  · exact .ite ((beginStandby_keeps ..).after (sysResult_keeps ..) rfl) (sysResult_keeps ..)
  · exact sysResult_keeps ..

theorem sysCmd_keeps (s : State) (fn : Nat) (val : Word) : Keeps s (s.sysCmd fn val) :=
  .ite (.refl ..) (.ite (sysResult_keeps ..) (.ite (sysResult_keeps ..) (sysOp_keeps ..)))

theorem wakeUp_keeps (s : State) (bits : Word) : Keeps s (s.wakeUp bits) :=
  .ite (.refl ..) (.ite (.on_dev ((restart_only ..).after ((wr_only ..).after (.on_dev (.refl ..) rfl) rfl) rfl) rfl) (wr_only ..).keeps)

theorem canWakes_keeps (s : State) (x : Nat) : Keeps s (s.canWakes x) :=
  .ite ((wakeUp_keeps ..).after (onCan_only ..).keeps rfl) (.refl ..)

theorem canWakeMatch_keeps (s : State) (x : Nat) (f : CanFrame) (crcOk : Bool) : Keeps s (s.canWakeMatch x f crcOk) :=
  .ite (canWakes_keeps ..) (.refl ..)

theorem canWakePin_keeps (s : State) (x : Nat) : Keeps s (s.canWakePin x) := .ite (canWakes_keeps ..) (.refl ..)

theorem rtcAlarm_keeps (s : State) : Keeps s s.rtcAlarm := .ite (.refl ..) (.ite (wakeUp_keeps ..) (raise_only ..).keeps)

theorem holdupTaskEnd_keeps (s : State) (uv : Nat) : Keeps s (s.holdupTaskEnd uv) := by
  unfold holdupTaskEnd
  extract_lets k toll s1
  have h1 : Keeps s s1 := (sampleE_only ..).after ((pfRecord_only ..).after (.on_toll (.refl ..) rfl) rfl) rfl
  exact .ite (.refl ..) (.ite ((sysReset_keeps ..).after h1 rfl) ((tryTask_only ..).after h1 rfl))

theorem powerReturn_keeps (s : State) : Keeps s s.powerReturn := by
  have h1 : Keeps s { s with dev.vinOk := true } := .on_dev (.refl ..) rfl
  exact .ite (.refl ..) (.ite (.on_toll h1 rfl) ((sysReset_keeps ..).after h1 rfl))

end Sys2Proof.Machine.State
end

section
/-! SUPPORT. What the start-up steps keep (Machine/Start.lean). -/

namespace Sys2Proof.Machine.State

theorem startFail_keeps (s : State) (status : Nat) : Keeps s (s.startFail status) :=
  .ite ((raise_only ..).after ((restart_only ..).after (restorePrev_only ..).keeps rfl) rfl) (safeTalk_only ..).keeps

theorem unseal_keeps (s : State) : Keeps s s.unseal :=
  .ite (.refl ..) (.eachIn (.on_sec (.refl ..) rfl fun _ _ h => h) fun _ _ h => (raiseAt_only ..).after h rfl)

theorem mendRecord_keeps (s : State) : Keeps s s.mendRecord := .ite (.on_mram (.refl ..) rfl id) (.refl ..)

theorem selfTestComplete_keeps (s : State) (res : SelfTest) : Keeps s (s.selfTestComplete res) :=
  .ite (.refl ..) (.ite ((turn_only ..).after ((unseal_keeps ..).after (.on_dev (mendRecord_keeps ..) rfl) rfl) rfl)
    ((startFail_keeps ..).after (mendRecord_keeps ..) rfl))

theorem stepTimeout_keeps (s : State) : Keeps s s.stepTimeout := by
  unfold stepTimeout
  dsimp only
  split
  · exact .ite (.refl ..) (safeTalk_only ..).keeps
  · exact .ite (startFail_keeps ..) (.refl ..)
  · exact .ite (startFail_keeps ..) (.refl ..)
  · exact .refl ..

theorem tenantPage_keeps (s : State) (x : Tenant) : Keeps s (s.tenantPage x) :=
  (wr_only ..).after ((wr_only ..).after ((wr_only ..).after ((wr_only ..).after ((wr_only ..).after (wr_only ..).keeps rfl) rfl) rfl) rfl)
    rfl

theorem bindAll_keeps (s : State) : Keeps s s.bindAll := .ite (.refl ..) (.each (.refl ..) fun _ _ h => (wr_only ..).after h rfl)

theorem failSources_keeps (s : State) (w : Wing) : Keeps s (s.failSources w) :=
  .eachIn (.on_trip (.refl ..) rfl) fun _ _ h => (takeFv_only ..).after h rfl

theorem startCentre_keeps (s : State) : Keeps s s.startCentre :=
  (bindAll_keeps ..).after ((wr_only ..).after ((wr_only ..).after ((wr_only ..).after
    (.eachIn (.ite (wf_only ..).keeps (.refl ..)) fun _ _ h => (tenantPage_keeps ..).after h rfl) rfl) rfl) rfl) rfl

theorem withMan_keeps (s : State) (slot : Nat) : Keeps s (s.withMan slot) :=
  .on_dev_sec_man (manRegs_only ..).keeps rfl rfl rfl fun _ _ h => h

theorem useDefaults_keeps (s : State) (reason : Nat) : Keeps s (s.useDefaults reason) :=
  (setAlarm_only ..).after ((raise_only ..).after (.on_upd (wf_only ..).keeps rfl id) rfl) rfl

theorem startSettings_keeps (s : State) : Keeps s s.startSettings := by
  unfold startSettings
  extract_lets h r s1 s2
  have h1 : Keeps s s1 := .ite (useHalf_only ..).keeps (useDefaults_keeps ..)
  have h2 : Keeps s s2 := by
    dsimp only [s2]
    split
    · exact .ite ((imageRefused_only ..).after h1 rfl) h1
    · exact h1
  exact .eachIn h2 fun _ _ h => (putSettings_only ..).after h rfl

theorem startTime_keeps (s : State) (mramOk : Bool) : Keeps s (s.startTime mramOk) :=
  .each (.each (armTime_keeps ..) fun _ _ h => .ite ((armTrg_only ..).after h rfl) h) fun _ _ h => (ringBegin_only ..).after h rfl

theorem enterService_keeps (s : State) : Keeps s s.enterService :=
  (compareOn_only ..).after ((turn_only ..).after (.on_dev ((wb_only ..).after (hostUp_only ..).keeps rfl) rfl) rfl) rfl

theorem noteManFault_keeps (s : State) (slot : Nat) : Keeps s (s.noteManFault slot) := by
  refine of_body (fun f => Keeps s (f s slot)) (f := noteManFault) (by delta noteManFault; rfl) ?_
  beta_reduce
  generalize s.manImageFault slot = fault
  cases fault with
  | some c => exact (imageRefused_only ..).keeps
  | none => exact .refl ..

theorem configuringComplete_keeps (s : State) (flashOk mramOk : Bool) : Keeps s (s.configuringComplete flashOk mramOk) := by
  refine of_body (fun f => Keeps s (f s flashOk mramOk)) (f := configuringComplete) (by delta configuringComplete; rfl) ?_
  beta_reduce
  extract_lets +onlyGivenNames k
  refine .ite (.refl ..) (.ite (startFail_keeps ..) ?_)
  generalize s.manFault k = fault
  cases fault with
  | some c => exact (startFail_keeps ..).after (noteManFault_keeps ..) rfl
  | none =>
    refine .ite (startFail_keeps ..) ?_
    extract_lets +onlyGivenNames s2 s3
    have h2 : Keeps s s2 := .eachIn ((startCentre_keeps ..).after (withMan_keeps ..) rfl) fun _ _ h =>
      (startWing_only ..).after ((failSources_keeps ..).after h rfl) rfl
    have h3 : Keeps s s3 := (startSettings_keeps ..).after h2 rfl
    generalize wings.findSome? s3.loadFault = load
    cases load with
    | some p => exact (startFail_keeps ..).after (.ite ((evalTargets_only ..).after h3 rfl)
        ((imageRefused_only ..).after ((evalTargets_only ..).after h3 rfl) rfl)) rfl
    | none => exact (enterService_keeps ..).after ((startTime_keeps ..).after (.eachIn ((clustersRun_only ..).after
        ((loadAll_only ..).after h3 rfl) rfl) fun _ _ h => (thicketsRun_only ..).after h rfl) rfl) rfl

end Sys2Proof.Machine.State
end

section
/-! SUPPORT. What the arbiter's decisions and a device's activation keep (Machine/Steward.lean, Machine/Manifest.lean). -/

namespace Sys2Proof.Machine.State

theorem grant_keeps (s : State) (w : Wing) (epoch : Word) (cyc : Nat) : Keeps s (s.grant w epoch cyc) := by
  unfold grant
  extract_lets s0 s1 s2 s3 s4 arb s5
  have h1 : Keeps s s1 := .ite_then ((wr_only ..).after (wr_only ..).keeps rfl) fun h => (wb_only ..).after h rfl
  have h2 : Keeps s s2 := (wb_only ..).after ((wb_only ..).after ((wf_only ..).after h1 rfl) rfl) rfl
  have h3 : Keeps s s3 := (raiseAt_only ..).after ((raiseAt_only ..).after h2 rfl) rfl
  have h4 : Keeps s s4 := .ite ((setDeputy_only ..).after h3 rfl) ((setAlarm_only ..).after h3 rfl)
  exact (peerReset_only ..).after ((applyActs_only ..).after (.on_arb h4 rfl) rfl) rfl

theorem decideClaims_keeps (s : State) (cs : List (Wing × Word × Nat)) (cyc : Nat) : Keeps s (s.decideClaims cs cyc) := by
  have all (l : List (Wing × Word × Nat)) (b : Bool) (t : State) (h : Keeps s t) : Keeps s (eachIn l (fun c u => u.refuseClaim c.1 b) t) :=
    .eachIn h fun _ _ h => (refuseClaim_only ..).after h rfl
  unfold decideClaims
  dsimp only
  refine .ite (all _ _ _ (wb_only ..).keeps) ?_
  split
  · exact .ite (all _ _ _ (grant_keeps ..)) (all _ _ _ (.refl ..))
  · exact all _ _ _ (.refl ..)

theorem arbWindowClose_keeps (s : State) : Keeps s s.arbWindowClose := by
  unfold arbWindowClose
  dsimp only
  split
  · exact .ite (.refl ..) ((decideClaims_keeps ..).after (.on_arb (.refl ..) rfl) rfl)
  · exact .refl ..

theorem takeBeat_keeps (s : State) (b : Beat) : Keeps s (s.takeBeat b) := by
  unfold takeBeat
  extract_lets cur w arb s0
  have h0 : Keeps s s0 := .on_arb (.refl ..) rfl
  exact .ite ((cnt_only ..).after (.on_arb h0 rfl) rfl) (.on_arb h0 rfl)

theorem beatArrives_keeps (s : State) (b : Beat) : Keeps s (s.beatArrives b) := by
  unfold beatArrives
  split
  · exact .ite ((takeBeat_keeps ..).after (.on_arb (.refl ..) rfl) rfl) (.refl ..)
  · exact .refl ..

theorem arbRejoin_keeps (s : State) (w : Wing) : Keeps s (s.arbRejoin w) :=
  .ite (.refl ..) ((setDeputy_only ..).after (wb_only ..).keeps rfl)

theorem deputyLapse_keeps (s : State) : Keeps s s.deputyLapse := by
  unfold deputyLapse
  split
  · exact .ite ((dropDeputy_only ..).after (.on_arb (.refl ..) rfl) rfl) (.refl ..)
  · exact .refl ..

theorem ringSections_keeps (s : State) (m : Manifest) (w : Wing) (r : Nat) : Keeps s (s.ringSections m w r) := by
  have regs (hit : Nat → Bool) : Keeps s (s.manRegs m hit) := (manRegs_only ..).keeps
  exact .ite (.ite_then ((epochCommit_only ..).after ((setRg_only ..).after (regs _) rfl) rfl) fun h => (cmdResult_only ..).after h rfl)
    ((ringBegin_only ..).after ((manRegs_only ..).after ((ringStop_only ..).after ((setRg_only ..).after (regs _) rfl) rfl) rfl) rfl)

theorem tenantResets_keeps (s : State) (old new : ManCfg) : Keeps s (s.tenantResets old new) :=
  .each (.refl ..) fun _ _ h => .ite ((flr_only ..).after h rfl) h

theorem handover_keeps (s : State) (d : Wing) (m : Manifest) : Keeps s (s.handover d m) := by
  unfold handover
  extract_lets f t s1 k dev sec s2 s3 acting safe s4 s5
  have h0 : Keeps s t := by
    dsimp only [t]
    split
    · exact (useHalf_only ..).keeps
    · exact .refl ..
  have h2 : Keeps s s2 := .on_dev_sec_man ((manRegs_only ..).after h0 rfl) rfl rfl rfl fun _ _ h => h
  have h3 : Keeps s s3 := (tenantResets_keeps ..).after (.each ((startCentre_keeps ..).after h2 rfl) fun _ _ h =>
    (ringSections_keeps ..).after h rfl) rfl
  exact .ite_else ((exclude_only ..).after (.on_safe ((actPhase_only ..).after h3 rfl) rfl) rfl) fun h5 => (coreNow_only ..).after h5 rfl

theorem claimWindowClose_keeps (s : State) : Keeps s s.claimWindowClose := by
  unfold claimWindowClose
  dsimp only
  split
  · exact .ite_then (arbWindowClose_keeps ..) fun h1 => (coreNow_only ..).after h1 rfl
  · exact .ite_then (arbWindowClose_keeps ..) fun h1 => (handover_keeps ..).after h1 rfl
  · exact arbWindowClose_keeps ..

theorem claim_keeps (s : State) (w : Wing) : Keeps s (s.claim w) := (claimNow_only ..).after (claimWindowClose_keeps ..) rfl

theorem heartbeatArbiter_keeps (s : State) (w : Wing) (epoch : Word) (seq : Half) (health : Word) :
    Keeps s (s.heartbeatArbiter w epoch seq health) :=
  (beatArrives_keeps ..).after (claimWindowClose_keeps ..) rfl

theorem deputyHeartbeatTimeout_keeps (s : State) : Keeps s s.deputyHeartbeatTimeout :=
  (deputyLapse_keeps ..).after (claimWindowClose_keeps ..) rfl

theorem rejoinRequest_keeps (s : State) (w : Wing) : Keeps s (s.rejoinRequest w) := by
  unfold rejoinRequest
  extract_lets s0 s1
  have h1 : Keeps s s1 := (arbRejoin_keeps ..).after (claimWindowClose_keeps ..) rfl
  split
  · exact .ite ((compareOn_only ..).after ((actDone_only ..).after h1 rfl) rfl) h1
  · exact h1

theorem hedgeRowEvaluate_keeps (s : State) (w : Wing) (chkDiff : Bool) : Keeps s (s.hedgeRowEvaluate w chkDiff) := by
  unfold hedgeRowEvaluate
  extract_lets s1 safe s2
  have h1 : Keeps s s1 := hedgeEvaluate_keeps ..
  have h2 : Keeps s s2 := (unexclude_only ..).after (.on_safe h1 rfl) rfl
  refine .ite ?_ h1
  split
  · exact .on_arb ((actPhase_only ..).after h2 rfl) rfl
  · exact h2

theorem selectAll_keeps (s : State) : Keeps s s.selectAll := by
  unfold selectAll
  exact (select_only ..).keeps

theorem activateDevice_keeps (s : State) (ch : Nat) (arg : BitVec 30) (flashOk : Bool) : Keeps s (s.activateDevice ch arg flashOk) := by
  refine activate_in rfl (.refl ..) fun _ t h => ?_
  have reply (ws : List Word) : Keeps s (t.manReply ch ws) := (manReply_only ..).after h rfl
  generalize t.deviceFault = fault
  split
  · exact (used_only ..).after (reply _) rfl
  · exact reply _
  · refine .ite (reply _) ?_
    extract_lets +onlyGivenNames m set selected upd t1
    have h1 : Keeps s t1 := (manReply_only ..).after (.on_upd ((selectAll_keeps ..).after h rfl) rfl id) rfl
    refine .ite ((restart_only ..).after (.on_upd h1 rfl id) rfl) ?_
    split
    · exact h1
    · exact .ite_else ((exclude_only ..).after (.on_upd_safe ((actPhase_only ..).after ((compareOn_only ..).after h1 rfl) rfl) rfl rfl id)
        rfl) fun h4 => (coreNow_only ..).after h4 rfl

end Sys2Proof.Machine.State
end

section
/-! SUPPORT. What the safety monitor's reactions keep (Machine/Safe.lean). -/

namespace Sys2Proof.Machine.State

theorem reactExclude_keeps (s : State) (bit es : Nat) (w : Wing) : Keeps s (s.reactExclude bit es w) :=
  (exclude_only ..).after ((wingFault_only ..).after ((raiseAt_only ..).after (setAlarm_only ..).keeps rfl) rfl) rfl

theorem reactReset_keeps (s : State) (es : Nat) : Keeps s (s.reactReset es) := (reactSystem_only ..).after (raise_only ..).keeps rfl

theorem lockstepFault_keeps (s : State) (w : Wing) : Keeps s (s.lockstepFault w) :=
  .ite (.refl ..) (.ite_else ((exclude_only ..).after ((wingFault_only ..).after (raiseAt_only ..).keeps rfl) rfl) fun h1 =>
    (coreNow_only ..).after ((safeLast_only ..).after h1 rfl) rfl)

theorem parityError_keeps (s : State) (w : Option Wing) : Keeps s (s.parityError w) := by
  refine .ite (.refl ..) ?_
  cases w with
  | some x => exact reactExclude_keeps ..
  | none => exact (reactAlarm_only ..).keeps

theorem engineEcc_keeps (s : State) (n : Nat) (p : Proc) : Keeps s (s.engineEcc n p) := by
  have h1 (l : List Nat) : Keeps s ((s.used 1).setEn n { s.en n with badData := l }) :=
    (setEn_only _ _ _ (by rfl) (by rfl)).after (used_only ..).keeps rfl
  exact (reactAlarm_only ..).after ((wingFault_only ..).after (.ite_then (h1 _) fun h => (engineTrap_only ..).after h rfl) rfl) rfl

theorem imageEcc_keeps (s : State) (a : Nat) : Keeps s (s.imageEcc a) :=
  (reactReset_keeps ..).after ((setAlarm_only ..).after ((raise_only ..).after (.on_bridge (.refl ..) rfl id id) rfl) rfl) rfl

theorem mramEcc_keeps (s : State) (sess epoch box : Option Nat) (both : Bool) : Keeps s (s.mramEcc sess epoch box both) :=
  (raise_only ..).after (.on_mram (.refl ..) rfl id) rfl

theorem eccUe_keeps (s : State) (u : EccSite) : Keeps s (s.eccUe u) := by
  refine .ite (.refl ..) ?_
  cases u with
  | wall w n key c => exact (wallEcc_only ..).after (loseCell_only ..).keeps rfl
  | hedge w => exact (hedgeFault_keeps ..).after ((raiseAt_only ..).after (setAlarm_only ..).keeps rfl) rfl
  | serai => exact (reactAlarm_only ..).keeps
  | engine n p => exact engineEcc_keeps ..
  | image a => exact imageEcc_keeps ..
  | mram r k b two => exact mramEcc_keeps ..
  | other => exact (reactReset_keeps ..).after (setAlarm_only ..).keeps rfl

theorem manifestCrcRecheck_keeps (s : State) (ok : Bool) : Keeps s (s.manifestCrcRecheck ok) := .ite (.refl ..) (reactReset_keeps ..)

theorem directedCheckEnd_keeps (s : State) (east west : Bool) : Keeps s (s.directedCheckEnd east west) := by
  unfold directedCheckEnd
  split
  · exact .refl ..
  · exact .ite (.refl ..) (.ite_then (.ite_then (.on_safe (.refl ..) rfl) fun h1 => (hedgeFault_keeps ..).after h1 rfl) fun h2 =>
      (hedgeFault_keeps ..).after h2 rfl)

theorem clockFault_keeps (s : State) (d : Nat) : Keeps s (s.clockFault d) := by
  have h1 : Keeps s (s.wb Reg.SAFE_CLK_FAULT d true) := (wb_only ..).keeps
  unfold clockFault
  dsimp only
  split
  · exact (reactExclude_keeps ..).after h1 rfl
  · exact (reactReset_keeps ..).after ((setAlarm_only ..).after h1 rfl) rfl
  · exact (reactAlarm_only ..).after h1 rfl

theorem clockWindow_keeps (s : State) (d : Nat) (out lost : Bool) : Keeps s (s.clockWindow d out lost) :=
  .ite (.refl ..) (.ite_then (.on_safe (.refl ..) rfl) fun h1 => (clockFault_keeps ..).after h1 rfl)

theorem tempShutdown_keeps (s : State) : Keeps s s.tempShutdown := by
  unfold tempShutdown
  split
  · exact .ite (.refl ..) (reactReset_keeps ..)
  · exact .refl ..

end Sys2Proof.Machine.State
end

section
/-! SUPPORT. What a write of a register keeps (Machine/Access.lean). -/

namespace Sys2Proof.Machine.State

theorem mbWrite_keeps (s : State) (mid ch i : Nat) (val hw : Word) : Keeps s (s.mbWrite mid ch i val hw) := by
  unfold mbWrite
  dsimp only
  split
  · exact tdWrite_in rfl (.refl ..) fun _ h => (wr_only ..).after h rfl
  · exact tdWrite_in rfl (.refl ..) fun _ h => (wr_only ..).after h rfl
  · exact tdWrite_in rfl (.refl ..) fun _ h => (wr_only ..).after h rfl
  · exact (tdCtlWrite_only ..).keeps
  · exact .ite (.refl ..) (.ite (mbDenied_only ..).keeps ((wb_only ..).after (wr_only ..).keeps rfl))
  · exact .refl ..

theorem store_keeps (s : State) (r : RegRow) (a : Nat) (val hw : Word) : Keeps s (s.store r a val hw) := (wr_only ..).keeps

theorem leaseWrite_keeps (s : State) (t : Nat) (v : Word) : Keeps s (s.leaseWrite t v) := by
  unfold leaseWrite
  dsimp only
  split
  · exact (acquire_only ..).keeps
  · exact (refresh_only ..).keeps
  · exact (release_only ..).keeps
  · exact .refl ..

theorem ringWrite_keeps (s : State) (fn r : Nat) (v : Word) : Keeps s (s.ringWrite fn r v) := by
  unfold ringWrite
  split
  · exact (unwrap_only ..).keeps
  · exact (restore_only ..).keeps
  · exact (sleep_only ..).keeps
  · exact (wake_only ..).keeps
  · exact (nodeReset_only ..).keeps
  · exact (clearFalseWake_only ..).keeps
  · exact ringCmd_in rfl (.refl ..) fun _ h => h

theorem holdWrite_keeps (s : State) (t : Nat) (v : Word) : Keeps s (s.holdWrite t v) :=
  .ite (outHoldSet_only ..).keeps (outHoldClear_only ..).keeps

theorem ringCfg_keeps (s : State) (a : Nat) (rw v : Word) : Keeps s (s.ringCfg a rw v) := .ite (wr_only ..).keeps (wr_only ..).keeps

theorem unlessOn_keeps (s : State) (cfg a : Nat) (v : Word) : Keeps s (s.unlessOn cfg a v) := .ite (.refl ..) (wr_only ..).keeps

theorem msixWrite_keeps (s : State) (t v i : Nat) (val : Word) : Keeps s (s.msixWrite t v i val) :=
  .ite (.refl ..) (.ite ((vectorUnmask_only ..).after (wr_only ..).keeps rfl) (wr_only ..).keeps)

theorem pendWrite_keeps (s : State) (fn i : Nat) (val hw : Word) : Keeps s (s.pendWrite fn i val hw) := (wr_only ..).keeps

theorem freshSa_keeps (s : State) (u a : Nat) : Keeps s (s.freshSa u a) := .on_sec (.refl ..) rfl fun _ _ h => h

/-- An operation of a register whose write acts keeps what every command keeps. -/
def ActKeeps (f : WriteAct) : Prop := ∀ (s : State) (fn i j k : Nat) (v : Word), Keeps s (f s fn i j k v)

theorem acts_keep : ∀ p ∈ acts, ActKeeps p.2 := by
  simp only [acts, List.forall_mem_cons, List.not_mem_nil, false_implies, implies_true, and_true, ActKeeps]
  refine ⟨?sysCmd, ?trg, ?port, ?intake, ?stream, ?pub, ?ring, ?fdb, ?dbank, ?can, ?nom, ?data, ?tdc, ?req, ?abort, ?pop, ?buf, ?wake, ?tk,
    ?lut, ?fifo, ?an, ?sa⟩
  case sysCmd => exact fun s fn _ _ _ v => sysCmd_keeps ..
  case trg => exact fun s fn w n _ v => (triggerArm_only ..).keeps
  case port => exact fun s fn p _ _ v => (timePortStateWrite_only ..).keeps
  case intake => exact fun s fn w _ _ v => (simEnWrite_only ..).keeps
  case stream => exact fun s fn w n _ v => (confrevClear_only ..).keeps
  case pub => exact fun s fn p _ _ v => (pubWrAdvance_only ..).keeps
  case ring => exact fun s fn r _ _ v => ringWrite_keeps ..
  case fdb => exact fun s fn i _ _ v => .ite (fdbLookup_only ..).keeps (wr_only ..).keeps
  case dbank => exact fun s fn n _ _ v => (peDbankAddrWrite_only ..).keeps
  case can => exact fun s fn x _ _ v => (canModeWrite_only ..).keeps
  case nom | data | tdc => exact fun s fn x _ _ v => (canTimingWrite_only ..).keeps
  case req => exact fun s fn x i _ v => (canTxreq_only ..).keeps
  case abort => exact fun s fn x i _ v => (canTxabort_only ..).keeps
  case pop => exact fun s fn x _ _ _ => (canRxpop_only ..).keeps
  case buf => exact fun s fn x i j v => .ite (wr_only ..).keeps (.refl ..)
  case wake => exact fun s fn x _ _ v => (wakeDisClear_only ..).keeps
  case tk => exact fun s fn n _ _ v => (tkCtrl_only ..).keeps
  case lut => exact fun s fn n i _ v => (tkLutWrite_only ..).keeps
  case fifo => exact fun s fn n _ _ v => (tkTxfifoWrite_only ..).keeps
  case an => exact fun s fn u _ _ v => (txAnWrite_only ..).keeps
  case sa => exact fun s fn u n i v => .ite ((freshSa_keeps ..).after (wr_only ..).keeps rfl) (.refl ..)

theorem pageActs_keep : ∀ p ∈ pageActs, ActKeeps p.2 := by
  simp only [pageActs, List.forall_mem_cons, List.not_mem_nil, false_implies, implies_true, and_true, ActKeeps]
  refine ⟨?lease, ?go, ?sqBase, ?sqCfg, ?sqTail, ?cqBase, ?cqCfg, ?snap, ?hold, ?base, ?cfg, ?wb, ?cons, ?msix⟩
  case lease => exact fun s t _ _ _ v => leaseWrite_keeps ..
  case go => exact fun s t _ _ _ v => (tripGo_only ..).keeps
  case sqBase | cqBase | base | wb => exact fun s t _ _ _ v => unlessOn_keeps ..
  case sqCfg | cqCfg => exact fun s t _ _ _ v => ringCfg_keeps ..
  case sqTail => exact fun s t _ _ _ v => (sqDoorbell_only ..).keeps
  case snap => exact fun s t _ _ _ v => (brSnapWrite_only ..).keeps
  case hold => exact fun s t _ _ _ v => holdWrite_keeps ..
  case cfg => exact fun s t g _ _ v => (sliceCfgWrite_only ..).keeps
  case cons => exact fun s t g _ _ v => (sliceConsWrite_only ..).keeps
  case msix => exact fun s t v i _ x => msixWrite_keeps ..

/-- What is found by its key stands in the list. -/
theorem mem_of_byKey {α : Type} {l : List (Nat × α)} {k : Nat} {x : α} (h : byKey l k = some x) : ∃ p ∈ l, p.2 = x := by
  obtain ⟨p, hp, rfl⟩ := Option.map_eq_some_iff.mp h
  exact ⟨p, List.mem_of_find?_eq_some hp, rfl⟩

theorem byKey_keeps {l : List (Nat × WriteAct)} (hl : ∀ p ∈ l, ActKeeps p.2) {k : Nat} {f : WriteAct} (h : byKey l k = some f) :
    ActKeeps f := by
  obtain ⟨p, hp, rfl⟩ := mem_of_byKey h
  exact hl p hp

theorem writeReg_keeps (s : State) (fn a : Nat) (val hw : Word) : Keeps s (s.writeReg fn a val hw) := by
  unfold writeReg
  dsimp only
  split
  · exact mbWrite_keeps ..
  · refine .ite (.refl ..) ?_
    split
    · exact .refl ..
    · refine .ite (pendWrite_keeps ..) ?_
      split
      case h_1 hf => exact (wr_only ..).after (byKey_keeps acts_keep hf _ _ _ _ _ _) rfl
      case h_2 hf _ => exact (wr_only ..).after (byKey_keeps pageActs_keep hf _ _ _ _ _ _) rfl
      case h_3 => exact .ite (.refl ..) (.ite ((cutPps_only ..).after (store_keeps ..) rfl)
          (.ite ((setAlarm_only ..).after (store_keeps ..) rfl) (store_keeps ..)))

theorem registerWrite_keeps (s : State) (fn off size : Nat) (val : BitVec 64) (hw : Word) :
    Keeps s (s.registerWrite fn off size val hw) := by
  have one (t : State) (o : Nat) (v hw : Word) :
      Keeps t (match barAddr fn o with
        | some a => if t.reach fn then t.writeReg fn a v hw else t
        | none => t) := by
    split
    · exact .ite (writeReg_keeps ..) (.refl ..)
    · exact .refl ..
  exact .ite (mramUserWrite_only ..).keeps (.ite (.refl ..) (.ite ((one ..).after (one ..) rfl) (one ..)))

end Sys2Proof.Machine.State
end

section
/-! SUPPORT. What every command and every step keep. -/

namespace Sys2Proof.Machine

/-- A command after which the device may restart: each of its effects keeps the queue, blown fuses and canonical memories. -/
theorem exec_keeps_of_mayRestart {c : Instr} {s t : State} (hr : c.mayRestart = true) (h : exec c s = .next t) : Keeps s t := by
  cases c with
  | registerWrite => exact checked_within h (State.registerWrite_keeps ..)
  | heartbeatArbiter => exact live_within h (State.heartbeatArbiter_keeps ..)
  | claim => exact live_within h (State.claim_keeps ..)
  | claimWindowClose => exact live_within h (State.claimWindowClose_keeps ..)
  | rejoinRequest => exact live_within h (State.rejoinRequest_keeps ..)
  | deputyHeartbeatTimeout => exact live_within h (State.deputyHeartbeatTimeout_keeps ..)
  | wingStrobe => exact live_within h (State.wingStrobe_keeps ..)
  | rowRelease => exact live_within h (State.rowRelease_only ..).keeps
  | hedgeRowEvaluate => exact live_within h (State.hedgeRowEvaluate_keeps ..)
  | comparisonRecordReceive => exact live_within h (State.comparisonRecordReceive_keeps ..)
  | comparisonRecordTimeout => exact live_within h (State.comparisonRecordTimeout_keeps ..)
  | canWakeMatch => exact checked_within h (State.canWakeMatch_keeps ..)
  | canWakePin => exact checked_within h (State.canWakePin_keeps ..)
  | brownOut => exact checked_within h (State.brownOut_keeps ..)
  | powerOn => exact checked_within h (State.powerOn_keeps ..)
  | resetPin => exact checked_within h (State.resetPin_keeps ..)
  | debugReset => exact checked_within h (State.debugReset_keeps ..)
  | setMode | coreReset | systemReset | standby => exact checked_within h (State.sysCmd_keeps ..)
  | standbyWake => exact checked_within h (State.wakeUp_keeps ..)
  | rtcAlarm => exact checked_within h (State.rtcAlarm_keeps ..)
  | holdupTaskEnd => exact checked_within h (State.holdupTaskEnd_keeps ..)
  | powerReturn => exact checked_within h (State.powerReturn_keeps ..)
  | selfTestComplete => exact live_within h (State.selfTestComplete_keeps ..)
  | configuringComplete => exact live_within h (State.configuringComplete_keeps ..)
  | stepTimeout => exact live_within h (State.stepTimeout_keeps ..)
  | activateDevice => exact live_within h (State.activateDevice_keeps ..)
  | clockWindow => exact live_within h (State.clockWindow_keeps ..)
  | tempShutdown => exact live_within h (State.tempShutdown_keeps ..)
  | manifestCrcRecheck => exact live_within h (State.manifestCrcRecheck_keeps ..)
  | lockstepFault => exact live_within h (State.lockstepFault_keeps ..)
  | parityError => exact live_within h (State.parityError_keeps ..)
  | eccUe => exact live_within h (State.eccUe_keeps ..)
  | directedCheckEnd => exact live_within h (State.directedCheckEnd_keeps ..)
  | _ => cases hr

/-- No command touches the queue, clears a blown fuse or leaves a memory out of canonical form. -/
theorem exec_keeps {c : Instr} {s t : State} (h : exec c s = .next t) : Keeps s t := by
  cases hr : c.mayRestart with
  | true => exact exec_keeps_of_mayRestart hr h
  | false =>
    obtain ⟨m, w, -⟩ := exec_within hr h
    exact w.keeps

/-- A step carries out the first waiting command on the rest of the queue, or lets a nanosecond pass. -/
theorem step_cases {s t : State} (h : step s = .next t) :
    (s.pending = [] ∧ t = s.tick) ∨ ∃ c q, s.pending = c :: q ∧ exec c { s with pending := q } = .next t := by
  unfold step at h
  split at h
  case h_1 c q hq => exact .inr ⟨c, q, hq, h⟩
  case h_2 hq => cases h; exact .inl ⟨hq, rfl⟩

/-! Neither the queue nor a clock is a memory. -/

theorem State.memOk_pending (s : State) (q : List Instr) : State.memOk { s with pending := q } = s.memOk := rfl

theorem State.memOk_tick (s : State) : s.tick.memOk = s.memOk := rfl

end Sys2Proof.Machine
end

section
/-! CLAIMS. The statements of chapter 9: the memories' canonical form at reset and through every step, remote space and the bridge. -/

namespace Sys2Proof.Machine

/-! The memories (R237, R240, R292, R298, R450, R456) -/

/-- Settles O5: at reset no memory lists an entry and no engine is listed. -/
theorem memoriesCanonicalAtReset : Obligations.MemoriesCanonicalAtReset := by
  unfold Obligations.MemoriesCanonicalAtReset
  rfl

/-- Settles O6: the passing of time reaches no memory, and every command keeps the canonical form. -/
theorem memoriesStayCanonical : Obligations.MemoriesStayCanonical := by
  unfold Obligations.MemoriesStayCanonical
  intro s t hm h
  obtain ⟨_, rfl⟩ | ⟨c, q, _, hx⟩ := step_cases h
  · exact (State.memOk_tick s).trans hm
  · exact (exec_keeps hx).mem ((State.memOk_pending s q).trans hm)

/-! Remote space and the bridge (R239, R240, R243-R245, R248) -/

/-- Settles O38: the function is reached, or MAIN is up, and the hypotheses of each command leave the one branch of its operation that
acts. -/
theorem bridgeCommandsComplete : Obligations.BridgeCommandsComplete := by
  unfold Obligations.BridgeCommandsComplete
  refine ⟨?bar2Read, ?bar2Write, ?snapWrite, ?holdSet, ?holdClear, ?holdExpiry, ?doorbell, ?read, ?write, ?ack,
    fun _ _ _ _ _ _ hok k => live_of hok k, ?resend, ?timeout, ?completionWrite, ?discard⟩
  case bar2Read => exact fun s fn off size hok hr => checked_unless hok (by simp [hr])
  case snapWrite | holdSet => exact fun s fn x hok hr => checked_unless hok (by simp [hr])
  case holdClear => exact fun s fn hok hr => checked_unless hok (by simp [hr])
  case bar2Write =>
    intro s fn off size val hok hr h1
    refine (checked_unless (c := (!s.reach fn) = true) hok (by simp [hr])).trans (congrArg _ ?_)
    exact if_neg h1
  case holdExpiry =>
    intro s fn hok t ht hp
    refine (checked_of hok).trans (congrArg _ ?_)
    rw [State.outHoldExpiry, ht]
    exact if_pos hp
  case doorbell => exact fun s fn tail hok hr => checked_when hok hr
  case read =>
    intro s who e0 hok k e hf hop
    exact live_unless (c := (!s.mayFetch who || sqOp e == 2) = true) hok k (by simp [hf, hop])
  case write =>
    intro s who e0 data hok k e hf hop
    exact live_unless (c := (!s.mayFetch who || sqOp e == 1) = true) hok k (by simp [hf, hop])
  case ack =>
    intro s node rseq hok k q f hf d sent hd
    refine (live_of hok k).trans (congrArg _ ?_)
    simp only [State.ack]
    rw [hf]
    exact if_neg (Nat.not_le.mpr hd)
  case resend => exact fun s node hok k h8 => live_unless hok k (Nat.not_lt.mpr h8)
  case timeout =>
    intro s node hok k q late hn hl
    exact live_unless (c := (s.nodeState node ≠ 2 || !q.any late) = true) hok k (by simp [hn, hl])
  case completionWrite =>
    intro s who hok k next x hx hq t ht
    refine (live_of hok k).trans (congrArg _ ?_)
    simp only [State.completionWrite]
    split
    case h_1 y hy =>
      obtain rfl : y = x := Option.some.inj (hy.symm.trans hx)
      rw [if_neg (by simp [hq]), ht]
    case h_2 hn => exact nomatch hn.symm.trans hx
  case discard =>
    intro s who hok k x hx ht
    refine (live_of hok k).trans (congrArg _ ?_)
    rw [State.responseDiscard, hx]
    exact if_neg (Nat.not_lt.mpr ht)

end Sys2Proof.Machine
end

section
/-! CLAIMS. The statements of chapter 10: the ports and the switch. -/

namespace Sys2Proof.Machine

/-! Frames received and the tables of the switch (R257, R263-R265, R276, R278, R282, R283, R288) -/

/-- Settles O39: MAIN is up or the owner asks, and the hypotheses of each command leave the one branch of its operation that acts. That an
entry forgotten without a duplicate counts as unique is log entry 86. -/
theorem switchCommandsComplete : Obligations.SwitchCommandsComplete := by
  unfold Obligations.SwitchCommandsComplete
  refine ⟨fun _ _ _ hok k => live_of hok k, ?pause, ?pfc, ?learn, ?lockEnd, ?ageOut, ?entryForget, fun _ _ _ hok k => live_of hok k,
    fun _ _ _ hok ho => checked_when hok ho, ?counterRead⟩
  case pause => exact fun s p quanta hok k hon hup => live_unless hok k (by simp [hon, hup])
  case pfc => exact fun s p vec quanta hok k hon hup => live_unless hok k (by simp [hon, hup])
  case learn =>
    intro s k vid a port pr t hl
    refine (live_of rfl k).trans (congrArg _ ?_)
    simp only [State.learnRequest]
    split
    case h_1 hn => exact nomatch hn.symm.trans hl
    case h_2 hc =>
      obtain ⟨⟩ := hc.symm.trans hl
      rfl
  case lockEnd =>
    intro s vid mac hok k e he t hlock ht
    refine (live_of hok k).trans (congrArg _ ?_)
    simp only [State.moveLockEnd, he, hlock]
    exact if_neg (Nat.not_lt.mpr ht)
  case ageOut =>
    intro s vid mac hok k e he ht
    refine (live_of hok k).trans (congrArg _ ?_)
    rw [State.macAgeOut, he]
    exact if_neg (Nat.not_lt.mpr ht)
  case entryForget =>
    intro s n dir hok k e t he ht
    refine (live_of hok k).trans (congrArg _ ?_)
    rw [State.entryForget, he]
    exact if_neg (Nat.not_lt.mpr ht)
  case counterRead =>
    intro s p j lane size hok h8 hr ht
    exact checked_ownRead_narrow hok h8 (by simp only [State.macLowRead, State.ownerRead_owner hr ht])

/-! Pause, links, matching and transmission (R258, R273, R274, R276, R277) -/

/-- Settles O40: MAIN is up, and the hypotheses of each command leave the one branch of its operation that acts. The engine and queue of a
frame at an EC port come with the frame (log entry 89), and a MACsec frame without a key is dropped uncounted (log entry 90). -/
theorem transmitCommandsComplete : Obligations.TransmitCommandsComplete := by
  unfold Obligations.TransmitCommandsComplete
  refine ⟨fun _ _ _ hok k => live_of hok k, ?pauseSend, ?linkDown, fun _ _ _ _ hok k hon => live_when hok k hon,
    fun _ k => live_of rfl k, ?transmit⟩
  case pauseSend =>
    intro s p pcp hok k pfc hon htx hpfc
    exact live_unless hok k (c := (!s.macOn p || !s.rb (Reg.MAC_CFG p) 22 || pfc != decide (pcp < 8)) = true) (by simp [hon, htx, hpfc])
  case linkDown => exact fun s p hok k hon hup => live_when hok k (by simp [hon, hup])
  case transmit =>
    intro s p ecc begun phase hok k z x t hx hwire hpause
    refine (live_of hok k).trans (congrArg _ ?_)
    rw [State.frameTransmit, hx]
    exact if_neg (by simp [Nat.not_lt.mpr hwire, hpause])

end Sys2Proof.Machine
end

section
/-! SUPPORT. Moves of the frame processor that issue (12_move_isa.md): one rule for a row that names its destination port, one for a row
that names its source port, and what an ALU trigger, the advance of PC and the return stack do. -/

namespace Sys2Proof.Machine

/-! Rows of the chapter (R319, R325) -/

/-- A row that names its destination: the move that issues has that port's effect. -/
theorem live_fpTo {ok : Bool} {s : State} {n dst : Nat} {m : FpMv} {eff : Half → State → Eff} (hok : ok = true) (k : s.mainUp = true)
    (hi : s.fpIssues n m.guard m.long m.src dst = true) (hw : ∀ v t, State.fpWrite t n dst v none = eff v t) :
    live ok s (s.fpTo n dst m) = .next (s.fpMoveDo n m.long m.src eff) := by
  rw [live_of hok k, State.fpTo, State.fpMv_do _ _ _ _ _ _ _ hi]
  simp only [hw]

/-- A row that names its source: the move that issues reads that port. -/
theorem live_fpFrom {ok : Bool} {s : State} {n src dst : Nat} {m : FpGd} {r : Eff} (hok : ok = true) (k : s.mainUp = true)
    (hi : s.fpIssues n m.guard m.long (.port src) dst = true)
    (hr : s.fpRead n src (fun v t => (t.fpAdvance n (if m.long then 2 else 1)).fpWrite n dst v none) = r) :
    live ok s (s.fpFrom n src dst m) = .next (State.fpEnd n (s.en n).fp.pc r) := by
  rw [live_of hok k, State.fpFrom, State.fpMv_do _ _ _ _ _ _ _ hi, State.fpMoveDo, State.fpSrcRead, hr]

/-- A row whose source gives v and leaves u, into a port that changes the processor alone. -/
theorem live_fpTo_val {ok : Bool} {s u : State} {n dst : Nat} {m : FpMv} {v : Half} {g : Fp → Fp}
    (hk : ∀ k : Half → State → Eff, s.fpSrcRead n m.src k = k v u) (hok : ok = true) (k : s.mainUp = true)
    (hi : s.fpIssues n m.guard m.long m.src dst = true) (hw : ∀ t : State, t.fpWrite n dst v none = eff (t.onFp n g)) :
    live ok s (s.fpTo n dst m) = .next (((u.fpAdvance n (if m.long then 2 else 1)).onFp n g).fpFetchNext n) := by
  rw [live_of hok k, State.fpMv_val s u n m dst v hk hi, hw]
  rfl

/-! ALU triggers (R325, R327) -/

/-- The trigger port of an operation of ALU0; ALU1's is ten above. -/
def FpAlu.port : FpAlu → Nat
  | .add => 18
  | .sub => 19
  | .and => 20
  | .or => 21
  | .xor => 22
  | .andn => 23
  | .adc => 24
  | .sbb => 25

theorem State.fpWrite_alu (t : State) (n : Nat) {alu : Nat} (h : alu < 2) (op : FpAlu) (v : Half) :
    t.fpWrite n (op.port + 10 * alu) v none = eff (t.fpAluGo n alu op v) := by
  obtain rfl | rfl : alu = 0 ∨ alu = 1 := by omega
  all_goals cases op <;> rfl

/-- A row that writes to a unit of a pair, ALU or cursor, names one of the two. -/
theorem pair_lt {n alu : Nat} {m : FpMv} (hok : (decide (n < 32) && decide (alu < 2) && m.wf) = true) : alu < 2 := by
  simp only [Bool.and_eq_true, decide_eq_true_eq] at hok
  exact hok.1.2

/-- A row of an ALU trigger. -/
theorem live_fpAlu {s : State} {n alu : Nat} {m : FpMv} (op : FpAlu) (hok : (decide (n < 32) && decide (alu < 2) && m.wf) = true)
    (k : s.mainUp = true) (hi : s.fpIssues n m.guard m.long m.src (op.port + 10 * alu) = true) :
    live (decide (n < 32) && decide (alu < 2) && m.wf) s (s.fpTo n (op.port + 10 * alu) m)
      = .next (s.fpMoveDo n m.long m.src (fun v t => eff (t.fpAluGo n alu op v))) :=
  live_fpTo hok k hi (fun v t => t.fpWrite_alu n (pair_lt hok) op v)

/-- What an operation of an ALU does to the processor: its result, and the carry flag. -/
def FpAlu.step (op : FpAlu) (alu : Nat) (v : Half) (f : Fp) : Fp :=
  { f with
    aluR := f.aluR.set (wingOf alu) (fpAlu op (f.aluO.at_ (wingOf alu)) v (f.aluC.at_ (wingOf alu))).1
    aluC := f.aluC.set (wingOf alu) (fpAlu op (f.aluO.at_ (wingOf alu)) v (f.aluC.at_ (wingOf alu))).2 }

/-- A row of an ALU trigger whose source gives v and leaves u. -/
theorem live_fpAlu_val {s u : State} {n alu : Nat} {m : FpMv} {v : Half} {g : Fp → Fp} (op : FpAlu)
    (hg : ∀ f, op.step alu v f = g f)
    (hk : ∀ k : Half → State → Eff, s.fpSrcRead n m.src k = k v u) (hok : (decide (n < 32) && decide (alu < 2) && m.wf) = true)
    (k : s.mainUp = true) (hi : s.fpIssues n m.guard m.long m.src (op.port + 10 * alu) = true) :
    live (decide (n < 32) && decide (alu < 2) && m.wf) s (s.fpTo n (op.port + 10 * alu) m)
      = .next (((u.fpAdvance n (if m.long then 2 else 1)).onFp n g).fpFetchNext n) := by
  obtain rfl : op.step alu v = g := funext hg
  exact live_fpTo_val hk hok k hi (fun t => t.fpWrite_alu n (pair_lt hok) op v)

/-- A member put back is no change. -/
@[simp] theorem Pair.set_at {α : Type} (p : Pair α) (w : Wing) : p.set w (p.at_ w) = p := by cases w <;> rfl

/-- An addition with the carry flag. -/
theorem fpAlu_adc (o t : Half) (c : Bool) :
    fpAlu .adc o t c = (o + t + (if c then 1 else 0), decide (65536 ≤ o.toNat + t.toNat + (if c then 1 else 0))) := by
  cases c <;> rfl

/-- A subtraction with the borrow flag. -/
theorem fpAlu_sbb (o t : Half) (c : Bool) :
    fpAlu .sbb o t c = (o - t - (if c then 1 else 0), decide (o.toNat < t.toNat + (if c then 1 else 0))) := by
  cases c <;> rfl

/-- An operation without a carry leaves the flag. -/
theorem FpAlu.step_of_flag {op : FpAlu} {alu : Nat} {v : Half} {f : Fp}
    (h : (fpAlu op (f.aluO.at_ (wingOf alu)) v (f.aluC.at_ (wingOf alu))).2 = f.aluC.at_ (wingOf alu)) :
    op.step alu v f = { f with aluR := f.aluR.set (wingOf alu) (fpAlu op (f.aluO.at_ (wingOf alu)) v (f.aluC.at_ (wingOf alu))).1 } := by
  rw [FpAlu.step, h, Pair.set_at]

/-- The octets exchanged, as the shifter forms them and as R327 says. -/
theorem swap_octets (v : Half) :
    (v <<< (8 : Nat)) ||| (v >>> (8 : Nat)) = (v.setWidth 8 : Octet) ++ ((v >>> (8 : Nat)).setWidth 8 : Octet) := by
  ext i hi
  refine Eq.trans ?_ (BitVec.getElem_append (x := v.setWidth 8) (y := (v >>> (8 : Nat)).setWidth 8) hi).symm
  by_cases h : i < 8
  · simp [h]
  · have high : v.getLsbD (8 + i) = false := BitVec.getLsbD_of_ge v _ (by omega)
    simp [h, high, hi, ← BitVec.getLsbD_eq_getElem, show i - 8 < 8 by omega]

/-! Cursors (R325, R329) -/

/-- A row that reads at a cursor names one of the two. -/
theorem read_cur_lt {n cur dst : Nat} {m : FpGd}
    (hok : (decide (n < 32) && decide (cur < 2) && decide (dst < if m.long then 256 else 128) && m.wf) = true) : cur < 2 := by
  simp only [Bool.and_eq_true, decide_eq_true_eq] at hok
  exact hok.1.1.2

section
variable (s : State) (n : Nat) {cur : Nat} (h : cur < 2)
include h

theorem State.fpRead_word (k : Half → State → Eff) :
    s.fpRead n (58 + 8 * cur) k = s.curWord n cur (fun v t => k v (t.advance n cur 2)) := by
  obtain rfl | rfl : cur = 0 ∨ cur = 1 := by omega
  all_goals rfl

theorem State.fpRead_octet (k : Half → State → Eff) :
    s.fpRead n (59 + 8 * cur) k = s.curOctet n cur (fun v t => k v (t.advance n cur 1)) := by
  obtain rfl | rfl : cur = 0 ∨ cur = 1 := by omega
  all_goals rfl

theorem State.fpRead_peek (k : Half → State → Eff) : s.fpRead n (62 + 8 * cur) k = s.curWord n cur k := by
  obtain rfl | rfl : cur = 0 ∨ cur = 1 := by omega
  all_goals rfl

theorem State.fpWrite_word (v : Half) :
    s.fpWrite n (60 + 8 * cur) v none = (s.curPut n cur v).bind (fun u => eff (u.advance n cur 2)) := by
  obtain rfl | rfl : cur = 0 ∨ cur = 1 := by omega
  all_goals rfl

theorem State.fpWrite_octet (v : Half) :
    s.fpWrite n (61 + 8 * cur) v none = (s.curByte n cur v).bind (fun u => eff (u.advance n cur 1)) := by
  obtain rfl | rfl : cur = 0 ∨ cur = 1 := by omega
  all_goals rfl

end

/-! Comparisons (R328) -/

/-- The low three bits of a word. -/
theorem fld_three (g : Half) : fld g 0 3 = g.toNat % 8 := rfl

/-- A comparison trigger, by what its comparison says of O. -/
theorem State.fpCmpGo_eq (t : State) (n : Nat) {op : FpCmp} {v : Half} {b : Half → Bool} (hb : ∀ o, fpCmp op o v = b o) :
    t.fpCmpGo n op v = t.onFp n (fun f => { f with grd := setFld f.grd (f.cmpG.toNat % 8) 1 (bitOf (b f.cmpO)) }) := by
  simp only [State.fpCmpGo, hb, fld_three]

/-- A row of a comparison trigger whose source gives v and leaves u. -/
theorem live_fpCmp_val {ok : Bool} {s u : State} {n dst : Nat} {m : FpMv} {v : Half}
    (hk : ∀ k : Half → State → Eff, s.fpSrcRead n m.src k = k v u) (op : FpCmp) (b : Half → Bool) (hb : ∀ o, fpCmp op o v = b o)
    (hw : ∀ t : State, t.fpWrite n dst v none = eff (t.fpCmpGo n op v)) (hok : ok = true) (hm : s.mainUp = true)
    (hi : s.fpIssues n m.guard m.long m.src dst = true) :
    live ok s (s.fpTo n dst m) = .next (((u.fpAdvance n (if m.long then 2 else 1)).onFp n
      (fun f => { f with grd := setFld f.grd (f.cmpG.toNat % 8) 1 (bitOf (b f.cmpO)) })).fpFetchNext n) :=
  live_fpTo_val hk hok hm hi (fun t => (hw t).trans (congrArg eff (t.fpCmpGo_eq n hb)))

/-! The return stack (R337, R338) -/

/-- PC's advance leaves the return stack and the package. -/
theorem State.fpAdvance_rs (u : State) (n len : Nat) : ((u.fpAdvance n len).en n).fp.rs = (u.en n).fp.rs := by
  simp only [State.fpAdvance, State.en_onFp, if_pos]
  split <;> rfl

theorem State.fpAdvance_pkg (u : State) (n len : Nat) : ((u.fpAdvance n len).en n).pkg = (u.en n).pkg := by
  simp only [State.fpAdvance, State.en_onFp, if_pos]

section
variable {s : State} {n : Nat} {a : Half}

/-- A call below depth 8 pushes. -/
theorem State.fpCallGo_push (h : (s.en n).fp.rs.length < 8) :
    s.fpCallGo n a = eff (s.onFp n (fun g => { g with rs := g.pc :: g.rs, pc := a })) := if_pos h

/-- At depth 8 under option 0 the oldest entry goes. -/
theorem State.fpCallGo_shift {k : Package} (h : (s.en n).fp.rs.length = 8) (hk : (s.en n).pkg = some k) (hr : k.rsTrap = false) :
    s.fpCallGo n a = eff (s.onFp n (fun g => { g with rs := g.pc :: g.rs.take 7, pc := a })) := by
  simp [State.fpCallGo, h, hk, hr]

/-- At depth 8 under option 1 the call traps. -/
theorem State.fpCallGo_trap {k : Package} (h : (s.en n).fp.rs.length = 8) (hk : (s.en n).pkg = some k) (hr : k.rsTrap = true) :
    s.fpCallGo n a = (s, some 0x21) := by
  simp [State.fpCallGo, h, hk, hr]

theorem State.fpRetGo_pop {l : List Half} (h : (s.en n).fp.rs = a :: l) :
    s.fpRetGo n = eff (s.onFp n (fun f => { f with rs := l, pc := a })) := by
  rw [State.fpRetGo, h]

theorem State.fpRetGo_empty (h : (s.en n).fp.rs = []) : s.fpRetGo n = (s, some 0x22) := by
  rw [State.fpRetGo, h]

end

end Sys2Proof.Machine
end

section
/-! CLAIMS. The statements of chapter 12: the frame processor. -/

namespace Sys2Proof.Machine

/-- Settles O13: the row's port has the effect of its operation on the unit; an operation without a carry leaves the flag. -/
theorem fpAluComputes : Obligations.FpAluComputes := by
  unfold Obligations.FpAluComputes
  intro s u n alu m v hk
  refine ⟨live_fpAlu_val .add (fun _ => rfl) hk, live_fpAlu_val .sub (fun _ => rfl) hk,
    live_fpAlu_val .and (fun _ => FpAlu.step_of_flag rfl) hk, live_fpAlu_val .or (fun _ => FpAlu.step_of_flag rfl) hk,
    live_fpAlu_val .xor (fun _ => FpAlu.step_of_flag rfl) hk, live_fpAlu_val .andn (fun _ => FpAlu.step_of_flag rfl) hk,
    live_fpAlu_val .adc (fun f => by rw [FpAlu.step, fpAlu_adc]) hk, live_fpAlu_val .sbb (fun f => by rw [FpAlu.step, fpAlu_sbb]) hk,
    fun hok k hi => live_fpTo_val hk hok k hi (fun _ => rfl), fun hok k hi => live_fpTo_val hk hok k hi (fun _ => rfl),
    fun hok k hi => live_fpTo_val hk hok k hi (fun _ => rfl), fun hok k hi => live_fpTo_val hk hok k hi (fun _ => rfl),
    fun hok k hi => live_fpTo_val hk hok k hi (fun _ => rfl), fun hok k hi => live_fpTo_val hk hok k hi ?swap⟩
  case swap =>
    intro t
    rw [← swap_octets]
    rfl

/-- Settles O14: the row's port writes the guard that CMP.G[2:0] names. -/
theorem fpCompareWritesGuard : Obligations.FpCompareWritesGuard := by
  unfold Obligations.FpCompareWritesGuard
  intro s u n m v hk
  exact ⟨live_fpCmp_val hk .eq (fun o => decide (o = v)) (fun _ => rfl) (fun _ => rfl),
    live_fpCmp_val hk .ne (fun o => decide (o ≠ v)) (fun _ => (decide_not).symm) (fun _ => rfl),
    live_fpCmp_val hk .ltu (fun o => decide (o.toNat < v.toNat)) (fun _ => rfl) (fun _ => rfl),
    live_fpCmp_val hk .leu (fun o => decide (o.toNat ≤ v.toNat)) (fun _ => rfl) (fun _ => rfl),
    live_fpCmp_val hk .lt (fun o => decide (o.toInt < v.toInt)) (fun _ => rfl) (fun _ => rfl),
    live_fpCmp_val hk .le (fun o => decide (o.toInt ≤ v.toInt)) (fun _ => rfl) (fun _ => rfl),
    live_fpCmp_val hk .bit (fun o => decide (o.getLsbD (v.toNat % 16) = true)) (fun _ => (Bool.decide_eq_true).symm) (fun _ => rfl),
    live_fpCmp_val hk .any (fun o => decide (o &&& v ≠ 0)) (fun _ => rfl) (fun _ => rfl)⟩

/-- Settles O15: the reads are the ports' own; a call and a return act on the stack that the source's read left. -/
theorem fpReturnStack : Obligations.FpReturnStack := by
  unfold Obligations.FpReturnStack
  intro s u n m v _ h8 hu len
  have hrs : ((u.fpAdvance n len).en n).fp.rs = (s.en n).fp.rs := (u.fpAdvance_rs n len).trans hu
  have hpkg {k : Package} (h : (u.en n).pkg = some k) : ((u.fpAdvance n len).en n).pkg = some k := (u.fpAdvance_pkg n len).trans h
  refine ⟨fun _ => rfl, fun _ => rfl, fun hk => ⟨fun hok hm hi => ?call, fun hok hm hi => ?ret⟩⟩
  case call =>
    have e : exec (.call n m) s = .next (State.fpEnd n (s.en n).fp.pc ((u.fpAdvance n len).fpCallGo n v)) :=
      (live_of hok hm).trans (congrArg _ (State.fpMv_val s u n m 88 v hk hi))
    refine ⟨fun h => ?_, fun k h hp hr => ?_, fun k h hp hr => ?_⟩
    · rw [e, State.fpCallGo_push (hrs ▸ h)]; rfl
    · rw [e, State.fpCallGo_shift (hrs ▸ h) (hpkg hp) hr]; rfl
    · rw [e, State.fpCallGo_trap (hrs ▸ h) (hpkg hp) hr]; rfl
  case ret =>
    have e : exec (.ret n m) s = .next (State.fpEnd n (s.en n).fp.pc ((u.fpAdvance n len).fpRetGo n)) :=
      (live_of hok hm).trans (congrArg _ (State.fpMv_val s u n m 89 v hk hi))
    refine ⟨fun a l h => ?_, fun h => ?_⟩
    · rw [e, State.fpRetGo_pop (hrs.trans h)]; rfl
    · rw [e, State.fpRetGo_empty (hrs.trans h)]; rfl

/-- Settles O43: each row names its trigger port. -/
theorem fpArithmeticComplete : Obligations.FpArithmeticComplete := by
  unfold Obligations.FpArithmeticComplete
  refine ⟨fun _ _ _ _ => live_fpAlu .add, fun _ _ _ _ => live_fpAlu .sub, fun _ _ _ _ => live_fpAlu .and, fun _ _ _ _ => live_fpAlu .or,
    fun _ _ _ _ => live_fpAlu .xor, fun _ _ _ _ => live_fpAlu .andn, fun _ _ _ _ => live_fpAlu .adc, fun _ _ _ _ => live_fpAlu .sbb,
    ?_, ?_, ?_, ?_, ?_, ?_, ?_, ?_, ?_, ?_, ?_, ?_, ?_, ?_, ?_⟩
  all_goals exact fun _ _ _ hok k hi => live_fpTo hok k hi (fun _ _ => rfl)

/-- Settles O44: each row names its port; a plain move's words name both, and an entry has an enabled event to take. -/
theorem fpControlComplete : Obligations.FpControlComplete := by
  unfold Obligations.FpControlComplete
  refine ⟨fun s n w0 w1 hok k => ⟨fun h15 => ?short, fun h15 h8 h9 h14 => ?long⟩, ?_, ?_, ?_, ?_, ?_, ?_, ?entry, ?_, ?_⟩
  case short =>
    intro src hi
    refine (live_of hok k).trans (congrArg _ ?_)
    rw [State.fpMove, if_pos (by simp [h15])]
    exact s.fpMv_do n src .always false (fld w0 8 7) none hi
  case long =>
    intro src g hi
    refine (live_of hok k).trans (congrArg _ ?_)
    rw [State.fpMove, if_neg (by simp [h15])]
    refine (if_neg ?_).trans (s.fpMv_do n src g true (fld w0 0 8) none hi)
    obtain h | h := h14 <;> simp [h, h8, h9]
  case entry =>
    intro s n hok k f take hr h15 hev ht hrep e he p hp
    refine (live_of hok k).trans (congrArg _ ?_)
    simp only [State.fpEventEntry]
    rw [if_neg (by rw [hr, h15, hev, beq_eq_false_iff_ne.mpr ht, hrep]; decide), he, hp]
  all_goals exact fun _ _ _ hok k hi => live_fpTo hok k hi (fun _ _ => rfl)

/-- Settles O45: each row names its port, a cursor's by the cursor. -/
theorem fpUnitsComplete : Obligations.FpUnitsComplete := by
  unfold Obligations.FpUnitsComplete
  refine ⟨fun s n cur dst m hok k hi => live_fpFrom hok k hi ?readWord, fun s n cur dst m hok k hi => live_fpFrom hok k hi ?readOctet,
    fun s n cur m hok k hi => live_fpTo hok k hi ?writeWord, fun s n cur m hok k hi => live_fpTo hok k hi ?writeOctet,
    fun s n cur dst m hok k hi => live_fpFrom hok k hi ?peek,
    ?_, ?_, ?_, ?_, ?_, ?_, ?_, ?_,
    fun _ _ _ _ hok k hi => live_fpFrom hok k hi rfl,
    ?_, ?_, ?_, ?_⟩
  case readWord => exact s.fpRead_word n (read_cur_lt hok) _
  case readOctet => exact s.fpRead_octet n (read_cur_lt hok) _
  case peek => exact s.fpRead_peek n (read_cur_lt hok) _
  case writeWord => exact fun v t => t.fpWrite_word n (pair_lt hok) v
  case writeOctet => exact fun v t => t.fpWrite_octet n (pair_lt hok) v
  all_goals exact fun _ _ _ hok k hi => live_fpTo hok k hi (fun _ _ => rfl)

end Sys2Proof.Machine
end

section
/-! SUPPORT. Instructions of the session processor that issue (13_session_isa.md): one rule for all, what the advance of PC leaves, the
flags of R345 as an operation forms them, a word of the data bank stored, and the requests of the interlock sequencer. -/

namespace Sys2Proof.Machine

/-- An instruction that issues: PC advances, then its effect (R349). -/
theorem live_spIssue {ok : Bool} {s : State} {n len : Nat} {rep : Bool} {go : State → Eff} (hok : ok = true) (k : s.mainUp = true)
    (hi : s.spIssues n len rep = true) : live ok s (s.spIssue n len rep go) = .next (s.spDo n len go) :=
  (live_of hok k).trans (congrArg _ (s.spIssue_do n len rep go hi))

/-- A row of the ALU. -/
theorem live_spAluOp {ok : Bool} {s : State} {n d : Nat} {op : SpAlu} {src : SpSrc} (hok : ok = true) (k : s.mainUp = true)
    (hi : s.spIssues n (srcWords src) true = true) :
    live ok s (s.spAluOp n d op src) = .next (s.spDo n (srcWords src) (fun t => t.spAluGo n d op src)) := live_spIssue hok k hi

/-- A row of the accumulators. -/
theorem live_accOp {ok : Bool} {s : State} {n : Nat} {go : State → State} (hok : ok = true) (k : s.mainUp = true)
    (hi : s.spIssues n 1 true = true) : live ok s (s.accOp n go) = .next (s.spDo n 1 (fun t => eff (go t))) := live_spIssue hok k hi

/-! What the advance of PC leaves (R355) -/

/-- An engine's state after a change of its session processor. -/
@[simp] theorem State.en_onSp (s : State) (n k : Nat) (g : Sp → Sp) :
    (s.onSp n g).en k = if n = k then { s.en n with sp := g (s.en n).sp } else s.en k := by
  simp only [State.onSp, State.en_setEn]

section
variable (s : State) (n len : Nat)

/-- The advance changes the session processor of its engine alone. -/
theorem State.spAdvance_en (k : Nat) : (s.spAdvance n len).en k = { s.en k with sp := ((s.spAdvance n len).en k).sp } := by
  simp only [State.spAdvance, State.en_onSp]
  split
  case isTrue h => subst h; rfl
  case isFalse => rfl

theorem State.spAdvance_en_ne {k : Nat} (h : k ≠ n) : (s.spAdvance n len).en k = s.en k := by
  simp only [State.spAdvance, State.en_onSp, if_neg h.symm]

theorem State.spAdvance_dReg (d : Nat) : (s.spAdvance n len).dReg n d = s.dReg n d := by
  simp only [State.dReg, State.spAdvance, State.en_onSp, if_pos]
  split <;> rfl

theorem State.spAdvance_aReg (a : Nat) : (s.spAdvance n len).aReg n a = s.aReg n a := by
  simp only [State.aReg, State.spAdvance, State.en_onSp, if_pos]
  split <;> rfl

theorem State.spAdvance_sr : (s.spAdvance n len).sr n = s.sr n := by
  simp only [State.sr, State.spAdvance, State.en_onSp, if_pos]
  split <;> rfl

theorem State.spAdvance_srcVal (src : SpSrc) : (s.spAdvance n len).srcVal n src = s.srcVal n src := by
  cases src with
  | reg d => exact s.spAdvance_dReg n len d
  | imm6 | imm16 => rfl

theorem State.spAdvance_spReg (x : SpReg) : (s.spAdvance n len).spReg n x = s.spReg n x := by
  cases x with
  | d k => exact s.spAdvance_dReg n len k
  | a k => exact s.spAdvance_aReg n len k

theorem State.spAdvance_effAddr (am : Nat) (mode : SpMode) : (s.spAdvance n len).effAddr n am mode = s.effAddr n am mode := by
  cases mode <;> simp only [State.effAddr, State.spAdvance_aReg, State.spAdvance_dReg]

theorem State.spAdvance_regionsOf : (s.spAdvance n len).regionsOf n = s.regionsOf n := by
  rw [State.regionsOf, State.spAdvance_en]
  rfl

theorem State.spAdvance_fetchOk (a : Nat) : (s.spAdvance n len).fetchOk n .sp a = s.fetchOk n .sp a := by
  rw [State.fetchOk, State.spAdvance_en]
  rfl

end

/-! Results and flags (R345) -/

theorem fld_low (b : Half) : fld b 0 4 = b.toNat % 16 := by simp [fld]

/-- An addition without a carry in. -/
theorem addFlags_zero (a b : Half) :
    addFlags a b 0 =
      (a + b, ⟨(a + b).msb, a + b == 0, decide (65536 ≤ a.toNat + b.toNat), decide (a.toInt + b.toInt ≠ (a + b).toInt)⟩) := by
  simp [addFlags, nzOf, overflows]

/-- A subtraction without a borrow in. -/
theorem subFlags_zero (a b : Half) :
    subFlags a b 0 = (a - b, ⟨(a - b).msb, a - b == 0, decide (a.toNat < b.toNat), decide (a.toInt - b.toInt ≠ (a - b).toInt)⟩) := by
  simp [subFlags, nzOf, overflows]

/-- An addition with the flag C. -/
theorem addFlags_bit (a b : Half) (c : Bool) :
    addFlags a b (bitOf c) =
      (a + b + (if c then 1 else 0), ⟨(a + b + (if c then 1 else 0)).msb, a + b + (if c then 1 else 0) == 0,
        decide (65536 ≤ a.toNat + b.toNat + (if c then 1 else 0)),
        decide (a.toInt + b.toInt + (if c then 1 else 0) ≠ (a + b + (if c then 1 else 0)).toInt)⟩) := by
  cases c <;> simp [addFlags, nzOf, overflows, bitOf]

/-- A subtraction with the flag C. -/
theorem subFlags_bit (a b : Half) (c : Bool) :
    subFlags a b (bitOf c) =
      (a - b - (if c then 1 else 0), ⟨(a - b - (if c then 1 else 0)).msb, a - b - (if c then 1 else 0) == 0,
        decide (a.toNat < b.toNat + (if c then 1 else 0)),
        decide (a.toInt - b.toInt - (if c then 1 else 0) ≠ (a - b - (if c then 1 else 0)).toInt)⟩) := by
  cases c <;> simp [subFlags, nzOf, overflows, bitOf]

/-- An arithmetic instruction done: its flags and, unless it writes flags only, its result (R345, R349). -/
theorem State.spDo_alu (s : State) (n d : Nat) (src : SpSrc) (op : SpAlu) {r : Half} {f : Nzcv}
    (h : spAlu op (s.dReg n d) (s.srcVal n src) (flagsOf (s.sr n)) = (r, f)) :
    s.spDo n (srcWords src) (fun t => t.spAluGo n d op src) = s.spDone n d src (if op.flagsOnly then none else some r) f := by
  rw [State.spDo, State.spAluGo, s.spAdvance_dReg, s.spAdvance_srcVal, s.spAdvance_sr, h]
  cases op.flagsOnly <;> rfl

/-- A row of the ALU, with the result and the flags that its operation gives. -/
theorem live_spAlu {ok : Bool} {s : State} {n d : Nat} {src : SpSrc} (hi : s.spIssues n (srcWords src) true = true) (op : SpAlu)
    {r : Half} {f : Nzcv} (h : spAlu op (s.dReg n d) (s.srcVal n src) (flagsOf (s.sr n)) = (r, f)) (hok : ok = true)
    (k : s.mainUp = true) :
    live ok s (s.spAluOp n d op src) = .next (s.spDone n d src (if op.flagsOnly then none else some r) f) :=
  (live_spAluOp hok k hi).trans (congrArg _ (s.spDo_alu n d src op h))

/-! A word of the data bank (R296) -/

/-- A store into a word that the SP owns. -/
theorem State.spStore_local {s : State} {n : Nat} {x : SpReg} {ea : Half} {am : Nat} {am' : Half}
    (h : ownerOf (s.regionsOf n) ea.toNat = 1) :
    s.spStore n .loc x ea am am' = eff ((s.localPut n ea.toNat (s.spReg n x)).setA n am am') := by
  have e : s.memWrite n .sp .loc ea (s.spReg n x) = .ok (s.localPut n ea.toNat (s.spReg n x)) := if_pos h
  rw [State.spStore, e]
  rfl

section
variable (s : State) (n a : Nat) (v : Half) (am : Nat) (am' : Half)

/-- Such a store and the step of An leave PC and the partition. -/
theorem State.spFetchNext_stored (h : s.fetchOk n .sp (s.spPc n).toNat = true) :
    ((s.localPut n a v).setA n am am').spFetchNext n = (s.localPut n a v).setA n am am' := by
  have e : ((s.localPut n a v).setA n am am').fetchOk n .sp (((s.localPut n a v).setA n am am').spPc n).toNat
      = s.fetchOk n .sp (s.spPc n).toNat := by
    simp only [State.fetchOk, State.spPc, State.setA, State.localPut, State.en_onSp, State.en_setEn, if_pos]
    rfl
  exact if_pos (e.trans h)

theorem State.stored_data (k : Nat) :
    Tab.get 0 (((s.localPut n a v).setA n am am').en n).data k = if a = k then v else Tab.get 0 (s.en n).data k := by
  simp only [State.setA, State.localPut, State.en_onSp, State.en_setEn, if_pos, Tab.get_store]

theorem State.stored_en {k : Nat} (h : k ≠ n) : ((s.localPut n a v).setA n am am').en k = s.en k := by
  simp only [State.setA, State.localPut, State.en_onSp, State.en_setEn, if_neg h.symm]

end

/-! Requests of the interlock sequencer (R363) -/

section
variable {s : State} {ch : Nat}

/-- A request of a known OP with the words it needs. -/
theorem State.ilkCmd_of {op need : Nat} {given : List Word} {rq : ReqMsg} (hf : Tab.find s.host.taken ch = some rq)
    (ht : rq.typ.toNat = 0x11) (h1 : op ≠ 0) (h6 : op ≤ 6) (ho : fld (msgWord (s.msg ch (given.flatMap wordBytes)) 0) 24 8 = op)
    (hn : msgHas (s.msg ch (given.flatMap wordBytes)) need = true) (go : Nat → Word → Word → State → State) :
    s.ilkCmd ch op need given go = go (fld (msgWord (s.msg ch (given.flatMap wordBytes)) 0) 16 5)
      (msgWord (s.msg ch (given.flatMap wordBytes)) 1) (msgWord (s.msg ch (given.flatMap wordBytes)) 2) s := by
  rw [State.ilkCmd, State.request_of hf ht]
  simp [ho, hn, h1, Nat.not_lt.mpr h6]

/-- One of a channel with the privilege, in a state that allows it, for an interlock engine and with good arguments. -/
theorem State.ilkAct_of {n priv : Nat} {allowed badArg : Bool} (hp : s.chanPriv ch priv = true) (ha : allowed = true)
    (hi : s.isIlk n = true) (hb : badArg = false) (go : State → Nat × State) :
    s.ilkAct ch n priv allowed badArg go = (go s).2.reply ch [BitVec.ofNat 32 (go s).1] := by
  simp [State.ilkAct, hp, ha, hi, hb]

end

end Sys2Proof.Machine
end

section
/-! CLAIMS. The statements of chapter 13: the session processor and the interlock sequencer. -/

namespace Sys2Proof.Machine

/-- Settles O16: each operation's result and flags, with the flags of the operations that add or subtract said once. -/
theorem spFlags : Obligations.SpFlags := by
  unfold Obligations.SpFlags
  intro s n d src hi
  dsimp only
  refine ⟨live_spAlu hi .mov rfl, live_spAlu hi .add (addFlags_zero _ _), live_spAlu hi .adc (addFlags_bit _ _ _),
    live_spAlu hi .sub (subFlags_zero _ _), live_spAlu hi .sbb (subFlags_bit _ _ _), live_spAlu hi .cmp (subFlags_zero _ _),
    live_spAlu hi .and rfl, live_spAlu hi .or rfl, live_spAlu hi .xor rfl, live_spAlu hi .andn rfl, live_spAlu hi .tst rfl,
    live_spAlu hi .shl ?_, live_spAlu hi .shr ?_, live_spAlu hi .sar ?_, live_spAlu hi .rol ?_, live_spAlu hi .bit (r := s.dReg n d) ?_⟩
  all_goals rw [← fld_low]; rfl

/-- Settles O17: the word is the SP's, so the store takes place and no fetch traps after it. -/
theorem spLocalStoreFrame : Obligations.SpLocalStoreFrame := by
  unfold Obligations.SpLocalStoreFrame
  intro s n am x mode hok hm hi hfetch hown
  have hown' : ownerOf ((s.spAdvance n 1).regionsOf n) ((s.spAdvance n 1).effAddr n am mode).toNat = 1 := by
    rw [s.spAdvance_regionsOf, s.spAdvance_effAddr, hown]
  have e : exec (.localStore n x am mode) s = .next (((s.spAdvance n 1).localPut n (s.effAddr n am mode).toNat (s.spReg n x)).setA n am
      ((s.spAdvance n 1).stepAddr n am mode)) := by
    refine (live_spIssue hok hm hi).trans (congrArg _ ?_)
    rw [State.spDo, State.spStore_local hown', s.spAdvance_effAddr, s.spAdvance_spReg]
    exact State.spFetchNext_stored _ n _ _ am _ ((s.spAdvance_fetchOk n 1 _).trans hfetch)
  refine ⟨_, e, rfl, ?_, fun a ha => ?_, fun k hk => ?_⟩
  · rw [State.stored_data, if_pos rfl]
  · rw [State.stored_data, if_neg ha.symm, s.spAdvance_en]
  · rw [State.stored_en _ n _ _ am _ hk, State.spAdvance_en_ne s n 1 hk]

/-- Settles O46: each row is one instruction that issues. -/
theorem spArithmeticComplete : Obligations.SpArithmeticComplete := by
  unfold Obligations.SpArithmeticComplete
  refine ⟨?_, ?_, ?_, ?_, ?_, ?_, ?_, ?_, ?_, ?_, ?_, ?_, ?_, ?_, ?_, ?_, fun _ _ _ _ => live_accOp⟩
  all_goals exact fun _ _ _ _ => live_spAluOp

/-- Settles O47: each row is one instruction that issues. -/
theorem spMemoryComplete : Obligations.SpMemoryComplete := by
  unfold Obligations.SpMemoryComplete
  exact ⟨fun _ _ _ _ _ => live_spIssue, fun _ _ _ _ _ => live_spIssue, fun _ _ _ _ _ _ => live_spIssue, fun _ _ _ _ _ _ => live_spIssue,
    fun _ _ _ _ _ _ => live_spIssue, fun _ _ _ _ _ _ => live_spIssue, fun _ _ _ _ _ _ => live_spIssue, fun _ _ _ _ _ _ => live_spIssue,
    fun _ _ _ _ _ => live_spIssue, fun _ _ _ _ _ => live_spIssue, fun _ _ _ _ => live_spIssue, fun _ _ _ _ => live_spIssue,
    fun _ _ _ _ => live_spIssue, fun _ _ _ _ => live_spIssue, fun _ _ _ _ => live_spIssue, fun _ _ _ => live_spIssue,
    fun _ _ _ => live_spIssue, fun _ _ _ _ _ => live_spIssue, fun _ _ _ _ _ => live_spIssue, fun _ _ _ _ => live_spIssue,
    fun _ _ _ => live_spIssue⟩

/-- Settles O48: each row is one instruction that issues. -/
theorem spAccumulatorsComplete : Obligations.SpAccumulatorsComplete := by
  unfold Obligations.SpAccumulatorsComplete
  exact ⟨fun _ _ _ _ _ => live_accOp, fun _ _ _ _ _ => live_accOp, fun _ _ _ _ _ => live_accOp, fun _ _ _ _ _ => live_accOp,
    fun _ _ _ _ _ => live_accOp, fun _ _ _ => live_accOp, fun _ _ _ => live_accOp, fun _ _ _ _ => live_accOp,
    fun _ _ _ => live_accOp, fun _ _ _ _ => live_accOp, fun _ _ _ _ => live_accOp, fun _ _ _ _ => live_accOp,
    fun _ _ _ => live_accOp⟩

/-- Settles O49: each row is one instruction that issues; an event entry has an enabled event to take. -/
theorem spControlComplete : Obligations.SpControlComplete := by
  unfold Obligations.SpControlComplete
  refine ⟨fun _ _ _ _ => live_spIssue, fun _ _ _ => live_spIssue, fun _ _ _ _ _ => live_spIssue, fun _ _ => live_spIssue,
    fun _ _ => live_spIssue, fun _ _ _ => live_spIssue, fun _ _ _ => live_spIssue, fun _ _ _ => live_spIssue, fun _ _ => live_spIssue,
    fun _ _ => live_spIssue, fun _ _ => live_spIssue, fun _ _ _ _ => live_spIssue, fun _ _ _ _ => live_spIssue,
    fun _ _ _ _ => live_spIssue, fun _ _ _ _ => live_spIssue, fun _ _ _ => live_spIssue, fun _ _ => live_spIssue, ?entry⟩
  intro s n hok k f take hr hsusp h15 h12 ht hrep e he p hp
  refine (live_of hok k).trans (congrArg _ ?_)
  simp only [State.spEventEntry]
  rw [if_neg (by rw [hr, hsusp, h15, h12, beq_eq_false_iff_ne.mpr ht, hrep]; decide), he, hp]

/-- Settles O50: an instruction that issues, a cycle that is due or past TMAX, or a request of its OP that is granted. -/
theorem interlockCommandsComplete : Obligations.InterlockCommandsComplete := by
  unfold Obligations.InterlockCommandsComplete
  refine ⟨fun _ _ => live_spIssue, fun _ _ _ _ _ => live_spIssue, fun _ _ _ _ _ => live_spIssue, ?cycleStart, ?overrun, ?run, ?stop,
    ?hold, ?forceSet, ?forceClear, ?forceClearAll⟩
  case cycleStart =>
    intro s n hok k p hp hd
    refine (live_of hok k).trans (congrArg _ ?_)
    rw [State.ilkCycleStart, hp]
    exact if_neg (by simp [hd])
  case overrun =>
    intro s n hok k p hp hm h28 ho ht
    refine (live_of hok k).trans (congrArg _ ?_)
    rw [State.ilkOverrun, hp]
    exact if_pos (by simp [hm, h28, ho, ht])
  case run =>
    intro s ch nG hok k rq hf hy m n ho hn hp hst hi
    refine (live_of hok k).trans (congrArg _ ?_)
    rw [State.ilkRun, State.ilkCmd_of hf hy (by decide) (by decide) ho hn, State.ilkAct_of hp (bne_iff_ne.mpr hst) hi rfl]
    rfl
  case stop =>
    intro s ch nG hok k rq hf hy m n ho hn hp hst hi
    refine (live_of hok k).trans (congrArg _ ?_)
    rw [State.ilkStop, State.ilkCmd_of hf hy (by decide) (by decide) ho hn, State.ilkAct_of hp (bne_iff_ne.mpr hst) hi rfl]
    rfl
  case hold =>
    intro s ch nG hok k rq hf hy m n ho hn hp hst hi
    refine (live_of hok k).trans (congrArg _ ?_)
    rw [State.hold, State.ilkCmd_of hf hy (by decide) (by decide) ho hn, State.ilkAct_of hp (beq_iff_eq.mpr hst) hi rfl]
    rfl
  case forceSet =>
    intro s ch nG u1 u2 hok k rq hf hy
    dsimp only [forceIdx]
    intro ho hn hp hst hi hb
    refine (live_of hok k).trans (congrArg _ ?_)
    rw [State.forceSet, State.ilkCmd_of hf hy (by decide) (by decide) ho hn, State.ilkAct_of hp hst hi hb]
    dsimp only [forceIdx]
    generalize List.find? _ (s.forces _) = held
    cases held with
    | some p => rfl
    | none =>
      dsimp only
      generalize List.find? _ (List.range 64) = free
      cases free <;> rfl
  case forceClear =>
    intro s ch nG u1 hok k rq hf hy
    dsimp only [forceIdx]
    intro ho hn hp hst hi hb
    refine (live_of hok k).trans (congrArg _ ?_)
    rw [State.forceClear, State.ilkCmd_of hf hy (by decide) (by decide) ho hn, State.ilkAct_of hp hst hi hb]
    dsimp only [forceIdx]
    generalize List.find? _ (s.forces _) = held
    cases held <;> rfl
  case forceClearAll =>
    intro s ch nG hok k rq hf hy m n ho hn hp hi
    refine (live_of hok k).trans (congrArg _ ?_)
    rw [State.forceClearAll, State.ilkCmd_of hf hy (by decide) (by decide) ho hn, State.ilkAct_of hp rfl hi rfl]
    rfl

end Sys2Proof.Machine
end

section
/-! CLAIMS. The statements of chapter 11: the engines and their coprocessor. -/

namespace Sys2Proof.Machine

/-- A start of the coprocessor that issues, from either processor (R336, R349). -/
theorem live_copRow {ok : Bool} {s : State} {n op : Nat} {st : CopStart} (hok : ok = true) (k : s.mainUp = true)
    (hi : s.copIssues n st = true) : live ok s (s.copRow n op st) = .next (s.copDo n op st) := by
  cases st with
  | fp m => exact (live_of hok k).trans (congrArg _ (s.fpMv_do n m.src m.guard m.long 114 (some op) hi))
  | sp ds => exact (live_of hok k).trans (by rw [State.copRow, s.spIssue_do n 1 true _ hi, State.copDo])

/-- Settles O41: each start issues; an operation outstanding finishes with the results it was given at issue. -/
theorem coprocessorCommandsComplete : Obligations.CoprocessorCommandsComplete := by
  unfold Obligations.CoprocessorCommandsComplete
  refine ⟨fun _ _ _ => live_copRow, fun _ _ _ => live_copRow, fun _ _ _ => live_copRow, fun _ _ _ => live_copRow,
    fun _ _ _ => live_copRow, fun _ _ _ => live_copRow, fun _ _ _ => live_copRow, fun _ _ _ => live_copRow, ?complete⟩
  intro s n p hok k op res st stores ho
  refine (live_of hok k).trans (congrArg _ ?_)
  simp only [State.copComplete, State.copFinish, ho]

/-- A store into the I/O space that issues, from either processor (R295, R329, R350). -/
theorem live_engStore {s : State} {n : Nat} {p : EngStore} (hok : (decide (n < 32) && p.wf) = true) (k : s.mainUp = true)
    (hi : s.storeIssues n p = true) : live (decide (n < 32) && p.wf) s (s.engStore n p) = .next (s.storeDo n p) := by
  cases p with
  | fp cur m =>
    have hcur : cur < 2 := by
      simp only [EngStore.wf, Bool.and_eq_true, decide_eq_true_eq] at hok
      exact hok.2.1
    exact live_fpTo hok k hi (fun v t => t.fpWrite_word n hcur v)
  | spBased => exact (live_of hok k).trans (by rw [State.engStore, State.stD, s.spIssue_do n 2 true _ hi, State.storeDo])
  | spAbs => exact (live_of hok k).trans (by rw [State.engStore, State.stabs, s.spIssue_do n 2 true _ hi, State.storeDo])

/-- Settles O42: MAIN is up or the owner asks, and the hypotheses of each command leave the one branch of its operation that acts. -/
theorem engineCommandsComplete : Obligations.EngineCommandsComplete := by
  unfold Obligations.EngineCommandsComplete
  refine ⟨?load, ?restart, ?watchdog, fun _ _ _ => live_engStore, fun _ _ _ => live_engStore,
    fun _ _ _ _ hok ho => checked_when hok ho⟩
  case load =>
    intro s n flashOk hok k w hs hc hp hst s1
    refine (live_of hok k).trans (congrArg _ ?_)
    exact if_neg (by simp [w, hs, hc, hp, hst])
  case restart =>
    intro s n hok k e p hp recent h3 ha hu ht hr
    refine (live_of hok k).trans (congrArg _ ?_)
    simp only [State.engineRestart]
    rw [hp]
    exact if_neg (by simpa [h3, ha, hu] using ⟨Nat.not_lt.mp ht, Nat.not_le.mp hr⟩)
  case watchdog =>
    intro s n hok k p hp h0 h2 ht w
    refine (live_of hok k).trans (congrArg _ ?_)
    rw [State.watchdog, hp]
    exact if_neg (by simp [h0, h2, ht])

end Sys2Proof.Machine
end

section
/-! SUPPORT. CAN controllers and Thicket engines (14_can_thicket.md): events once pending stay pending, and what a Thicket engine's step
leaves of the effect of its FIFO action. -/

namespace Sys2Proof.Machine

section
variable (s : State)

/-- A bit that is set stays set when another bit of its register, or one of another register, is set. -/
theorem State.rb_wb_true {a b : Nat} (a' : Nat) {b' : Nat} (hb : b' < 32) (h : s.rb a b = true) : (s.wb a' b' true).rb a b = true := by
  by_cases ha : a' = a
  case neg => rwa [State.rb, s.rd_wb_ne ha]
  case pos =>
    subst ha
    obtain hlt | rfl | hgt := Nat.lt_trichotomy b b'
    · rwa [State.rb, State.wb, s.rd_wf_same, tst_fld, fld_setFld_below _ _ _ _ _ _ (by omega) hlt, ← tst_fld]
    · exact s.rb_wb_same _ _ _ hb
    · rwa [State.rb, State.wb, s.rd_wf_same, tst_fld, fld_setFld_above _ _ _ _ _ _ (by omega) hgt, ← tst_fld]

/-- Raising an event clears no bit of any register. -/
theorem State.rb_raiseAt_true {a b : Nat} (es inst wing : Nat) (h : s.rb a b = true) : (s.raiseAt es inst wing).rb a b = true := by
  rw [State.rb, State.rd_congr (s.raiseAt_regs es inst wing)]
  exact s.rb_wb_true _ (Nat.mod_lt _ (by decide)) h

/-! A Thicket engine (R379-R381) -/

/-- An engine after a change of one. -/
theorem State.tke_onTk (n k : Nat) (f : Tk → Tk) : (s.onTk n f).tke k = if n = k then f (s.tke n) else s.tke k := by
  simp only [State.tke, State.onTk, Tab.get_put]

theorem State.tke_congr {s t : State} (h : t.tk = s.tk) (n : Nat) : t.tke n = s.tke n := by rw [State.tke, State.tke, h]

section
variable (n b : Nat)

/-- A flag and its event leave the engines' own state. -/
theorem State.tkFlag_tk : (s.tkFlag n b).tk = s.tk := by
  rw [State.tkFlag]
  split
  · rfl
  · dsimp only
    split
    · exact (tkEvent_only _ n 1).tk rfl
    · rfl

/-- The flag is set. -/
theorem State.rb_tkFlag (hb : b < 32) : (s.tkFlag n b).rb (Reg.TK_STAT n) b = true := by
  rw [State.tkFlag]
  split
  case isTrue h => exact h
  case isFalse =>
    have hset : (s.wb (Reg.TK_STAT n) b true).rb (Reg.TK_STAT n) b = true := s.rb_wb_same _ _ _ hb
    dsimp only
    split
    · exact State.rb_raiseAt_true _ _ _ _ hset
    · exact hset

/-- UNDERRUN and OVERFLOW raise TKn_FAULT on their change from 0 to 1. -/
theorem State.tkFlag_fault (hb : b = 31 ∨ b = 30) (h : s.rb (Reg.TK_STAT n) b = false) :
    (s.tkFlag n b).rb (Reg.ER_PEND ((321 + 2 * n) / 32)) ((321 + 2 * n) % 32) = true := by
  have es : 321 + 2 * n = 320 + 2 * n + 1 := by omega
  rw [State.tkFlag, if_neg (by simp [h]), es]
  dsimp only
  rw [if_pos hb]
  exact State.rb_raiseAt _ _ _ _

end

/-- What CNT, OUT, STATE and the event of a step leave of the state `u` after its FIFO action: SR, the FIFOs and every bit set. -/
theorem State.tkRun_of_fifo {s u : State} {n : Nat} {pins : BitVec 48} {l : Word} (hl : s.tkEntry n pins ((s.tke n).tickLeft == 0) = l)
    (hu : (s.tkShift n pins (fld l 15 2)).tkFifo n (fld l 13 2) = u) :
    ((s.tkRun n pins).tke n).sr = (u.tke n).sr ∧ ((s.tkRun n pins).tke n).tx = (u.tke n).tx ∧
      ((s.tkRun n pins).tke n).rx = (u.tke n).rx ∧ ∀ a b, u.rb a b = true → (s.tkRun n pins).rb a b = true := by
  simp only [State.tkRun, hl, hu]
  split
  case isTrue =>
    rw [State.tke_congr ((tkEvent_only _ n 0).tk rfl)]
    simp only [State.tkCount, State.tke_onTk, if_pos]
    exact ⟨trivial, trivial, trivial, fun a b h => State.rb_raiseAt_true _ _ _ _ h⟩
  case isFalse =>
    simp only [State.tkCount, State.tke_onTk, if_pos]
    exact ⟨trivial, trivial, trivial, fun a b h => h⟩

/-- POP from an empty TX FIFO (R381). -/
theorem State.tkFifo_underrun {u : State} {n : Nat} (h : (u.tke n).tx = []) : u.tkFifo n 2 = u.tkFlag n 31 := by
  rw [State.tkFifo, State.tkPop, h]

/-- PUSH to a full RX FIFO (R381). -/
theorem State.tkFifo_overflow {u : State} {n : Nat} (h : 16 ≤ (u.tke n).rx.length) :
    u.tkFifo n 1 = (u.onTk n (fun e => { e with sr := 0, ovfSince := true })).tkFlag n 30 := by
  rw [State.tkFifo, State.tkPush, if_pos h]

/-- SHIFT changes SR alone. -/
theorem State.tke_tkShift (n : Nat) (pins : BitVec 48) (op : Nat) :
    (s.tkShift n pins op).tke n = { s.tke n with sr := ((s.tkShift n pins op).tke n).sr } := by
  simp only [State.tkShift, State.tke_onTk, if_pos]

/-- A step whose entry says POP, with the TX FIFO empty. -/
theorem State.tkRun_underrun {s : State} {n : Nat} {pins : BitVec 48} {l : Word}
    (hl : s.tkEntry n pins ((s.tke n).tickLeft == 0) = l) (h2 : fld l 13 2 = 2) (htx : (s.tke n).tx = []) :
    ((s.tkRun n pins).tke n).sr = ((s.tkShift n pins (fld l 15 2)).tke n).sr ∧ ((s.tkRun n pins).tke n).tx = [] ∧
      (s.tkRun n pins).rb (Reg.TK_STAT n) 31 = true ∧ (s.rb (Reg.TK_STAT n) 31 = false →
        (s.tkRun n pins).rb (Reg.ER_PEND ((321 + 2 * n) / 32)) ((321 + 2 * n) % 32) = true) := by
  have ht : ((s.tkShift n pins (fld l 15 2)).tke n).tx = [] := by rw [s.tke_tkShift]; exact htx
  have hk := State.tke_congr ((s.tkShift n pins (fld l 15 2)).tkFlag_tk n 31) n
  have hu : (s.tkShift n pins (fld l 15 2)).tkFifo n (fld l 13 2) = (s.tkShift n pins (fld l 15 2)).tkFlag n 31 := by
    rw [h2, State.tkFifo_underrun ht]
  obtain ⟨hsr, htx', -, hset⟩ := State.tkRun_of_fifo hl hu
  exact ⟨by rw [hsr, hk], by rw [htx', hk, ht], hset _ _ (State.rb_tkFlag _ n 31 (by decide)),
    fun h0 => hset _ _ (State.tkFlag_fault _ n 31 (.inl rfl) h0)⟩

/-- A step whose entry says PUSH, with the RX FIFO full. -/
theorem State.tkRun_overflow {s : State} {n : Nat} {pins : BitVec 48} {l : Word}
    (hl : s.tkEntry n pins ((s.tke n).tickLeft == 0) = l) (h1 : fld l 13 2 = 1) (hrx : 16 ≤ (s.tke n).rx.length) :
    ((s.tkRun n pins).tke n).sr = 0 ∧ ((s.tkRun n pins).tke n).rx = (s.tke n).rx ∧
      (s.tkRun n pins).rb (Reg.TK_STAT n) 30 = true ∧ (s.rb (Reg.TK_STAT n) 30 = false →
        (s.tkRun n pins).rb (Reg.ER_PEND ((321 + 2 * n) / 32)) ((321 + 2 * n) % 32) = true) := by
  have hr : ((s.tkShift n pins (fld l 15 2)).tke n).rx = (s.tke n).rx := by rw [s.tke_tkShift]
  have hk (t : State) := State.tke_congr (t.tkFlag_tk n 30) n
  have hu : (s.tkShift n pins (fld l 15 2)).tkFifo n (fld l 13 2)
      = ((s.tkShift n pins (fld l 15 2)).onTk n (fun e => { e with sr := 0, ovfSince := true })).tkFlag n 30 := by
    rw [h1, State.tkFifo_overflow (hr ▸ hrx)]
  obtain ⟨hsr, -, hrx', hset⟩ := State.tkRun_of_fifo hl hu
  rw [hk, State.tke_onTk, if_pos rfl] at hsr hrx'
  exact ⟨hsr, hrx'.trans hr, hset _ _ (State.rb_tkFlag _ n 30 (by decide)),
    fun h0 => hset _ _ (State.tkFlag_fault _ n 30 (.inr rfl) h0)⟩

end

end Sys2Proof.Machine
end

section
/-! CLAIMS. The statements of chapter 14: the CAN controllers and the Thicket engines. -/

namespace Sys2Proof.Machine

/-- Settles O11: a command that may restart the device is in each list; any other changes only parts whose lists name it. -/
theorem fieldUnitsFrame : Obligations.FieldUnitsFrame := by
  unfold Obligations.FieldUnitsFrame
  intro c s t h
  cases hr : c.mayRestart with
  | true => simp [Instr.mayCan, Instr.mayTk, Instr.mayPub, hr]
  | false =>
    obtain ⟨m, w, ha⟩ := exec_within hr h
    exact ⟨fun hl => w.can (Instr.testBit_of_allows ha (by decide) hl), fun hl => w.tk (Instr.testBit_of_allows ha (by decide) hl),
      fun hl => w.pub (Instr.testBit_of_allows ha (by decide) hl)⟩

/-- Settles O20: the step's FIFO action sets the flag, which raises the event on its change, and what follows it in the step keeps both. -/
theorem thicketFifoLimits : Obligations.ThicketFifoLimits := by
  unfold Obligations.ThicketFifoLimits
  intro s n hn
  have hn' : decide (n < 32) = true := decide_eq_true hn
  refine ⟨fun pins k hen hrun => ?step, fun val ho hfull => ?write, fun ho hempty => ?read⟩
  case step =>
    have e : exec (.tkStep n pins) s = .next (s.tkRun n pins) := live_when hn' k (by rw [hen, hrun]; rfl)
    exact ⟨fun h2 htx => ⟨_, e, State.tkRun_underrun rfl h2 htx⟩, fun h1 hrx => ⟨_, e, State.tkRun_overflow rfl h1 hrx⟩⟩
  case write =>
    exact (checked_unless (c := (!s.ownerCfg 0) = true) hn' (by simp [ho])).trans (congrArg _ (if_pos hfull))
  case read =>
    simp only [State.ownerIn, Bool.and_eq_true, bne_iff_ne] at ho
    have e : exec (.tkRxfifoRead 0 n 0 4) s = .next ((s.tkRxPop n).answer (laneData ((s.tke n).rx.headD 0) 0 4)) :=
      checked_ownRead_narrow (by rw [tkRxfifoReadOk, hn']; rfl) (by decide)
        (by simp only [State.rxFifoRead, State.ownerRead_owner ho.1.1 ho.2])
    rw [hempty] at e
    exact ⟨_, e, rfl, rfl⟩

/-- Settles O51: MAIN is up or not needed, the owner holds P_CFG, and the hypotheses of each command leave the one branch that acts. -/
theorem canCommandsComplete : Obligations.CanCommandsComplete := by
  unfold Obligations.CanCommandsComplete
  refine ⟨fun _ _ _ _ hok ho => checked_when hok ho, ?timing, ?txreq, ?txabort, ?rxpop, fun _ _ _ hok ho => checked_when hok ho, ?receive,
    ?attemptEnd, ?recoveryEnd, ?fetch, ?validity, ?wakeDis, ?wakeMatch, ?wakePin⟩
  case timing => exact fun s fn x off val hok ho => checked_unless (c := (!s.ownerCfg fn) = true) hok (by simp [ho])
  case txreq =>
    exact fun s fn x bits hok ho he => checked_unless (c := (!s.ownerCfg fn || (s.canEngine x).isSome) = true) hok (by simp [ho, he])
  case txabort => exact fun s fn x bits hok ho => checked_unless (c := (!s.ownerCfg fn) = true) hok (by simp [ho])
  case rxpop =>
    exact fun s fn x hok ho he => checked_unless (c := (!s.ownerCfg fn || (s.canEngine x).isSome) = true) hok (by simp [ho, he])
  case receive =>
    intro s x r hok k
    dsimp only
    intro hm he
    exact (live_of hok k).trans (congrArg _ (if_neg (by simp [hm, he])))
  case attemptEnd =>
    intro u x res hok k
    dsimp only
    intro i hi
    refine (live_of hok k).trans (congrArg _ ?_)
    simp only [State.canTxAttemptEnd, hi] <;> rfl
  case recoveryEnd => exact fun s x runs hok k he hr => live_unless hok k (c := s.estate x ≠ 3 ∨ runs < 128) (by omega)
  case fetch =>
    intro s x hok k z b he
    refine (live_of hok k).trans (congrArg _ ?_)
    rw [State.canTxRingFetch, he]
  case validity =>
    intro s x hok k t hw ht
    refine (live_of hok k).trans (congrArg _ ?_)
    rw [State.canWakeValidityExpiry, hw]
    exact if_neg (Nat.not_lt.mpr ht)
  case wakeDis => exact fun s fn x val hok ho h31 => checked_when hok (by rw [ho, h31]; rfl)
  case wakeMatch => exact fun s x f crcOk hok hw hf => checked_when hok (by rw [hw, hf]; rfl)
  case wakePin => exact fun s x hok hw he => checked_when hok (by rw [hw, he]; rfl)

/-- Settles O52: MAIN is up or the owner asks, and the hypotheses of each command leave the one branch that acts. -/
theorem thicketCommandsComplete : Obligations.ThicketCommandsComplete := by
  unfold Obligations.ThicketCommandsComplete
  refine ⟨fun _ _ _ hok k => live_of hok k, ?enable, ?disable, ?lutWrite, ?txWrite, ?rxRead⟩
  case enable | disable =>
    intro s fn n val hok ho hv
    refine (checked_when hok ho).trans ?_
    rw [hv]
  case lutWrite => exact fun s fn n i val hok ho => checked_unless (c := (!s.ownerCfg fn) = true) hok (by simp [ho])
  case txWrite => exact fun s fn n val hok ho => checked_unless (c := (!s.ownerCfg fn) = true) hok (by simp [ho])
  case rxRead =>
    intro s n lane size hok h8 hr ht
    exact checked_ownRead_narrow hok h8 (by simp only [State.rxFifoRead, State.ownerRead_owner hr ht])

end Sys2Proof.Machine
end

section
/-! SUPPORT. Bytes written one by one into a memory (15_host.md, R396; 17_reset_power.md, R450), and what an event leaves of the host bank. -/

namespace Sys2Proof.Machine

/-- A byte of a memory after bytes were written into it one by one, each at `off` and its index. -/
theorem get_eachIn_putByte {mem : State → Tab Octet} {put : Nat → State → State} {off : Nat} {d : Nat → Octet}
    (hput : ∀ i t, mem (put i t) = putBytes (mem t) (off + i) [d i]) (l : List Nat) (s : State) (a : Nat) :
    Tab.get 0 (mem (eachIn l put s)) a = if off ≤ a ∧ a - off ∈ l then d (a - off) else Tab.get 0 (mem s) a := by
  induction l generalizing s with
  | nil => simp [eachIn]
  | cons i l ih =>
    have step : Tab.get 0 (mem (put i s)) a = if a = off + i then d i else Tab.get 0 (mem s) a := by
      rw [hput, get_putBytes]
      by_cases h : a = off + i
      · simp [h]
      · rw [if_neg h, if_neg (by simp only [List.length_singleton]; omega)]
    have e : eachIn (i :: l) put s = eachIn l put (put i s) := rfl
    rw [e, ih, step]
    by_cases hl : off ≤ a ∧ a - off ∈ l
    · rw [if_pos hl, if_pos ⟨hl.1, List.mem_cons_of_mem _ hl.2⟩]
    · by_cases h : a = off + i
      · subst h
        simp
      · rw [if_neg hl, if_neg h, if_neg]
        rintro ⟨h1, h2⟩
        obtain h2 | h2 := List.mem_cons.mp h2
        · omega
        · exact hl ⟨h1, h2⟩

/-- A route of an event reaches the vectors' waiting signals and no byte of the host bank. -/
theorem State.route_bank (s : State) (es d : Nat) : (s.route es d).host.bank = s.host.bank := by
  unfold State.route
  dsimp only
  split
  · unfold State.signal
    split <;> rfl
  · rfl

theorem State.raiseAt_bank (s : State) (es inst wing : Nat) : (s.raiseAt es inst wing).host.bank = s.host.bank := by
  have hroutes (u : State) : ((((u.route es 0).route es 1).route es 2).route es 3).host.bank = u.host.bank := by
    simp only [State.route_bank]
  unfold State.raiseAt
  dsimp only
  split <;> exact hroutes _

/-- A request that met a page without a grant is reported; the bank stands. -/
theorem State.barDenied_bank (s : State) (fn : Nat) : (s.barDenied fn).host.bank = s.host.bank := State.raiseAt_bank _ _ _ _

/-- Writes into the MRAM leave every other part. -/
theorem eachIn_mram (put : Nat → Tab Octet → Tab Octet) (l : List Nat) (s : State) :
    eachIn l (fun i t => { t with mram.mem := put i t.mram.mem }) s
      = { s with mram.mem := l.foldl (fun m i => put i m) s.mram.mem } := by
  induction l generalizing s with
  | nil => rfl
  | cons i l ih => exact ih _

end Sys2Proof.Machine
end

section
/-! CLAIMS. The statements about every command: a step, the queue, blown fuses, and what only the listed commands change. -/

namespace Sys2Proof.Machine

/-- Settles O1: by the definition of a step. -/
theorem stepRunsFront : Obligations.StepRunsFront := by
  unfold Obligations.StepRunsFront
  exact fun _ _ => rfl

/-- Settles O3: every command keeps the queue. -/
theorem queueUntouched : Obligations.QueueUntouched := by
  unfold Obligations.QueueUntouched
  exact fun _ _ _ h => (exec_keeps h).pending

/-- Settles O7: the passing of time reaches no fuse, and no command clears a blown one. -/
theorem fusesStayBlown : Obligations.FusesStayBlown := by
  unfold Obligations.FusesStayBlown
  intro s t field bit h hb
  obtain ⟨_, rfl⟩ | ⟨c, q, _, hx⟩ := step_cases h
  · exact hb
  · exact (exec_keeps hx).fuse field bit hb

/-- Settles O8: a command that may restart the device is in each list; any other changes only parts whose lists name it. -/
theorem clocksAndManifestFrame : Obligations.ClocksAndManifestFrame := by
  unfold Obligations.ClocksAndManifestFrame
  intro c s t h
  cases hr : c.mayRestart with
  | true => simp [Instr.mayMan, Instr.mayToll, Instr.maySafe, hr]
  | false =>
    obtain ⟨m, w, ha⟩ := exec_within hr h
    exact ⟨fun _ => w.clk (Instr.testBit_of_allows ha (by decide) hr), fun hl => w.man (Instr.testBit_of_allows ha (by decide) hl),
      fun hl => w.toll (Instr.testBit_of_allows ha (by decide) hl), fun hl => w.safe (Instr.testBit_of_allows ha (by decide) hl)⟩

end Sys2Proof.Machine
end

section
/-! CLAIMS. The statements of chapter 15: host ports, functions, mailboxes and the host bank; and the host's writes into the MRAM. -/

namespace Sys2Proof.Machine

/-- Settles O18: the bytes written are those of the indices that pass the enables, the bank's size and the grants. -/
theorem hostBankWriteBytes : Obligations.HostBankWriteBytes := by
  unfold Obligations.HostBankWriteBytes
  intro s fn off be data hok hr
  refine ⟨_, checked_unless (c := (!s.reach fn) = true) hok (by simp [hr]), rfl, fun a => ?_⟩
  dsimp only
  rw [if_pos rfl]
  refine (get_eachIn_putByte (mem := fun t => t.host.bank) (fun _ _ => rfl) _ _ a).trans ?_
  have hbank : ∀ b : Bool, (if b = true then s.barDenied fn else s).host.bank = s.host.bank := by
    intro b
    cases b with
    | false => rfl
    | true => exact s.barDenied_bank fn
  rw [hbank]
  refine if_congr ?_ rfl rfl
  simp only [List.mem_filter, List.mem_range, Bool.and_eq_true, decide_eq_true_eq]
  constructor
  · rintro ⟨h, ⟨hi, hbe, hlt⟩, hpage⟩
    rw [Nat.add_sub_cancel' h] at hlt hpage
    exact ⟨h, hi, hbe, hlt, hpage⟩
  · rintro ⟨h, hi, hbe, hlt, hpage⟩
    rw [Nat.add_sub_cancel' h]
    exact ⟨h, ⟨hi, hbe, hlt⟩, hpage⟩

/-- Settles O19: the bytes written are those of the indices in the user area, and no other part of the state changes. -/
theorem mramUserArea : Obligations.MramUserArea := by
  unfold Obligations.MramUserArea
  intro s off data hok hr hp
  refine ⟨_, (checked_of hok).trans (congrArg _ (State.mramUserWrite_owner hr hp off data)), ?_, fun a => ?_⟩
  · rw [eachIn_mram (fun i m => putBytes m (off + i) [data.getD i 0])]
  · refine (get_eachIn_putByte (mem := fun t => t.mram.mem) (fun _ _ => rfl) _ _ a).trans (if_congr ?_ rfl rfl)
    simp only [List.mem_filter, List.mem_range, Bool.and_eq_true, decide_eq_true_eq]
    refine and_congr_right (fun h => ?_)
    rw [Nat.add_sub_cancel' h]

/-- Settles O54: MAIN is up or not needed, and the hypotheses of each command leave the one branch of its operation that acts. That PTP_TX_SET
answers 2 for a port that is no master is log entry 31; no holdoff after a masked message, log entry 112. -/
theorem hostMessageCommandsComplete : Obligations.HostMessageCommandsComplete := by
  unfold Obligations.HostMessageCommandsComplete
  refine ⟨?tdCtl, ?tdTake, ?fdPost, ?ping, ?ptpTx, ?msixPost, ?holdoffEnd, ?unmask, ?ptrRead⟩
  case tdCtl =>
    intro s mid ch val hok k hp hb hd hf
    refine (live_of hok k).trans (congrArg _ ?_)
    simp only [State.tdCtlWrite, State.tdWrite, hp, hb, hd, hf]
    rfl
  case tdTake => exact fun s ch hok k hf hd => live_unless (c := (!s.tdFull ch || s.tdDead ch) = true) hok k (by simp [hf, hd])
  case fdPost =>
    intro s ch hok k m q hq hfree hd hst s1
    refine (live_of hok k).trans (congrArg _ ?_)
    rw [State.fdPost, hq]
    exact if_neg (by simp [hfree, hd, hst])
  case ping =>
    intro s ch given hok k rq hf hy payload hl
    refine (live_of hok k).trans (congrArg _ ?_)
    rw [State.ping, State.request_of hf hy]
    exact if_neg (Nat.not_lt.mpr hl)
  case ptpTx =>
    intro s ch pG contentG hok k rq hf hy m p content hp
    refine (live_of hok k).trans (congrArg _ ?_)
    rw [State.ptpTxSet, State.request_of hf hy]
    exact if_neg (by simp [hp])
  case msixPost =>
    intro s fn vec hok
    dsimp only
    intro ht hv
    exact (checked_of hok).trans (congrArg _ (if_neg (by rw [ht, hv]; simp)))
  case holdoffEnd =>
    intro s fn hok a n hh hn
    refine (checked_of hok).trans (congrArg _ ?_)
    rw [State.holdoffEnd, hh]
    exact if_neg (by simp [hn])
  case unmask => exact fun s fn vec all hok hr => checked_unless (c := (!s.reach fn) = true) hok (by simp [hr])
  case ptrRead =>
    intro s mid ch lane size hok k h8 hp hb
    refine (live_of hok k).trans (congrArg _ ?_)
    rw [State.fdPtrLoRead, if_neg h8, State.takeFd, State.slotRead, if_neg (by simp [hp]), if_neg (by simp [hb])]
    rfl

/-- Settles O55: MAIN is up or not needed, and the hypotheses of each command leave the one branch of its operation that acts. That
NUMVFS_WRITE raises its event only when a function comes or goes is log entry 111. -/
theorem hostPortCommandsComplete : Obligations.HostPortCommandsComplete := by
  unfold Obligations.HostPortCommandsComplete
  refine ⟨?linkUp, ?portReset, ?pauseStart, ?pauseEnd, ?linkLoss, fun _ _ hok hl => checked_when hok hl, ?numvfs, ?d3, ?d0, ?bank,
    ?dmaFault, ?resetComplete, ?perst, fun _ _ _ hok => checked_of hok⟩
  case linkUp =>
    intro s port rate width hok k a same hp hperst hw hsame s1
    exact live_unless hok k
      (c := (decide (s.ports ≤ port) || !(Tab.get (false, 0) s.host.perst port).1 || decide (s.portLanes port < width) || same) = true)
      (by rw [hsame, hperst, decide_eq_false (Nat.not_le.mpr hp), decide_eq_false (Nat.not_lt.mpr hw)]; decide)
  case portReset => exact fun s port cause hok hp => checked_unless hok (Nat.not_le.mpr hp)
  case pauseStart => exact fun s port linkLoss hok k hp => live_unless hok k (Nat.not_le.mpr hp)
  case pauseEnd => exact fun s port hok k hn => live_unless hok k (c := (Tab.find s.host.pause port).isNone = true) (by simp [hn])
  case linkLoss =>
    intro s port hok k t ht hl
    refine (live_of hok k).trans (congrArg _ ?_)
    rw [State.linkLossTimeout, ht]
    exact if_neg (Nat.not_lt.mpr hl)
  case numvfs =>
    intro s port enable num hok k hr hp hn hst want gone fresh s1 s2 s3
    exact live_unless hok k
      (c := (!s.reach port || decide (s.ports ≤ port) || decide (s.man.totalVfs.getD port 0 < num) || s.dev.st == .safeTalk) = true)
      (by rw [hr, decide_eq_false (Nat.not_le.mpr hp), decide_eq_false hn, beq_eq_false_iff_ne.mpr hst]; decide)
  case d3 => exact fun s fn hok hl hd => checked_unless hok (c := (!s.fnLive fn || s.host.d3.contains fn) = true) (by rw [hl, hd]; decide)
  case d0 => exact fun s fn soft hok hd => checked_unless hok (c := (!s.host.d3.contains fn) = true) (by rw [hd]; decide)
  case bank => exact fun s fn off wr be data hok hr => checked_unless hok (c := (!s.reach fn) = true) (by simp [hr])
  case dmaFault => exact fun s fn kind hok hl => checked_unless hok (c := (!s.fnLive fn) = true) (by simp [hl])
  case resetComplete =>
    intro s fn hok z hz
    refine (checked_of hok).trans (congrArg _ ?_)
    rw [State.functionResetComplete, hz]
  case perst =>
    exact fun s port hok hp hd => checked_unless hok
      (c := (decide (s.ports ≤ port) || (Tab.get (false, 0) s.host.perst port).1) = true)
      (by simp [hp, hd])

end Sys2Proof.Machine
end

section
/-! SUPPORT. The requests of the security and manifest commands and the writes of SYS_CMD that pass every check. -/

namespace Sys2Proof.Machine

/-- The security request taken on a channel whose sender may give it is carried out by the command of its TYPE (R426). -/
theorem State.secRequest_of {s : State} {ch ty : Nat} {rq : ReqMsg} (hf : Tab.find s.host.taken ch = some rq) (ht : rq.typ.toNat = ty)
    (hs : s.secSender ch = true) (go : State → State) : s.secRequest ch ty go = go s :=
  (State.request_of hf ht _).trans (if_pos hs)

/-- The manifest request taken on a channel with privilege 2, in service or in SAFE TALK and with no other stage or activation in the way, is
carried out by the command of its TYPE (R469). -/
theorem State.manRequest_of {s : State} {ch ty : Nat} {rq : ReqMsg} (hf : Tab.find s.host.taken ch = some rq) (ht : rq.typ.toNat = ty)
    (hp : s.chanPriv ch 2 = true) (hd : (s.dev.st.serving || s.dev.st == .safeTalk) = true) (hb : s.manBusy ch = false)
    (go : State → State) : s.manRequest ch ty go = go s := by
  rw [State.manRequest, State.request_of hf ht, hp, hd, hb]
  rfl

/-- An ACTIVATE request of its own scope, on a channel that may give it, is carried out with its argument word (R469). -/
theorem State.activate_of {s : State} {ch scope : Nat} {rq : ReqMsg} {w0 : Word} (hf : Tab.find s.host.taken ch = some rq)
    (ht : rq.typ.toNat = 0x23) (hp : s.chanPriv ch 2 = true) (hd : (s.dev.st.serving || s.dev.st == .safeTalk) = true)
    (hb : s.manBusy ch = false) (hs : fld (msgWord (s.msg ch (wordBytes w0)) 0) 0 2 = scope) (h3 : scope ≠ 3)
    (go : Word → State → State) : s.activate ch scope w0 go = go (msgWord (s.msg ch (wordBytes w0)) 0) s := by
  rw [State.activate, State.manRequest_of hf ht hp hd hb]
  exact (if_neg (hs ▸ h3)).trans (if_neg (not_not.mpr hs))

/-- A write of SYS_CMD by function 0, with the key, P_CFG and the privilege that SET_MODE to TEST-BLOCKED asks for, is carried out (R453). -/
theorem State.sysCmd_of {s : State} {fn : Nat} {val : Word} (hr : s.reach fn = true) (h0 : fn = 0) (hk : fld val 16 12 = 0xA5C)
    (hp : s.pCfg fn = true) (h9 : fld val 28 4 = 1 → fld val 0 4 = 9 → s.hasPriv fn 4 = true) :
    s.sysCmd fn val = s.sysOp (fld val 28 4) (fld val 0 4) := by
  refine (if_neg (by rw [hr, decide_eq_false (not_not.mpr h0)]; decide)).trans ((if_neg (not_not.mpr hk)).trans (if_neg ?_))
  simp only [hp, Bool.not_true, Bool.false_or, Bool.and_eq_true, beq_iff_eq, Bool.not_eq_true', not_and, Bool.not_eq_false]
  exact fun h => h9 h.1 h.2

end Sys2Proof.Machine
end

section
/-! CLAIMS. The statements of chapter 16: keys, fuses, random numbers and debug. -/

namespace Sys2Proof.Machine

/-- Settles O53: MAIN is up or the owner asks, and the hypotheses of each command leave the one branch of its operation that acts. The numbers
of the fuse fields are log entry 29, the words of KEY_INFO's reply log entry 30, the target of SVN_COMMIT log entry 185. -/
theorem securityCommandsComplete : Obligations.SecurityCommandsComplete := by
  unfold Obligations.SecurityCommandsComplete
  refine ⟨?install, ?erase, ?info, ?svn, ?fuse, ?txAn, fun _ k => live_of rfl k, ?recover, fun _ _ k => live_of rfl k⟩
  case install =>
    intro s ch slot attr w1G keyG hok k rq hf hy hs
    dsimp only
    intro h1 h2 h3 h4 h5 h6 key hk
    refine (live_of hok k).trans (congrArg _ ?_)
    rw [State.keyInstall, State.secRequest_of hf hy hs]
    dsimp only
    rw [if_neg (Nat.not_le.mpr h1),
      if_neg (by rw [decide_eq_false h2, decide_eq_false (Nat.not_lt.mpr h3), decide_eq_false (Nat.not_lt.mpr h4)]; decide),
      if_neg (Nat.not_lt.mpr h5), if_neg (by rw [h6]; decide), hk]
  case erase =>
    intro s ch w0G hok k rq hf hy hs
    dsimp only
    intro h1 h2
    refine (live_of hok k).trans (congrArg _ ?_)
    rw [State.keyErase, State.secRequest_of hf hy hs]
    dsimp only
    rw [if_neg (Nat.not_le.mpr h1), if_neg (by rw [h2]; decide)]
  case info =>
    intro s ch w0 hok k rq hf hy hs n hn kcv
    refine (live_of hok k).trans (congrArg _ ?_)
    rw [State.keyInfo, State.secRequest_of hf hy hs]
    exact if_neg (Nat.not_le.mpr hn)
  case svn =>
    intro s ch w0 hok k rq hf hy hs c hc hst free
    refine (live_of hok k).trans (congrArg _ ?_)
    rw [State.svnCommit, State.secRequest_of hf hy hs]
    exact (if_neg hc).trans (if_neg (by simp [hst]))
  case fuse =>
    intro s ch fieldG bitsG stuck hok k rq hf hy hs
    dsimp only
    intro h1 h2 h3 h4 h5 h6
    refine (live_of hok k).trans (congrArg _ ?_)
    rw [State.fuseProg, State.secRequest_of hf hy hs]
    dsimp only
    rw [if_neg (by rw [decide_eq_false (Nat.not_le.mpr h1), Bool.false_or, h3, Bool.or_false]; exact h2), if_neg (by simp [h4]), if_neg h5,
      if_pos h6]
  case txAn => exact fun s fn u val hok ho hp => checked_when hok (by rw [ho, hp]; rfl)
  case recover =>
    exact fun s healthy k ht hh => live_unless (c := (s.sec.trngOk || decide (healthy < 1024)) = true) rfl k
      (by rw [ht, decide_eq_false (Nat.not_lt.mpr hh)]; decide)

end Sys2Proof.Machine
end

section
/-! CLAIMS. The statements of chapter 17: the Toll governor, the hold-up tasks, resets, supplies and power states. -/

namespace Sys2Proof.Machine

/-- Settles O56: no guard of these commands leaves the device's state machine, so the hypotheses on the state leave the one branch of each
operation that acts. The record written at each task's end, and the first task decided on the next sample, are log entry 115. -/
theorem tollCommandsComplete : Obligations.TollCommandsComplete := by
  unfold Obligations.TollCommandsComplete
  refine ⟨?measure, ?throttle, ?release, ?unmet, fun _ _ => checked_of rfl, ?taskEnd, ?back, fun _ _ => checked_of rfl⟩
  case measure => exact fun s mw h => checked_unless (c := (!s.dev.st.serving) = true) rfl (by rw [h]; decide)
  case throttle =>
    intro s h1 h2 h3
    exact checked_unless rfl (by rw [h1, decide_eq_false (Nat.not_le.mpr h2), decide_eq_false (Nat.not_lt.mpr h3)]; decide)
  case release =>
    intro s h1 h2 h3 h4
    exact checked_unless rfl (by rw [h1, h2, decide_eq_false (Nat.not_le.mpr h3), decide_eq_false (Nat.not_lt.mpr h4)]; decide)
  case unmet =>
    intro s t h1 h2 h3
    refine (checked_of rfl).trans (congrArg _ ?_)
    rw [State.tollCapUnmet, h1]
    exact if_neg (by rw [decide_eq_false (Nat.not_lt.mpr h2), h3]; decide)
  case taskEnd =>
    intro s uv
    dsimp only
    intro h1 h2 h3
    exact checked_unless (c := (s.dev.st != .powerFail || decide (s.toll.task = 0) || decide (4 < s.toll.task)) = true) rfl
      (by rw [h1, decide_eq_false h2, decide_eq_false (Nat.not_lt.mpr h3)]; decide)
  case back => exact fun s h => checked_unless (c := (s.dev.st != .powerFail) = true) rfl (by rw [h]; decide)

/-- Settles O57: each command answers the branch of its operation that the hypotheses on the state leave; the four writes of SYS_CMD pass its
checks by one lemma. BROWN_OUT of supply 0 and POWER_ON are log entry 146, RESET_PIN between 1 and 3 us log entry 9, SET_MODE at once log
entry 113. -/
theorem powerCommandsComplete : Obligations.PowerCommandsComplete := by
  unfold Obligations.PowerCommandsComplete
  refine ⟨?warn, ?brown, fun _ _ h => checked_when (c := _ = true) rfl h, ?pin, fun _ _ hm h => live_when rfl hm h,
    fun _ h => checked_when rfl h, fun _ => checked_of rfl, ?mode, ?core, ?system, ?standby, ?wake, ?alarm, ?release⟩
  case warn => exact fun s i hok h1 h2 => checked_unless hok (by rw [beq_eq_false_iff_ne.mpr h1, h2]; decide)
  case brown => exact fun s i hok h1 h2 => checked_unless hok (by rw [beq_eq_false_iff_ne.mpr h1, h2]; decide)
  case pin => exact fun s lowNs h => checked_unless rfl (Nat.not_lt.mpr h)
  case mode =>
    intro s fn val hok hr h0 ho hk hp h9 d hd hs ht
    refine (checked_of hok).trans (congrArg _ ?_)
    rw [State.setMode, State.sysCmd_of hr h0 hk hp (fun _ => h9), ho, State.sysOp, hd]
    exact if_pos (by rw [hs, ht]; rfl)
  case core =>
    intro s fn val hok hr h0 ho hk hp ws hw
    refine (checked_of hok).trans (congrArg _ ?_)
    rw [State.coreReset, State.sysCmd_of hr h0 hk hp (fun h => absurd (ho.symm.trans h) (by decide)), ho, State.sysOp, hw]
  case system =>
    intro s fn val hok hr h0 ho hk hp
    refine (checked_of hok).trans (congrArg _ ?_)
    rw [State.systemReset, State.sysCmd_of hr h0 hk hp (fun h => absurd (ho.symm.trans h) (by decide)), ho, State.sysOp]
  case standby =>
    intro s fn val hok hr h0 ho hk hp hs ht
    refine (checked_of hok).trans (congrArg _ ?_)
    rw [State.standby, State.sysCmd_of hr h0 hk hp (fun h => absurd (ho.symm.trans h) (by decide)), ho, State.sysOp]
    exact if_pos (by rw [hs, ht]; rfl)
  case wake =>
    intro s bits
    dsimp only
    intro h1 h2
    refine (checked_of rfl).trans (congrArg _ ((if_neg ?_).trans (if_pos (beq_iff_eq.mpr h1))))
    rw [State.wakeWatch, beq_iff_eq.mpr h1, beq_eq_false_iff_ne.mpr h2, Bool.true_or]
    decide
  case alarm => exact fun s h => checked_unless rfl (not_not.mpr h)
  case release =>
    intro s h1 h2 h3
    exact checked_unless rfl (by rw [h1, decide_eq_false (Nat.not_lt.mpr h2), beq_eq_false_iff_ne.mpr h3]; decide)

end Sys2Proof.Machine
end

section
/-! CLAIMS. The statements of chapter 18: start-up, staging, activation and the settings journal. -/

namespace Sys2Proof.Machine

/-- Settles O58: in its state of the device, each command answers the branch of its operation that the hypotheses leave. STEP_TIMEOUT in BOOT
and the one-command configuring steps are log entry 119, code 0x0B log entry 35, the rings' start log entry 169. -/
theorem startCommandsComplete : Obligations.StartCommandsComplete := by
  unfold Obligations.StartCommandsComplete
  refine ⟨?boot, ?selfTest, ?configuring, fun _ k => live_of rfl k, ?trial, ?diag, ?coreEnd⟩
  case boot =>
    intro s flashE flashW held k h1 h2 h3
    refine (live_of rfl k).trans (congrArg _ ?_)
    rewrite [State.bootComplete, if_neg (by rw [h1, h2, h3]; decide)]
    generalize State.bootSlot = boot
    cases boot s .east
    rfl
  case selfTest => exact fun s res k h => live_unless rfl k (by rw [h]; decide)
  case configuring =>
    intro s flashOk mramOk k record h1 h2
    refine (live_of rfl k).trans (congrArg _ ?_)
    rewrite [State.configuringComplete, if_neg (by rw [h1, h2]; decide)]
    generalize s.manFault _ = fault
    generalize State.withMan s _ = s1
    generalize State.startSettings = startSettings
    generalize State.loadFault = loadFault
    cases fault <;> rfl
  case trial =>
    intro s k
    dsimp only
    intro h1 h2 h3 h4
    exact live_when rfl k (by rw [h1, h2, h3, decide_eq_true h4]; rfl)
  case diag => exact fun s k h1 h2 => live_unless rfl k (by rw [h2, h1]; decide)
  case coreEnd =>
    intro s w k h1 h2
    refine (live_of rfl k).trans (congrArg _ ?_)
    rewrite [State.coreResetEnd, if_neg (by rw [h1, h2]; decide)]
    generalize State.bootSlot = boot
    rfl

/-- Settles O59: each request passes the checks of its channel and its scope by one lemma, and the hypotheses on the stage, the slots and the
operands leave the branch that acts. The order of the checks and the results are log entry 35, the body that STAGE_CLOSE carries log entry
184, what may differ and the settings half in SAFE TALK log entry 185. -/
theorem updateCommandsComplete : Obligations.UpdateCommandsComplete := by
  unfold Obligations.UpdateCommandsComplete
  refine ⟨?stageOpen, ?stageWrite, ?stageClose, ?cluster, ?wing, ?device, ?settings, ?abort, ?compact⟩
  case stageOpen =>
    intro s ch targetG hok k rq hf ht hp hd hb
    dsimp only
    intro h1 h2 i hi
    refine (live_of hok k).trans (congrArg _ ?_)
    rw [State.stageOpen, State.manRequest_of hf ht hp hd hb]
    refine (if_neg (by rw [decide_eq_false h1, h2]; decide)).trans ?_
    rw [hi]
  case stageWrite =>
    intro s ch offG dataG flashOk hok k rq hf ht hp hd hb
    dsimp only
    intro z1 tg i nx hst h1 h2 h3 h4
    refine (live_of hok k).trans (congrArg _ ?_)
    rw [State.stageWrite, State.manRequest_of hf ht hp hd hb]
    dsimp only
    rw [hst]
    dsimp only
    refine (if_neg ?_).trans (if_neg (by rw [h4]; decide))
    rw [decide_eq_false (Nat.not_lt.mpr h1), decide_eq_false (Nat.not_lt.mpr h2), decide_eq_false (Nat.not_lt.mpr h3)]
    decide
  case stageClose =>
    intro s ch body hok k rq hf ht hp hd hb z1 tg i z2 hst
    refine (live_of hok k).trans (congrArg _ ?_)
    rw [State.stageClose, State.manRequest_of hf ht hp hd hb]
    cases hfault : ({ s with upd.stage := none } : State).targetFault tg i with
    | some c => simp only [hst, hfault]
    | none => simp only [hst, hfault]
  case cluster =>
    intro s ch cG flashOk hok k rq hf ht hp hd hb
    dsimp only
    intro hs i hi h1 h2
    refine (live_of hok k).trans (congrArg _ ?_)
    rw [State.activateCluster, State.activate_of hf ht hp hd hb hs (by decide)]
    dsimp only
    rw [hi]
    exact (if_neg (by rw [h1]; decide)).trans (if_neg (by rw [h2]; decide))
  case wing =>
    intro s ch wG flashOk hok k rq hf ht hp hd hb
    dsimp only
    intro hs i hi h1 h2 h3
    refine (live_of hok k).trans (congrArg _ ?_)
    rw [State.activateWing, State.activate_of hf ht hp hd hb hs (by decide)]
    dsimp only
    rw [hi]
    exact (if_neg (by rw [h1]; decide)).trans ((if_neg (by rw [h2]; decide)).trans (if_neg (by rw [h3]; decide)))
  case device =>
    intro s ch arg flashOk hok k rq hf ht hp hd hb
    dsimp only
    intro hs h1 h2
    refine (live_of hok k).trans (congrArg _ ?_)
    rw [State.activateDevice, State.activate_of hf ht hp hd hb hs (by decide)]
    dsimp only
    rw [h1]
    exact if_neg (by rw [h2]; decide)
  case settings =>
    intro s ch flashOk hok k rq hf ht hp hd hb h hst h1 h2
    refine (live_of hok k).trans (congrArg _ ?_)
    rw [State.settingsLoad, State.manRequest_of hf ht hp hd hb]
    dsimp only
    rw [hst]
    exact (if_neg (by rw [h1]; decide)).trans (if_neg (not_not.mpr h2))
  case abort =>
    intro s ch hok k rq hf ht hp hd hb h
    refine (live_of hok k).trans (congrArg _ ?_)
    rw [State.abort, State.manRequest_of hf ht hp hd hb]
    exact if_neg (by rw [h]; decide)
  case compact => exact fun s k h => live_unless rfl k (Nat.not_lt.mpr h)

end Sys2Proof.Machine
end

section
/-! CLAIMS. The statement of chapter 19: the safety diagnostics. -/

namespace Sys2Proof.Machine

/-- Settles O60: while the safety monitor watches, each diagnostic answers its reaction. PARITY_ERROR in the centre is log entry 37, the error
of an image's bank log entry 38, one reaction a fault in CLOCK_WINDOW log entry 125, the order of ties in TEMP_READ log entry 126. -/
theorem safetyCommandsComplete : Obligations.SafetyCommandsComplete := by
  unfold Obligations.SafetyCommandsComplete
  refine ⟨?clock, ?temp, ?shutdown, ?crc, ?lockstep, ?parity, ?ue, ?directed, ?ce⟩
  case clock =>
    exact fun s d out lost hok k hw hd hr => live_unless (c := (!s.watching || d == 2 || !s.clockRuns d) = true) hok k
      (by rw [hw, beq_eq_false_iff_ne.mpr hd, hr]; decide)
  case temp => exact fun s centre west east k hw => live_unless (c := (!s.watching) = true) rfl k (by rw [hw]; decide)
  case shutdown =>
    intro s k t ht hw h
    refine (live_of rfl k).trans (congrArg _ ?_)
    rw [State.tempShutdown, ht]
    exact if_neg (by rw [hw, decide_eq_false h]; decide)
  case crc => exact fun s ok k h1 h2 h3 => live_unless rfl k (by rw [h1, h2, h3]; decide)
  case lockstep => exact fun s w k h1 h2 => live_unless (c := (!s.watching || s.dev.core.at_ w) = true) rfl k (by rw [h1, h2]; decide)
  case parity => exact fun s w k h => live_unless rfl k (by rw [h]; decide)
  case ue => exact fun s u k h => live_unless rfl k (by rw [h]; decide)
  case directed =>
    intro s east west k t ht h
    refine (live_of rfl k).trans (congrArg _ ?_)
    rw [State.directedCheckEnd, ht]
    exact if_neg (by rw [h]; decide)
  case ce => exact fun s n k h => live_unless (c := (!s.watching) = true) rfl k (by rw [h]; decide)

end Sys2Proof.Machine
end
